-- ==== Sys2Proof/Word.lean ====
section
/-! DEFINITION. The word types of the module's registers, the bytes of its memories, and the sparse
tables that the state is made of. Multi-byte values are little-endian (R6). -/

namespace Sys2Proof

/-- One byte of a memory, a mailbox slot or a frame. -/
abbrev Byte := BitVec 8

/-- A string of bytes, the lowest address first. -/
abbrev Bytes := List Byte

/-- A 32-bit word: an FP32 pattern, a semaphore, a generator word. -/
abbrev W32 := BitVec 32

/-- A 64-bit register or counter; counters wrap at 2^64. -/
abbrev W64 := BitVec 64

/-- A table of values by natural key, in strictly rising order of key; a key that is not listed reads
as a default that the reader names. -/
abbrev NMap (V : Type) := List (Nat × V)

/-- The value at a key, or the default. -/
def NMap.get {V : Type} (d : V) : NMap V → Nat → V
  | [], _ => d
  | (k, v) :: m, i => if i = k then v else NMap.get d m i

/-- The value at a key, when one is listed. -/
def NMap.find {V : Type} : NMap V → Nat → Option V
  | [], _ => none
  | (k, v) :: m, i => if i = k then some v else NMap.find m i

/-- Set the value at a key, keeping the keys in rising order. -/
def NMap.set {V : Type} : NMap V → Nat → V → NMap V
  | [], i, v => [(i, v)]
  | (k, w) :: m, i, v =>
    if i < k then (i, v) :: (k, w) :: m
    else if i = k then (i, v) :: m
    else (k, w) :: NMap.set m i v

/-- Remove a key. -/
def NMap.erase {V : Type} (m : NMap V) (i : Nat) : NMap V :=
  m.filter (fun e => e.1 != i)

/-- Apply a function to the value at a key. -/
def NMap.modify {V : Type} (d : V) (m : NMap V) (i : Nat) (f : V → V) : NMap V :=
  m.set i (f (m.get d i))

/-- Apply a function to every listed value. -/
def NMap.mapVals {V W : Type} (m : NMap V) (f : V → W) : NMap W :=
  m.map (fun e => (e.1, f e.2))

/-- The keys of a table stand in strictly rising order. -/
def NMap.rising {V : Type} : NMap V → Bool
  | [] => true
  | [_] => true
  | a :: b :: m => decide (a.1 < b.1) && NMap.rising (b :: m)

/-- The little-endian value of a byte string (R6). -/
def leNat : Bytes → Nat
  | [] => 0
  | b :: bs => b.toNat + 256 * leNat bs

/-- The `n` little-endian bytes of a value (R6). -/
def natLE : Nat → Nat → Bytes
  | 0, _ => []
  | n + 1, v => BitVec.ofNat 8 v :: natLE n (v / 256)

/-- The field of `n` bytes at an offset of a byte string; bytes past the end read as zero. -/
def fieldAt (bs : Bytes) (off n : Nat) : Nat := leNat ((bs.drop off).take n)

/-- The `n` bytes at an offset, padded with zeros. -/
def bytesAt (bs : Bytes) (off n : Nat) : Bytes :=
  let t := (bs.drop off).take n
  t ++ List.replicate (n - t.length) 0

/-- Whether `n` bytes from an offset are all zero. -/
def zeroAt (bs : Bytes) (off n : Nat) : Bool := ((bs.drop off).take n).all (fun b => b == 0)

/-- Bit `i` of a natural number. -/
def bitOf (v i : Nat) : Bool := v.testBit i

/-- Bits `lo` to `lo + n - 1` of a natural number. -/
def bitsOf (v lo n : Nat) : Nat := v / 2 ^ lo % 2 ^ n

/-- A truth value as a register bit. -/
def b2n (b : Bool) : Nat := if b then 1 else 0

/-- Quotient rounded up. -/
def ceilDiv (a b : Nat) : Nat := (a + b - 1) / b

/-- A signed value of `n` bits read from its two's complement pattern. -/
def signedOf (n v : Nat) : Int := if v % 2 ^ n < 2 ^ (n - 1) then (v % 2 ^ n : Int) else (v % 2 ^ n : Int) - 2 ^ n

end Sys2Proof
end

