-- ==== Sys2Proof/Syntax.lean ====
section
/-! DEFINITION. The commands of the module: one constructor of `Instr` for each row of
spec/opcode_table.json. A row is a request that the Bothy firmware carries out, a register write, a
descriptor's execution, a frame's arrival, a timer's expiry, a sensor's or a pin's event, or a
management request. Operands are what reaches the module from outside with the event. -/

namespace Sys2Proof

/-- An Avenue frame as it arrives or leaves: the FABRIC_IDs and the ports of its Ethernet addresses (R223), whether
its FCS and its tag held, the header fields of Table CSC-9, the payload bytes, and the residue of each
64-byte line (R216, R226). -/
structure Frame where
  dst : Nat
  dstPort : Nat
  src : Nat
  srcPort : Nat
  fcsOk : Bool
  tagOk : Bool
  kind : Nat
  vc : Nat
  frameIdx : Nat
  frameCnt : Nat
  groupId : Nat
  generation : Nat
  senderRank : Nat
  step : Nat
  seq : Nat
  e : Nat
  nonfinite : Bool
  poison : Bool
  resent : Bool
  mM1 : Nat
  c : Nat
  dropped : Nat
  adapter : Nat
  tensor : Nat
  keyEpoch : Nat
  tile : Nat
  linkSeq : Nat
  payload : Bytes
  residues : List Nat
  deriving DecidableEq, Repr

/-- The VC0 handshake of a group edge (R205, R220): the sender's FABRIC_ID, what each side carries, the
FABRIC_IDs of its lost set, and whether the sender has released a tile of the step to entry conversion
(R299). -/
structure Handshake where
  src : Nat
  groupId : Nat
  kind : Nat
  members : Nat
  jobTag : Nat
  digest : Nat
  rank : Nat
  generation : Nat
  lost : List Nat
  released : Bool
  deriving DecidableEq, Repr

/-- What a KEYX frame is: an OFFER, an ACCEPT, or port keys under the pair key and their acknowledgements (R412,
R413). -/
inductive KeyxForm where
  | offer
  | accept
  | keys
  deriving DecidableEq, Repr

/-- A pair-exchange frame of hall mode (R412). `issuer` is the digest of the CA key that heads the sender's chain;
`chainOk` and `sigOk` are what verifying the chain and the signature gave; `portKeys` are port keys of the sender,
each a port, an epoch, a key and a salt; `acks` are keys of the receiver that the sender now holds, each a port and an
epoch. -/
structure Keyx where
  form : KeyxForm
  anchorDigest : Nat
  fabricId : Nat
  issuer : Nat
  chainOk : Bool
  svnGatehouse : Nat
  svnBothy : Nat
  debugUnlocked : Bool
  engineeringSample : Bool
  ek : Bytes
  nonce : Bytes
  ct : Bytes
  sigOk : Bool
  portKeys : List (Nat × Nat × Nat × Nat)
  acks : List (Nat × Nat)
  deriving DecidableEq, Repr

/-- What every frame of VC0 arrives with: the port that it arrives at, its Ethernet source address, whether its FCS and
its tag held, its KEY_EPOCH and its LINK_SEQ (R223, R226, R228). -/
structure Link where
  port : Nat
  src : Nat
  srcPort : Nat
  fcsOk : Bool
  tagOk : Bool
  keyEpoch : Nat
  linkSeq : Nat
  deriving DecidableEq, Repr

/-- What a frame of VC0 says (R205, R208, R217 to R219, R224, R227, R302, R310, R311, R317, R412, R432). -/
inductive Control where
  | hello (fabricId : Nat)
  | ack (linkSeqs : List Nat)
  | heartbeat
  | handshake (h : Handshake)
  | resend (seq frameIdx groupId : Nat)
  | loss (groupId generation rank : Nat)
  | leave (groupId generation rank : Nat)
  | pause (millis : Nat)
  | fillAsk (groupId jobTag stage offset : Nat) (base : Bool) (fingerprint ports : Nat)
  | handoverAsk (groupId jobTag ports : Nat)
  | restoreAsk (jobTag slot : Nat)
  | snapshotOffer (jobTag role : Nat)
  | keyx (k : Keyx)
  deriving DecidableEq, Repr

/-- What reports the zero check of R416: a bank of a Pavilion's local store, or a Glasshouse unit of a Terrace. -/
inductive SramBank where
  | store (pav bank : Nat)
  | glasshouse (terrace unit : Nat)
  deriving DecidableEq, Repr

/-- What a boot finds (R176, R177, R393, R394, R455, R457): the masks of stacks and channels that
failed training twice, the training times, the units whose self-test failed, the outcome of the
known-answer tests and of the random source's health tests, whether a bank's image verifies (bit
2 × (class − 1) + bank), the fused key digest that verified stage 2, whether a debug token is
presented, whether READY is reached within 25 s, whether a parity error in the key store is what starts the reset (Table
GTH-14), and the banks that fail the zero check of R416. -/
structure BootReport where
  hbmFailed : Nat
  cfFailed : Nat
  hbmMs : Nat
  lpddrMs : Nat
  badPavilions : List Nat
  badUnits : Nat
  katOk : Bool
  trngOk : Bool
  banksOk : Nat
  signer : Nat
  debugToken : Bool
  inTime : Bool
  keyParity : Bool
  failedBanks : List SramBank
  deriving DecidableEq, Repr

/-- What a line of a device region holds (R325): a sequence table entry, an entry of the Orangery directory, a Cascade
group's entry, or something whose owner cannot be determined. -/
inductive DeviceItem where
  | sequence (plot seqId : Nat)
  | adapter (plot handle : Nat)
  | group (plot handle : Nat)
  | unknown
  deriving DecidableEq, Repr

/-- What one patrol read found at a line: an error confined to one symbol, or an uncorrectable one (R172, R174). In a
device region: what the line holds, and whether the other Terrace's copy of it fails as well (R325). -/
structure PatrolFind where
  line : Nat
  uncorrectable : Bool
  holds : List DeviceItem
  bothFail : Bool
  deriving DecidableEq, Repr

/-- A check of the hardware that fails while a command runs: those of Tables PAR-12 and PAV-19, and an uncorrectable
error met in a 64-byte line of HBM or the Cold Frame or in a 128-byte line of a Glasshouse (R172). -/
inductive HwFault where
  | weightParity
  | colsumParity
  | deskewEcc
  | feedParity
  | lsUncorrected
  | gbufUncorrected
  | rillParity
  | semParity
  | memory (line : Nat)
  | glasshouse (line : Nat)
  deriving DecidableEq, Repr

/-- What faults do to the bytes of a transfer (R215) or to the words of an adder's output (R216): one list for each
attempt that meets a fault, of places and of the bits that change there. Attempts past the list meet none. -/
abbrev Upsets := List (List (Nat × Nat))

/-- The faults that the transfers of one tile meet inside the module: of its contribution to the port engine, at the
adder, and of the final sum back to the Terrace engine. -/
structure TileFaults where
  crc : Upsets
  adds : Upsets
  back : Upsets
  deriving DecidableEq, Repr

/-- The agent that makes an access: a plot's agent (its Lodge mapping or its virtual function's DMA or
MMIO), the host's MMIO to a virtual function's BAR0 without the T bit (R410), the Lodge, or the Bothy firmware, the
Gatehouse and management, which act as plot 0's agent (R157). -/
inductive Agent where
  | plot (p : Nat)
  | hostPlain (p : Nat)
  | lodge
  | device
  deriving DecidableEq, Repr

/-- The three queues of a Pavilion's sequencer (R91). -/
inductive Queue where
  | array
  | rill
  | move
  deriving DecidableEq, Repr

/-- A unit that the Bothy heartbeat watches, or that a lock-step check covers (Table ERR-3, Table
ERR-5). -/
inductive HwUnit where
  | pavilion (p : Nat)
  | terraceSequencer (t : Nat)
  | cascade (i : Nat)
  | portEngine (i : Nat)
  | trellis
  | orangery
  | tierMover
  | memoryController (i : Nat)
  | bothyPair (i : Nat)
  | gatehouse
  deriving DecidableEq, Repr

/-- The commands of the module, one for each row of the table, in the table's order. -/
inductive Instr where
  -- the mailbox and its messages: `plot` names the mailbox area
  | mailboxScan
  | plotOpen
  | plotClose (failed : List SramBank)
  | plotQuery (plot : Nat)
  | moduleInfo (plot : Nat)
  | memMap (plot : Nat)
  | memUnmap (plot : Nat)
  | granuleZeroingDone (run : Nat) (badLines : List Nat)
  | memScrub (plot : Nat)
  | planLoad (plot : Nat)
  | planDrop (plot : Nat)
  | stepRun (plot : Nat)
  | stepStart (plot plan : Nat)
  | stepEnd (plot plan : Nat)
  | stepAbort (plot : Nat)
  | adapterRegister (plot : Nat)
  | adapterAdmit (plot : Nat)
  | adapterEvict (plot : Nat)
  | adapterEvictForce (plot : Nat)
  | adapterEvictUnregister (plot : Nat)
  | adapterEvictResidencyOnly (plot : Nat)
  | baseBind (plot : Nat)
  | baseBindApply (plot : Nat)
  | seqAdmit (plot : Nat)
  | append (plot : Nat)
  | truncate (plot : Nat)
  | setMax (plot : Nat)
  | setAdapter (plot : Nat)
  | pause (plot : Nat)
  | resume (plot : Nat)
  | seqEditQuery (plot : Nat)
  | seqRetire (plot : Nat)
  | groupJoin (plot : Nat)
  | groupHandshake (l : Link) (h : Handshake)
  | groupJoinTimeout (plot group : Nat)
  | groupLeave (plot : Nat)
  | routeSet (plot : Nat)
  | snapshotBeginSource (plot : Nat)
  | snapshotBeginKeeper (plot : Nat)
  | snapshotBeginEnd (plot : Nat)
  | snapshotQuery (plot : Nat)
  | restore (plot : Nat)
  | survivePolicyArm (plot : Nat)
  | survivePolicyDisarm (plot : Nat)
  | survivePolicyQuery (plot : Nat)
  | survivePolicyFill (plot : Nat)
  | survivePolicyReinstate (plot : Nat)
  | memberLost (plot : Nat)
  | attestGet (plot : Nat)
  | keyInstall (plot : Nat)
  | keyDelete (plot : Nat)
  | keyUnseal (plot : Nat)
  | hallAnchor (buffer : Bytes)
  | fieldRecord
  | errorLog
  | counters
  | sensors
  | accounts
  | histogram (plot : Nat)
  | ratios (plot : Nat)
  | accountReadPlot (plot : Nat)
  | accountReadAdapter (plot : Nat)
  | belvedereCfg (plot : Nat)
  | belvedereCfgQuery (plot : Nat)
  | fwStage
  | fwActivate
  | fwCommit
  | fwQuery
  | bothyTakeOver (pauseUs : Nat)
  -- the completion ring and the control words
  | completionRecordWrite (plot : Nat)
  | bthMbRingTailWrite (plot value : Nat)
  | bthMbVecMaskWrite (plot value : Nat)
  -- register writes
  | modModeWrite (value : Nat)
  | modFabricIdWrite (value : Nat)
  | modPatrolCfgWrite (value : Nat)
  | modSchedCfgWrite (value : Nat)
  | prtErrWrite (pav value : Nat)
  | pavErrWrite (pav value : Nat)
  | modMemErrWrite (value : Nat)
  | cscErrWrite (engine value : Nat)
  | avnErrWrite (port value : Nat)
  | orgErrWrite (value : Nat)
  | trlErrWrite (value : Nat)
  | bthErrWrite (value : Nat)
  | gthErrWrite (value : Nat)
  | registerWrite (agent : Agent) (addr : Nat) (data : Bytes)
  -- the Pavilion's sequencer and its descriptors
  | descriptorFetch (pav : Nat) (queue : Queue)
  | wload (pav : Nat) (faults : List HwFault)
  | stream (pav : Nat) (faults : List HwFault)
  | drain (pav : Nat) (faults : List HwFault)
  | gbufSpill (pav : Nat) (faults : List HwFault)
  | vprog (pav : Nat) (faults : List HwFault)
  | scale (pav : Nat) (faults : List HwFault)
  | copy (pav : Nat) (faults : List HwFault)
  | semWait (pav : Nat) (queue : Queue) (faults : List HwFault)
  | semSignal (pav : Nat) (queue : Queue) (faults : List HwFault)
  | descriptorRetire (pav : Nat) (queue : Queue)
  | spanIteration (pav : Nat)
  -- scheduling
  | sliceBoundary
  | plotReady (plot : Nat)
  | earlyBoundary (plot : Nat)
  | plotSwitch (pav overrunTicks switchTicks : Nat)
  -- clocks, power and temperature
  | droopTrip (pav : Nat)
  | droopRecovery (pav : Nat)
  | thermalStepDown (pav celsius : Nat)
  | thermalStepUp (pav celsius : Nat)
  | thermalTrip (pav celsius : Nat)
  | pavilionCooled (pav celsius : Nat)
  | limiterAssert (watts : Nat)
  | limiterRelease (watts : Nat)
  | overpowerShutdown (watts : Nat)
  | refresh2x (stack celsius : Nat)
  | memoryThermalTrip (stack celsius : Nat)
  | junctionThermalTrip (celsius : Nat)
  | undervoltage (millivolts micros : Nat)
  | overvoltage (millivolts micros : Nat)
  | inputApplied (millivolts : Nat)
  | refclkLoss (micros : Nat)
  | refclkRestored (boot : BootReport)
  | modResetNFall (micros : Nat)
  | modResetNRise (boot : BootReport)
  | warmReset (boot : BootReport)
  | pciePerstNFall
  | pciePerstNRise
  | functionLevelReset (fn : Nat)
  -- memory and the tier mover
  | patrolScrub (finds : List PatrolFind)
  | memoryWriteRetire (controller : Nat)
  | tierMove
  | moveRetire (faults : List HwFault)
  -- adapters and sequences between requests
  | adapterPrefetch (plot handle : Nat)
  | prefetchRetry (plot handle : Nat)
  | listSelection (plot plan : Nat)
  | listClose (plot plan : Nat)
  | candidates (port : Nat) (f : Frame)
  | readyset (port : Nat) (f : Frame)
  | sealJob (plot : Nat)
  | kvSpill (plot bytes : Nat)
  | optimiserUpdate (plot plan : Nat)
  -- the Cascade and the Avenue ports
  | tileHandoff (pav : Nat)
  | wave (port : Nat) (f : Frame)
  | tileConvert (plot plan seq : Nat) (faults : TileFaults)
  | up (port : Nat) (f : Frame) (faults : TileFaults)
  | down (port : Nat) (f : Frame) (faults : TileFaults)
  | resend (l : Link) (seq frameIdx groupId : Nat) (retentionBad : Bool)
  | control (l : Link) (acks : List Nat)
  | ackTimer (port : Nat)
  | frameRetransmit (port : Nat) (retentionBad : Bool)
  | skipset (port : Nat) (f : Frame)
  | relay (port : Nat) (f : Frame)
  -- with no peer the link comes up, with one the peer's HELLO arrives
  | hello (l : Link) (peer : Option Nat)
  | linkDown (port : Nat)
  | foreignFrame (port etherType : Nat) (bytes : Bytes)
  | heartbeatSend
  | neighbourSilent (plot group fabricId : Nat)
  | leaseLapse (plot group fabricId : Nat)
  | loss (l : Link) (groupId generation lostRank : Nat)
  | leave (l : Link) (groupId generation rank : Nat)
  | recompactionTimeout (plot group rank : Nat)
  | fill (port : Nat) (f : Frame)
  | mirrorPromotion (plot plan : Nat)
  | reinstateHandover (l : Link) (groupId jobTag ports : Nat)
  | snapshot (port : Nat) (f : Frame)
  | pauseNotice (l : Link) (millis : Nat)
  -- the timeout ladder
  | commandWatchdog (pav : Nat) (queue : Queue)
  | waitLimit (pav : Nat) (queue : Queue)
  | terraceTimeout (pav : Nat)
  | heartbeatTimeout (unit : HwUnit)
  | gatehouseWatchdog (pair : Nat)
  | messageTimeout (plot slot : Nat)
  | lockStepMismatch (unit : HwUnit)
  -- SPDM: `conn` is 0 for the DOE, 1 for MCTP, 2 for the management service
  | getVersion (conn : Nat)
  | getCapabilities (conn version : Nat)
  | negotiateAlgorithms (conn : Nat) (supported : Bool)
  | getDigests (conn : Nat)
  | getCertificate (conn slot offset length : Nat)
  | challenge (conn slot : Nat) (nonce : Bytes)
  | getMeasurements (conn index : Nat) (signed : Bool) (nonce : Bytes)
  | keyExchange (conn : Nat) (ek : Bytes)
  | finish (conn session : Nat) (verifyOk : Bool)
  | spdmHeartbeat (conn session : Nat)
  | keyUpdate (conn session : Nat)
  | endSession (conn session : Nat)
  | ideKm (session fn stream keySet : Nat) (key : Nat)
  | chunkSend (conn handle seqNo : Nat) (last : Bool) (data : Bytes)
  | chunkGet (conn handle seqNo : Nat)
  -- TDISP
  | getTdispVersion (fn : Nat)
  | getTdispCapabilities (fn : Nat)
  | lockInterfaceRequest (fn : Nat)
  | getDeviceInterfaceReport (fn : Nat)
  | getDeviceInterfaceState (fn : Nat)
  | startInterfaceRequest (fn : Nat)
  | stopInterfaceRequest (fn : Nat)
  | ideIntegrityFailure (fn : Nat)
  -- hall keys
  | keyx (l : Link) (k : Keyx)
  | rekey (port : Nat)
  | rekeyTimeout (port fabricId : Nat)
  -- MCTP and PLDM
  | mctpControl (setEid : Bool) (eid : Nat)
  | setTid (tid : Nat)
  | getTid
  | getPldmVersion (type : Nat)
  | getPldmTypes
  | getPldmCommands (type : Nat)
  | getPdr (recordHandle : Nat)
  | getSensorReading (sensor : Nat)
  | getStateSensorReadings (sensor : Nat)
  | setEventReceiver (enable : Bool) (eid : Nat)
  | platformEventMessage
  | queryDeviceIdentifiers
  | getFirmwareParameters
  | requestUpdate
  | passComponentTable (cls : Nat)
  | updateComponent (cls size : Nat)
  | requestFirmwareData (offset : Nat) (data : Bytes)
  | transferComplete
  | verifyComplete
  | applyComplete
  | activateFirmware (resetOk closePlots : Bool)
  | getStatus
  | cancelUpdateComponent
  | cancelUpdate
  | recoveryRequest (vendorId code : Nat)
  -- Redfish: `session` is a login session's number
  | redfishSession (account : Nat) (password : Bytes)
  | redfishAccountPatch (session account : Nat) (password : Bytes) (role : Nat)
  | certificateReplace (session : Nat) (certificate : Bytes)
  | managerReset (session : Nat)
  | managerNetworkPatch (session : Nat) (settings : Bytes)
  | computerSystemReset (session : Nat)
  | multipartHttpPushUri (session cls : Nat) (image : Bytes)
  | redfishActivate (session cls : Nat) (resetOk closePlots : Bool)
  | redfishCommit (session cls : Nat)
  | collectDiagnosticData (session : Nat)
  | clearLog (session : Nat)
  | spdmGetSignedMeasurements (session : Nat) (nonce : Bytes)
  | eventSubscription (session : Nat) (remove : Bool) (id : Nat)
  | modulePatch (session mode sliceUs patrol : Nat)
  | plotOpenAction (session : Nat) (payload : Bytes)
  | plotCloseAction (session plot : Nat)
  | httpRedirect
  | redfishTaskDone (task : Nat)
  -- trial boots and ROM recovery
  | trialRevert (boot : BootReport)
  | recoveryHello
  | recoveryBegin (cls length digest : Nat)
  | recoveryData (session offset : Nat) (data : Bytes)
  | recoveryCommit (session : Nat)
  | recoveryReboot (session : Nat) (boot : BootReport)
  | recoveryAbort (session : Nat)
  | recoverySessionTimeout
  -- later rows of the table
  | heartbeatReceive (l : Link)
  | addressFault (agent : Agent) (addr : Nat) (write hostDma : Bool)
  | trngHealthFail
  | takeOverRevert (boot : BootReport)
  -- what the peer's request names: this module's FABRIC_ID or another, the job, the role, and the image's bytes
  | partnershipFormed (plot partnership named jobTag role image : Nat)
  | partnerNoAnswer (plot partnership : Nat)
  | fillRequest (l : Link) (groupId jobTag : Nat) (base : Bool) (stage offset fingerprint ports : Nat)
  | partnerRestoreRequest (l : Link) (jobTag slot : Nat)
  | snapshotDone (plot partnership : Nat)
  deriving DecidableEq, Repr

end Sys2Proof
end

