-- ==== Sys2Proof/Decode.lean ====
section
/-! DEFINITION. The table spells no command in bits: every row's list of fields is empty, so no word
names a command. -/

namespace Sys2Proof

/-- The command that a word of the table's bits spells: no row of the table gives bits. -/
def decodeTableWord (nbits w : Nat) : Option Instr :=
  let _ := nbits + w
  none

end Sys2Proof
end

