-- ==== Sys2Proof/Config.lean ====
section
/-! DEFINITION. What one module fixes and the spec leaves to it: fused values, the cryptographic
functions that the spec names and does not define, and the free values. An `opaque` one has no body, so no proof can
rest on a value of it; the others are what the spec states of a fused value. -/

namespace Sys2Proof.Machine

/-! ### Rill programs (R102, R110, R111) -/

/-- Operations of one operand, 32 bits in and out: the special functions of Table PAV-13, the absolute value, and the
conversion to BF16 and back, to nearest even. -/
inductive RillOp1 where
  | exp2
  | log2
  | recip
  | rsqrt
  | sin
  | cos
  | abs
  | toBf16
  deriving DecidableEq, Repr

/-- Operations of two operands (Table PAV-13): FP32 arithmetic and comparison, and 32-bit integer arithmetic. -/
inductive RillOp2 where
  | add
  | mul
  | min
  | max
  | less
  | iadd
  | shl
  | shr
  | iand
  | ior
  | ixor
  deriving DecidableEq, Repr

/-- What a Rill program computes for one lane: constants, values of the span's iteration, operand elements (lane
`n * mul / div + off` of an operand), the operations of Table PAV-13, and sums and maxima across `lanes` lanes. -/
inductive RillExpr where
  | const (bits : Nat)
  | lane
  | iteration (k : Nat)
  | elem (arg mul div off : Nat)
  | op1 (o : RillOp1) (a : RillExpr)
  | op2 (o : RillOp2) (a b : RillExpr)
  | fma (a b c : RillExpr)
  | fmaBf16 (a b c : RillExpr)
  | laneSum (lanes : Nat) (a : RillExpr)
  | laneMax (lanes : Nat) (a : RillExpr)
  deriving DecidableEq, Repr

/-- An operand that a Rill program writes: its number, its value in each lane, and whether its conversion is a
stochastic one (R49). -/
structure RillOut where
  arg : Nat
  value : RillExpr
  stochastic : Bool
  deriving DecidableEq, Repr

end Sys2Proof.Machine

namespace Sys2Proof.Config

/-- A free value of the given width in bits: drawn with the counter `State.free`. -/
opaque freeValue : (width : Nat) → Nat → Nat

/-- A free string of bytes of the given length. -/
opaque freeBytes : (length : Nat) → Nat → Bytes

/-! ### Fused values -/

/-- MOD_ID.STEPPING of a B0 module (R1, Table ARC-8). -/
def stepping : Nat := 0x10

/-- MOD_ID.ENGINEERING_SAMPLE (Table ARC-8). -/
opaque engineeringSample : Bool

/-- PART_NUMBER of Table BTH-16: YB3-M2T-LC, or YB3-M2T-LC-ES of an engineering sample, in ASCII, padded with zeros to
16 bytes (R2, Table SCO-1). -/
def partNumber : Bytes :=
  let base : Bytes := [0x59, 0x42, 0x33, 0x2D, 0x4D, 0x32, 0x54, 0x2D, 0x4C, 0x43]
  bytesAt (if engineeringSample then base ++ [0x2D, 0x45, 0x53] else base) 0 16

/-- SERIAL of Table BTH-16, 16 bytes. -/
opaque serial : Bytes

/-- The password of the first Administrator account, printed on the module's label (R421). -/
opaque labelPassword : Bytes

/-- The ROM's version (Table BTH-16). -/
opaque romVersion : Nat

/-- The physical rows and columns of a Pavilion's Parterre that test fuses bypass (R86). -/
opaque fusedRows : (pav : Nat) → List Nat
opaque fusedColumns : (pav : Nat) → List Nat

/-- The two sites of a Terrace that test fuses disable (R90). -/
opaque fusedSite : (terrace k : Nat) → Nat

/-- Whether a Pavilion that is reset at a tick passes the self-test that follows (Table ERR-5). -/
opaque selfTestHolds : (pav tick : Nat) → Bool

/-- Whether the array of a Pavilion stands frozen in the cycle of a tick at which a pass is open (Table PAR-11). -/
opaque frozenNow : (pav tick : Nat) → Bool

/-- A plot's attributed energy in millijoules of the 1 ms that ends at a tick, from fused per-event energies
(R356). -/
opaque attributedEnergy : (plot tick : Nat) → Nat

/-- How a plot's part of the shared energy is rounded to millijoules: 0 down, 1 up (R356 does not say). -/
opaque energyRounding : (plot tick : Nat) → Nat

/-- What the timing of a descriptor adds to the counters of its Pavilion when it retires at a tick (Tables PAR-9,
PAV-15): `kind` 0 bubbles, 1 feeder freezes, 2 drain freezes, 3 bank conflicts, 4 corrected errors. -/
opaque lostCycles : (kind pav tick : Nat) → Nat

/-- Cycles that reservations have waited for buffers at a port, and codewords that FEC has corrected there, by the tick
at which an acknowledgement comes in (Table CSC-14). -/
opaque creditWait : (port tick : Nat) → Nat
opaque fecCorrected : (port tick : Nat) → Nat

/-- The four fused key digests, and whether the revocation fuse of one is blown (R394). -/
opaque fusedKeyDigest : Nat → Nat
opaque keyRevoked : Nat → Bool

/-- The Tysaryn PCI vendor identifier (R438). -/
opaque pciVendor : Nat

/-- What stands in the running bank of a class before anything has been staged: the image that the module left
manufacture with. `field` is 0 VERSION, 1 SVN, 2 STATE_VERSION, 3 its digest (Tables MGT-5, GTH-4). -/
opaque factoryImage : (cls field : Nat) → Nat

/-- The ROM's digest, M1 (R395). -/
opaque romDigest : Nat

/-- The digest of the fuse map (Table GTH-4). -/
opaque fuseDigest : Nat

/-- The device identity's fingerprint (R394). -/
opaque deviceId : Nat

/-! ### Cryptographic functions named by the spec -/

/-- SHA3-256 of a byte string, as a 256-bit number. -/
opaque sha3 : Bytes → Nat

/-- SHA3-384 of a byte string. -/
opaque sha3wide : Bytes → Nat

/-- AES-256-GCM opening: key, initialisation vector, associated data, ciphertext and tag. -/
opaque gcmOpen : (key iv : Nat) → (aad ct : Bytes) → (tag : Nat) → Option Bytes

/-- AES-256-GCM sealing: key, initialisation vector, associated data and plaintext give the ciphertext with its 16-byte
tag. -/
opaque gcmSeal : (key iv : Nat) → (aad pt : Bytes) → Bytes

/-- An ML-KEM key pair for a random seed: the encapsulation key's bytes and the private part. -/
opaque kemKeyGen : Nat → Bytes × Nat

/-- Encapsulation to a key, with a random seed: the ciphertext and the shared secret. -/
opaque kemEncaps : Bytes → Nat → Bytes × Nat

/-- Decapsulation with a private part. -/
opaque kemDecaps : (priv : Nat) → Bytes → Nat

/-- SHAKE256 of a byte string, as a number of so many bytes. -/
opaque shake256 : Bytes → (bytes : Nat) → Nat

/-- The Alias key that a boot derives from M1, M2, SVN_GATEHOUSE and the debug state (Table GTH-2). -/
opaque aliasKey : (m1 m2 svn : Nat) → (debug : Bool) → Nat

/-- The Alias key's certificate (R395). -/
opaque aliasCert : (aliasKey : Nat) → Bytes

/-- An ML-DSA-44 signature under the Alias key, with its context and the signer's random input. -/
opaque sign : (aliasKey : Nat) → (context message : Bytes) → (random : Nat) → Bytes

/-- The private part of the device-set key (Table GTH-2). -/
opaque deviceSetKey : Nat

/-- Whether an ML-DSA-44 signature of a message under a context verifies with a public key. -/
opaque verifies : (key context message signature : Bytes) → Bool

/-- The digest of the CA key that has issued the device's DeviceID certificate (R411). -/
opaque issuer : Nat

/-- The DeviceID certificate (R395). -/
opaque deviceCert : Bytes

/-- The certificates above it: the Tysaryn root and the manufacturing CA (Table GTH-3). -/
opaque rootCerts : Bytes

/-- What the bytes of a hall anchor hold (R411), whose layout the spec does not give: the issuer digests, the minimum
SVN_GATEHOUSE and SVN_BOTHY, and ACCEPT_ES. -/
opaque anchorOf : Bytes → List Nat × Nat × Nat × Bool

/-- The payload of a frame of VC0 (R226), whose layout the spec does not give. -/
opaque controlBytes : Control → Bytes

/-- The field record's bytes before its signature, from its sections (Table ERR-9), whose layout the spec does not
give. -/
opaque fieldLayout : List Bytes → Bytes

/-- Bytes of the largest SPDM message that is sent in one piece. -/
opaque spdmTransfer : Nat

/-! ### Results that the spec leaves to a program or does not state -/

/-- Whether the Rill program at an offset of a plan's program area passes the firmware's validation: its
encoding is the plan format's (R102). -/
opaque programHolds : (program : Bytes) → (offset : Nat) → Bool

/-- The Rill program at an offset of a plan's program area, whose encoding is the plan format's (R102): the operands
that it writes. -/
opaque rillProgram : (program : Bytes) → (offset : Nat) → List Machine.RillOut

/-- Whether the base manifest marks a tensor as a base weight (R179): the manifest of the binding and the tensor's
record. The rest of the manifest's layout is the compiler's (R465). -/
opaque baseWeight : (manifest tensorRecord : Bytes) → Bool

/-- The layers of a stage of a plot's Bower, first and last, which the compiler fixes (R294, R465). -/
opaque stageLayers : (manifest : Bytes) → (stage : Nat) → Nat × Nat

/-- The classes of adapters that a decode plan names, by its tensor table: rank, target set, extra experts and expert
width. Where a plan names them the spec does not say (R150, R265). -/
opaque planClasses : (tensors : List Bytes) → List (Nat × Nat × Nat × Nat)

/-- Where a seal job runs and what it takes, by the number of pages sealed before it: a Pavilion, and the RILL and MOVE
cycles that it is charged (R282); the spec says that it runs on the plot's Pavilions and fixes neither. -/
opaque sealWork : (seals : Nat) → Nat × Nat × Nat

/-- The relay transfer that the retirement of a descriptor of a plan's stream begins, if any: whether it goes to the next
stage, and its micro-batch, tensor and view. The spec gives the transfer (R181, R229) and no field of a plan that begins
it. -/
opaque relayOf : (plan pav queue index : Nat) → Option (Bool × Nat × Nat × Nat)

/-- Which of a step's work lists a span iterates over, or a STREAM outside a span takes its selects from: the
spec does not say (R274, R100). The key is a span's index, or 4,096 plus a DESC_ID. -/
opaque listOf : (plan key : Nat) → Nat

/-- The micro-batch that a descriptor of a plan's stream serves, if any, and whether it belongs to the backward: the
spec does not say how a plan marks them (R305). -/
opaque microbatchOf : (plan pav queue index : Nat) → Option Nat
opaque backwardOf : (plan pav queue index : Nat) → Bool

end Sys2Proof.Config
end

