-- ==== Sys2Proof/Machine/State.lean ====
section
/-! DEFINITION. The state of the module as plain data: every register, queue, table, buffer, mode and
pin that the spec gives it, the commands that are waiting, and what the module has sent out. Fused
values stand in `Sys2Proof.Config`. -/

namespace Sys2Proof.Machine

/-- Why the machine stops with a fault. No command of this module stops so: an access that the spec
forbids is dropped and reported (R153, R163), which is a next state. The one constructor is raised by
no meaning; it is safe, since nothing can be concluded from a stop that never happens. -/
inductive Fault where
  | deviceAbsent
  deriving DecidableEq, Repr

/-- Why a command has no meaning. `notModelled` is raised by an arm of `exec` alone, for a row that has
no meaning yet; it is safe: such a command proves nothing. -/
inductive Refusal where
  | notModelled (mnemonic : String)
  deriving DecidableEq, Repr

/-! ### Memory (chapter 06) -/

/-- A write that a controller has accepted and not yet issued (R159): one 64-byte line, the bytes it
changes in rising order of address, and whether they are marked poisoned (R173). -/
structure LineWrite where
  line : Nat
  plot : Nat
  bytes : List Host.Cell
  poisoned : Bool
  deriving DecidableEq, Repr

/-- A run of 2 MiB granules of one tier (0 and 1 the HBM of a Terrace, 3 the Cold Frame). -/
structure Run where
  tier : Nat
  first : Nat
  count : Nat
  deriving DecidableEq, Repr

/-- A run of released granules that the Bothy firmware is zeroing (R166), and the plot that released
it; `closing` marks the runs of a close (R345 step 7). -/
structure Zeroing where
  run : Run
  plot : Nat
  closing : Bool
  deriving DecidableEq, Repr

/-- The purpose of a tier move, which fixes its class (R168) and what switches when it retires. -/
inductive MoveFor where
  | trellisPrefetch (seq page : Nat)
  | orangeryPrefetch (handle : Nat)
  | spill (seq page : Nat)
  | promotion (plan : Nat)
  deriving DecidableEq, Repr

/-- A request of the tier mover (R168): the owning plot, the purpose, source, destination and length
in bytes; `lost` marks a copy that is to be discarded when it retires (R248). -/
structure Move where
  plot : Nat
  purpose : MoveFor
  src : Nat
  dst : Nat
  len : Nat
  discard : Bool
  deriving DecidableEq, Repr

/-- The memory tiers: HBM and Cold Frame bytes, poison bits, controller queues, the granule pools, the
two Glasshouses, the tier mover and the memory registers of Table MEM-9. -/
structure Mem where
  /-- Device memory in canonical form: an unlisted byte reads zero (R162, R166, R176). -/
  bytes : List Host.Cell
  /-- Poisoned 64-byte lines, in rising order of line number (R172). -/
  poison : List Nat
  /-- Write queues of the 12 HBM stacks (0 to 11) and 24 Cold Frame channels (12 to 35), oldest first. -/
  queues : NMap (List LineWrite)
  /-- Granule runs granted: windows, context areas and plan copies. -/
  granted : List Run
  zeroing : List Zeroing
  /-- Granules that have held an uncorrectable error and are in use: tier and index (R175). -/
  suspectGranules : List (Nat × Nat)
  /-- The retirement list in configuration flash, and the granules retired beyond its room. -/
  retired : List (Nat × Nat)
  retiredVolatile : List (Nat × Nat)
  /-- Glasshouse bytes by Terrace (offset from Terrace × 96 MiB), poison by 128-byte line, and the
  MiB units last held by a plot that closed under EXTMEM. -/
  gh : NMap Byte
  ghPoison : List Nat
  ghResidue : List Nat
  /-- Glasshouse units, by `residueKey`, that failed the zero check of R416: none is granted until a warm reset. -/
  ghFenced : List Nat
  /-- Requests waiting for the tier mover, in arrival order, and the moves it has started. -/
  moveQueue : List Move
  moving : List Move
  /-- Cascade results that wait for their write credits, in the order in which they came (R17, R19): plot, plan and
  SEQ. -/
  exits : List (Nat × Nat × Nat)
  /-- MOD_MEM_STATUS fields, MOD_MEM_TRAIN. -/
  hbmFailed : Nat
  cfFailed : Nat
  ready : Bool
  partitionInForce : Bool
  degraded : Bool
  trainHbmMs : Nat
  trainLpddrMs : Nat
  patrolHours : Nat
  patrolEnable : Bool
  patrolPasses : W64
  correctedHbm : W64
  correctedCf : W64
  poisonedLines : W64
  lastPoison : Nat
  err : W64
  /-- Stack temperatures, doubled refresh, and stacks whose controller has stopped (R160). -/
  stackTemp : NMap Nat
  refresh2x : List Nat
  stackTripped : List Nat
  deriving DecidableEq, Repr

/-! ### The mailbox (chapter 14) -/

/-- Where a held request stands: taken and waiting for its turn, started and waiting for an event of
its own chapter, deferred to a step end (R260), or completed with its record in the backlog. -/
inductive Phase where
  | taken
  | started
  | deferred
  | completed
  deriving DecidableEq, Repr

/-- A taken request (R364): its copied header and payload, the tick at which it was taken (R330), and, while it waits, the
steps it waits for (R260) and a count that its own chapter keeps. -/
structure Req where
  slot : Nat
  opcode : Nat
  tag : Nat
  vector : Nat
  payload : Bytes
  since : Nat
  phase : Phase
  waits : List (Nat × Nat)
  tally : Nat
  deriving DecidableEq, Repr

/-- A completion record before it stands in the ring (Table BTH-3, R370). An unsolicited record has
slot 255; `vector` is 255 for none. -/
structure Rec where
  slot : Nat
  opcode : Nat
  status : Nat
  dcode : Nat
  tag : Nat
  detail : Nat
  body : Bytes
  vector : Nat
  deriving DecidableEq, Repr

/-- A plot's mailbox: the bytes of the slots by offset in the area, the requests held, the backlog, and
the control words of Table BTH-4. -/
structure Mailbox where
  slots : List Host.Cell
  held : List Req
  backlog : List Rec
  tail : W32
  head : W32
  lost : Nat
  /-- Unsolicited records lost and not yet reported, with the first and last tick (R373). -/
  lostNew : Nat
  lostFirst : W64
  lostLast : W64
  vecMask : W64
  vecPending : W64
  stepHeld : Bool
  ringFault : Bool
  msiTarget : Bool
  msiAddr : NMap W64
  msiData : NMap W32
  /-- Vectors signalled since the last scan (R374). -/
  signalled : List Nat
  deriving DecidableEq, Repr

/-! ### Plans (chapters 04, 05, 14) -/

/-- The plan header of Table BTH-10. -/
structure PlanHeader where
  workload : Nat
  pflags : Nat
  planBytes : Nat
  baseFp : Nat
  firstLayer : Nat
  lastLayer : Nat
  members : Nat
  stage : Nat
  lostStage : Nat
  rgroup : Nat
  bgroup : Nat
  need : Nat
  microbatches : Nat
  maxRows : Nat
  prefillChunk : Nat
  tgSeqs : Nat
  tgSeqsPacked : Nat
  waitLimit : Nat
  sems0 : Nat
  sems1 : Nat
  sections : Nat
  worklistAddr : Nat
  appendAddr : Nat
  reducedAddr : Nat
  appendBytes : Nat
  reducedBytes : Nat
  deriving DecidableEq, Repr

/-- A loaded plan (R378): its header, seed and sections, the granules of its copy, its semaphores, and
its standing. Streams are keyed 3 × Pavilion + queue; a descriptor or record is its 64 bytes. -/
structure Plan where
  handle : Nat
  header : PlanHeader
  seed : Nat
  streams : NMap (List Bytes)
  tensors : List Bytes
  views : List Bytes
  spans : List Bytes
  reduce : List Bytes
  adapters : List Nat
  program : Bytes
  gtiles : NMap (List Nat)
  relays : List Bytes
  runs : List Run
  sems : List Nat
  damaged : Bool
  standby : Bool
  /-- One more than the highest step started, or 0, for a plan that counts its own steps (R383). -/
  lastStep : Nat
  /-- The step that a RESTORE fixes next (R317). -/
  nextStep : Option Nat
  /-- Lists published for the plan; they alternate between its two record buffers (R264). -/
  listsMade : Nat
  deriving DecidableEq, Repr

/-! ### Sequences and work lists (chapter 10) -/

/-- A sequence table entry (Table TRL-1, R255). -/
structure SeqEntry where
  seqId : Nat
  state : Nat
  kind : Nat
  adapterGone : Bool
  paused : Bool
  editPending : Bool
  retirePending : Bool
  spilled : Bool
  reportPending : Bool
  nextValid : Bool
  kvFmt : Nat
  gen : Nat
  adapter : Nat
  firstStep : Nat
  lastServed : Nat
  /-- LAST_SERVED before the list that now holds it (R301, R386). -/
  prevServed : Nat
  ctx : Nat
  pendingToks : Nat
  maxLen : Nat
  generated : Nat
  inAddr : Nat
  outAddr : Nat
  ptRoot : Nat
  openBlock : Nat
  dataIndex : Nat
  userTag : Nat
  hbmBlocks : Nat
  cfBlocks : Nat
  deferrals : Nat
  ringLen : Nat
  nextInput : Nat
  /-- The event kind to report and the step it arises from (R263, R466), and the order in which the
  sequence became reportable. -/
  reportKind : Nat
  reportStep : Nat
  reportOrder : Nat
  /-- Blocks reserved at close for the pages that this step fills (R285). -/
  reserved : List Nat
  deriving DecidableEq, Repr

/-- One sequence row of a published list (Table TRL-12); `fedNext` marks a row that fed NEXT_INPUT. -/
structure SeqRow where
  seqId : Nat
  gen : Nat
  lane : Nat
  form : Nat
  firstRow : Nat
  rows : Nat
  pos : Nat
  pages : Nat
  seals : Nat
  tileGroup : Nat
  adapter : Nat
  dataIndex : Nat
  userTag : Nat
  fedNext : Bool
  deriving DecidableEq, Repr

/-- A lane group: its rows and tile groups, its width, its adapters by lane with the pointers that the
Orangery supplied, and the slot holders (Tables ORG-9, TRL-13). -/
structure LaneGroup where
  firstRow : Nat
  rows : Nat
  firstTg : Nat
  tgs : Nat
  width : Nat
  lanes : List Nat
  ptrs : List Nat
  slotLane : List Nat
  deriving DecidableEq, Repr

/-- A tile group (Table TRL-13). -/
structure TileGroup where
  firstRow : Nat
  rows : Nat
  firstSeq : Nat
  seqs : Nat
  form : Nat
  padLen : Nat
  pagePad : Nat
  laneGroup : Nat
  deriving DecidableEq, Repr

/-- A published work list: the Trellis's own copy of the record of Table TRL-10 (R271). -/
structure WorkList where
  step : Nat
  microbatch : Nat
  buffer : Nat
  rowsTotal : Nat
  deferred : Nat
  useClock : Nat
  dataIndexMax : Nat
  seqs : List SeqRow
  laneGroups : List LaneGroup
  tileGroups : List TileGroup
  selects : Bytes
  deriving DecidableEq, Repr

/-- The appender's work left on one sequence at a step's end (R282): the next row of the append area, the
tokens left to append, and what the step's end then makes of the sequence (R272). -/
structure AppendJob where
  plot : Nat
  index : Nat
  area : Nat
  nextRow : Nat
  left : Nat
  step : Nat
  sampled : Nat
  stop : Bool
  deriving DecidableEq, Repr

/-- A list under construction (R264): the micro-batch, the candidates' SEQ_IDs in selection order, those
whose record was not resident at selection, and, in a Bower of several members (R267), the CANDIDATES
frames received and sent, the child's readiness bits, this member's own once it has closed, and the root's
result. -/
structure Building where
  microbatch : Nat
  cands : List Nat
  late : List Nat
  frames : NMap (List Nat)
  complete : Bool
  candSent : Nat
  closed : Bool
  own : List Bool
  child : Option (List Bool)
  upSent : Bool
  final : Option (List Bool)
  downSent : Bool
  deriving DecidableEq, Repr

/-! ### The Cascade (chapter 08) -/

/-- One wave entry (R211, R226). -/
structure WaveEntry where
  seq : Nat
  e : Nat
  c : Nat
  dropped : Nat
  nonfinite : Bool
  poison : Bool
  deriving DecidableEq, Repr

/-- A tile in the Cascade (Table CSC-6): the reduce-table entry it follows; its FP32 words by element
(unlisted +0.0) and its poisoned 128-byte lines; the routes that it reserved at admission, by neighbour
(R224); its own and its children's wave entries and the final entry; its own contribution, the
children's frames and the total, as RX64 words by element (unlisted 0); and the line writes that wait
for credits. `phase` is 0 before the hand-off, 1 waiting for admission, 2 scanned, 3 with the final wave
entry, 4 converted, 5 with its own and its children's sum (in `words`, with the carried residues in
`totalResidues`), 6 with the total, 7 written, 8 abandoned after conversion (R207); `failed` names the engine and the flag of CSC_ERR of a check that has
failed three retries (R215, R217). -/
structure Tile where
  seq : Nat
  pav : Nat
  gtile : Nat
  adapter : Nat
  tensor : Nat
  indexBase : Nat
  dstView : Nat
  data : NMap W32
  poison : List Nat
  phase : Nat
  count : Nat
  dropped : Nat
  routes : NMap (List Nat)
  own : WaveEntry
  childWaves : List (Nat × WaveEntry)
  sentWave : Bool
  final : Option WaveEntry
  finalSent : List Nat
  words : NMap W64
  childFrames : List (Nat × Nat × NMap W64 × List Nat)
  upSent : Bool
  total : NMap W64
  totalResidues : NMap (List Nat)
  downHeld : List Nat
  downSent : List Nat
  exitLines : List LineWrite
  retries : NMap Nat
  failed : Option (Nat × Nat)
  deriving DecidableEq, Repr

/-- A Cascade group that the plot has joined (R200, R205, R207): the current members' FABRIC_IDs in
rank order, the lost members, the neighbours that have answered under this generation, the tick at
which each neighbour was last heard and the extra silence a PAUSE notice allows (R432), the ticks at which it was joined
and last regrouped (R220), and the slot of a GROUP_JOIN that still waits; `early` holds frames of a step that has not started here, with their
ports. -/
structure Group where
  handle : Nat
  groupId : Nat
  kind : Nat
  jobTag : Nat
  digest : Nat
  window : Nat
  generation : Nat
  state : Nat
  live : List Nat
  lost : List Nat
  answered : List Nat
  heard : NMap Nat
  pauseTicks : NMap Nat
  joinTick : Nat
  regroupTick : Nat
  timeoutS : Nat
  joinSlot : Option Nat
  early : List (Nat × Frame)
  suspended : Bool
  peerReleased : Bool
  deriving DecidableEq, Repr

/-! ### The Orangery (chapter 09) -/

/-- States of an adapter (Table ORG-6), in the code order of Table ORG-10. -/
inductive AdapterState where
  | registered
  | admitted
  | revoking
  | poisoned
  | stale
  deriving DecidableEq, Repr

/-- Residency of an admitted adapter's record (R241); LOCKED is derived from the lists and TRAIN. -/
inductive Residency where
  | nonresident
  | loading
  | resident
  deriving DecidableEq, Repr

/-- An adapter of a plot: the Orangery's directory copy (R235), its places, its residency, its slots,
its pending eviction, its accounts (Table ORG-10) and its stall counters by tensor (R198). `prefetch` is
0 none, 1 asked for, 2 waiting for a step end, 3 free to try again (R244); `gone` holds the steps at whose
end its sequences are to be marked ADAPTER_GONE (R247). -/
structure Adapter where
  handle : Nat
  state : AdapterState
  train : Bool
  rank : Nat
  nexpert : Nat
  targets : Nat
  expertWidth : Nat
  arrayBytes : Nat
  catAddr : Nat
  residency : Residency
  resAddr : Nat
  stateAddr : Nat
  /-- The absorbed section's stage while the plot runs degraded (R294), or 255, and its layers. -/
  absorbed : Nat
  absorbedFirst : Nat
  absorbedLast : Nat
  /-- The places of the record and of its state in the pools while a rebuilt copy stands in the absorb window. -/
  home : Option (Nat × Nat)
  lastUse : Nat
  slots : List Nat
  terrace : Nat
  prefetch : Nat
  leaving : Bool
  unregister : Bool
  dropResident : Bool
  gone : Option (List (Nat × Nat))
  goneCount : Nat
  rowsFwd : W64
  rowsBwd : W64
  arrayCycles : W64
  movedBytes : W64
  residentSince : Nat
  residentTicks : W64
  skipped : Nat
  prefetches : Nat
  evictions : Nat
  stall : NMap Nat
  deriving DecidableEq, Repr

/-- A plot's binding (R232). -/
structure Binding where
  fp : Nat
  manifest : Bytes
  firstLayer : Nat
  lastLayer : Nat
  res0 : Nat
  res1 : Nat
  cat : Nat
  deriving DecidableEq, Repr

/-! ### Steps and survival (chapters 07, 11, 12) -/

/-- An unsolicited error that a step has met, before and after merging (R334). -/
structure ErrRec where
  cls : Nat
  block : Nat
  cause : Nat
  unit : Nat
  descId : Nat
  tag : Nat
  step : Nat
  address : Nat
  count : Nat
  tick : W64
  deriving DecidableEq, Repr

/-- A Belvedere event of a step (Table STP-5). -/
structure BelEvent where
  kind : Nat
  tensor : Nat
  adapter : Nat
  updates : Nat
  value : Nat
  threshold : Nat
  nonfinite : Nat
  deriving DecidableEq, Repr

/-- Belvedere settings of a plot (Table STP-3). -/
structure BelSettings where
  warmup : Nat
  ratioHigh : Nat
  ratioLow : Nat
  stallSteps : Nat
  uflowExp : Nat
  uflowPpm : Nat
  eventMask : Nat
  deriving DecidableEq, Repr

/-- A relay transfer that a step has begun (R181, R229): whether it goes to the next stage or to the one before, its
micro-batch, tensor and view, and the frames that have gone. -/
structure RelaySend where
  forward : Bool
  microbatch : Nat
  tensor : Nat
  view : Nat
  sent : Nat
  deriving DecidableEq, Repr

/-- A running step of a plan (R382): its request's slot, its lists, its tiles, the skip flags it has
gathered and the skip set once it holds it (R191), whether it waits for the stage flags of a source (`keep`, R305), what it
has reported, its counts, the Belvedere settings
that it runs under (R197), and its update ratios: adapter, tensor, ratio and stall count (R196). `stopFor` says
why it stops: 0 not at all, 1 STEP_ABORT, 2 a loss under STOP or a dissolution, 3 a redo (R301). -/
structure Step where
  plan : Nat
  step : Nat
  slot : Nat
  tag : Nat
  vector : Nat
  startTick : W64
  lists : List WorkList
  building : Option Building
  stopped : Bool
  ended : Bool
  done : Nat
  tiles : List Tile
  skipFlags : List Nat
  childSkips : List (List Nat)
  skipSent : Bool
  skipSet : Option (List Nat)
  updated : List Nat
  skipped : List Nat
  errors : List ErrRec
  events : List BelEvent
  isVoid : Bool
  redos : Nat
  droppedMbs : List Nat
  keep : Bool
  /-- Whether the early boundary of a redo or of a kept step is still to come (R352). -/
  earlyDue : Bool
  bel : BelSettings
  ratios : List (Nat × Nat × Nat × Nat)
  stopFor : Nat
  /-- Whether the union of the skip flags has gone to the child (R191), and the relay tiles that have arrived:
  micro-batch, tensor and offset (R229). -/
  skipDown : Bool
  relayed : List (Nat × Nat × Nat)
  relaysOut : List RelaySend
  /-- The SEQ_IDs in the plot's table when the step started: no other is listed in it (R14). -/
  known : List Nat
  deriving DecidableEq, Repr

/-- A copy that this module asks for over the Avenue: its plan; `use` 0 a base area under SURVIVE_POLICY FILL (R309),
1 the state of an absorbed stage (R302), 2 the state that a spare takes over (R310); the stage, the destination
and length of a base area, the 8 KiB frames that have arrived by index (a base area's go to memory at once) and how
many there are, whether one of them was poisoned (R173), the sources left, the ports, and the slot of the request that
waits, if any. -/
structure FillState where
  plan : Nat
  use : Nat
  stage : Nat
  dst : Nat
  len : Nat
  parts : NMap Bytes
  frames : Option Nat
  bad : Bool
  sources : List Nat
  ports : Nat
  slot : Option Nat
  heard : Nat
  /-- The sender's group as its frames name it: GROUP_ID, generation, the sender's rank, M, and, in a hand-over, the
  generation of its Bower group. -/
  origin : Option (Nat × Nat × Nat × Nat × Nat)
  deriving DecidableEq, Repr

/-- A copy that this module sends (R302, R310, R317): to whom, for which group and stage, what it is (0 a base area, 1
state records, 2 a snapshot image, 3 a stage that is handed over), the first frame of 8 KiB still to send, the base
area's address and length, the bytes of the others once they are fixed, the frames of them that hold a poisoned line, the
ports that the requester allows, and whether stage flags are still to go (R305). -/
structure FillServe where
  dest : Nat
  group : Nat
  stage : Nat
  use : Nat
  next : Nat
  addr : Nat
  len : Nat
  bytes : Option Bytes
  bad : List Nat
  ports : Nat
  flags : Bool
  heard : Nat
  deriving DecidableEq, Repr

/-- An armed policy of a plan (R295) and where it stands (R296). -/
structure Policy where
  plan : Nat
  mode : Nat
  members : Nat
  stage : Nat
  fillPorts : Nat
  sources : List Nat
  absorbWindow : Nat
  promoteWindow : Nat
  promoted : Nat
  standby : List Nat
  baseAddr : Nat
  baseLen : Nat
  mirrorAddr : Nat
  mirrorLen : Nat
  state : Nat
  absorbedStage : Nat
  activePlan : Nat
  /-- A lost stage whose standby plan is still to be activated (R300), and whether the mirror's promotion has retired (R306). -/
  pendingLoss : Option Nat
  retired : Bool
  deriving DecidableEq, Repr

/-- A snapshot partnership of the plot (R311): its role, whether it has formed, the peer, and its
images: steps and cursors of the two slots, the image in flight, and the marked lines. -/
structure Partner where
  handle : Nat
  role : Nat
  formed : Bool
  slot : Option Nat
  startTick : Nat
  interval : Nat
  lossBound : Nat
  plan : Nat
  peer : Nat
  addr : Nat
  len : Nat
  jobTag : Nat
  state : Nat
  images : List (Option (Nat × Nat))
  newest : Nat
  streamStep : Option Nat
  streamCursor : Nat
  streamBytes : Nat
  owed : Option (Nat × Nat)
  /-- IMAGE_BYTES, as SNAPSHOT_BEGIN answered it. -/
  imageBytes : Nat
  /-- The image in flight as its step's end fixed it (R312): the bytes that copy-on-write preserves. -/
  image : Bytes
  /-- The adapters of the image in flight whose old lines stand in the copy-on-write reserve (R312). -/
  kept : List Nat
  /-- The frames of the image in flight that a keeper has written (R312). -/
  got : List Nat
  heard : Nat
  deriving DecidableEq, Repr

/-- An absolute exponent histogram of one tensor identifier (R196), and whether a SCALE of class GRADIENT fed
it (R198). -/
structure AbsHist where
  gradient : Bool
  bins : NMap Nat
  zero : Nat
  nonfinite : Nat
  deriving DecidableEq, Repr

/-! ### Plots (chapter 13) -/

/-- The reservations of a plot (Table PLT-2). -/
structure PlotConfig where
  driver : Nat
  scrubMode : Nat
  weight : Nat
  hbm0 : Nat
  hbm1 : Nat
  cf : Nat
  kvHbm : Nat
  kvCf : Nat
  kvTerrace : Nat
  hbmSlots : Nat
  cfSlots : Nat
  groups : Nat
  gh0 : Nat
  gh1 : Nat
  residentQuota : Nat
  seqQuota : Nat
  retainMib : Nat
  rxVc1 : Nat
  rxVc2 : Nat
  rxVc3 : Nat
  deriving DecidableEq, Repr

/-- Counters of a plot's account record (Table PLT-4). -/
structure Account where
  heldTicks : W64
  arrayCycles : W64
  rillCycles : W64
  moveCycles : W64
  overrunCycles : W64
  switchCycles : W64
  hbmRead : W64
  hbmWrite : W64
  cfRead : W64
  cfWrite : W64
  ghBytes : W64
  avenueTx : W64
  avenueRx : W64
  hostBytes : W64
  energyAttrib : W64
  energyShare : W64
  steps : W64
  voidSteps : W64
  throttleEvents : W64
  throttleTicks : W64
  /-- HELD_TICKS at the end of the last interval of 1 ms (R356). -/
  heldMark : W64
  deriving DecidableEq, Repr

/-- An installed bundle key (R404). -/
structure Key where
  keyId : Nat
  key : Nat
  deriving DecidableEq, Repr

/-- A plot's session key (R399): its encapsulation key, its private part, and the nonce of the ATTEST_GET that made
it. -/
structure SessionKey where
  ek : Bytes
  priv : Nat
  nonce : Bytes
  deriving DecidableEq, Repr

/-- A plot's scheduling state (R347): its vtime as a fraction num / weight is kept as the exact
numerator and denominator, whether it was ready at the last boundary, and its grant as a mask of Pavilions. -/
structure Sched where
  vtimeNum : Nat
  vtimeDen : Nat
  wasReady : Bool
  grant : Nat
  deriving DecidableEq, Repr

/-- A plot: its state, its reservations, and everything that belongs to it. -/
structure Plot where
  /-- 0 CLOSED, 1 OPEN, 2 CLOSING. -/
  state : Nat
  cfg : PlotConfig
  openTick : W64
  closeTick : W64
  granulesZeroed : Nat
  extmemNeighbour : Bool
  extmemResidue : Bool
  mail : Mailbox
  windows : NMap Run
  contextRuns : List Run
  gh0Units : List Nat
  gh1Units : List Nat
  kvAlloc : List (Nat × Nat)
  poolAlloc : List (Nat × Nat)
  plans : NMap Plan
  nextPlan : Nat
  /-- Semaphores by 1,024 × Terrace + index (R118). -/
  sems : NMap W32
  groupSteps : NMap Nat
  groupNext : NMap Nat
  running : List Step
  /-- Lists begun for a plan's next step while a step of it runs, by plan (R264). -/
  ahead : NMap Building
  binding : Option Binding
  bindHeld : Bool
  useClock : Nat
  adapters : NMap Adapter
  seqs : NMap SeqEntry
  incarnations : NMap Nat
  reportCount : Nat
  groups : List Group
  routes : NMap Nat
  policies : NMap Policy
  fills : List FillState
  serving : List FillServe
  /-- LOSS notices that the plot has forwarded: GROUP_ID, generation and lost rank (R219, R299). -/
  notices : List (Nat × Nat × Nat)
  partners : NMap Partner
  bel : BelSettings
  hist : NMap AbsHist
  histLive : NMap AbsHist
  ratios : List (Nat × Nat × Nat × Nat)
  lastStep : Nat
  /-- The stage flags that the last step gathered here (R191, R305). -/
  stageFlags : List Nat
  keys : NMap Key
  session : Option SessionKey
  attestSeq : Nat
  sched : Sched
  account : Account
  deriving DecidableEq, Repr

/-! ### Pavilions (chapters 03, 04) -/

/-- A number as the array holds it (R38): a finite dyadic value, an infinity or a NaN. -/
inductive Num where
  | fin (neg : Bool) (mant : Nat) (exp : Int)
  | inf (neg : Bool)
  | nan
  deriving DecidableEq, Repr

/-- One block's weights: rows by logical row, the column sums W (R40), KR, NC, lane setting and
orientation, and the column scales. -/
structure BlockWeights where
  rows : List (List Num)
  colSums : List W32
  kr : Nat
  nc : Nat
  laneWidth : Nat
  rowOrient : Bool
  colScales : List W32
  fmt : Nat
  poisoned : Bool
  deriving DecidableEq, Repr

/-- A streamed row's result at the bottom of a block: the FP32 sums of the columns, the row's drop
mark (mask, select or NOLANE), its select, its scale exponent, its zero point, its poison, and the adapter of
its sequence (Table NUM-8). -/
structure PassRow where
  adapter : Nat
  sums : List W32
  dropped : Bool
  select : Nat
  rowScale : Int
  zeroPoint : Option Int
  poisoned : Bool
  deriving DecidableEq, Repr

/-- A descriptor that a Pavilion holds: the plan it came from, its place in the stream, its 64 bytes,
the span iteration it belongs to, whether it runs, since which tick, how long a wait has waited in earlier slices (R351),
and with what error. -/
structure QDesc where
  plot : Nat
  plan : Nat
  index : Nat
  bytes : Bytes
  iter : Nat
  started : Bool
  executed : Bool
  startTick : Nat
  waited : Nat
  failed : Bool
  deriving DecidableEq, Repr

/-- A resident or spilled gradient tile (R113 to R117). -/
structure GTile where
  plot : Nat
  plan : Nat
  handle : Nat
  live : Bool
  resident : Bool
  lastAccess : Nat
  data : NMap W32
  poison : List Nat
  cascade : Bool
  deriving DecidableEq, Repr

/-- A span under way on a Pavilion (R274): the plan, the span's index, the iteration, and how many
iterations the list gives. -/
structure SpanState where
  plot : Nat
  plan : Nat
  span : Nat
  iter : Nat
  total : Nat
  deriving DecidableEq, Repr

/-- A plot's context on a Pavilion (R349): the descriptors that return to their streams, its span, the weight loads
that the Terrace sequencer reissues when the plot resumes (R70), the local store and its poison. Stream positions are
kept by plot on the Pavilion itself. -/
structure PavContext where
  array : List QDesc
  rill : List QDesc
  move : List QDesc
  span : Option SpanState
  reload : List QDesc
  store : NMap Byte
  storePoison : List Nat
  deriving DecidableEq, Repr

/-- The counters of Tables PAR-9, PAV-15 and PAV-20. -/
structure PavCounters where
  slots : W64
  bubbles : W64
  freezeFeed : W64
  freezeDrain : W64
  laneFaults : W64
  descRetired : W64
  lsConflicts : W64
  misaligned : W64
  spills : W64
  fills : W64
  droops : W64
  thermalSteps : W64
  corrected : W64
  programs : W64
  scalePasses : W64
  elements : W64
  srDraws : W64
  special : W64
  rillNonfinite : W64
  rillBusy : W64
  deriving DecidableEq, Repr

/-- The arithmetic side of a Pavilion: the Parterre's registers, the loads that gave the active and the shadow weights,
whether the shadow was loaded for the command behind the head (`early`, R95), the open pass and whether it has begun a
slot (R69), the slot cycles that the rows of each block's STREAM give their adapters until it retires (R252), and its
flags. -/
structure Parterre where
  active : NMap BlockWeights
  shadow : NMap BlockWeights
  activeLoads : List QDesc
  shadowLoads : List QDesc
  early : Bool
  begun : Bool
  activeValid : Bool
  shadowValid : Bool
  owner : Nat
  busy : Bool
  shape : Nat
  lanes : Nat
  cls : Nat
  pass : NMap (List PassRow)
  bill : NMap (NMap Nat)
  err : W64
  deriving DecidableEq, Repr

/-- A Pavilion (chapters 03 and 04). -/
structure Pavilion where
  par : Parterre
  array : List QDesc
  rill : List QDesc
  move : List QDesc
  /-- Weight loads of a resumed plot that are still to be reissued (R70). -/
  reload : List QDesc
  /-- Stream positions keyed plot + 32 × (3 × plan handle + queue). -/
  positions : NMap Nat
  span : Option SpanState
  context : Nat
  switchPending : Bool
  granted : Nat
  /-- The tick from which the plot's held time has not been charged (R350). -/
  since : Nat
  store : NMap Byte
  storePoison : List Nat
  saved : NMap PavContext
  gbuf : List GTile
  gbufClock : Nat
  rillBusy : Bool
  rillHist : Bool
  rillStoch : Bool
  /-- The policy's clock step in force, and the one that takes effect at the next command boundary of the ARRAY queue
  (R121). -/
  step : Nat
  nextStep : Nat
  droop : Bool
  hotspot : Nat
  lastThermal : Nat
  tripped : Bool
  err : W64
  lastRetire : Nat
  lastReset : Option Nat
  ctr : PavCounters
  deriving DecidableEq, Repr

/-! ### Engines, ports and module-wide units -/

/-- A Cascade engine's registers (Table CSC-11); engines 0 and 1 serve the Terraces, 2 to 13 the ports. -/
structure Engine where
  fenced : Bool
  tilesIn : W64
  tilesOut : W64
  flushed : W64
  nonfinite : W64
  crcRetries : W64
  residueRetries : W64
  stale : W64
  err : W64
  deriving DecidableEq, Repr

/-- A frame that a port keeps until it is acknowledged (R217, R227), what it says if it is a frame of VC0, the FABRIC_ID
that it goes to, and the ports that it may use (R224). -/
structure Retained where
  frame : Frame
  body : Option Control
  route : List Nat
  dest : Nat
  plot : Nat
  sentTick : Nat
  attempts : Nat
  deriving DecidableEq, Repr

/-- An Avenue port: link, the peer and its port, link sequence, retention, frames of VC0 that wait for one of its 32
buffers, frames accepted and not acknowledged, keys of hall mode and the registers of Table CSC-14. -/
structure Port where
  linkUp : Bool
  lanesUp : Nat
  peerId : Nat
  peerValid : Bool
  peerPort : Nat
  faulty : Bool
  txSeq : Nat
  retention : List Retained
  waiting : List Retained
  toAck : List (Nat × Nat)
  seen : List (List Nat)
  txKey : Option (Nat × Nat × Nat)
  newKey : Option (Nat × Nat × Nat)
  keyFrames : Nat
  keyTick : Nat
  rekeyWaits : List Nat
  rekeyTick : Nat
  txFrames : W64
  rxFrames : W64
  rxDropped : W64
  retransmits : W64
  creditWait : W64
  fecCorrected : W64
  err : W64
  deriving DecidableEq, Repr

/-- The Bothy's registers (Tables BTH-18, BTH-20) and the requests that a take-over holds. -/
structure Bothy where
  ready : Bool
  paused : Bool
  pairsUp : Nat
  scans : W64
  taken : W64
  refused : W64
  lostRecords : W64
  err : W64
  takeOver : Option Nat
  /-- The tick of the last heartbeats (R208). -/
  lastBeat : Nat
  deriving DecidableEq, Repr

/-- The Orangery's module-wide registers (Table ORG-12). -/
structure Orangery where
  fp : Nat
  fpValid : Bool
  prefetches : W64
  movedBytes : W64
  evictions : W64
  deferrals : W64
  slotConflicts : W64
  err : W64
  deriving DecidableEq, Repr

/-- The Trellis's module-wide registers (Table TRL-17); `appending` lists the plots whose appender or
seal jobs have work left. -/
structure Trellis where
  appending : List AppendJob
  /-- Prefetches that wait for spills: plot, sequence index and page (R285). -/
  waiting : List (Nat × Nat × Nat)
  lists : W64
  rows : W64
  padRows : W64
  deferred : W64
  spills : W64
  prefetches : W64
  seals : W64
  walks : W64
  genFaults : W64
  err : W64
  deriving DecidableEq, Repr

/-- A hall peer that holds pair keys (R412, R413): its FABRIC_ID, the pair key, its port keys as port,
epoch, key and salt, and whether a holding has used the entry; while the exchange runs, the private part and the bytes of this side's OFFER, the peer's OFFER, and
the secret that this side has encapsulated. -/
structure Peer where
  fabricId : Nat
  done : Bool
  offered : Bool
  pairKey : Nat
  ownSecret : Nat
  ownOffer : Bytes
  peerOffer : Bytes
  ssOwn : Nat
  portKeys : List (Nat × Nat × Nat × Nat)
  used : Bool
  deriving DecidableEq, Repr

/-- The hall anchor (R411), kept in configuration flash. -/
structure Anchor where
  digest : Nat
  issuers : List Nat
  minGatehouse : Nat
  minBothy : Nat
  acceptEs : Bool
  deriving DecidableEq, Repr

/-- An SPDM secure session of the DOE (Table GTH-3). -/
structure SpdmSession where
  id : Nat
  finished : Bool
  secret : Nat
  keyGen : Nat
  lastBeat : Nat
  deriving DecidableEq, Repr

/-- An SPDM connection's negotiation state: version and algorithms agreed, the chunked request that arrives and its
next chunk, and the large response that goes out in chunks. -/
structure SpdmConn where
  versionAsked : Bool
  version : Nat
  negotiated : Bool
  chunkHandle : Nat
  chunkNext : Nat
  chunk : Bytes
  responseHandle : Nat
  response : Bytes
  deriving DecidableEq, Repr

/-- The Gatehouse (chapter 15): boot state, measurement registers, random source, keys and counters. -/
structure Gatehouse where
  bootOk : Bool
  udsLocked : Bool
  debugUnlocked : Bool
  signer : Nat
  trngOk : Bool
  halted : Bool
  measures : NMap Nat
  lodgeReg : Nat
  peers : List Peer
  conns : NMap SpdmConn
  sessions : List SpdmSession
  attests : W64
  keysInstalled : W64
  unwrapFails : W64
  err : W64
  deriving DecidableEq, Repr

/-- A virtual function of the host port (R408, R409): enabled by the host, its IDE stream keys by key
set, its TDISP state, and whether it is attached to its plot. -/
structure Vf where
  enabled : Bool
  stream : Option Nat
  ideKeys : NMap Nat
  tdi : Nat
  attached : Bool
  deriving DecidableEq, Repr

/-- The host port (R333, R458). -/
structure HostPort where
  perstHigh : Bool
  linkTraining : Bool
  vfs : NMap Vf
  pcieErrors : W64
  deriving DecidableEq, Repr

/-! ### Management and firmware (chapter 16) -/

/-- A stored firmware image: the fields of Table MGT-5 that the rules use. -/
structure Image where
  cls : Nat
  version : Nat
  svn : Nat
  stateVersion : Nat
  stateMin : Nat
  digest : Nat
  bytes : Bytes
  deriving DecidableEq, Repr

/-- A bank of a class (R429): empty, holding an image, or holding one marked invalid. -/
inductive Bank where
  | empty
  | image (i : Image)
  | invalid (i : Image)
  deriving DecidableEq, Repr

/-- The two banks of a class, which one runs, whether it runs on trial, and the last result (R436); `switchWaits` is an
activation that takes effect at the next reset: of the module, or, for LODGE_LOADER, of the Lodge too (R433). -/
structure FwClass where
  bankA : Bank
  bankB : Bank
  running : Nat
  trial : Bool
  lastResult : Nat
  switchWaits : Bool
  deriving DecidableEq, Repr

/-- A local account of the management service (R421); `password` is none for the one printed on the module's label. -/
structure MgmtAccount where
  name : Nat
  password : Option Bytes
  role : Nat
  changeRequired : Bool
  failures : Nat
  lockedUntil : Nat
  deriving DecidableEq, Repr

/-- A Redfish request that waits for its plot-0 message (R422): the task, and the message's opcode and tag. -/
structure Task where
  id : Nat
  opcode : Nat
  tag : Nat
  deriving DecidableEq, Repr

/-- PLDM firmware update state (R425): 0 idle, 1 learning components, 2 ready to transfer, 3 download, 4 verify, 5
apply; the component under way, the tag of its FW_STAGE, and the classes that have been applied. -/
structure PldmUpdate where
  active : Bool
  cls : Nat
  size : Nat
  received : Bytes
  stage : Nat
  tag : Nat
  applied : List Nat
  deriving DecidableEq, Repr

/-- A recovery session of the ROM (R439, R440). -/
structure RecSession where
  id : Nat
  cls : Nat
  len : Nat
  digest : Nat
  next : Nat
  data : Bytes
  lastTick : Nat
  packets : Nat
  deriving DecidableEq, Repr

/-- ROM recovery mode (R438). -/
structure Recovery where
  active : Bool
  reason : Nat
  requested : Bool
  session : Option RecSession
  nextSession : Nat
  pushed : List Nat
  revertTicks : List Nat
  deriving DecidableEq, Repr

/-- An entry of the field record's log (Table ERR-9). -/
structure FieldEntry where
  cls : Nat
  block : Nat
  cause : Nat
  unit : Nat
  step : Nat
  tick : W64
  deriving DecidableEq, Repr

/-- The management service, the tray BMC's endpoint and the firmware store. -/
structure Mgmt where
  accounts : List MgmtAccount
  sessions : NMap Nat
  nextSession : Nat
  certificate : Bytes
  network : Bytes
  pushBuffer : Bytes
  classes : NMap FwClass
  fuseGatehouse : Nat
  fuseBothy : Nat
  eid : Nat
  tid : Nat
  eventReceiver : Option Nat
  events : List (Nat × Nat)
  subs : List Nat
  nextSub : Nat
  tasks : List Task
  nextTask : Nat
  postTag : Nat
  pldm : PldmUpdate
  errorLog : List (ErrRec × Nat)
  fieldLog : List FieldEntry
  powerOns : Nat
  warmResets : NMap Nat
  /-- What the field record keeps of the module's life (Table ERR-9): ticks out of reset before this one, the training
  results of the last 8 power-ups, the highest temperature of each Pavilion and, from 128, of each stack, the limiter's
  trips, and the droop trips before this reset. -/
  poweredTicks : Nat
  trainLog : List (Nat × Nat × Nat × Nat)
  peaks : NMap Nat
  limiterTrips : Nat
  droopTrips : Nat
  recovery : Recovery
  deriving DecidableEq, Repr

/-- Module registers, pins and power (chapters 01, 12, 13, 17). `hall`, `steady`, `partition`,
`fabricId` and `anchor` are the configuration flash's copies. -/
structure Mod where
  tick : W64
  state : Nat
  hall : Bool
  steady : Bool
  partition : Bool
  modesApplied : Bool
  fabricId : Nat
  anchor : Option Anchor
  sliceUs : Nat
  sliceNext : Nat
  lastBoundary : Nat
  switches : W64
  earlyBoundaries : W64
  ladderCmd : W64
  ladderWait : W64
  ladderTerrace : Nat
  ladderHeartbeat : Nat
  ladderGatehouse : Nat
  fencedPav0 : W64
  fencedPav1 : W64
  fencedUnits : W64
  voidSteps : W64
  unitResets : NMap Nat
  /-- The block and the cause of each fencing, by unit, for the field record (Table ERR-9). -/
  fences : NMap (Nat × Nat)
  rails : Bool
  pwrgd : Bool
  refclk : Bool
  resetHigh : Bool
  faultLow : Bool
  thermtripLow : Bool
  alertLow : Bool
  latched : Bool
  limiter : Bool
  limiterTick : Nat
  warmPending : Bool
  smbAddr : Nat
  junction : Nat
  /-- The board sensor's last input power in W and input voltage in mV (Table MGT-4). -/
  inputWatts : Nat
  inputMv : Nat
  deriving DecidableEq, Repr

/-- What leaves the module: frames, frames of VC0 with what they say, frames that hall mode has sealed (R228: the header,
and the ciphertext with its tag), interrupts and answers, in the order sent. -/
inductive Sent where
  | frame (port : Nat) (f : Frame)
  | control (port : Nat) (f : Frame) (m : Control)
  | sealed (port : Nat) (f : Frame) (ct : Bytes)
  | ethernet (port : Nat) (bytes : Bytes)
  | interrupt (plot vector : Nat)
  | msiWrite (addr data : Nat)
  | spdm (conn code : Nat) (payload : Bytes)
  | tdisp (fn code : Nat) (payload : Bytes)
  | pldm (code completion : Nat) (payload : Bytes)
  | mctp (payload : Bytes)
  | redfish (http status : Nat) (payload : Bytes)
  | mgmtData (payload : Bytes)
  | eventOut (sensor value : Nat)
  | recovery (type session : Nat) (payload : Bytes)
  | hostUr (addr : Nat)
  deriving DecidableEq, Repr

/-- The state of the module. `pending` is the queue of commands, first in, first out; `free` counts the
free values drawn so far and `sent` lists what has left the module: both are the model's own fields. -/
structure State where
  pending : List Instr
  mod : Mod
  mem : Mem
  plots : NMap Plot
  bothy : Bothy
  pavs : NMap Pavilion
  engines : NMap Engine
  ports : NMap Port
  orangery : Orangery
  trellis : Trellis
  gatehouse : Gatehouse
  host : HostPort
  mgmt : Mgmt
  free : Nat
  sent : List Sent
  deriving DecidableEq, Repr

/-! ### Reset values. A table that lists nothing reads as the `init` value of its entries. -/

/-- The memory tiers at reset: nothing listed, MOD_MEM_STATUS zero, patrol at 24 hours (Table MEM-9). -/
def Mem.init : Mem :=
  { bytes := [], poison := [], queues := [], granted := [], zeroing := [], suspectGranules := [],
    retired := [], retiredVolatile := [], gh := [], ghPoison := [], ghResidue := [], ghFenced := [], moveQueue := [],
    moving := [], exits := [], hbmFailed := 0, cfFailed := 0, ready := false, partitionInForce := false,
    degraded := false, trainHbmMs := 0, trainLpddrMs := 0, patrolHours := 24, patrolEnable := true,
    patrolPasses := 0, correctedHbm := 0, correctedCf := 0, poisonedLines := 0, lastPoison := 0,
    err := 0, stackTemp := [], refresh2x := [], stackTripped := [] }

/-- A mailbox area as a plot's opening leaves it (R344, Table BTH-4). -/
def Mailbox.init : Mailbox :=
  { slots := [], held := [], backlog := [], tail := 0, head := 0, lost := 0, lostNew := 0,
    lostFirst := 0, lostLast := 0, vecMask := 0, vecPending := 0, stepHeld := false,
    ringFault := false, msiTarget := false, msiAddr := [], msiData := [], signalled := [] }

/-- No reservation at all: plot 0, and a plot that is closed. -/
def PlotConfig.init : PlotConfig :=
  { driver := 0, scrubMode := 0, weight := 0, hbm0 := 0, hbm1 := 0, cf := 0, kvHbm := 0, kvCf := 0,
    kvTerrace := 0, hbmSlots := 0, cfSlots := 0, groups := 0, gh0 := 0, gh1 := 0, residentQuota := 0,
    seqQuota := 0, retainMib := 0, rxVc1 := 0, rxVc2 := 0, rxVc3 := 0 }

/-- An account record with every counter zero. -/
def Account.init : Account :=
  { heldTicks := 0, arrayCycles := 0, rillCycles := 0, moveCycles := 0, overrunCycles := 0,
    switchCycles := 0, hbmRead := 0, hbmWrite := 0, cfRead := 0, cfWrite := 0, ghBytes := 0,
    avenueTx := 0, avenueRx := 0, hostBytes := 0, energyAttrib := 0, energyShare := 0, steps := 0,
    voidSteps := 0, throttleEvents := 0, throttleTicks := 0, heldMark := 0 }

/-- The default Belvedere settings (Table STP-3): RATIO_HIGH 0.05 and RATIO_LOW 1.0 × 10^−7 as FP32. -/
def BelSettings.init : BelSettings :=
  { warmup := 20, ratioHigh := 0x3D4CCCCD, ratioLow := 0x33D6BF95, stallSteps := 50, uflowExp := 0,
    uflowPpm := 1000, eventMask := 0x7F }

/-- A plot that has not been opened since reset. -/
def Plot.init : Plot :=
  { state := 0, cfg := PlotConfig.init, openTick := 0, closeTick := 0, granulesZeroed := 0, extmemNeighbour := false, extmemResidue := false,
    mail := Mailbox.init, windows := [], contextRuns := [], gh0Units := [], gh1Units := [],
    kvAlloc := [], poolAlloc := [], plans := [], nextPlan := 0, sems := [], groupSteps := [],
    groupNext := [], running := [], ahead := [], binding := none, bindHeld := false, useClock := 0, adapters := [],
    seqs := [], incarnations := [], reportCount := 0, groups := [], routes := [], policies := [],
    fills := [], serving := [], notices := [], partners := [], bel := BelSettings.init, hist := [], histLive := [],
    ratios := [], lastStep := 0, stageFlags := [], keys := [], session := none, attestSeq := 0,
    sched := { vtimeNum := 0, vtimeDen := 1, wasReady := false, grant := 0 },
    account := Account.init }

/-- Zeroed counters of a Pavilion. -/
def PavCounters.init : PavCounters :=
  { slots := 0, bubbles := 0, freezeFeed := 0, freezeDrain := 0, laneFaults := 0, descRetired := 0,
    lsConflicts := 0, misaligned := 0, spills := 0, fills := 0, droops := 0, thermalSteps := 0,
    corrected := 0, programs := 0, scalePasses := 0, elements := 0, srDraws := 0, special := 0,
    rillNonfinite := 0, rillBusy := 0 }

/-- The Parterre with no weights and no pass. -/
def Parterre.init : Parterre :=
  { active := [], shadow := [], activeLoads := [], shadowLoads := [], early := false, begun := false, activeValid := false, shadowValid := false, owner := 0, busy := false,
    shape := 0, lanes := 0, cls := 0, pass := [], bill := [], err := 0 }

/-- A Pavilion at reset: idle, at clock step n = 12 (R29, Table PAV-15), its local store unwritten. -/
def Pavilion.init : Pavilion :=
  { par := Parterre.init, array := [], rill := [], move := [], reload := [], positions := [], span := none,
    context := 0, switchPending := false, granted := 0, since := 0, store := [], storePoison := [], saved := [],
    gbuf := [], gbufClock := 0, rillBusy := false, rillHist := false, rillStoch := false, step := 12,
    nextStep := 12, droop := false, hotspot := 0, lastThermal := 0, tripped := false, err := 0,
    lastRetire := 0, lastReset := none, ctr := PavCounters.init }

/-- A Cascade engine at reset (Table CSC-11). -/
def Engine.init : Engine :=
  { fenced := false, tilesIn := 0, tilesOut := 0, flushed := 0, nonfinite := 0, crcRetries := 0,
    residueRetries := 0, stale := 0, err := 0 }

/-- An Avenue port at reset: link down (Table CSC-14). -/
def Port.init : Port :=
  { linkUp := false, lanesUp := 0, peerId := 0, peerValid := false, peerPort := 0, faulty := false, txSeq := 0,
    retention := [], waiting := [], toAck := [], seen := [], txKey := none, newKey := none, keyFrames := 0,
    keyTick := 0, rekeyWaits := [], rekeyTick := 0, txFrames := 0, rxFrames := 0, rxDropped := 0,
    retransmits := 0, creditWait := 0, fecCorrected := 0, err := 0 }

/-- A virtual function that the host has not enabled. -/
def Vf.init : Vf := { enabled := false, stream := none, ideKeys := [], tdi := 0, attached := false }

/-- A firmware class whose flash holds nothing that the model names. -/
def FwClass.init : FwClass :=
  { bankA := .empty, bankB := .empty, running := 0, trial := false, lastResult := 0,
    switchWaits := false }

/-- Module registers and pins at reset: power good and MOD_RESET_N low, MOD_STATE 1 (Table ARC-7),
MOD_SCHED_CFG 10,000 (Table PLT-8). -/
def Mod.init : Mod :=
  { tick := 0, state := 1, hall := false, steady := false, partition := false, modesApplied := false,
    fabricId := 0, anchor := none, sliceUs := 10000, sliceNext := 10000, lastBoundary := 0,
    switches := 0, earlyBoundaries := 0, ladderCmd := 0, ladderWait := 0, ladderTerrace := 0,
    ladderHeartbeat := 0, ladderGatehouse := 0, fencedPav0 := 0, fencedPav1 := 0, fencedUnits := 0,
    voidSteps := 0, unitResets := [], fences := [], rails := true, pwrgd := true, refclk := true,
    resetHigh := false, faultLow := false, thermtripLow := false, alertLow := false, latched := false,
    limiter := false, limiterTick := 0, warmPending := false,
    smbAddr := 0, junction := 0, inputWatts := 0,
    inputMv := 0 }

/-- The Bothy at reset: not ready, no pair released (R176). -/
def Bothy.init : Bothy :=
  { ready := false, paused := false, pairsUp := 0, scans := 0, taken := 0, refused := 0,
    lostRecords := 0, err := 0, takeOver := none, lastBeat := 0 }

/-- The Orangery's registers at reset (Table ORG-12). -/
def Orangery.init : Orangery :=
  { fp := 0, fpValid := false, prefetches := 0, movedBytes := 0, evictions := 0, deferrals := 0,
    slotConflicts := 0, err := 0 }

/-- The Trellis's registers at reset (Table TRL-17). -/
def Trellis.init : Trellis :=
  { appending := [], lists := 0, rows := 0, padRows := 0, deferred := 0, spills := 0, prefetches := 0,
    waiting := [], seals := 0, walks := 0, genFaults := 0, err := 0 }

/-- The Gatehouse at reset (Table GTH-12). -/
def Gatehouse.init : Gatehouse :=
  { bootOk := false, udsLocked := false, debugUnlocked := false, signer := 0, trngOk := false,
    halted := false, measures := [], lodgeReg := 0, peers := [], conns := [], sessions := [],
    attests := 0, keysInstalled := 0, unwrapFails := 0, err := 0 }

/-- The management service, the firmware store and the logs as a new module carries them. -/
def Mgmt.init : Mgmt :=
  { accounts := [{ name := 0, password := none, role := 0, changeRequired := true, failures := 0, lockedUntil := 0 }], sessions := [], nextSession := 1, certificate := [], network := [],
    pushBuffer := [], classes := [], fuseGatehouse := 0,
    fuseBothy := 0, eid := 0, tid := 0, eventReceiver := none, events := [], subs := [], nextSub := 1,
    tasks := [], nextTask := 1, postTag := 0,
    pldm := { active := false, cls := 0, size := 0, received := [], stage := 0, tag := 0, applied := [] },
    errorLog := [], fieldLog := [], powerOns := 0, warmResets := [],
    poweredTicks := 0, trainLog := [], peaks := [], limiterTrips := 0, droopTrips := 0,
    recovery := { active := false, reason := 0, requested := false, session := none, nextSession := 1,
                  pushed := [], revertTicks := [] } }

/-- The host port at reset: PCIE_PERST_N low, no function enabled. -/
def HostPort.init : HostPort := { perstHigh := false, linkTraining := false, vfs := [], pcieErrors := 0 }

/-- The module right after reset. Only plot 0 is open (Table PLT-7: MOD_PLOTS reads 1). -/
def State.reset : State :=
  { pending := [], mod := Mod.init, mem := Mem.init, plots := [(0, { Plot.init with state := 1 })],
    bothy := Bothy.init, pavs := [], engines := [], ports := [], orangery := Orangery.init,
    trellis := Trellis.init, gatehouse := Gatehouse.init, host := HostPort.init, mgmt := Mgmt.init,
    free := 0, sent := [] }

end Sys2Proof.Machine
end

