-- ==== Sys2Proof/Machine/Ops.lean ====
section
/-! DEFINITION. The named operations over the state: access to each table, device memory and its
controllers (chapter 06), windows and granules, completion and unsolicited records (chapter 14), error
records (chapter 12), and the values drawn where the spec leaves one open. -/

namespace Sys2Proof.Machine

/-- The answer of a command's meaning. -/
abbrev Out := Host.Outcome State Fault Refusal

/-! ### Access to the tables of the state -/

/-- Plot `p`; a plot that is not listed is CLOSED. -/
def State.plot (s : State) (p : Nat) : Plot := s.plots.get Plot.init p

/-- Change plot `p`. -/
def State.updPlot (s : State) (p : Nat) (f : Plot → Plot) : State :=
  { s with plots := s.plots.modify Plot.init p f }

/-- Logical Pavilion `i` (R7). -/
def State.pav (s : State) (i : Nat) : Pavilion := s.pavs.get Pavilion.init i

/-- Whether steady-clock mode is in force: bring-up has applied axis E (R121). -/
def State.steadyNow (s : State) : Bool := s.mod.steady && s.mod.modesApplied

/-- The clock step n that a Pavilion runs at: 12 until bring-up has applied the modes (R29), then the step in force, which
the limiter holds at 6 or lower (Tables PAV-14, HWM-9). -/
def State.clockStep (s : State) (i : Nat) : Nat :=
  if s.mod.modesApplied = false then 12
  else if s.mod.limiter then min 6 (s.pav i).step
  else (s.pav i).step

/-- Change Pavilion `i`. -/
def State.updPav (s : State) (i : Nat) (f : Pavilion → Pavilion) : State :=
  { s with pavs := s.pavs.modify Pavilion.init i f }

/-- Cascade engine `i`: 0 and 1 on the Terraces, 2 to 13 at the ports. -/
def State.engine (s : State) (i : Nat) : Engine := s.engines.get Engine.init i

/-- Change Cascade engine `i`. -/
def State.updEngine (s : State) (i : Nat) (f : Engine → Engine) : State :=
  { s with engines := s.engines.modify Engine.init i f }

/-- Avenue port `i`. -/
def State.port (s : State) (i : Nat) : Port := s.ports.get Port.init i

/-- Change Avenue port `i`. -/
def State.updPort (s : State) (i : Nat) (f : Port → Port) : State :=
  { s with ports := s.ports.modify Port.init i f }

/-- Whether a unit of MOD_FENCED_UNITS is fenced (Table ERR-7). -/
def State.unitFenced (s : State) (bit : Nat) : Bool := bitOf s.mod.fencedUnits.toNat bit

/-- Change the memory tiers. -/
def State.updMem (s : State) (f : Mem → Mem) : State := { s with mem := f s.mem }

/-- Change the module registers and pins. -/
def State.updMod (s : State) (f : Mod → Mod) : State := { s with mod := f s.mod }

/-- Change the mailbox of plot `p`. -/
def State.updMail (s : State) (p : Nat) (f : Mailbox → Mailbox) : State :=
  s.updPlot p (fun q => { q with mail := f q.mail })

/-- Change a plot's account record (Table PLT-4). -/
def State.charge (s : State) (p : Nat) (f : Account → Account) : State :=
  s.updPlot p (fun q => { q with account := f q.account })

/-- What leaves the module, the newest last. -/
def State.emit (s : State) (o : Sent) : State := { s with sent := s.sent ++ [o] }

/-- The tick counter as a number (R12). -/
def State.now (s : State) : Nat := s.mod.tick.toNat

/-- Draw a free value of `w` bits and advance the counter. -/
def State.draw (s : State) (w : Nat) : Nat × State :=
  (Config.freeValue w s.free % 2 ^ w, { s with free := s.free + 1 })

/-- Draw `n` free bytes. -/
def State.drawBytes (s : State) (n : Nat) : Bytes × State :=
  (bytesAt (Config.freeBytes n s.free) 0 n, { s with free := s.free + 1 })

/-- The tenant plots, 1 to 16 (R339). -/
def tenantPlots : List Nat := (List.range 16).map (· + 1)

/-- Whether a plot is OPEN (R342). -/
def State.isOpen (s : State) (p : Nat) : Bool := (s.plot p).state == 1

/-- Whether a plot is CLOSING (R345). -/
def State.isClosing (s : State) (p : Nat) : Bool := (s.plot p).state == 2

/-- Whether some tenant plot is open: OPEN or CLOSING (R21). -/
def State.tenantOpen (s : State) : Bool := tenantPlots.any (fun p => (s.plot p).state != 0)

/-! ### The device address map (Table MEM-1) -/

/-- Bytes of a granule: 2 MiB (R162). -/
def granuleBytes : Nat := 0x200000

/-- What lies at a device address (Table MEM-1). -/
inductive Region where
  | hbm (terrace : Nat)
  | hbmDevice (terrace : Nat)
  | lodge
  | coldFrame
  | registers
  | unmapped
  deriving DecidableEq, Repr

/-- The region of an address (Table MEM-1). -/
def regionOf (a : Nat) : Region :=
  if a < 0x7780000000 then .hbm 0
  else if a < 0x7800000000 then .hbmDevice 0
  else if a < 0xEF80000000 then .hbm 1
  else if a < 0xF000000000 then .hbmDevice 1
  else if a < 0x10000000000 then .unmapped
  else if a < 0x11000000000 then .lodge
  else if a < 0x22000000000 then .coldFrame
  else if a < 0xF00000000000 then .unmapped
  else if a < 0xF00100000000 then .registers
  else .unmapped

/-- The first grantable address of a tier: 0 and 1 the HBM of a Terrace, 3 the Cold Frame. -/
def tierBase (tier : Nat) : Nat :=
  if tier = 0 then 0 else if tier = 1 then 0x7800000000 else 0x11000000000

/-- The grantable granules of a tier (Table MEM-1). -/
def tierGranules (tier : Nat) : Nat := if tier = 3 then 557056 else 244736

/-- The address of a run's first byte. -/
def Run.base (r : Run) : Nat := tierBase r.tier + r.first * granuleBytes

/-- The bytes of a run. -/
def Run.bytes (r : Run) : Nat := r.count * granuleBytes

/-- The controller of an address: stacks 0 to 11 (R155), Cold Frame channels 12 to 35 (R156). -/
def controllerOf (a : Nat) : Nat :=
  if a < 0x7800000000 then a / 4096 % 6
  else if a < 0xF000000000 then 6 + (a - 0x7800000000) / 4096 % 6
  else 12 + (a - 0x10000000000) / 4096 % 24

/-- The address within its stack or channel (R155, R156). -/
def localAddress (a : Nat) : Nat :=
  if a < 0x7800000000 then a / 4096 / 6 * 4096 + a % 4096
  else if a < 0xF000000000 then (a - 0x7800000000) / 4096 / 6 * 4096 + a % 4096
  else (a - 0x10000000000) / 4096 / 24 * 4096 + a % 4096

/-- Lines that a controller's write queue holds (R159). -/
def queueLines (controller : Nat) : Nat := if controller < 12 then 512 else 128

/-- Whether an address is in one of the two HBM ranges. -/
def isHbm (a : Nat) : Bool := decide (a < 0xF000000000)

/-! ### Bytes in canonical form -/

/-- The byte at an address; an unlisted byte reads zero. -/
def cellGet : List Host.Cell → Nat → Byte
  | [], _ => 0
  | (k, v) :: m, a => if a = k then v else cellGet m a

/-- Put a byte at an address, keeping the addresses rising and listing no zero. -/
def cellPut : List Host.Cell → Nat → Byte → List Host.Cell
  | [], a, v => if v = 0 then [] else [(a, v)]
  | (k, w) :: m, a, v =>
    if a < k then (if v = 0 then (k, w) :: m else (a, v) :: (k, w) :: m)
    else if a = k then (if v = 0 then m else (a, v) :: m)
    else (k, w) :: cellPut m a v

/-- Put a string of bytes at an address. -/
def cellPutAll : List Host.Cell → Nat → Bytes → List Host.Cell
  | m, _, [] => m
  | m, a, b :: bs => cellPutAll (cellPut m a b) (a + 1) bs

/-- Put a list of cells, in the list's order. -/
def cellPutCells : List Host.Cell → List Host.Cell → List Host.Cell
  | m, [] => m
  | m, c :: cs => cellPutCells (cellPut m c.1 c.2) cs

/-- Zero `n` bytes from an address. -/
def cellZero (m : List Host.Cell) (a n : Nat) : List Host.Cell :=
  m.filter (fun c => !(decide (a ≤ c.1) && decide (c.1 < a + n)))

/-- The canonical form: addresses strictly rising and no listed zero. -/
def cellsWf : List Host.Cell → Bool
  | [] => true
  | [c] => c.2 != 0
  | c :: d :: m => c.2 != 0 && decide (c.1 < d.1) && cellsWf (d :: m)

/-- The canonical form of device memory. -/
def Mem.wf (m : Mem) : Bool := cellsWf m.bytes

/-! ### Reads and writes of device memory -/

/-- The newest byte that a write queue holds for an address, if any; the queue is oldest first. -/
def queuedByte : List LineWrite → Nat → Option Byte
  | [], _ => none
  | w :: ws, a =>
    match queuedByte ws a with
    | some b => some b
    | none => (w.bytes.find? (fun c => c.1 == a)).map (·.2)

/-- A byte as every agent reads it: the newest accepted write, else the device (R96, R159). -/
def Mem.read (m : Mem) (a : Nat) : Byte :=
  (queuedByte (m.queues.get [] (controllerOf a)) a).getD (cellGet m.bytes a)

/-- `n` bytes from an address. -/
def Mem.readBytes (m : Mem) (a n : Nat) : Bytes := (List.range n).map (fun i => m.read (a + i))

/-- A little-endian value of `n` bytes (R6). -/
def Mem.readNat (m : Mem) (a n : Nat) : Nat := leNat (m.readBytes a n)

/-- Whether a line is poisoned as every agent reads it (R172): the newest accepted write of the line
decides when it writes the whole line or is itself poisoned. -/
def Mem.linePoisoned (m : Mem) (line : Nat) : Bool :=
  (m.queues.get [] (controllerOf (line * 64))).foldl
    (fun p w => if w.line = line then (if w.poisoned then true else if w.bytes.length = 64 then false else p)
                else p)
    (m.poison.contains line)

/-- Whether any of `n` bytes from an address lies in a poisoned line. -/
def Mem.poisonedIn (m : Mem) (a n : Nat) : Bool :=
  n != 0 && (List.range ((a + n - 1) / 64 - a / 64 + 1)).any (fun i => m.linePoisoned (a / 64 + i))

/-- Set a line's poison bit. -/
def Mem.poisonLine (m : Mem) (line : Nat) : Mem :=
  if m.poison.contains line then m
  else { m with poison := m.poison.filter (· < line) ++ line :: m.poison.filter (line < ·) }

/-- Issue a line write to the device: its bytes are stored; a whole line clears the poison bit, part of
a line leaves it set, and a poisoned write sets it (R173). -/
def Mem.issue (m : Mem) (w : LineWrite) : Mem :=
  let m := { m with bytes := cellPutCells m.bytes w.bytes }
  if w.poisoned then m.poisonLine w.line
  else if w.bytes.length = 64 then { m with poison := m.poison.filter (· != w.line) }
  else m

/-- A queued write whose bytes of a range take new values: what stands in the queue is superseded, and a write of a whole
line stays one (R173). -/
def overlay (a n : Nat) (new : Nat → Byte) (c : Host.Cell) : Host.Cell :=
  if a ≤ c.1 ∧ c.1 < a + n then (c.1, new (c.1 - a)) else c

/-- A write by the Bothy firmware that passes the queues: queued bytes of the range are superseded and
the bytes stored; lines covered whole lose their poison (R173). -/
def Mem.write (m : Mem) (a : Nat) (bs : Bytes) : Mem :=
  { m with
    bytes := cellPutAll m.bytes a bs
    queues := m.queues.mapVals (fun q => q.map (fun w =>
      { w with bytes := w.bytes.map (overlay a bs.length (fun i => bs.getD i 0))
               poisoned := w.poisoned && !(decide (a ≤ w.line * 64) && decide (w.line * 64 + 64 ≤ a + bs.length)) }))
    poison := m.poison.filter (fun l => !(decide (a ≤ l * 64) && decide (l * 64 + 64 ≤ a + bs.length))) }

/-- Zero `n` bytes from an address: queued writes of the range are superseded, and the poison of lines
covered whole is cleared. -/
def Mem.zero (m : Mem) (a n : Nat) : Mem :=
  { m with
    bytes := cellZero m.bytes a n
    queues := m.queues.mapVals (fun q => q.map (fun w =>
      { w with bytes := w.bytes.map (overlay a n (fun _ => 0)),
               poisoned := w.poisoned && !(decide (a ≤ w.line * 64) && decide (w.line * 64 < a + n)) }))
    poison := m.poison.filter (fun l => !(decide (a ≤ l * 64) && decide (l * 64 + 64 ≤ a + n))) }

/-- Zero a run of granules. -/
def Mem.zeroRun (m : Mem) (r : Run) : Mem := m.zero r.base r.bytes

/-- The line writes of a byte string at an address, one for each 64-byte line in rising order. -/
def lineWrites (plot a : Nat) (bs : Bytes) (poisoned : Bool) : List LineWrite :=
  let lines := if bs.isEmpty then 0 else (a + bs.length - 1) / 64 - a / 64 + 1
  (List.range lines).map (fun i =>
    let l := a / 64 + i
    let lo := max a (l * 64)
    let hi := min (a + bs.length) (l * 64 + 64)
    { line := l, plot := plot, poisoned := poisoned,
      bytes := (List.range (hi - lo)).map (fun j => (lo + j, (bs.drop (lo + j - a)).headD 0)) })

/-- The controllers that a list of line writes reserves credits from, with how many each. -/
def creditsOf (ws : List LineWrite) : NMap Nat :=
  ws.foldl (fun m w => m.modify 0 (controllerOf (w.line * 64)) (· + 1)) []

/-- The write credits that a move holds from its start to its retirement (R168): the 64 lines of the destination's first
4 KiB unit, which lies in one stack or channel. DESIGN CHOICE: the mover goes on unit by unit with the same credits. -/
def Move.credits (m : Move) : NMap Nat := [(controllerOf m.dst, 64)]

/-- The write credits of a controller that are taken: its queued lines, and those that started moves hold. -/
def Mem.creditsHeld (m : Mem) (c : Nat) : Nat :=
  (m.queues.get [] c).length + (m.moving.map (fun v => v.credits.get 0 c)).sum

/-- Whether every credit of a reservation is free: a stage takes its whole output space or nothing
(R17). -/
def Mem.room (m : Mem) (ws : List LineWrite) : Bool :=
  (creditsOf ws).all (fun e => decide (m.creditsHeld e.1 + e.2 ≤ queueLines e.1))

/-- Put line writes at the ends of their controllers' queues. -/
def Mem.enqueue (m : Mem) (ws : List LineWrite) : Mem :=
  { m with queues := ws.foldl (fun q w => q.modify [] (controllerOf (w.line * 64)) (· ++ [w])) m.queues }

/-- Whether some line of a range lies on a stack whose controller has stopped (R160): it issues no command to it. -/
def Mem.stopped (m : Mem) (a n : Nat) : Bool :=
  !m.stackTripped.isEmpty && n != 0 &&
    (List.range ((a + n - 1) / 64 - a / 64 + 1)).any (fun i => m.stackTripped.contains (controllerOf ((a / 64 + i) * 64)))

/-- A write that an agent posts: on a stopped stack it stays in the controller's queue. -/
def Mem.post (m : Mem) (plot a : Nat) (bs : Bytes) : Mem :=
  if m.stopped a bs.length then m.enqueue (lineWrites plot a bs false) else m.write a bs

/-- The same of bytes that come marked poisoned: every line of them is (R173). -/
def Mem.postBad (m : Mem) (plot a : Nat) (bs : Bytes) : Mem :=
  let ws := lineWrites plot a bs true
  if m.stopped a bs.length then m.enqueue ws else (ws.map (·.line)).foldl Mem.poisonLine (m.write a bs)

/-- The bytes of a list of line writes that go to HBM, and to the Cold Frame. -/
def trafficOf (ws : List LineWrite) : Nat × Nat :=
  ws.foldl (fun t w => if isHbm (w.line * 64) then (t.1 + w.bytes.length, t.2) else (t.1, t.2 + w.bytes.length))
    (0, 0)

/-- Count bytes that a plot's agent has read (R355). -/
def State.chargeRead (s : State) (p a n : Nat) : State :=
  s.charge p (fun c => if isHbm a then { c with hbmRead := c.hbmRead + BitVec.ofNat 64 n }
                       else { c with cfRead := c.cfRead + BitVec.ofNat 64 n })

/-- Count bytes that a plot's agent has written (R355). -/
def State.chargeWrite (s : State) (p a n : Nat) : State :=
  s.charge p (fun c => if isHbm a then { c with hbmWrite := c.hbmWrite + BitVec.ofNat 64 n }
                       else { c with cfWrite := c.cfWrite + BitVec.ofNat 64 n })

/-! ### Windows and granules (R162 to R166) -/

/-- The end of the window of a list that holds an address, if one does. -/
def windowEnd (ws : List Run) (a : Nat) : Option Nat :=
  (ws.find? (fun r => decide (r.base ≤ a) && decide (a < r.base + r.bytes))).map (fun r => r.base + r.bytes)

/-- Whether `n` bytes from an address lie in the windows of a list, taken together. -/
def coveredBy (ws : List Run) : Nat → Nat → Nat → Bool
  | _, _, 0 => true
  | 0, _, _ + 1 => false
  | fuel + 1, a, n + 1 =>
    match windowEnd ws a with
    | none => false
    | some e => if a + (n + 1) ≤ e then true else coveredBy ws fuel e (a + (n + 1) - e)

/-- A plot's windows as runs. -/
def Plot.windowRuns (q : Plot) : List Run := q.windows.map (·.2)

/-- Whether `n` bytes from an address lie in a plot's windows (R163). -/
def State.inWindows (s : State) (p a n : Nat) : Bool :=
  coveredBy (s.plot p).windowRuns ((s.plot p).windowRuns.length + 1) a n

/-- Whether `n` bytes from an address lie in one window of a plot. -/
def State.inOneWindow (s : State) (p a n : Nat) : Bool :=
  (s.plot p).windowRuns.any (fun r => decide (r.base ≤ a) && decide (a + n ≤ r.base + r.bytes))

/-- Whether `n` bytes from an address lie in a plot's HBM windows. -/
def State.inHbmWindows (s : State) (p a n : Nat) : Bool :=
  coveredBy ((s.plot p).windowRuns.filter (fun r => r.tier != 3)) ((s.plot p).windowRuns.length + 1) a n

/-- The granules of a tier that cannot be granted: granted, being zeroed, or retired. -/
def Mem.usedRuns (m : Mem) (tier : Nat) : List (Nat × Nat) :=
  ((m.granted ++ m.zeroing.map (·.run)).filter (fun r => r.tier == tier)).map (fun r => (r.first, r.count)) ++
  ((m.retired ++ m.retiredVolatile).filter (fun g => g.1 == tier)).map (fun g => (g.2, 1))

/-- Whether `n` granules of a tier from an index are free. -/
def Mem.runFree (m : Mem) (tier first n : Nat) : Bool :=
  decide (first + n ≤ tierGranules tier) &&
  (m.usedRuns tier).all (fun u => decide (u.1 + u.2 ≤ first) || decide (first + n ≤ u.1))

/-- The places where a free run can start: index 0 and the end of each used run. -/
def Mem.runStarts (m : Mem) (tier : Nat) : List Nat := 0 :: (m.usedRuns tier).map (fun u => u.1 + u.2)

/-- The least of a list of numbers, if any. -/
def leastOf : List Nat → Option Nat
  | [] => none
  | a :: l => match leastOf l with
    | none => some a
    | some b => some (min a b)

/-- The lowest free run of `n` granules of a tier (Table MEM-4). -/
def Mem.lowestRun (m : Mem) (tier n : Nat) : Option Nat :=
  leastOf ((m.runStarts tier).filter (fun f => m.runFree tier f n))

/-- The length of the free run that starts at a granule. -/
def Mem.freeFrom (m : Mem) (tier first : Nat) : Nat :=
  if m.runFree tier first 1 then
    ((leastOf (((m.usedRuns tier).filter (fun u => decide (first < u.1))).map (·.1))).getD (tierGranules tier)) - first
  else 0

/-- The longest free run of a tier. -/
def Mem.longestFree (m : Mem) (tier : Nat) : Nat :=
  (m.runStarts tier).foldl (fun b f => max b (m.freeFrom tier f)) 0

/-- The granules of a tier that retirement leaves grantable (R175). -/
def Mem.grantable (m : Mem) (tier : Nat) : Nat :=
  tierGranules tier - ((m.retired ++ m.retiredVolatile).filter (fun g => g.1 == tier)).length

/-- The granules of a tier that a plot uses: windows, context areas and plan copies (Table BTH-15). -/
def Plot.used (q : Plot) (tier : Nat) : Nat :=
  (((q.windowRuns ++ q.contextRuns ++ (q.plans.map (fun e => e.2.runs)).flatten).filter
    (fun r => r.tier == tier)).map (·.count)).sum

/-- A plot's quota in a tier (Table PLT-2). -/
def Plot.quota (q : Plot) (tier : Nat) : Nat :=
  if tier = 0 then q.cfg.hbm0 else if tier = 1 then q.cfg.hbm1 else q.cfg.cf

/-- Grant a run of granules: it leaves the free pool. Free granules are zero (R162). -/
def Mem.grant (m : Mem) (r : Run) : Mem := { m with granted := m.granted ++ [r] }

/-- Release runs: each is handed to the firmware's zeroing (R166). -/
def Mem.release (m : Mem) (plot : Nat) (closing : Bool) (rs : List Run) : Mem :=
  { m with granted := m.granted.filter (fun r => !rs.contains r)
           zeroing := m.zeroing ++ rs.map (fun r => { run := r, plot := plot, closing := closing }) }

/-! ### Requests and records (R364 to R374) -/

/-- The opcode of ERROR records (Table BTH-5). -/
def srcError : Nat := 0x800F

/-- Records that a backlog holds (R372). -/
def backlogSize : Nat := 65536

/-- Records kept in reserve for completions (R373). -/
def backlogReserve : Nat := 32

/-- Free backlog records below which no step starts and no sequence event is created (R373). -/
def stepBacklog : Nat := 24576

/-- The oldest request of a plot that is taken and not started (R365). -/
def State.oldest (s : State) (p : Nat) : Option Req :=
  (s.plot p).mail.held.find? (fun r => r.phase == .taken)

/-- The request that a plot holds in a slot, if any. -/
def State.heldIn (s : State) (p slot : Nat) : Option Req :=
  (s.plot p).mail.held.find? (fun r => r.slot == slot && r.phase != .completed)

/-- Put a request into another phase. -/
def State.setPhase (s : State) (p slot : Nat) (ph : Phase) : State :=
  s.updMail p (fun m => { m with held := m.held.map (fun r => if r.slot = slot then { r with phase := ph } else r) })

/-- Append a record to a plot's backlog. While the plot is CLOSING or CLOSED none enters (R345). -/
def State.post (s : State) (p : Nat) (r : Rec) : State :=
  if s.isOpen p then s.updMail p (fun m => { m with backlog := m.backlog ++ [r] }) else s

/-- Complete a request with a status, a detail word and a result (R368, R370). -/
def State.completeWith (s : State) (p : Nat) (r : Req) (status dcode detail : Nat) (body : Bytes) : State :=
  (s.setPhase p r.slot .completed).post p
    { slot := r.slot, opcode := r.opcode, status := status, dcode := dcode, tag := r.tag,
      detail := detail, body := body, vector := r.vector }

/-- Complete a request with ST_OK and a result. -/
def State.ok (s : State) (p : Nat) (r : Req) (body : Bytes) : State := s.completeWith p r 0 0 0 body

/-- Refuse a request: it changes nothing but its completion (R366). -/
def State.refuse (s : State) (p : Nat) (r : Req) (status : Nat) : State := s.completeWith p r status 0 0 []

/-- Whether a Bothy take-over that waits or runs holds a message: every message of plot 0 (R432), but for FW_STAGE and
FW_ACTIVATE, which are told that one is in progress (R431). -/
def State.heldByTakeOver (s : State) (p opcode : Nat) : Bool :=
  s.bothy.takeOver.isSome && p == 0 && opcode != 0x0A01 && opcode != 0x0A02

/-- Serve the oldest request of a plot when it carries the opcode and the operation that the command
stands for; otherwise it is not this command's turn and nothing happens (R365). -/
def State.serve (s : State) (p opcode : Nat) (sel : Bytes → Bool) (work : Req → State → State) : State :=
  match s.oldest p with
  | none => s
  | some r => if r.opcode = opcode ∧ sel r.payload = true ∧ s.heldByTakeOver p opcode = false then work r s else s

/-- Free records of a plot's backlog. -/
def Plot.backlogFree (q : Plot) : Nat := backlogSize - q.mail.backlog.length

/-- An unsolicited record: slot 0xFF, ST_OK, vector 0 (Table BTH-5, R374). -/
def unsolicitedRec (source : Nat) (body : Bytes) : Rec :=
  { slot := 255, opcode := source, status := 0, dcode := 0, tag := 0, detail := 0, body := body, vector := 0 }

/-- Post an unsolicited record to a plot, or lose it when only the reserve is left (R373). Unsolicited
records signal vector 0 (R374). -/
def State.unsolicited (s : State) (p source : Nat) (body : Bytes) : State :=
  if backlogReserve < (s.plot p).backlogFree then
    s.post p (unsolicitedRec source body)
  else if s.isOpen p then
    { s.updMail p (fun m => { m with
        lost := m.lost + 1, lostNew := m.lostNew + 1,
        lostFirst := if m.lostNew = 0 then s.mod.tick else m.lostFirst, lostLast := s.mod.tick }) with
      bothy := { s.bothy with lostRecords := s.bothy.lostRecords + 1, err := s.bothy.err ||| 4 } }
  else s

/-- The step that an event arising from no step in particular names: the highest running step of the
plot, or all ones (R466). -/
def Plot.eventStep (q : Plot) : Nat :=
  match q.running with
  | [] => 0xFFFFFFFFFFFFFFFF
  | st :: sts => sts.foldl (fun m t => max m t.step) st.step

/-! ### Error records (R334) -/

/-- Whether two error records merge: one class, block, cause and unit in one step. -/
def ErrRec.sameKey (a b : ErrRec) : Bool :=
  a.cls == b.cls && a.block == b.block && a.cause == b.cause && a.unit == b.unit && a.step == b.step

/-- The body of an error record (Table ERR-6). -/
def ErrRec.body (e : ErrRec) : Bytes :=
  natLE 2 e.cls ++ natLE 1 e.block ++ natLE 1 e.cause ++ natLE 2 e.unit ++ natLE 2 0 ++
  natLE 4 e.descId ++ natLE 4 e.tag ++ natLE 8 e.step ++ natLE 8 e.address ++ natLE 4 e.count ++
  natLE 4 0 ++ natLE 8 e.tick.toNat

/-- What a plot sees of an error: a FENCED cause is hidden (R320, R335). -/
def ErrRec.shown (e : ErrRec) : ErrRec :=
  if e.cls = 4 then { e with block := 0, cause := 0, unit := 0xFFFF } else e

/-- Merge an error into a list of a step's errors, or append it. -/
def mergeError (es : List ErrRec) (e : ErrRec) : List ErrRec :=
  if es.any (fun x => x.sameKey e) then
    es.map (fun x => if x.sameKey e then { x with count := x.count + 1 } else x)
  else es ++ [e]

/-- Raise the COUNT of the backlog's record of an error that has occurred again. -/
def recountError (l : List Rec) (e : ErrRec) : List Rec :=
  l.map (fun r =>
    if r.opcode = srcError ∧ r.slot = 255 ∧ r.body.take 6 = e.body.take 6 ∧ fieldAt r.body 0x10 8 = e.step then
      { r with body := r.body.take 0x20 ++ natLE 4 (fieldAt r.body 0x20 4 + 1) ++ r.body.drop 0x24 }
    else r)

/-- An event for the subscribers of EventService (Table MGT-1). -/
def State.notify (s : State) (sensor value : Nat) : State :=
  if s.mgmt.subs.isEmpty then s else s.emit (.eventOut sensor value)

/-- The error log for management keeps the newest 4,096 records (R426); subscribers hear of each (Table MGT-1). -/
def State.logError (s : State) (p : Nat) (e : ErrRec) : State :=
  let s := s.notify 0 (e.cls * 65536 + e.block * 256 + e.cause)
  let log := s.mgmt.errorLog ++ [(e, p)]
  let fl := s.mgmt.fieldLog ++ [{ cls := e.cls, block := e.block, cause := e.cause, unit := e.unit, step := e.step, tick := e.tick }]
  { s with mgmt := { s.mgmt with errorLog := log.drop (log.length - 4096)
                                 fieldLog := fl.drop (fl.length - 1024) } }

/-- The records that a step posts before the OVERFLOW record: 255 (R334). -/
def errorCap : Nat := 255

/-- An error of a plot: management is told in full; the plot's record is posted at the first occurrence,
and later ones of the same key in the same step raise its COUNT (R334). Records past the 255th of a step
wait for the step's end. -/
def State.raise (s : State) (p : Nat) (e0 : ErrRec) : State :=
  let s := s.logError p e0
  let e := e0.shown
  match (s.plot p).running.find? (fun st => st.step == e.step) with
  | none => s.unsolicited p srcError e.body
  | some st =>
    let again := st.errors.any (fun x => x.sameKey e)
    let s := s.updPlot p (fun q => { q with running := q.running.map (fun t =>
      if t.plan = st.plan then { t with errors := mergeError t.errors e } else t) })
    if again then s.updMail p (fun m => { m with backlog := recountError m.backlog e })
    else if st.errors.length < errorCap then s.unsolicited p srcError e.body
    else s

/-- An error record of a class, block, cause and unit at the current tick. -/
def State.errOf (s : State) (cls block cause unit step : Nat) : ErrRec :=
  { cls := cls, block := block, cause := cause, unit := unit, descId := 0, tag := 0, step := step,
    address := 0, count := 1, tick := s.mod.tick }

/-- The ADDRESS field of Table ERR-6 with VALID set. -/
def validAddress (a : Nat) : Nat := a % 2 ^ 48 + 2 ^ 63

/-- Make a running step of a plot void on the module (R323); MOD_VOID_STEPS counts it once. -/
def State.makeVoid (s : State) (p plan : Nat) : State :=
  if (s.plot p).running.all (fun t => t.plan != plan || t.isVoid) then s
  else
    { (s.updPlot p (fun q => { q with
        running := q.running.map (fun t => if t.plan = plan then { t with isVoid := true } else t)
        account := { q.account with voidSteps := q.account.voidSteps + 1 } })) with
      mod := { s.mod with voidSteps := s.mod.voidSteps + 1 } }

/-- Make every running step of a plot void. -/
def State.makeVoidAll (s : State) (p : Nat) : State :=
  (s.plot p).running.foldl (fun t st => t.makeVoid p st.plan) s

/-- The step that an error of a plan's descriptor names. -/
def Plot.stepOf (q : Plot) (plan : Nat) : Nat :=
  match q.running.find? (fun st => st.plan == plan) with
  | some st => st.step
  | none => 0xFFFFFFFFFFFFFFFF

/-- The ADDRESS field of a plot's record: a device address in the plot's windows, else not VALID (Table
ERR-6). -/
def State.shownAddress (s : State) (p a : Nat) : Nat := if s.inWindows p a 1 then validAddress a else 0

/-- An address fault of a plot's agent: the access is dropped, MOD_MEM_ERR.ADDRESS_FAULT is set and the
plot's record posted (R153, R163, Table ERR-2). -/
def State.addressFault (s : State) (p a : Nat) : State :=
  let s := s.updMem (fun m => { m with err := m.err ||| 8 })
  s.raise p { s.errOf 5 3 3 0xFFFF (s.plot p).eventStep with address := s.shownAddress p a }

end Sys2Proof.Machine
end

