-- ==== Sys2Proof/Machine/Grants.lean ====
section
/-! DEFINITION. The Pavilions that a plot is granted (R347, R348, R350): its need, its virtual time, what it is charged for
holding them, and the grants that stand. -/

namespace Sys2Proof.Machine

/-! ### Needs and virtual time (R347) -/

/-- A plot's need: the Pavilions of its plans with a running step, as a mask. -/
def Plot.need (q : Plot) : Nat :=
  q.running.foldl (fun m st => match q.plans.find st.plan with | some pl => m ||| pl.header.need | none => m) 0

/-- Whether a plot is ready. -/
def Plot.ready (q : Plot) : Bool := q.need != 0

/-- Logical Pavilions. -/
def pavilions : List Nat := List.range 128

/-- Whether one virtual time is below another. -/
def Sched.before (a b : Sched) : Bool := decide (a.vtimeNum * b.vtimeDen < b.vtimeNum * a.vtimeDen)

/-- The larger of two virtual times. -/
def Sched.catchUp (a b : Sched) : Sched := if a.before b then { a with vtimeNum := b.vtimeNum, vtimeDen := b.vtimeDen } else a

/-- Add held ticks over a weight: h / weight, exactly. -/
def Sched.charge (a : Sched) (h weight : Nat) : Sched :=
  if a.vtimeDen % weight = 0 then { a with vtimeNum := a.vtimeNum + h * (a.vtimeDen / weight) }
  else { a with vtimeNum := a.vtimeNum * weight + h * a.vtimeDen, vtimeDen := a.vtimeDen * weight }

/-- Charge a plot's held time, in Pavilion-ticks. -/
def State.chargeHeld (s : State) (p h : Nat) : State :=
  s.updPlot p (fun q => { q with
    sched := q.sched.charge h (max 1 q.cfg.weight), account := { q.account with heldTicks := q.account.heldTicks + BitVec.ofNat 64 h } })

/-- Charge what a Pavilion's plot has held it for, up to a tick. -/
def State.chargePav (s : State) (i upto : Nat) : State :=
  let v := s.pav i
  if v.context = 0 ∨ v.granted = 0 then s
  else (s.chargeHeld v.context (upto - v.since)).updPav i (fun v => { v with since := upto })

/-! ### Grants (R347, R348) -/

/-- The plot that a list of grants gives a Pavilion to, or 0. -/
def ownerOf (gs : List (Nat × Nat)) (i : Nat) : Nat := ((gs.find? (fun g => bitOf g.2 i)).map (·.1)).getD 0

/-- A tick that never comes: from it no held time is charged. -/
def neverTick : Nat := 2 ^ 64

/-- A Pavilion under its new owner: one that holds the owner's context goes on; another's switches, and the plot of an
idle context is not charged; without an owner the context stays and idles (R348). -/
def Pavilion.grantTo (v : Pavilion) (p now : Nat) : Pavilion :=
  if p = 0 then { v with granted := 0, switchPending := false }
  else if v.context = p then { v with granted := p, switchPending := false, since := if v.granted = 0 ∨ now < v.since then now else v.since }
  else { v with granted := p, switchPending := true, since := if v.granted = 0 then neverTick else v.since }

/-- Put grants in force on a set of Pavilions. -/
def State.applyGrants (s : State) (gs : List (Nat × Nat)) (on : Nat → Bool) : State :=
  { s with
    pavs := (pavilions.filter on).foldl (fun m i =>
      let v := s.pav i
      let w := v.grantTo (ownerOf gs i) s.now
      if w = v then m else NMap.set m i w) s.pavs
    plots := s.plots.map (fun e => (e.1, { e.2 with sched := { e.2.sched with
      grant := ((gs.find? (fun g => g.1 == e.1)).map (·.2)).getD 0 } })) }

/-- The grants that stand. -/
def State.standing (s : State) : List (Nat × Nat) :=
  (tenantPlots.filter (fun p => (s.plot p).sched.grant != 0)).map (fun p => (p, (s.plot p).sched.grant))

/-- A plot loses its grant, and what it has held so far is charged; its contexts stay (R348). -/
def State.dropGrant (s : State) (p : Nat) : State :=
  let grant := (s.plot p).sched.grant
  if grant = 0 then s
  else
    let s := pavilions.foldl (fun t i => if (t.pav i).granted = p && (t.pav i).context = p then t.chargePav i t.now else t) s
    s.applyGrants (s.standing.filter (fun g => g.1 != p)) (fun i => bitOf grant i)

/-- A plot that has stopped being ready loses its grant (R347). -/
def State.dropIdleGrant (s : State) (p : Nat) : State := if (s.plot p).ready then s else s.dropGrant p

end Sys2Proof.Machine
end

