-- ==== Sys2Proof/Machine/Flags.lean ====
section
/-! DEFINITION. Status codes of completions (Tables BTH-8, BTH-14, GTH-11, MGT-6) and the write-1-to-clear
error registers. -/

namespace Sys2Proof.Machine

def stOk : Nat := 0x0000
def stBadOpcode : Nat := 0x0101
def stBadLength : Nat := 0x0102
def stNotPermitted : Nat := 0x0103
def stNoMemory : Nat := 0x0201
def stShareExceeded : Nat := 0x0202
def stWindowBusy : Nat := 0x0203
def stPlanMismatch : Nat := 0x0301
def stPlanBusy : Nat := 0x0302
def stAborted : Nat := 0x0303
def stSlotConflict : Nat := 0x0401
def stAdapterPinned : Nat := 0x0402
def stStaleBase : Nat := 0x0403
def stHandleInUse : Nat := 0x0404
def stUnknownAdapter : Nat := 0x0405
def stBadBundle : Nat := 0x0406
def stAdapterRevoked : Nat := 0x0407
def stSeqBusy : Nat := 0x0501
def stUnknownSequence : Nat := 0x0502
def stGroupLost : Nat := 0x0601
def stGroupMismatch : Nat := 0x0602
def stGroupBusy : Nat := 0x0603
def stRouteUnreachable : Nat := 0x0604
def stSnapshotMismatch : Nat := 0x0701
def stNoStandby : Nat := 0x0702
def stNoSource : Nat := 0x0703
def stPartnerRefused : Nat := 0x0704
def stNoImage : Nat := 0x0705
def stAttestRequired : Nat := 0x0801
def stKeyRejected : Nat := 0x0802
def stNotInSet : Nat := 0x0803
def stSvnTooLow : Nat := 0x0804
def stRollbackRefused : Nat := 0x0A01
def stFwBadImage : Nat := 0x0A02
def stFwIncompatible : Nat := 0x0A03
def stFwNotStaged : Nat := 0x0A04
def stFwBusy : Nat := 0x0A05
def stOverlapRefused : Nat := 0x0E01
def stTimeout : Nat := 0x0F01
def stStepFaulted : Nat := 0x0F02
def stUnitFenced : Nat := 0x0F03

/-- A write to an error register: writing 1 clears the matching flags and writing 0 leaves them. -/
def w1c (flags : W64) (value : Nat) : W64 := flags &&& ~~~(BitVec.ofNat 64 value)

/-- Set flag `i` of an error register. -/
def setFlag (flags : W64) (i : Nat) : W64 := flags ||| BitVec.ofNat 64 (2 ^ i)

/-- MODE bits of MOD_MODE (Table ARC-7): axes D, E and F. -/
def Mod.modeBits (m : Mod) : Nat := b2n m.hall + 2 * b2n m.steady + 4 * b2n m.partition

/-- PRT_ERR write (Table PAR-9). -/
def execPrtErrWrite (pav value : Nat) (s : State) : Out :=
  .next (s.updPav pav (fun v => { v with par := { v.par with err := w1c v.par.err value } }))

/-- PAV_ERR write (Table PAV-15). -/
def execPavErrWrite (pav value : Nat) (s : State) : Out :=
  .next (s.updPav pav (fun v => { v with err := w1c v.err value }))

/-- MOD_MEM_ERR write (Table MEM-9). -/
def execModMemErrWrite (value : Nat) (s : State) : Out :=
  .next (s.updMem (fun m => { m with err := w1c m.err value }))

/-- CSC_ERR write of an engine (Table CSC-11). -/
def execCscErrWrite (engine value : Nat) (s : State) : Out :=
  .next (s.updEngine engine (fun e => { e with err := w1c e.err value }))

/-- AVN_ERR write of a port (Table CSC-14). -/
def execAvnErrWrite (port value : Nat) (s : State) : Out :=
  .next (s.updPort port (fun q => { q with err := w1c q.err value }))

/-- ORG_ERR write (Table ORG-12). -/
def execOrgErrWrite (value : Nat) (s : State) : Out :=
  .next { s with orangery := { s.orangery with err := w1c s.orangery.err value } }

/-- TRL_ERR write (Table TRL-17). -/
def execTrlErrWrite (value : Nat) (s : State) : Out :=
  .next { s with trellis := { s.trellis with err := w1c s.trellis.err value } }

/-- BTH_ERR write (Table BTH-20). -/
def execBthErrWrite (value : Nat) (s : State) : Out :=
  .next { s with bothy := { s.bothy with err := w1c s.bothy.err value } }

/-- GTH_ERR write (Table GTH-12). -/
def execGthErrWrite (value : Nat) (s : State) : Out :=
  .next { s with gatehouse := { s.gatehouse with err := w1c s.gatehouse.err value } }

end Sys2Proof.Machine
end

