-- ==== Sys2Proof/Machine/Operands.lean ====
section
/-! DEFINITION. Requests: the message catalogue (Table BTH-7), the layout and the validation of a request
slot (R362, R366), and the fields of the payloads. -/

namespace Sys2Proof.Machine

/-! ### Opcodes (Table BTH-7) -/

def opPlotOpen : Nat := 0x0101
def opPlotClose : Nat := 0x0102
def opPlotQuery : Nat := 0x0103
def opModuleInfo : Nat := 0x0110
def opMemMap : Nat := 0x0201
def opMemUnmap : Nat := 0x0202
def opMemScrub : Nat := 0x0203
def opPlanLoad : Nat := 0x0301
def opPlanDrop : Nat := 0x0302
def opStepRun : Nat := 0x0310
def opStepAbort : Nat := 0x0311
def opAdapterRegister : Nat := 0x0401
def opAdapterAdmit : Nat := 0x0402
def opAdapterEvict : Nat := 0x0403
def opBaseBind : Nat := 0x0404
def opSeqAdmit : Nat := 0x0501
def opSeqEdit : Nat := 0x0502
def opSeqRetire : Nat := 0x0503
def opGroupJoin : Nat := 0x0601
def opGroupLeave : Nat := 0x0602
def opRouteSet : Nat := 0x0603
def opSnapshotBegin : Nat := 0x0701
def opSnapshotQuery : Nat := 0x0702
def opRestore : Nat := 0x0703
def opSurvivePolicy : Nat := 0x0710
def opMemberLost : Nat := 0x0711
def opAttestGet : Nat := 0x0801
def opKeyInstall : Nat := 0x0802
def opTelemetryRead : Nat := 0x0901
def opAccountRead : Nat := 0x0902
def opBelvedereCfg : Nat := 0x0903
def opFwStage : Nat := 0x0A01
def opFwActivate : Nat := 0x0A02
def opFwQuery : Nat := 0x0A03

/-- Where a message may be posted (Table BTH-7). -/
inductive Area where
  | plot0
  | tenant
  | both
  deriving DecidableEq, Repr

/-- Opcode, area and request bytes of each message (Table BTH-7); the length of ROUTE_SET and
SURVIVE_POLICY depends on a payload field and stands as 0. -/
def catalogue : List (Nat × Area × Nat) :=
  [(opPlotOpen, .plot0, 64),
   (opPlotClose, .plot0, 8),
   (opPlotQuery, .both, 8),
   (opModuleInfo, .both, 16),
   (opMemMap, .tenant, 16),
   (opMemUnmap, .tenant, 8),
   (opMemScrub, .tenant, 12),
   (opPlanLoad, .tenant, 32),
   (opPlanDrop, .tenant, 8),
   (opStepRun, .tenant, 16),
   (opStepAbort, .tenant, 8),
   (opAdapterRegister, .tenant, 32),
   (opAdapterAdmit, .tenant, 16),
   (opAdapterEvict, .tenant, 8),
   (opBaseBind, .tenant, 64),
   (opSeqAdmit, .tenant, 64),
   (opSeqEdit, .tenant, 32)] ++
  [(opSeqRetire, .tenant, 8),
   (opGroupJoin, .tenant, 40),
   (opGroupLeave, .tenant, 8),
   (opRouteSet, .tenant, 0),
   (opSnapshotBegin, .tenant, 64),
   (opSnapshotQuery, .tenant, 8),
   (opRestore, .tenant, 48),
   (opSurvivePolicy, .tenant, 0),
   (opMemberLost, .tenant, 16),
   (opAttestGet, .both, 48),
   (opKeyInstall, .both, 40),
   (opTelemetryRead, .both, 32),
   (opAccountRead, .tenant, 24),
   (opBelvedereCfg, .tenant, 32),
   (opFwStage, .plot0, 48),
   (opFwActivate, .plot0, 16),
   (opFwQuery, .plot0, 8)]

/-- A message's row of the catalogue. -/
def catalogueRow (opcode : Nat) : Option (Area × Nat) := (catalogue.find? (fun e => e.1 == opcode)).map (·.2)

/-- Whether a message may be posted in a plot's area. -/
def Area.allows (a : Area) (p : Nat) : Bool :=
  match a with
  | .plot0 => p == 0
  | .tenant => p != 0
  | .both => true

/-! ### Slot headers (Table BTH-2) -/

/-- Offset of a slot in the mailbox area (Table BTH-1). -/
def slotBase (slot : Nat) : Nat := 0x400 * slot

/-- Bytes of a mailbox area from an offset. -/
def Mailbox.bytes (m : Mailbox) (off n : Nat) : Bytes := (List.range n).map (fun i => cellGet m.slots (off + i))

/-- A little-endian field of a mailbox area. -/
def Mailbox.field (m : Mailbox) (off n : Nat) : Nat := leNat (m.bytes off n)

/-- OWNER values. -/
def ownerFree : Byte := 0x00
def ownerPosted : Byte := 0x5A
def ownerTaken : Byte := 0xA5

/-- The request copied from a slot at its take: header and LENGTH bytes of payload (R364). -/
def Mailbox.copySlot (m : Mailbox) (slot now : Nat) : Req :=
  let b := slotBase slot
  { slot := slot, opcode := m.field (b + 2) 2, tag := m.field (b + 4) 4, vector := m.field (b + 1) 1,
    payload := m.bytes (b + 0x40) (min (m.field (b + 8) 2) 960), since := now, phase := .taken, waits := [], tally := 0 }

/-! ### Lengths and reserved fields (R366 step 5) -/

/-- Request bytes that the catalogue and the payload select; `none` selects no length. -/
def requestLength (opcode : Nat) (pl : Bytes) : Option Nat :=
  if opcode = opRouteSet then some (8 + 16 * fieldAt pl 0 1)
  else if opcode = opSurvivePolicy then
    match fieldAt pl 0 1 with
    | 0 => some 384
    | 1 => some 16
    | 2 => some 16
    | 3 => some 104
    | 4 => some 104
    | _ => none
  else (catalogueRow opcode).map (·.2)

/-- Whether a field has no bit set from bit `lo` up to bit `8 n - 1`. -/
def clearFrom (pl : Bytes) (off n lo : Nat) : Bool := fieldAt pl off n / 2 ^ lo == 0

/-- Whether every reserved field and bit of a payload is zero. A FABRIC_ID fills bits [35:0] of its
8 bytes. A ROUTE_SET mask that names a port above 11 has a status of its own (Table CSC-4). -/
def reservedZero (opcode : Nat) (pl : Bytes) : Bool :=
  if opcode = opPlotOpen then zeroAt pl 0x2C 20
  else if opcode = opPlotClose then zeroAt pl 1 7
  else if opcode = opPlotQuery then zeroAt pl 1 7
  else if opcode = opModuleInfo then zeroAt pl 8 8
  else if opcode = opMemMap then zeroAt pl 1 3
  else if opcode = opMemUnmap then zeroAt pl 2 6
  else if opcode = opMemScrub then zeroAt pl 2 2
  else if opcode = opPlanLoad then zeroAt pl 0x18 8
  else if opcode = opPlanDrop then zeroAt pl 4 4
  else if opcode = opStepRun then zeroAt pl 4 4
  else if opcode = opStepAbort then zeroAt pl 4 4
  else if opcode = opAdapterRegister then clearFrom pl 4 1 1 && zeroAt pl 6 2 && zeroAt pl 0x18 8
  else if opcode = opAdapterAdmit then clearFrom pl 4 1 1 && zeroAt pl 6 2 && zeroAt pl 0x0C 4
  else if opcode = opAdapterEvict then clearFrom pl 4 1 3 && zeroAt pl 5 3
  else if opcode = opBaseBind then zeroAt pl 0x36 10
  else if opcode = opSeqAdmit then zeroAt pl 2 2 && zeroAt pl 0x38 8
  else if opcode = opSeqEdit then zeroAt pl 5 3 && zeroAt pl 0x14 12
  else if opcode = opSeqRetire then zeroAt pl 4 4
  else if opcode = opGroupJoin then zeroAt pl 0x20 8
  else if opcode = opGroupLeave then zeroAt pl 2 6
  else if opcode = opRouteSet then
    zeroAt pl 1 7 && (List.range (fieldAt pl 0 1)).all (fun i =>
      clearFrom pl (8 + 16 * i) 8 36 && zeroAt pl (0x12 + 16 * i) 6)
  else if opcode = opSnapshotBegin then
    zeroAt pl 1 1 && zeroAt pl 0x0C 4 && clearFrom pl 0x10 8 36 && zeroAt pl 0x30 16
  else if opcode = opSnapshotQuery then zeroAt pl 2 6
  else if opcode = opRestore then
    clearFrom pl 1 1 1 && zeroAt pl 3 1 && zeroAt pl 0x20 16 &&
    (fieldAt pl 0 1 != 0 || clearFrom pl 8 8 36)
  else if opcode = opSurvivePolicy then
    zeroAt pl 1 3 && zeroAt pl 8 8 &&
    (match fieldAt pl 0 1 with
     | 0 => zeroAt pl 0x15 3 && (List.range 8).all (fun i => clearFrom pl (0x20 + 8 * i) 8 36)
     | 3 => zeroAt pl 0x13 5 && (List.range 8).all (fun i => clearFrom pl (0x28 + 8 * i) 8 36)
     | 4 => zeroAt pl 0x13 5 && zeroAt pl 0x18 8 && clearFrom pl 0x20 8 36 &&
            (List.range 8).all (fun i => clearFrom pl (0x28 + 8 * i) 8 36)
     | _ => true)
  else if opcode = opMemberLost then clearFrom pl 0 8 36 && zeroAt pl 8 8
  else if opcode = opAttestGet then clearFrom pl 0 1 1 && zeroAt pl 1 7
  else if opcode = opKeyInstall then zeroAt pl 2 6 && zeroAt pl 0x20 8
  else if opcode = opTelemetryRead then clearFrom pl 1 1 1 && zeroAt pl 3 1 && zeroAt pl 0x18 8
  else if opcode = opAccountRead then zeroAt pl 1 3 && zeroAt pl 0x0C 4
  else if opcode = opBelvedereCfg then
    clearFrom pl 0 1 1 && zeroAt pl 1 1 && zeroAt pl 0x0F 1 && zeroAt pl 0x18 8
  else if opcode = opFwStage then zeroAt pl 2 6
  else if opcode = opFwActivate then clearFrom pl 2 1 2 && zeroAt pl 3 13
  else if opcode = opFwQuery then zeroAt pl 1 7
  else true

/-- The validation of a taken request, steps 1 to 5 of R366: the status of the first failed check.
`plotField`, `len` and `hdrZero` are the header's PLOT, LENGTH and whether its reserved bytes are zero. -/
def validate (p : Nat) (r : Req) (plotField len : Nat) (hdrZero : Bool) : Option Nat :=
  if plotField ≠ p then some stNotPermitted
  else
    match catalogueRow r.opcode with
    | none => some stBadOpcode
    | some row =>
      if row.1.allows p = false then some stNotPermitted
      else if 63 < r.vector ∧ r.vector ≠ 255 then some stNotPermitted
      else if (r.opcode = opRouteSet ∨ r.opcode = opSurvivePolicy) ∧ len = 0 then some stBadLength
      else
        match requestLength r.opcode r.payload with
        | none => some stNotPermitted
        | some n =>
          if len ≠ n then some stBadLength
          else if hdrZero = false then some stBadLength
          else if reservedZero r.opcode r.payload = false then some stBadLength
          else none

/-- A request whose operation field names no operation of its message: the status of R467, the binding
first where the message needs one. `none` when the operation is one that a command serves. -/
def badOperation (p : Nat) (bound : Bool) (opcode : Nat) (pl : Bytes) : Option Nat :=
  let sel := fieldAt pl 0 1
  if opcode = opSeqEdit then
    if fieldAt pl 4 1 = 0 ∨ 7 < fieldAt pl 4 1 then some (if bound then stNotPermitted else stStaleBase) else none
  else if opcode = opSnapshotBegin then (if 2 < sel then some stNotPermitted else none)
  else if opcode = opKeyInstall then
    if 3 < sel ∨ (p = 0 ∧ sel ≠ 3) ∨ (p ≠ 0 ∧ sel = 3) then some stNotPermitted else none
  else if opcode = opTelemetryRead then
    if sel = 0 ∨ 7 < sel ∨ (p ≠ 0 ∧ sel < 6) then some stNotPermitted else none
  else if opcode = opAccountRead then (if 1 < sel then some stNotPermitted else none)
  else if opcode = opFwActivate then (if 1 < sel then some stNotPermitted else none)
  else none

end Sys2Proof.Machine
end

