-- ==== Sys2Proof/Machine/Mailbox.lean ====
section
/-! DEFINITION. The Bothy mailbox (chapter 14): the scan, the completion ring, the control words, interrupt
delivery, PLOT_QUERY and MODULE_INFO, and the message limit of R330. -/

namespace Sys2Proof.Machine

/-! ### Taking requests (R364, R366) -/

/-- TDISP state RUN of a virtual function (Table GTH-10). -/
def tdiRun : Nat := 2

/-- Whether the function of an attached-confidential plot is in RUN (R410). -/
def State.confidentialRun (s : State) (p : Nat) : Bool :=
  (s.plot p).cfg.driver == 2 && (s.host.vfs.get Vf.init p).tdi == tdiRun

/-- Whether the scan takes slots of a plot's area: plot 0 and OPEN plots; those of an
attached-confidential plot only while its function is in RUN (R345, R364, R390, R410). -/
def State.takesFrom (s : State) (p : Nat) : Bool :=
  s.isOpen p && ((s.plot p).cfg.driver != 2 || (s.host.vfs.get Vf.init p).tdi == tdiRun)

/-- Set OWNER of a slot. -/
def Mailbox.setOwner (m : Mailbox) (slot : Nat) (v : Byte) : Mailbox :=
  { m with slots := cellPut m.slots (slotBase slot) v }

/-- Visit one slot: a slot that is not held and reads OWNER 0x5A is taken, copied and validated. A
request that fails its checks is completed at once (R366); one that passes waits for its turn. -/
def State.visitSlot (s : State) (p slot : Nat) : State :=
  let m := (s.plot p).mail
  if m.held.any (fun r => r.slot == slot) then s
  else if cellGet m.slots (slotBase slot) ≠ ownerPosted then s
  else
    let r := m.copySlot slot s.now
    let b := slotBase slot
    let bad := validate p r (m.field (b + 0x0A) 1) (m.field (b + 8) 2) (zeroAt (m.bytes (b + 0x0B) 53) 0 53)
    let s := s.updMail p (fun m => { m.setOwner slot ownerTaken with held := m.held ++ [r] })
    let s := { s with bothy := { s.bothy with taken := s.bothy.taken + 1 } }
    match bad with
    | some st => { s.refuse p r st with bothy := { s.bothy with refused := s.bothy.refused + 1 } }
    | none =>
      match badOperation p (s.plot p).binding.isSome r.opcode r.payload with
      | some st => s.refuse p r st
      | none => s

/-- Visit the 32 slots of an area in ascending order. -/
def State.visitArea (s : State) (p : Nat) : State :=
  if s.takesFrom p then (List.range 32).foldl (fun t i => t.visitSlot p i) s else s

/-! ### Interrupts (R374, R375) -/

/-- Whether an address is the seteipnum_le register of one of the Lodge's interrupt files (R375). -/
def isInterruptFile (a : Nat) : Bool :=
  (decide (0xF00050000000 ≤ a) && decide (a < 0xF00050100000) && a % 0x1000 == 0) ||
  (decide (0xF00050100000 ≤ a) && decide (a < 0xF00050120000) && a % 0x1000 == 0)

/-- Leave a signal waiting in BTH_MB_VEC_PENDING. -/
def State.pend (s : State) (p v : Nat) : State :=
  s.updMail p (fun m => { m with vecPending := setFlag m.vecPending v })

/-- Deliver a vector: through MSI-X of the plot's function in attached mode; by a write of the data word
to the target address in self-hosted mode. A target outside the Lodge's interrupt files is treated as
masked and sets MSI_TARGET (R375). -/
def State.deliver (s : State) (p v : Nat) : State :=
  if (s.plot p).cfg.driver ≠ 0 then s.emit (.interrupt p v)
  else
    let a := ((s.plot p).mail.msiAddr.get 0 v).toNat
    if isInterruptFile a then s.emit (.msiWrite a ((s.plot p).mail.msiData.get 0 v).toNat)
    else
      let s := (s.pend p v).updMail p (fun m => { m with msiTarget := true })
      { s with bothy := { s.bothy with err := setFlag s.bothy.err 1 } }

/-- Signal a vector (R374): none for 0xFF and for plot 0; a masked vector waits; otherwise at most once
per scan period. -/
def State.signal (s : State) (p v : Nat) : State :=
  if p = 0 ∨ 63 < v then s
  else if (s.plot p).mail.vecMask.getLsbD v then s.pend p v
  else if (s.plot p).mail.signalled.contains v then s
  else (s.updMail p (fun m => { m with signalled := m.signalled ++ [v] })).deliver p v

/-- Signal the vectors of an area that wait in BTH_MB_VEC_PENDING and whose mask bit reads clear, each once per scan
period; a pending bit is cleared with its signal (R374). -/
def State.signalPending (s : State) (p : Nat) : State :=
  if (s.plot p).mail.vecPending = 0 then s
  else (List.range 64).foldl (fun t v =>
    let m := (t.plot p).mail
    if m.vecPending.getLsbD v && !m.vecMask.getLsbD v && !m.signalled.contains v then
      (t.updMail p (fun m => { m with vecPending := w1c m.vecPending (2 ^ v) })).signal p v
    else t) s

/-- MAILBOX_SCAN (R364): areas in ascending plot number. Each vector is signalled at most once per scan
period (R374), so a scan opens a new period and signals the vectors that waited for it. Nothing is scanned before READY or during the activation
pause. -/
def execMailboxScan (s : State) : Out :=
  if s.bothy.ready = true ∧ s.bothy.paused = false then
    let s := { s with plots := s.plots.mapVals (fun q => { q with mail := { q.mail with signalled := [] } }) }
    let s := (List.range 17).foldl (fun t p => (t.signalPending p).visitArea p) s
    .next { s with bothy := { s.bothy with scans := s.bothy.scans + 1 } }
  else .next s

/-! ### The completion ring (R369 to R373) -/

/-- Where a plot's completion ring starts: offset 0 of window 0; plot 0's ring lies in the device region
of Terrace 0. -/
def Plot.ringBase (q : Plot) (p : Nat) : Nat :=
  if p = 0 then 0x7780000000
  else match q.windows.find 0 with
    | some r => r.base
    | none => 0x7780000000

/-- The header of a record in the ring (Table BTH-3). -/
def Rec.header (r : Rec) (phase : Nat) : Bytes :=
  natLE 1 phase ++ natLE 1 r.slot ++ natLE 2 r.opcode ++ natLE 2 r.status ++ natLE 1 r.dcode ++ natLE 1 0 ++
  natLE 4 r.tag ++ natLE 4 r.detail

/-- The PHASE of record number `head`: 1 when floor(head / 4,096) is even (R371). -/
def phaseOf (head : Nat) : Nat := if head / 4096 % 2 = 0 then 1 else 0

/-- Free a slot once its completion stands in the ring (R367). -/
def Mailbox.freeSlot (m : Mailbox) (slot : Nat) : Mailbox :=
  if slot < 32 then { (m.setOwner slot ownerFree) with held := m.held.filter (fun r => r.slot != slot) } else m

/-- When space has returned, one LOST_RECORDS record takes its place at the backlog's end (R373). -/
def State.reportLost (s : State) (p : Nat) : State :=
  let m := (s.plot p).mail
  if m.lostNew ≠ 0 ∧ backlogReserve < (s.plot p).backlogFree then
    s.updMail p (fun m => { m with
      backlog := m.backlog ++ [unsolicitedRec 0x8001
        (natLE 8 m.lostNew ++ natLE 8 m.lostFirst.toNat ++ natLE 8 m.lostLast.toNat)]
      lostNew := 0 })
  else s

/-! ### Sequence events (R263) -/

/-- The opcode of SEQ_EVENT records (Table BTH-5). -/
def srcSeqEvent : Nat := 0x8005

/-- The body of a sequence event (Table TRL-9). -/
def SeqEntry.eventBody (e : SeqEntry) : Bytes :=
  natLE 4 e.seqId ++ natLE 1 e.reportKind ++ natLE 1 0 ++ natLE 2 e.gen ++ natLE 8 e.reportStep ++ natLE 4 e.ctx ++
  natLE 4 e.generated ++ natLE 8 e.userTag ++ List.replicate 16 0

/-- Whether one pending report comes before another: oldest reportable first, then the lower SEQ_ID. -/
def SeqEntry.before (a b : SeqEntry) : Bool :=
  decide (a.reportOrder < b.reportOrder) || (a.reportOrder == b.reportOrder && decide (a.seqId < b.seqId))

/-- The next sequence to report, with its plot index. -/
def Plot.nextReport (q : Plot) : Option (Nat × SeqEntry) :=
  (q.seqs.filter (fun e => e.2.reportPending)).foldl (fun b e =>
    match b with
    | none => some e
    | some c => if e.2.before c.2 then some e else some c) none

/-- Create sequence events while more than 24,576 backlog records are free (R263, R373). -/
def State.reportUpTo : Nat → State → Nat → State
  | 0, s, _ => s
  | n + 1, s, p =>
    if stepBacklog < (s.plot p).backlogFree then
      match (s.plot p).nextReport with
      | none => s
      | some (i, e) =>
        State.reportUpTo n ((s.updPlot p (fun q => { q with seqs := q.seqs.set i { e with reportPending := false } })).post p
          (unsolicitedRec srcSeqEvent e.eventBody)) p
    else s

/-- Create every sequence event that has room. -/
def State.report (s : State) (p : Nat) : State :=
  s.reportUpTo ((s.plot p).seqs.filter (fun e => e.2.reportPending)).length p

/-- COMPLETION_RECORD_WRITE (R371): when (HEAD − TAIL) mod 2^32 is below 4,096, the oldest record of the
backlog goes to entry HEAD mod 4,096, its body first and then its header; HEAD advances, the slot is
freed and the vector signalled. The records of an attached-confidential plot outside RUN wait in the
backlog (R410). -/
def execCompletionRecordWrite (p : Nat) (s : State) : Out :=
  match (s.plot p).mail.backlog with
  | [] => .next s
  | r :: rest =>
    let m := (s.plot p).mail
    if s.takesFrom p = true ∧ (m.head - m.tail).toNat < 4096 then
      let a := (s.plot p).ringBase p + 64 * (m.head.toNat % 4096)
      let s := s.updMem (fun d => (d.write (a + 16) (bytesAt r.body 0 48)).write a (r.header (phaseOf m.head.toNat)))
      let s := s.updMail p (fun m => { m.freeSlot r.slot with backlog := rest, head := m.head + 1 })
      .next (((s.signal p r.vector).reportLost p).report p)
    else .next s

/-- BTH_MB_RING_TAIL write (R371): a count of records consumed that lies ahead of HEAD, or more than
4,096 behind it, is ignored and sets RING_FAULT. Bits [63:32] are reserved. -/
def execBthMbRingTailWrite (p value : Nat) (s : State) : Out :=
  if s.isOpen p = true then
    let v : W32 := BitVec.ofNat 32 value
    if ((s.plot p).mail.head - v).toNat ≤ 4096 then .next (s.updMail p (fun m => { m with tail := v }))
    else
      let s := s.updMail p (fun m => { m with ringFault := true })
      .next { s with bothy := { s.bothy with err := setFlag s.bothy.err 0 } }
  else .next s

/-- BTH_MB_VEC_MASK write (R374): a pending vector whose mask bit reads clear is signalled, and then its
pending bit is cleared; one that was signalled in this scan period waits for the next. -/
def execBthMbVecMaskWrite (p value : Nat) (s : State) : Out :=
  if s.isOpen p = true then
    let s := s.updMail p (fun m => { m with vecMask := BitVec.ofNat 64 value })
    .next (s.signalPending p)
  else .next s

/-- BTH_MB_STATUS (Table BTH-4). -/
def Plot.mbStatus (q : Plot) : Nat :=
  q.state + 4 * b2n q.mail.stepHeld + 8 * b2n q.mail.ringFault + 16 * b2n q.mail.msiTarget

/-- BTH_MB_BACKLOG (Table BTH-4). -/
def Plot.mbBacklog (q : Plot) : Nat := q.mail.backlog.length + 2 ^ 32 * (q.mail.lost % 2 ^ 32)

/-! ### PLOT_QUERY (R388) -/

/-- States of a Cascade group (Table CSC-5). -/
def groupForming : Nat := 0
def groupActive : Nat := 1
def groupSuspect : Nat := 2
def groupRecompacting : Nat := 3
def groupDissolved : Nat := 4
def groupClosed : Nat := 5

/-- STEP_RUN requests of a plot that wait for their turn. -/
def Plot.queuedSteps (q : Plot) : Nat :=
  (q.mail.held.filter (fun r => r.opcode == opStepRun && r.phase != .completed &&
    !q.running.any (fun st => st.slot == r.slot))).length

/-- Sequence entries of a plot that are not FREE. -/
def Plot.seqCount (q : Plot) : Nat := (q.seqs.filter (fun e => e.2.state != 0)).length

/-- Resident records of a plot. -/
def Plot.residentCount (q : Plot) : Nat := (q.adapters.filter (fun e => e.2.residency == .resident)).length

/-- The PLOT_QUERY result (Table BTH-15). -/
def Plot.queryResult (q : Plot) (p : Nat) : Bytes :=
  if q.state = 0 then natLE 1 p ++ List.replicate 47 0
  else
    natLE 1 p ++ natLE 1 q.state ++ natLE 1 q.cfg.driver ++ natLE 1 q.cfg.scrubMode ++ natLE 1 q.cfg.weight ++
    natLE 1 (b2n q.binding.isSome) ++ natLE 1 q.plans.length ++
    natLE 1 (q.groups.filter (fun g => g.state != groupClosed)).length ++
    natLE 2 q.windows.length ++ natLE 2 q.residentCount ++ natLE 4 q.seqCount ++
    natLE 4 (q.used 0) ++ natLE 4 (q.used 1) ++ natLE 4 (q.used 3) ++
    natLE 1 q.running.length ++ natLE 1 q.queuedSteps ++ natLE 2 0 ++
    natLE 4 q.mail.backlog.length ++ natLE 4 q.mail.lost ++ natLE 8 q.openTick.toNat

/-- Whether PLOT_QUERY may name a plot: a tenant names 0 or itself, and both report the area's own plot
(R357); plot 0's area names 1 to 16. -/
def queryTarget (p named : Nat) : Option Nat :=
  if p = 0 then (if 1 ≤ named ∧ named ≤ 16 then some named else none)
  else if named = 0 ∨ named = p then some p else none

/-- PLOT_QUERY (R388). -/
def execPlotQuery (p : Nat) (s : State) : Out :=
  .next (s.serve p opPlotQuery (fun _ => true) (fun r s =>
    match queryTarget p (fieldAt r.payload 0 1) with
    | none => s.refuse p r stNotPermitted
    | some q => s.ok p r ((s.plot q).queryResult q)))

/-! ### MODULE_INFO (R389) -/

/-- The image that a firmware class runs, if the flash holds one. -/
def FwClass.runningImage (c : FwClass) : Option Image :=
  match (if c.running = 0 then c.bankA else c.bankB) with
  | .image i => some i
  | .invalid i => some i
  | .empty => none

/-- The running version of a class. -/
def State.fwVersion (s : State) (cls : Nat) : Nat :=
  match (s.mgmt.classes.get FwClass.init cls).runningImage with
  | some i => i.version
  | none => Config.factoryImage cls 0

/-- MOD_MEM_STATUS (Table MEM-10). -/
def Mem.status (m : Mem) : Nat :=
  m.hbmFailed % 2 ^ 12 + 2 ^ 12 * (m.cfFailed % 2 ^ 24) + 2 ^ 36 * b2n m.ready +
  2 ^ 37 * b2n m.partitionInForce + 2 ^ 38 * b2n m.degraded

/-- MOD_PLOTS (Table PLT-9). -/
def State.modPlots (s : State) : Nat :=
  1 + (tenantPlots.map (fun p => 2 ^ p * b2n (s.isOpen p) + 2 ^ (17 + p) * b2n (s.isClosing p))).sum

/-- The sum of a reservation over the open and closing tenant plots (R343). -/
def State.reserved (s : State) (f : PlotConfig → Nat) : Nat :=
  (tenantPlots.map (fun p => if (s.plot p).state = 0 then 0 else f (s.plot p).cfg)).sum

/-- One bit per Avenue port that is up. -/
def State.linkMask (s : State) : Nat := ((List.range 12).map (fun i => 2 ^ i * b2n (s.port i).linkUp)).sum

/-- MOD_PATROL_CFG (Table MEM-11). -/
def Mem.patrolCfg (m : Mem) : Nat := m.patrolHours + 2 ^ 16 * b2n m.patrolEnable

/-- The MODULE_INFO record (Table BTH-16), 1,024 bytes; `mgmt` is management's view and `bound` whether
the reader holds the base binding. -/
def State.moduleInfo (s : State) (mgmt bound : Bool) : Bytes :=
  let only (n v : Nat) : Bytes := natLE n (if mgmt then v else 0)
  let body :=
    natLE 4 0x4F464E49 ++ natLE 2 1 ++ natLE 1 Config.stepping ++
    natLE 1 (b2n Config.engineeringSample + 2 * b2n s.mod.hall + 4 * b2n s.mod.steady + 8 * b2n s.mod.partition) ++
    bytesAt Config.partNumber 0 16 ++ bytesAt Config.serial 0 16 ++
    natLE 8 (s.mod.fabricId % 2 ^ 36) ++ natLE 8 s.mod.tick.toNat ++
    natLE 8 (s.fwVersion 2) ++ natLE 8 (s.fwVersion 1) ++ natLE 8 Config.romVersion ++
    natLE 4 s.mgmt.fuseBothy ++ natLE 4 s.mgmt.fuseGatehouse ++
    natLE 8 s.mod.fencedPav0.toNat ++ natLE 8 s.mod.fencedPav1.toNat ++ natLE 8 s.mod.fencedUnits.toNat ++
    natLE 4 (s.mem.grantable 0) ++ natLE 4 (s.mem.grantable 1) ++ natLE 4 (s.mem.grantable 3) ++
    natLE 4 s.mem.status ++ natLE 2 s.linkMask ++
    only 2 (s.host.vfs.filter (fun v => v.2.enabled)).length ++
    natLE 4 s.mod.sliceUs ++ natLE 1 s.mem.patrolHours ++ natLE 3 0 ++ natLE 4 (s.mem.status / 2 ^ 32) ++
    natLE 32 (if mgmt || bound then s.orangery.fp else 0) ++
    only 4 (1048576 - s.reserved (·.seqQuota)) ++ only 2 (8192 - s.reserved (·.residentQuota)) ++
    only 1 (64 - s.reserved (·.groups)) ++ only 1 (240 - s.reserved (·.hbmSlots)) ++
    only 1 (240 - s.reserved (·.cfSlots)) ++ only 1 (96 - s.reserved (·.gh0)) ++ only 1 (96 - s.reserved (·.gh1)) ++
    natLE 1 0 ++ only 4 (480 - s.reserved (fun c => c.rxVc1 + c.rxVc2 + c.rxVc3)) ++ only 8 s.modPlots
  bytesAt body 0 1024

/-- MODULE_INFO (R389): a tenant's record goes to DST_ADDR in its windows; management's goes to the
management service. -/
def execModuleInfo (p : Nat) (s : State) : Out :=
  .next (s.serve p opModuleInfo (fun _ => true) (fun r s =>
    let dst := fieldAt r.payload 0 8
    if p = 0 then
      if dst ≠ 0 then s.refuse p r stNotPermitted
      else (s.emit (.mgmtData (s.moduleInfo true true))).ok p r (natLE 4 1024 ++ natLE 1 1)
    else if s.inWindows p dst 1024 = false then s.refuse p r stNotPermitted
    else
      let info := s.moduleInfo false (s.plot p).binding.isSome
      ((s.updMem (fun m => m.write dst info)).chargeWrite p dst 1024).ok p r (natLE 4 1024 ++ natLE 1 0)))

/-! ### Message limits (R330) -/

/-- The limit of Table ERR-4 in ticks, with 1 s for so many bytes where it grows with them; STEP_RUN, FW_ACTIVATE and the
messages that the table does not name have none. -/
def Req.limit (r : Req) : Option Nat :=
  if [opPlotQuery, opModuleInfo, opSeqAdmit, opSeqEdit, opSeqRetire, opAdapterAdmit, opAdapterEvict, opGroupLeave, opRouteSet,
      opMemberLost, opSnapshotQuery, opBelvedereCfg, opTelemetryRead, opAccountRead, opFwQuery, opStepAbort].contains r.opcode then
    some 10000000
  else if [opPlotOpen, opMemMap, opMemUnmap, opBaseBind, opPlanDrop, opSurvivePolicy, opSnapshotBegin, opAttestGet,
      opKeyInstall].contains r.opcode then some 200000000
  else if r.opcode = opMemScrub then some (100000000 + fieldAt r.payload 8 4 * granuleBytes * 100000000 / 2 ^ 36)
  else if r.opcode = opAdapterRegister then some (100000000 + fieldAt r.payload 0x10 8 * 100000000 / 2 ^ 35)
  else if r.opcode = opRestore then some 3000000000
  else if r.opcode = opPlanLoad ∨ r.opcode = opFwStage then some 6000000000
  else if r.opcode = opPlotClose then some 12000000000
  else none

/-- Whether the firmware has worked on a request past its limit. -/
def Req.late (r : Req) (now : Nat) : Bool := match r.limit with | some n => decide (r.since + n < now) | none => false

/-- MESSAGE_TIMEOUT (R330): a request that the firmware works on past its limit completes with
ST_TIMEOUT and changes nothing. Time spent waiting under a rule of the message's own chapter is not
counted, so a request that waits so is not timed out. MEM_SCRUB's detail word gives the granules already
zeroed. -/
def execMessageTimeout (p slot : Nat) (s : State) : Out :=
  match (s.plot p).mail.held.find? (fun r => r.slot == slot && r.phase == .taken) with
  | none => .next s
  | some r =>
    if r.late s.now then .next (s.completeWith p r stTimeout 0 (if r.opcode = opMemScrub then r.tally else 0) [])
    else .next s

end Sys2Proof.Machine
end

