-- ==== Sys2Proof/Machine/Numeric.lean ====
section
/-! DEFINITION. The arithmetic of chapter 02: element formats, exact values, rounding to nearest and
stochastic rounding, the position-addressed generator, FP32 operations, and RX64. -/

namespace Sys2Proof.Machine

/-! ### Exact values -/

/-- Zero with a sign. -/
def Num.zero (neg : Bool) : Num := .fin neg 0 0

/-- Whether a value is finite. -/
def Num.isFinite : Num → Bool
  | .fin _ _ _ => true
  | _ => false

/-- A finite value as a signed integer times 2^e, for e at or below its exponent. -/
def alignTo (neg : Bool) (m : Nat) (x e : Int) : Int :=
  let v : Int := (m * 2 ^ (x - e).toNat : Nat)
  if neg then -v else v

/-- The exact sum of two values. Equal and opposite values, and +0 and −0, sum to +0 (R33). -/
def Num.add : Num → Num → Num
  | .nan, _ => .nan
  | _, .nan => .nan
  | .inf a, .inf b => if a = b then .inf a else .nan
  | .inf a, .fin _ _ _ => .inf a
  | .fin _ _ _, .inf b => .inf b
  | .fin a m x, .fin b n y =>
    if m = 0 ∧ n = 0 then .fin (a && b) 0 0
    else
      let e := min x y
      let v := alignTo a m x e + alignTo b n y e
      .fin (decide (v < 0)) v.natAbs e

/-- The exact product of two values; Inf × 0 is NaN (R37). -/
def Num.mul : Num → Num → Num
  | .nan, _ => .nan
  | _, .nan => .nan
  | .inf a, .inf b => .inf (a != b)
  | .inf a, .fin b n _ => if n = 0 then .nan else .inf (a != b)
  | .fin a m _, .inf b => if m = 0 then .nan else .inf (a != b)
  | .fin a m x, .fin b n y => .fin (a != b) (m * n) (x + y)

/-- The value with its sign changed. -/
def Num.neg : Num → Num
  | .nan => .nan
  | .inf a => .inf (!a)
  | .fin a m x => .fin (!a) m x

/-- The value without its sign. -/
def Num.abs : Num → Num
  | .nan => .nan
  | .inf _ => .inf false
  | .fin _ m x => .fin false m x

/-- Multiply by 2^x exactly. -/
def Num.scale (x : Int) : Num → Num
  | .fin a m y => .fin a m (x + y)
  | v => v

/-- An integer as a value. -/
def Num.ofInt (v : Int) : Num := .fin (decide (v < 0)) v.natAbs 0

/-- Whether a finite value is below another: exact comparison of signed magnitudes; −0 and +0 are
equal. -/
def Num.lt : Num → Num → Bool
  | .fin a m x, .fin b n y => decide (alignTo a m x (min x y) < alignTo b n y (min x y))
  | .inf a, .inf b => a && !b
  | .inf a, .fin _ _ _ => a
  | .fin _ _ _, .inf b => !b
  | _, _ => false

/-- Maximum of two values, −0 ordering below +0; a NaN gives NaN (R110). -/
def Num.max2 (a b : Num) : Num :=
  if a = .nan ∨ b = .nan then .nan
  else if a.lt b then b
  else if b.lt a then a
  else match a with
    | .fin true 0 _ => b
    | _ => a

/-- Minimum of two values, −0 ordering below +0; a NaN gives NaN (R110). -/
def Num.min2 (a b : Num) : Num :=
  if a = .nan ∨ b = .nan then .nan
  else if a.lt b then a
  else if b.lt a then b
  else match a with
    | .fin true 0 _ => a
    | _ => b

/-! ### Rounding -/

/-- A floating-point format of Table NUM-1: mantissa bits, exponent of the least normal, and the code of
the largest finite magnitude. -/
structure FloatFmt where
  man : Nat
  emin : Int
  bias : Nat
  top : Nat
  width : Nat
  deriving DecidableEq, Repr

def fmtFp32 : FloatFmt := { man := 23, emin := -126, bias := 127, top := 0x7F7FFFFF, width := 32 }
def fmtBf16 : FloatFmt := { man := 7, emin := -126, bias := 127, top := 0x7F7F, width := 16 }
def fmtE4m3 : FloatFmt := { man := 3, emin := -6, bias := 7, top := 0x7E, width := 8 }
def fmtE5m2 : FloatFmt := { man := 2, emin := -14, bias := 15, top := 0x7B, width := 8 }
def fmtE3m2 : FloatFmt := { man := 2, emin := -2, bias := 3, top := 0x1F, width := 6 }
def fmtE2m3 : FloatFmt := { man := 3, emin := 0, bias := 1, top := 0x1F, width := 6 }
def fmtE2m1 : FloatFmt := { man := 1, emin := 0, bias := 1, top := 0x7, width := 4 }

/-- How a conversion rounds: to nearest even, or stochastically with a 32-bit word (R50). -/
inductive Rounding where
  | nearest
  | word (r : Nat)
  deriving DecidableEq, Repr

/-- Round the quotient n / d to an integer. The stochastic threshold keeps the 32 most significant bits
of the discarded fraction (R50). -/
def roundQuot (rd : Rounding) (n d : Nat) : Nat :=
  let q := n / d
  let r := n % d
  match rd with
  | .nearest => if 2 * r < d then q else if d < 2 * r then q + 1 else q + q % 2
  | .word w => if w < r * 2 ^ 32 / d then q + 1 else q

/-- Floor of log2 of a positive quotient times a power of two. -/
def floorLog2 (n d : Nat) (e : Int) : Int :=
  let g : Int := (n.log2 : Int) - (d.log2 : Int)
  let below : Bool := if 0 ≤ g then decide (n < d * 2 ^ g.toNat) else decide (n * 2 ^ (-g).toNat < d)
  (if below then g - 1 else g) + e

/-- The magnitude code of n / d × 2^e in a format: the unit of last place is that of the value's
exponent, or of the least normal (R50); a result past the largest finite code is the overflow. -/
def magnitudeCode (f : FloatFmt) (rd : Rounding) (n d : Nat) (e : Int) : Nat :=
  if n = 0 then 0
  else
    let ev := max (floorLog2 n d e) f.emin
    let shift := e - (ev - f.man)
    let q := if 0 ≤ shift then roundQuot rd (n * 2 ^ shift.toNat) d
             else roundQuot rd n (d * 2 ^ (-shift).toNat)
    (ev - f.emin).toNat * 2 ^ f.man + q

/-- Put a sign on a magnitude code. -/
def signCode (f : FloatFmt) (neg : Bool) (c : Nat) : Nat := c + (if neg then 2 ^ (f.width - 1) else 0)

/-- Round an exact quotient to FP32 or BF16: overflow gives infinity (Table NUM-7). A stochastic result
of zero is +0 only when the value is zero. -/
def roundWide (f : FloatFmt) (rd : Rounding) (neg : Bool) (n d : Nat) (e : Int) : Nat :=
  let c := magnitudeCode f rd n d e
  signCode f neg (if f.top < c then f.top + 1 else c)

/-- The canonical NaN of FP32 and BF16 (R33). -/
def quietNan (f : FloatFmt) : Nat := if f.width = 32 then 0x7FC00000 else 0x7FC0

/-- Convert an exact value to FP32 or BF16. -/
def Num.toWide (f : FloatFmt) (rd : Rounding) : Num → Nat
  | .nan => quietNan f
  | .inf a => signCode f a (f.top + 1)
  | .fin a m x =>
    match rd with
    | .nearest => roundWide f rd a m 1 x
    | .word _ => if m = 0 then 0 else roundWide f rd a m 1 x

/-- Convert an exact value to FP8 (Table NUM-7): out-of-range magnitudes saturate; E4M3 has no
infinity. -/
def Num.toFp8 (f : FloatFmt) (rd : Rounding) : Num → Nat
  | .nan => if f.man = 3 then 0x7F else 0x7E
  | .inf a => if f.man = 3 then 0x7F else signCode f a 0x7C
  | .fin a m x => signCode f a (min (magnitudeCode f rd m 1 x) f.top)

/-- Round an exact value to an integer, ties to even; non-finite values give none. -/
def Num.toInt : Num → Option Int
  | .fin a m x =>
    let q := if 0 ≤ x then m * 2 ^ x.toNat else roundQuot .nearest m (2 ^ (-x).toNat)
    some (if a then -(q : Int) else q)
  | _ => none

/-- Clamp an integer to a range. -/
def clampInt (v lo hi : Int) : Int := max lo (min hi v)

/-! ### Decoding -/

/-- The value of a code whose exponent field of all ones holds no special value, or of a wider format's
finite code. -/
def finiteCode (f : FloatFmt) (c : Nat) : Num :=
  let neg := bitOf c (f.width - 1)
  let mag := c % 2 ^ (f.width - 1)
  let ef := mag / 2 ^ f.man
  let mf := mag % 2 ^ f.man
  if ef = 0 then .fin neg mf (f.emin - f.man)
  else .fin neg (2 ^ f.man + mf) ((ef : Int) - f.bias - f.man)

/-- Decode a pattern of a floating-point format of Table NUM-1. -/
def decodeFloat (f : FloatFmt) (c : Nat) : Num :=
  let mag := c % 2 ^ (f.width - 1)
  if mag ≤ f.top then finiteCode f c
  else if f.man = 3 ∧ f.width = 8 then .nan
  else if mag = f.top + 1 then .inf (bitOf c (f.width - 1))
  else .nan

/-- The value of an FP32 pattern. -/
def f32 (w : W32) : Num := decodeFloat fmtFp32 w.toNat

/-- The FP32 pattern of a value, to nearest even. -/
def Num.toF32 (v : Num) : W32 := BitVec.ofNat 32 (v.toWide fmtFp32 .nearest)

/-- The canonical NaN in FP32. -/
def nan32 : W32 := 0x7FC00000

/-- Whether an FP32 pattern is finite. -/
def finite32 (w : W32) : Bool := (f32 w).isFinite

/-- The biased exponent field of an FP32 pattern. -/
def expField (w : W32) : Nat := w.toNat / 2 ^ 23 % 256

/-! ### FP32 operations: one rounding each -/

def fadd (a b : W32) : W32 := ((f32 a).add (f32 b)).toF32
def fsub (a b : W32) : W32 := ((f32 a).add (f32 b).neg).toF32
def fmul (a b : W32) : W32 := ((f32 a).mul (f32 b)).toF32
def fneg (a : W32) : W32 := ((f32 a).neg).toF32
def fabs (a : W32) : W32 := ((f32 a).abs).toF32

/-- Fused multiply-add with one rounding (R37, R110). -/
def ffma (a b c : W32) : W32 := (((f32 a).mul (f32 b)).add (f32 c)).toF32

/-- Division with one rounding. -/
def fdiv (a b : W32) : W32 :=
  match f32 a, f32 b with
  | .nan, _ => nan32
  | _, .nan => nan32
  | .inf _, .inf _ => nan32
  | .inf x, .fin y _ _ => BitVec.ofNat 32 (signCode fmtFp32 (x != y) (fmtFp32.top + 1))
  | .fin x _ _, .inf y => BitVec.ofNat 32 (signCode fmtFp32 (x != y) 0)
  | .fin x m e, .fin y n g =>
    if n = 0 then
      if m = 0 then nan32 else BitVec.ofNat 32 (signCode fmtFp32 (x != y) (fmtFp32.top + 1))
    else BitVec.ofNat 32 (roundWide fmtFp32 .nearest (x != y) m n (e - g))

/-- The integer square root, by bits from the top: the largest r with r² ≤ n. -/
def isqrt (n : Nat) : Nat :=
  (List.range (n.log2 / 2 + 1)).reverse.foldl
    (fun r i => if (r + 2 ^ i) * (r + 2 ^ i) ≤ n then r + 2 ^ i else r) 0

/-- Square root with one rounding: the root is taken with 64 more bits than the significand, and an
inexact root keeps a sticky bit below them. -/
def fsqrt (a : W32) : W32 :=
  match f32 a with
  | .nan => nan32
  | .inf true => nan32
  | .inf false => BitVec.ofNat 32 (fmtFp32.top + 1)
  | .fin neg m e =>
    if m = 0 then BitVec.ofNat 32 (signCode fmtFp32 neg 0)
    else if neg then nan32
    else
      let k : Nat := if e % 2 = 0 then 128 else 129
      let n := m * 2 ^ k
      let r := isqrt n
      let sticky := if r * r = n then 0 else 1
      BitVec.ofNat 32 (roundWide fmtFp32 .nearest false (2 * r + sticky) 1 ((e - k) / 2 - 1))

/-- An unsigned integer as FP32, rounded once. -/
def fnat (n : Nat) : W32 := (Num.fin false n 0).toF32

/-- Whether a is above b, as FP32 values; a NaN compares false. -/
def fgt (a b : W32) : Bool := (f32 b).lt (f32 a)

/-- The pairwise sum of a list of FP32 values in lane order (R110): neighbours are added, level by
level. -/
def pairwise : List W32 → List W32
  | a :: b :: l => fadd a b :: pairwise l
  | l => l

/-- The sum over a fixed pairwise tree; `fuel` bounds its levels. -/
def treeSum : Nat → List W32 → W32
  | _, [] => 0
  | _, [a] => a
  | 0, a :: _ => a
  | fuel + 1, l => treeSum fuel (pairwise l)

/-! ### The generator (R51, R52) -/

/-- Rotate a 32-bit word left. -/
def rotl (x : W32) (k : Nat) : W32 := (x <<< k) ||| (x >>> (32 - k))

/-- One of the generator's four rounds. -/
def ctrRound (k0 k1 : W32) (st : W32 × W32 × W32 × W32) (i : Nat) : W32 × W32 × W32 × W32 :=
  let (a, b, c, d) := st
  let a := a + b
  let d := rotl (d ^^^ a) 16
  let c := c + d
  let b := rotl (b ^^^ c) 12
  let a := a + b
  let d := rotl (d ^^^ a) 8
  let c := c + d
  let b := rotl (b ^^^ c) 7
  (a + k0, b + k1, c, d + BitVec.ofNat 32 i)

/-- The position-addressed generator (R52). -/
def ctrRandom (seed adapter step tensor contributor index : Nat) : W32 :=
  let k0 := BitVec.ofNat 32 seed ^^^ BitVec.ofNat 32 adapter
  let k1 := BitVec.ofNat 32 (seed / 2 ^ 32)
  let a := BitVec.ofNat 32 index + k0
  let b := BitVec.ofNat 32 (index / 2 ^ 32) + k1
  let c := BitVec.ofNat 32 (contributor * 65536 + tensor)
  let d := BitVec.ofNat 32 step
  let r := [1, 2, 3, 4].foldl (ctrRound k0 k1) (a, b, c, d)
  r.1 ^^^ r.2.2.1

/-! ### RX64 (R55 to R59) -/

/-- ceil(log2 M). -/
def clog2 (m : Nat) : Nat := if m ≤ 1 then 0 else (m - 1).log2 + 1

/-- The headroom h of a tree of M members (R55). -/
def headroom (m : Nat) : Nat := clog2 m + 1

/-- L = E − 190 + h (R55). -/
def rxL (e m : Nat) : Int := (e : Int) - 190 + headroom m

/-- The entry conversion of a finite element: N = sr_round(x × 2^−L, 1, r) (R57); a non-finite element
converts to 0. -/
def rxIn (l : Int) (r : W32) (x : W32) : W64 :=
  match f32 x with
  | .fin neg m e =>
    let sh := e - l
    let q := if 0 ≤ sh then m * 2 ^ sh.toNat else roundQuot (.word r.toNat) m (2 ^ (-sh).toNat)
    if neg then -(BitVec.ofNat 64 q) else BitVec.ofNat 64 q
  | _ => 0

/-- The exit conversion: the quotient N × 2^L / C rounded stochastically to FP32; C = 0 gives +0.0
(R59). -/
def rxOut (l : Int) (c : Nat) (r : W32) (w : W64) : W32 :=
  let n := w.toInt
  if c = 0 ∨ n = 0 then 0
  else BitVec.ofNat 32 (roundWide fmtFp32 (.word r.toNat) (decide (n < 0)) n.natAbs c l)

/-- Whether an element lies in the flush range: finite, non-zero and below 2^(L − 32) (R57). -/
def flushed (l : Int) (x : W32) : Bool :=
  match f32 x with
  | .fin _ m e => m != 0 && decide (floorLog2 m 1 e < l - 32)
  | _ => false

/-- The residue of an RX64 line: the sum of its eight words, taken as signed integers, modulo 65,535
(R216). -/
def residueOf (ws : List W64) : Nat := ((ws.map (·.toInt)).sum % 65535).toNat

/-! ### CRC-32C (R215) -/

/-- One bit of the reflected CRC with polynomial 0x82F63B78. -/
def crcBit (c : Nat) : Nat := if c % 2 = 1 then (c / 2) ^^^ 0x82F63B78 else c / 2

/-- One byte of the CRC. -/
def crcByte (c : Nat) (b : Byte) : Nat :=
  [0, 1, 2, 3, 4, 5, 6, 7].foldl (fun c _ => crcBit c) (c ^^^ b.toNat)

/-- CRC-32C of a byte string. -/
def crc32c (bs : Bytes) : Nat := (bs.foldl crcByte 0xFFFFFFFF) ^^^ 0xFFFFFFFF

end Sys2Proof.Machine
end

