-- ==== Sys2Proof/Machine/Avenue.lean ====
section
/-! DEFINITION. Groups, Avenue ports and frames (chapter 08): the tree of ranks, routes, sending, the
receiver's acceptance, acknowledgement and retransmission, heartbeats, and the state changes of a group. -/

namespace Sys2Proof.Machine

/-! ### Ranks and the tree (R201) -/

/-- This module's FABRIC_ID. -/
def State.fabric (s : State) : Nat := s.mod.fabricId % 2 ^ 36

/-- Members M of a group. -/
def Group.size (g : Group) : Nat := g.live.length

/-- The rank of a member, or M for a module that is no member. -/
def Group.rankOf (g : Group) (fabric : Nat) : Nat := g.live.findIdx (· == fabric)

/-- The parent of a rank: floor((n − 1) / 2) in a reduction group, n − 1 in a Bower chain; none at the
root. -/
def parentOf (kind n : Nat) : Option Nat :=
  if n = 0 then none else if kind = 0 then some ((n - 1) / 2) else some (n - 1)

/-- The children of a rank in a tree of M members. -/
def childrenOf (kind m n : Nat) : List Nat :=
  ((if kind = 0 then [2 * n + 1, 2 * n + 2] else [n + 1]).filter (fun c => decide (c < m)))

/-- The parent rank of this module in a group. -/
def Group.parent (g : Group) (own : Nat) : Option Nat := parentOf g.kind (g.rankOf own)

/-- The child ranks of this module in a group. -/
def Group.children (g : Group) (own : Nat) : List Nat := childrenOf g.kind g.size (g.rankOf own)

/-- The ranks of this module's neighbours: the parent first. -/
def Group.neighbourRanks (g : Group) (own : Nat) : List Nat :=
  (match g.parent own with | some r => [r] | none => []) ++ g.children own

/-- The FABRIC_ID at a rank. -/
def Group.at (g : Group) (rank : Nat) : Nat := g.live.getD rank 0

/-- The FABRIC_IDs of this module's neighbours. -/
def Group.neighbours (g : Group) (own : Nat) : List Nat := (g.neighbourRanks own).map g.at

/-- A group of a plot by its local handle. -/
def Plot.groupOf (q : Plot) (handle : Nat) : Option Group := q.groups.find? (fun g => g.handle == handle)

/-- A group of a plot by its GROUP_ID. -/
def Plot.groupById (q : Plot) (id : Nat) : Option Group := q.groups.find? (fun g => g.groupId == id)

/-- Change a group of a plot. -/
def State.updGroup (s : State) (p handle : Nat) (f : Group → Group) : State :=
  s.updPlot p (fun q => { q with groups := q.groups.map (fun g => if g.handle = handle then f g else g) })

/-! ### Survival records (R318, Table SRV-11) -/

/-- The opcode of SURVIVAL records (Table BTH-5). -/
def srcSurvival : Nat := 0x8007

/-- What a survival record says; the fields that a kind does not use read all ones or zero. -/
structure Survival where
  kind : Nat
  group : Nat
  state : Nat
  mode : Nat
  step : Nat
  fabric : Nat
  generation : Nat
  members : Nat
  rank : Nat
  dropped : Nat
  deriving DecidableEq, Repr

/-- The body of a survival record at a tick. -/
def Survival.body (v : Survival) (tick : Nat) : Bytes :=
  natLE 2 v.kind ++ natLE 2 v.group ++ natLE 1 v.state ++ natLE 1 v.mode ++ natLE 2 0 ++ natLE 8 v.step ++
  natLE 8 v.fabric ++ natLE 4 v.generation ++ natLE 4 v.members ++ natLE 4 v.rank ++ natLE 4 v.dropped ++
  natLE 8 tick

/-- The STEP_MODE of the first armed policy of a plot whose plan names a group: 0 STOP, 1 REDO, 2 KEEP. A
plan with no armed policy behaves as STOP (R295). -/
def Plot.modeOfPlan (q : Plot) (plan : Nat) : Nat :=
  match q.policies.find plan with
  | some pol => pol.mode
  | none =>
    match q.policies.find? (fun e => e.2.activePlan == plan && e.2.state != 0) with
    | some e => e.2.mode
    | none => 0

/-- The loaded plans of a plot that name a group. -/
def Plot.plansNaming (q : Plot) (id : Nat) : List Nat :=
  (q.plans.filter (fun e => (e.2.header.rgroup == id || e.2.header.bgroup == id) && id != 0)).map (·.1)

/-- The step that a record of a group names: that of a running plan that names it, else all ones. -/
def Plot.groupStep (q : Plot) (id : Nat) : Nat :=
  match q.running.find? (fun st => (q.plansNaming id).contains st.plan) with
  | some st => st.step
  | none => 0xFFFFFFFFFFFFFFFF

/-- Post a survival event of a kind about a group, naming a module. -/
def State.survivalEvent (s : State) (p kind : Nat) (g : Group) (fabric dropped : Nat) : State :=
  let q := s.plot p
  let mode := ((q.plansNaming g.groupId).map q.modeOfPlan).headD 0
  s.unsolicited p srcSurvival
    (Survival.body { kind := kind, group := g.handle, state := if kind = 1 then g.state else 0xFF, mode := mode,
                     step := q.groupStep g.groupId, fabric := fabric, generation := g.generation,
                     members := g.size, rank := g.rankOf s.fabric, dropped := dropped } s.now)

/-- A group changes state, and the change is posted (R207). -/
def State.setGroupState (s : State) (p handle st fabric : Nat) : State :=
  match (s.plot p).groupOf handle with
  | none => s
  | some g =>
    if g.state = st then s
    else
      let g := { g with state := st }
      (s.updGroup p handle (fun x => { x with state := st })).survivalEvent p 1 g fabric 0

/-! ### Routes (R224, R225) -/

/-- The mask that ROUTE_SET gives for a neighbour; no entry leaves every port. -/
def Plot.routeMask (q : Plot) (fabric : Nat) : Nat := q.routes.get 0xFFF fabric

/-- Whether a port leads to a module: in rack mode its peer is that module, in hall mode its link is up;
a faulty port is out of the route. -/
def State.portLeads (s : State) (i fabric : Nat) : Bool :=
  let t := s.port i
  t.linkUp && !t.faulty && (s.mod.hall || (t.peerValid && t.peerId == fabric))

/-- The route of a plot's frames to a module. -/
def State.route (s : State) (p fabric : Nat) : List Nat :=
  (List.range 12).filter (fun i => s.portLeads i fabric && bitOf ((s.plot p).routeMask fabric) i)

/-- Whether every port of a list holds a transmit key, as hall mode needs (R412). -/
def State.portKeys (s : State) (route : List Nat) : Bool := route.all (fun i => (s.port i).txKey.isSome)

/-- Whether this module holds pair keys with a peer; rack mode needs none. -/
def State.paired (s : State) (fabric : Nat) : Bool :=
  !s.mod.hall || s.gatehouse.peers.any (fun e => e.fabricId == fabric && e.done)

/-- The first port that leads to a module. -/
def State.portTo (s : State) (fabric : Nat) : Option Nat := (List.range 12).find? (fun i => s.portLeads i fabric)

/-! ### Frames on the wire (R223, R226, R228) -/

/-- The EtherType of Avenue frames. -/
def avenueEtherType : Nat := 0x88B5

/-- The MAC address of a port (R223): 0x02, the port in 4 bits and the FABRIC_ID in 36, in transmission order. -/
def macBytes (port fabric : Nat) : Bytes := (natLE 6 (0x02 * 2 ^ 40 + port % 16 * 2 ^ 36 + fabric % 2 ^ 36)).reverse

/-- The Ethernet header of a frame. -/
def ethernetOf (f : Frame) : Bytes :=
  macBytes f.dstPort f.dst ++ macBytes f.srcPort f.src ++ (natLE 2 avenueEtherType).reverse

/-- The Avenue header (Table CSC-9) of a frame with a payload of so many bytes. -/
def headerOf (f : Frame) (len : Nat) : Bytes :=
  natLE 1 f.kind ++ natLE 1 f.vc ++ natLE 1 f.frameIdx ++ natLE 1 f.frameCnt ++ natLE 4 f.groupId ++ natLE 4 f.generation ++
  natLE 4 f.senderRank ++ natLE 8 f.step ++ natLE 4 f.seq ++ natLE 1 f.e ++
  natLE 1 (b2n f.nonfinite + 2 * b2n f.poison + 4 * b2n f.resent) ++ natLE 2 f.mM1 ++ natLE 4 f.c ++ natLE 4 f.dropped ++
  natLE 4 f.adapter ++ natLE 2 f.tensor ++ natLE 1 f.keyEpoch ++ natLE 1 0 ++ natLE 4 f.tile ++ natLE 2 len ++ natLE 2 0 ++
  natLE 8 f.linkSeq

/-- The payload of a frame: its bytes, or what a frame of VC0 says. -/
def contentOf (f : Frame) (body : Option Control) : Bytes :=
  match body with
  | some m => Config.controlBytes m
  | none => f.payload

/-- The residue trailer: two bytes for each line. -/
def trailerOf (f : Frame) : Bytes := (f.residues.map (natLE 2)).flatten

/-- The KIND of a frame of VC0 (Table CSC-9, R412). -/
def controlKind : Control → Nat
  | .keyx _ => 0x0B
  | _ => 1

/-- Whether a frame of VC0 only acknowledges. DESIGN CHOICE: such a frame takes no buffer that is counted, is not kept and
is not acknowledged in its turn, since no exchange would end otherwise (R227). -/
def onlyAcks : Control → Bool
  | .ack _ => true
  | _ => false

/-- Whether a frame of VC0 goes in clear in hall mode: it comes before the keys that would seal it (R224, R412). -/
def inClear : Control → Bool
  | .hello _ => true
  | .keyx _ => true
  | _ => false

/-- A frame with every field of the header zero. -/
def blankFrame (own : Nat) : Frame :=
  { dst := 0, dstPort := 0, src := own, srcPort := 0, fcsOk := true, tagOk := true, kind := 1, vc := 0, frameIdx := 0,
    frameCnt := 1, groupId := 0, generation := 0, senderRank := 0, step := 0, seq := 0, e := 0, nonfinite := false,
    poison := false, resent := false, mM1 := 0, c := 0, dropped := 0, adapter := 0, tensor := 0, keyEpoch := 0, tile := 0,
    linkSeq := 0, payload := [], residues := [] }

/-- A frame of a group with every optional field zero. -/
def Group.frame (g : Group) (own kind vc step : Nat) : Frame :=
  { blankFrame own with
    kind := kind, vc := vc, groupId := g.groupId, generation := g.generation, senderRank := g.rankOf own, step := step
    mM1 := g.size - 1 }

/-- The header of a group's frames of VC0 (R226). -/
def State.groupHeader (s : State) (p : Nat) (g : Group) : Frame := g.frame s.fabric 1 0 ((s.plot p).groupStep g.groupId)

/-- Receive buffers that a frame takes at the receiver: two for relay, snapshot and fill frames. -/
def frameBuffers (f : Frame) : Nat := if f.kind = 5 ∨ f.kind = 9 ∨ f.kind = 10 then 2 else 1

/-- Bytes of a frame: Ethernet header, Avenue header, payload, residue trailer, tag in hall mode, FCS. -/
def frameWire (f : Frame) (hall : Bool) : Nat :=
  14 + 64 + f.payload.length + 2 * f.residues.length + (if hall then 16 else 0) + 4

/-- The key that seals a frame on a port (R228): in hall mode the port's, once the receiver holds it. A frame of VC0 that
goes before that goes in clear, with KEY_EPOCH 0. -/
def State.sealKey (s : State) (dest i : Nat) (body : Option Control) : Option (Nat × Nat × Nat) :=
  if s.mod.hall && s.paired dest && !(match body with | some m => inClear m | none => false) then (s.port i).txKey else none

/-- What a port puts into a frame (R223, R226): the two addresses, LINK_SEQ, and KEY_EPOCH. In hall mode it goes to the
receiver's port of the same index (R224), in rack mode to the port whose HELLO came in. -/
def State.stamp (s : State) (dest i : Nat) (f : Frame) (body : Option Control) : Frame :=
  { f with
    dst := dest, dstPort := if s.mod.hall then i else (s.port i).peerPort, src := s.fabric, srcPort := i, fcsOk := true
    tagOk := true, linkSeq := (s.port i).txSeq
    keyEpoch := match s.sealKey dest i body with | some k => k.2.2 | none => 0 }

/-- A stamped frame as it leaves: sealed with the nonce and the additional data of R228, or in clear. -/
def State.wireOf (s : State) (dest i : Nat) (f : Frame) (body : Option Control) : Sent :=
  match s.sealKey dest i body with
  | some k =>
    .sealed i { f with payload := [], residues := [] }
      (Config.gcmSeal k.1 (leNat (natLE 4 k.2.1 ++ natLE 8 f.linkSeq)) (ethernetOf f ++ headerOf f (contentOf f body).length)
        (contentOf f body ++ trailerOf f))
  | none =>
    match body with
    | some m => .control i f m
    | none => .frame i f

/-! ### Sending (R217, R226, R227) -/

/-- A plot's receive buffers of a channel at a port; the neighbour's plot is taken to hold the same. -/
def Plot.share (q : Plot) (vc : Nat) : Nat :=
  if vc = 1 then q.cfg.rxVc1 else if vc = 2 then q.cfg.rxVc2 else if vc = 3 then q.cfg.rxVc3 else 32

/-- Buffers that a plot's unacknowledged frames hold at the other end of a port. -/
def Port.outstanding (t : Port) (p vc dest : Nat) : Nat :=
  ((t.retention.filter (fun r => r.plot == p && r.frame.vc == vc && r.dest == dest)).map (fun r => frameBuffers r.frame)).sum

/-- The port of a route that carries a frame: round-robin in FRAME_IDX order (R225). -/
def portFor (route : List Nat) (idx : Nat) : Nat := route.getD (idx % route.length) 0

/-- Whether the buffers of a list of frames are free, all of them in one reservation (R17). -/
def State.creditsFree (s : State) (p dest : Nat) (route : List Nat) (fs : List Frame) : Bool :=
  !route.isEmpty && route.all (fun i =>
    let mine := fs.filter (fun f => portFor route f.frameIdx == i)
    decide ((s.port i).outstanding p ((fs.map (·.vc)).headD 0) dest + (mine.map frameBuffers).sum ≤
            (s.plot p).share ((fs.map (·.vc)).headD 0)))

/-- Put a frame on a port: it is stamped, counted, charged, kept until it is acknowledged, and sent. -/
def State.transmit (s : State) (i : Nat) (r : Retained) : State :=
  let f := s.stamp r.dest i r.frame r.body
  let out := s.wireOf r.dest i f r.body
  let kept := match r.body with | some m => !onlyAcks m | none => true
  let s := s.updPort i (fun t => { t with
    txSeq := t.txSeq + 1, txFrames := t.txFrames + 1, keyFrames := t.keyFrames + 1,
    retention := if kept then t.retention ++ [{ r with frame := f, sentTick := s.now }] else t.retention })
  let s := if f.vc = 0 then s else
    s.charge r.plot (fun c => { c with avenueTx := c.avenueTx + BitVec.ofNat 64 (frameWire f s.mod.hall) })
  s.emit out

/-- Send a list of frames over a route. -/
def State.sendFrames (s : State) (p dest : Nat) (route : List Nat) (fs : List Frame) : State :=
  fs.foldl (fun t f => t.transmit (portFor route f.frameIdx)
    { frame := f, body := none, route := route, dest := dest, plot := p, sentTick := 0, attempts := 1 }) s

/-- Whether one of the 32 buffers of VC0, which belong to plot 0, is free at the other end of a port (R226). -/
def State.controlFree (s : State) (i dest : Nat) : Bool := decide ((s.port i).outstanding 0 0 dest < 32)

/-- Send a frame of VC0 on a port, with the header of a group or a blank one; it waits while no buffer is free. -/
def State.sendOn (s : State) (i dest : Nat) (hdr : Frame) (m : Control) : State :=
  let r : Retained :=
    { frame := { hdr with kind := controlKind m, vc := 0 }, body := some m, route := [i], dest := dest, plot := 0, sentTick := 0,
      attempts := 1 }
  if onlyAcks m || ((s.port i).waiting.isEmpty && s.controlFree i dest) then s.transmit i r
  else s.updPort i (fun t => { t with waiting := t.waiting ++ [r] })

/-- Send a frame of VC0 to a module over the first port that leads to it; with none there is no way. -/
def State.sendControl (s : State) (dest : Nat) (hdr : Frame) (m : Control) : State :=
  match s.portTo dest with
  | none => s
  | some i => s.sendOn i dest hdr m

/-- Send the frames of VC0 that wait at a port, in order, as far as they find buffers. -/
def State.drainWaiting (s : State) (i : Nat) : State :=
  (s.port i).waiting.foldl (fun t r =>
    if (t.port i).waiting.head? = some r ∧ t.controlFree i r.dest = true then
      (t.updPort i (fun x => { x with waiting := x.waiting.tail })).transmit i r
    else t) s

/-- The ports over which a retained frame may go again: those that it reserved (R224) and, of VC0, all that lead to the
receiver. -/
def State.waysOf (s : State) (r : Retained) : List Nat :=
  (if r.frame.vc = 0 then List.range 12 else r.route).filter (fun k => s.portLeads k r.dest)

/-- Repeat a retained frame with a new LINK_SEQ, on its own port while that leads to the receiver, else on the first of its
ports that does; with none it waits. Attempts are counted anew on another port. -/
def State.repeatFrame (s : State) (i : Nat) (r : Retained) : State :=
  match (if (s.waysOf r).contains i then some i else (s.waysOf r).head?) with
  | none => s
  | some k =>
    let s := s.updPort i (fun t => { t with retention := t.retention.filter (· != r) })
    let s := s.updPort k (fun t => { t with retransmits := t.retransmits + 1 })
    let f := { r.frame with resent := true }
    let n := if k = i ∧ r.attempts < 8 then r.attempts + 1 else 1
    s.transmit k { r with frame := f, attempts := n }

/-- Send again every frame that waits for a module, in the order of the ports (Table CSC-5). -/
def State.resendWaiting (s : State) (fabric : Nat) : State :=
  (List.range 12).foldl (fun t i =>
    ((t.port i).retention.filter (fun r => r.dest == fabric)).foldl (fun u r => u.repeatFrame i r) t) s

/-! ### Receiving (R208, R220, R226 to R228) -/

/-- The duplicate key of R227, with the fields that keep frames of different transfers apart. -/
def frameKey (f : Frame) : List Nat :=
  [f.groupId, f.generation, f.seq, f.kind, f.frameIdx, f.step, f.tensor, f.tile, f.senderRank, f.src]

/-- Whether the module has accepted a frame before, on whichever port (R225, R227). -/
def State.seenBefore (s : State) (f : Frame) : Bool := (List.range 12).any (fun k => (s.port k).seen.contains (frameKey f))

/-- The plot and group that a frame belongs to, by GROUP_ID, in ascending order of plots. A group that is
dissolved or suspended takes no frame. -/
def State.groupFor (s : State) (id src : Nat) : Option (Nat × Group) :=
  (tenantPlots.filterMap (fun p => ((s.plot p).groups.find? (fun g =>
      g.groupId == id && g.state != groupDissolved && !g.suspended && g.live.contains src)).map
    (fun g => (p, g)))).head?

/-- Whether a frame names an older generation of a group that the module holds (R220). -/
def State.olderFrame (s : State) (id generation : Nat) : Bool :=
  tenantPlots.any (fun p => (s.plot p).groups.any (fun g => g.groupId == id && decide (generation < g.generation)))

/-- What a frame that arrives at a port shows of its link. -/
def linkOf (f : Frame) (port : Nat) : Link :=
  { port := port, src := f.src, srcPort := f.srcPort, fcsOk := f.fcsOk, tagOk := f.tagOk, keyEpoch := f.keyEpoch, linkSeq := f.linkSeq }

/-- Whether a receiver holds the key of a frame's epoch in hall mode: that of the sender's port (R413). -/
def State.holdsEpoch (s : State) (l : Link) : Bool :=
  s.gatehouse.peers.any (fun e => e.fabricId == l.src && e.portKeys.any (fun k => k.1 == l.srcPort && k.2.1 == l.keyEpoch))

/-- Whether a receiver holds any port key of a module. -/
def State.holdsKeys (s : State) (src : Nat) : Bool :=
  s.gatehouse.peers.any (fun e => e.fabricId == src && !e.portKeys.isEmpty)

/-- Why a frame is dropped, if it is (R226, R228): its FCS, an epoch that the receiver does not hold, or its tag, with the
flag of AVN_ERR that this sets. `clear` marks what may come before keys; it bears KEY_EPOCH 0. -/
def State.badLink (s : State) (l : Link) (clear : Bool) : Option (Option Nat) :=
  if !l.fcsOk then some none
  else if !s.mod.hall || (clear && l.keyEpoch == 0) then none
  else if !s.holdsEpoch l then some (some 2)
  else if !l.tagOk then some (some 1)
  else none

/-- Engine of a port. -/
def portEngine (i : Nat) : Nat := 2 + i

/-- Count a frame of an old generation or of an unknown relay buffer. -/
def State.stale (s : State) (i : Nat) : State :=
  s.updEngine (portEngine i) (fun e => { e with stale := e.stale + 1 })

/-- Every frame of a group renews the lease of its sender (R208). -/
def State.hear (s : State) (p handle src : Nat) : State :=
  s.updGroup p handle (fun g => { g with heard := g.heard.set src s.now })

/-- A neighbour is heard: the lease is renewed; when it was the cause of SUSPECT and every neighbour has
a route and has been heard, the group returns to ACTIVE and the waiting frames resend (Table CSC-5). -/
def State.renew (s : State) (p : Nat) (g : Group) (fabric : Nat) : State :=
  if (g.neighbours s.fabric).contains fabric = false ∨ g.state = groupDissolved ∨ g.suspended = true then s
  else
    let s := s.updGroup p g.handle (fun x => { x with heard := x.heard.set fabric s.now, pauseTicks := x.pauseTicks.erase fabric })
    if g.state = groupSuspect ∧
        (g.neighbours s.fabric).all (fun n => !(s.route p n).isEmpty &&
          (n == fabric || decide (s.now < g.heard.get 0 n + 10000000))) = true then
      (s.setGroupState p g.handle groupActive fabric).resendWaiting fabric
    else s

/-- A module is heard on the leases of a plot that belong to no group. -/
def Plot.hearEnd (q : Plot) (fabric now : Nat) : Plot :=
  { q with
    fills := q.fills.map (fun x => if x.sources.head? = some fabric then { x with heard := now } else x)
    serving := q.serving.map (fun x => if x.dest = fabric then { x with heard := now } else x)
    partners := q.partners.mapVals (fun x => if x.peer = fabric then { x with heard := now } else x) }

/-- Every frame of a module renews the leases that are held with it outside groups (R297). -/
def State.hearEnds (s : State) (src : Nat) : State := { s with plots := s.plots.mapVals (fun q => q.hearEnd src s.now) }

/-- A frame of VC0 that names a group renews its sender's lease in every plot that has joined the group. -/
def State.renewById (s : State) (id src : Nat) : State :=
  tenantPlots.foldl (fun t p => match (t.plot p).groupById id with
    | some g => t.renew p g src
    | none => t) s

/-- An unusable frame: counted in AVN_RX_DROPPED, and reported as CORRECTED, since R227 repeats it. -/
def State.dropFrame (s : State) (i : Nat) (flag : Option Nat) : State :=
  s.updPort i (fun t => { t with
    rxDropped := t.rxDropped + 1
    err := match flag with | some b => setFlag t.err b | none => t.err })

/-- What becomes of an arriving frame: dropped (and the state after), repeated and to be acknowledged
again, or accepted for a plot's group. -/
inductive Arrival where
  | dropped (s : State)
  | duplicate (s : State)
  | taken (p : Nat) (g : Group) (s : State)

/-- The checks of an arriving frame: FCS, hall tag and epoch (R228), group and generation (R220, R226),
and repetition (R227). A frame of the group, repeated or not, renews its sender's lease (R208). -/
def State.arrive (s : State) (i : Nat) (f : Frame) : Arrival :=
  if !(s.port i).linkUp then .dropped s
  else
    match s.badLink (linkOf f i) false with
    | some flag => .dropped (s.dropFrame i flag)
    | none =>
      match s.groupFor f.groupId f.src with
      | none => .dropped (if s.olderFrame f.groupId f.generation then s.stale i else s)
      | some (p, g) =>
        if f.generation < g.generation then .dropped (s.stale i)
        else if g.generation < f.generation then .dropped s
        else
          let s := (s.renew p g f.src).hearEnds f.src
          if s.seenBefore f then .duplicate (s.updPort i (fun t => { t with toAck := t.toAck ++ [(f.src, f.linkSeq)] }))
          else .taken p (((s.plot p).groupOf g.handle).getD g) s

/-- Accept a frame: it is acknowledged, counted, and renews its sender's lease. -/
def State.acceptFrame (s : State) (i p handle : Nat) (f : Frame) : State :=
  let s := s.updPort i (fun t => { t with
    rxFrames := t.rxFrames + 1, toAck := t.toAck ++ [(f.src, f.linkSeq)], seen := t.seen ++ [(frameKey f)] })
  (s.charge p (fun c => { c with avenueRx := c.avenueRx + BitVec.ofNat 64 (frameWire f s.mod.hall) })).hear p handle f.src

/-- A frame of VC0 that arrives: dropped as R228 says, else counted, heard (R297), to be
acknowledged, and worked. One that comes again
is worked again: what these frames say changes nothing the second time. In hall mode one that bears KEY_EPOCH 0 is taken
only while its sender's keys are not held, or when it makes the keys. -/
def State.hearControl (s : State) (l : Link) (keying acked : Bool) (work : State → State) : State :=
  if !(s.port l.port).linkUp then s
  else
    match s.badLink l (keying || !s.holdsKeys l.src) with
    | some flag => s.dropFrame l.port flag
    | none =>
      work ((s.hearEnds l.src).updPort l.port (fun t => { t with
        rxFrames := t.rxFrames + 1, toAck := if acked then t.toAck ++ [(l.src, l.linkSeq)] else t.toAck }))

/-- A protocol fault of a group: PROTOCOL is set at the port's engine, the group is suspended, and it is
treated as lost at lease lapse (R226, Table ERR-2). -/
def State.protocolFault (s : State) (i p : Nat) (g : Group) : State :=
  let s := s.updEngine (portEngine i) (fun e => { e with err := setFlag e.err 3 })
  let s := s.updGroup p g.handle (fun x => { x with suspended := true })
  s.raise p (s.errOf 2 4 3 (portEngine i) ((s.plot p).groupStep g.groupId))

/-! ### Ports: links, HELLO, acknowledgement -/

/-- A link comes up (R224, R225): its port returns to the routes that it left and sends a HELLO. In hall mode with an
anchor the Gatehouse makes a transmit key for the port, starting at KEY_EPOCH 1 (R411, R413). -/
def State.raiseLink (s : State) (port : Nat) : State :=
  if (s.port port).linkUp then s
  else
    let s := s.updPort port (fun t => { t with linkUp := true, lanesUp := 15, faulty := false })
    let s := if s.mod.hall && s.mod.anchor.isSome && s.gatehouse.trngOk then
        let (key, s) := s.draw 256
        let (salt, s) := s.draw 32
        s.updPort port (fun t => { t with txKey := some (key, salt, 1), newKey := none, rekeyWaits := [], keyFrames := 0, keyTick := s.now })
      else s
    s.sendOn port (s.port port).peerId (blankFrame s.fabric) (.hello s.fabric)

/-- HELLO (R224): the link of a port comes up, or the HELLO of its peer arrives, which a link that is up alone can carry:
its FABRIC_ID stands in AVN_PEER_ID. -/
def execHello (l : Link) (peer : Option Nat) (s : State) : Out :=
  if s.unitFenced (16 + l.port) then .next s else
  match peer with
  | none => .next (s.raiseLink l.port)
  | some f =>
    .next ((s.raiseLink l.port).hearControl l true true (fun s => s.updPort l.port (fun t => { t with
      peerId := f % 2 ^ 36, peerValid := true, peerPort := l.srcPort })))

/-- CONTROL (R227): the frames whose LINK_SEQs a receiver has accepted leave retention, and frames of VC0 that waited
for their buffers go. -/
def State.acknowledge (s : State) (port : Nat) (acks : List Nat) : State :=
  (s.updPort port (fun t => { t with
    retention := t.retention.filter (fun r => !acks.contains r.frame.linkSeq)
    creditWait := t.creditWait + BitVec.ofNat 64 (Config.creditWait port s.now)
    fecCorrected := t.fecCorrected + BitVec.ofNat 64 (Config.fecCorrected port s.now) })).drainWaiting port

/-- ACK_TIMER (R227): CONTROL frames acknowledge what the port has accepted since the last, to each sender its own. -/
def execAckTimer (port : Nat) (s : State) : Out :=
  let due := (s.port port).toAck
  let s := s.updPort port (fun t => { t with toAck := [] })
  .next ((due.map (·.1)).eraseDups.foldl (fun t src =>
    t.sendOn port src (blankFrame s.fabric) (.ack ((due.filter (fun e => e.1 == src)).map (·.2)))) s)

/-- Ticks of 20 µs (R227). -/
def retransmitTicks : Nat := 2000

/-- The attempts after which a frame is given up (R227). -/
def maxAttempts : Nat := 8

/-- The groups of a plot that have a module as a neighbour and flow. -/
def State.groupsTouching (s : State) (p fabric : Nat) : List Group :=
  (s.plot p).groups.filter (fun g =>
    (g.state == groupActive || g.state == groupSuspect) && (g.neighbours s.fabric).contains fabric)

/-- A neighbour of a plot whose route has lost its last port: the groups it belongs to become SUSPECT, and
the loss of the port is a FUNCTION error; while the route keeps a port it is CORRECTED and no plot is told
(Tables ERR-1, ERR-2). -/
def State.routeCheck (s : State) (p fabric i cause : Nat) : State :=
  let gs := (s.groupsTouching p fabric)
  if gs.isEmpty then s
  else if (s.route p fabric).isEmpty then
    let s := gs.foldl (fun t g => t.setGroupState p g.handle groupSuspect fabric) s
    s.raise p (s.errOf 2 5 cause i (s.plot p).eventStep)
  else s

/-- Every neighbour of every plot is checked after a port has left its routes. -/
def State.routesChanged (s : State) (i cause : Nat) : State :=
  tenantPlots.foldl (fun t p =>
    let ns := ((t.plot p).groups.map (fun g => g.neighbours t.fabric)).flatten.eraseDups
    (ns.filter (fun f => bitOf ((t.plot p).routeMask f) i && (t.mod.hall || (t.port i).peerId == f))).foldl
      (fun u f => u.routeCheck p f i cause) t) s

/-- A frame that has been sent eight times is given up on its port, which leaves the routes (R225, R227). The frame stays
in retention (R217) and goes over another of its ports, or waits until its receiver returns. -/
def State.giveUp (s : State) (port : Nat) (r : Retained) : State :=
  let x := { r with attempts := maxAttempts + 1 }
  let s := s.updPort port (fun t => { t with
    retention := t.retention.map (fun y => if y = r then x else y), faulty := true, err := setFlag t.err 3 })
  (s.routesChanged port 3).repeatFrame port x

/-- The oldest frame of a port that has not been acknowledged within 20 µs and can be repeated or given up (R227). -/
def State.dueFrame (s : State) (port : Nat) : Option Retained :=
  (s.port port).retention.find? (fun r => decide (r.sentTick + retransmitTicks ≤ s.now) &&
    (r.attempts == maxAttempts || (decide (r.attempts < maxAttempts) && !(s.waysOf r).isEmpty)))

/-- LINK_DOWN (R207, R225): the port leaves its routes, and a neighbour that has no port left makes its
groups SUSPECT at once. -/
def execLinkDown (port : Nat) (s : State) : Out :=
  if (s.port port).linkUp = true then
    let s := s.updPort port (fun t => { t with linkUp := false, lanesUp := 0, peerValid := false, err := setFlag t.err 0 })
    .next (s.routesChanged port 0)
  else .next s

/-- FOREIGN_FRAME (R223): dropped in rack mode, passed to the Lodge in hall mode. -/
def execForeignFrame (port etherType : Nat) (bytes : Bytes) (s : State) : Out :=
  if s.mod.hall = true ∧ (s.port port).linkUp = true ∧ etherType ≠ avenueEtherType then .next (s.emit (.ethernet port bytes))
  else .next s

/-! ### Leases (R208, R432) -/

/-- Ticks of 50 ms. -/
def heartbeatTicks : Nat := 5000000

/-- The other ends of a plot's leases besides its group edges (R297): the sources of its fills, those it sends copies
to, and its snapshot partners. -/
def Plot.otherEnds (q : Plot) : List Nat :=
  q.fills.filterMap (fun x => x.sources.head?) ++ q.serving.map (·.dest) ++
  (q.partners.filter (fun e => e.2.formed && decide (e.2.state < 2))).map (fun e => e.2.peer)

/-- HEARTBEAT_SEND (R208, R297, R328): the Bothy firmware beats on every lease: on the edges of groups, not of one
that is dissolved or suspended, and on its other leases; not while the firmware is paused. -/
def execHeartbeatSend (s : State) : Out :=
  if s.bothy.ready = true ∧ s.bothy.paused = false ∧ s.bothy.lastBeat + heartbeatTicks ≤ s.now then
    let tos := (tenantPlots.map (fun p => (((s.plot p).groups.filter (fun g =>
      g.state != groupDissolved && !g.suspended)).map (fun g => g.neighbours s.fabric)).flatten ++ (s.plot p).otherEnds)).flatten.eraseDups
    let s := tos.foldl (fun t f => t.sendControl f (blankFrame s.fabric) .heartbeat) s
    .next { s with bothy := { s.bothy with lastBeat := s.now } }
  else .next s

/-- PAUSE_NOTICE (R432): the receiver allows the named time of extra silence before the next lapse, once. -/
def execPauseNotice (l : Link) (millis : Nat) (s : State) : Out :=
  .next (s.hearControl l false true (fun s =>
    { s with plots := s.plots.mapVals (fun q => { q with groups := q.groups.map (fun g =>
      if (g.neighbours s.fabric).contains l.src = true then { g with pauseTicks := g.pauseTicks.set l.src (millis * 100000) } else g) }) }))

/-! ### ROUTE_SET (R224, Tables CSC-4, CSC-8) -/

/-- Entry `i` of a ROUTE_SET payload: FABRIC_ID and port mask. -/
def routeEntry (pl : Bytes) (i : Nat) : Nat × Nat := (fieldAt pl (8 + 16 * i) 8, fieldAt pl (0x10 + 16 * i) 2)

/-- The route table after a request's entries, in order: a mask of 0 deletes. -/
def routesAfter (pl : Bytes) (m : NMap Nat) : NMap Nat :=
  (List.range (fieldAt pl 0 1)).foldl (fun m i =>
    let e := routeEntry pl i
    if e.2 = 0 then m.erase e.1 else m.set e.1 e.2) m

/-- ROUTE_SET: COUNT and masks, reachability, then the table's size. -/
def execRouteSet (p : Nat) (s : State) : Out :=
  .next (s.serve p opRouteSet (fun _ => true) (fun r s =>
    let n := fieldAt r.payload 0 1
    let es := (List.range n).map (routeEntry r.payload)
    if n = 0 ∨ 56 < n ∨ es.any (fun e => decide (4096 ≤ e.2)) = true then s.refuse p r stNotPermitted
    else if es.any (fun e => e.2 != 0 && !(List.range 12).any (fun i => s.portLeads i e.1)) = true then
      s.refuse p r stRouteUnreachable
    else
      let m := routesAfter r.payload (s.plot p).routes
      if 256 < m.length then s.refuse p r stNoMemory
      else (s.updPlot p (fun q => { q with routes := m })).ok p r []))

end Sys2Proof.Machine
end

