-- ==== Sys2Proof/Machine/Layout.lean ====
section
/-! DEFINITION. Tensors, views and their elements (chapter 05): element packing, scale planes, bounds and
fill, reading and writing a box, and the memories that a Pavilion reaches. -/

namespace Sys2Proof.Machine

/-- A tensor record (Table LAY-1). -/
structure Tensor where
  base : Nat
  scaleBase : Nat
  mem : Nat
  fmt : Nat
  rank : Nat
  lane : Nat
  dims : List Nat
  strides : List Nat
  deriving DecidableEq, Repr

/-- A view record (Table LAY-4). -/
structure View where
  tensor : Nat
  fill : Nat
  origins : List Int
  extents : List Nat
  deriving DecidableEq, Repr

/-- Read a tensor record. -/
def parseTensor (b : Bytes) : Tensor :=
  { base := fieldAt b 0 6, scaleBase := fieldAt b 8 6, mem := fieldAt b 0x10 1, fmt := fieldAt b 0x11 1,
    rank := fieldAt b 0x12 1, lane := fieldAt b 0x13 1 % 16,
    dims := [fieldAt b 0x14 4, fieldAt b 0x18 4, fieldAt b 0x1C 4, fieldAt b 0x20 4],
    strides := [0, fieldAt b 0x28 6, fieldAt b 0x30 6, fieldAt b 0x38 6] }

/-- Read a view record. -/
def parseView (b : Bytes) : View :=
  { tensor := fieldAt b 0 4, fill := fieldAt b 4 4,
    origins := [signedOf 32 (fieldAt b 8 4), signedOf 32 (fieldAt b 12 4), signedOf 32 (fieldAt b 16 4),
                signedOf 32 (fieldAt b 20 4)],
    extents := [fieldAt b 0x18 4, fieldAt b 0x1C 4, fieldAt b 0x20 4, fieldAt b 0x24 4] }

/-- The view index that names none (R125). -/
def noView : Nat := 0xFFFFFFFF

/-- Whether a format is an MX format (Table NUM-3). -/
def isMx (fmt : Nat) : Bool := decide (8 ≤ fmt) && decide (fmt ≤ 0x0D)

/-- Whether a format is that of a key or value page (Table NUM-3). -/
def isPage (fmt : Nat) : Bool := decide (0x10 ≤ fmt) && decide (fmt ≤ 0x13)

/-- Whether a code stands in Table NUM-3. -/
def knownFormat (fmt : Nat) : Bool :=
  decide (fmt ≤ 6) || isMx fmt || isPage fmt || fmt == 0x20

/-- Bits of an element (Table LAY-3). -/
def formatBits (fmt : Nat) : Nat :=
  if fmt = 0 then 32 else if fmt = 1 then 16
  else if fmt = 6 ∨ fmt = 0x0C ∨ fmt = 0x12 ∨ fmt = 0x13 then 4
  else if fmt = 0x0A ∨ fmt = 0x0B then 6 else 8

/-- Bytes of a row of `n` elements (Table LAY-3). -/
def rowBytes (fmt n : Nat) : Nat :=
  if formatBits fmt = 4 then ceilDiv n 2
  else if formatBits fmt = 6 then 3 * ceilDiv n 4
  else n * (formatBits fmt / 8)

/-- The byte of a row at which the group of element `i` starts, the bytes of the group, and the element's
bit within it (Table LAY-3). -/
def elemPlace (fmt i : Nat) : Nat × Nat × Nat :=
  if formatBits fmt = 4 then (i / 2, 1, i % 2 * 4)
  else if formatBits fmt = 6 then (3 * (i / 4), 3, i % 4 * 6)
  else (i * (formatBits fmt / 8), formatBits fmt / 8, 0)

/-- The address of the row of indices (i1, i2, i3) (R128). -/
def Tensor.rowAddr (t : Tensor) (i : List Nat) : Nat :=
  t.base + i.getD 1 0 * t.strides.getD 1 0 + i.getD 2 0 * t.strides.getD 2 0 + i.getD 3 0 * t.strides.getD 3 0

/-- The address of an element's scale byte (R130). -/
def Tensor.scaleAddr (t : Tensor) (i : List Nat) : Nat :=
  t.scaleBase + ((i.getD 3 0 * t.dims.getD 2 1 + i.getD 2 0) * t.dims.getD 1 1 + i.getD 1 0) *
    ceilDiv (t.dims.getD 0 0) 32 + i.getD 0 0 / 32

/-- The byte after a tensor's last element (R128). -/
def Tensor.endAddr (t : Tensor) : Nat :=
  if t.dims.any (· == 0) then t.base
  else t.rowAddr [0, t.dims.getD 1 1 - 1, t.dims.getD 2 1 - 1, t.dims.getD 3 1 - 1] + rowBytes t.fmt (t.dims.getD 0 0)

/-- Bytes of a tensor's scale plane (R130). -/
def Tensor.scaleBytes (t : Tensor) : Nat :=
  if isMx t.fmt then t.dims.getD 3 1 * t.dims.getD 2 1 * t.dims.getD 1 1 * ceilDiv (t.dims.getD 0 0) 32 else 0

/-- Elements of a box. -/
def View.size (v : View) : Nat := v.extents.getD 0 0 * v.extents.getD 1 0 * v.extents.getD 2 0 * v.extents.getD 3 0

/-- The box index at row-major position `n`, dimension 0 fastest (R132). -/
def View.index (v : View) (n : Nat) : List Nat :=
  let e0 := v.extents.getD 0 0; let e1 := v.extents.getD 1 0; let e2 := v.extents.getD 2 0
  [n % e0, n / e0 % e1, n / (e0 * e1) % e2, n / (e0 * e1 * e2)]

/-- The tensor indices of a box index, when it is in bounds in every dimension (R134). -/
def View.inBounds (v : View) (t : Tensor) (j : List Nat) : Option (List Nat) :=
  let is := (List.range 4).map (fun d => v.origins.getD d 0 + (j.getD d 0 : Nat))
  if (List.range 4).all (fun d => decide (0 ≤ is.getD d 0) && decide (is.getD d 0 < (t.dims.getD d 0 : Nat)))
  then some (is.map Int.toNat) else none

/-! ### The memories of Table LAY-2 -/

/-- A resolved byte: device memory, a Glasshouse byte (Terrace × 96 MiB + physical offset), a local store
byte, or nothing. -/
inductive Loc where
  | dev (a : Nat)
  | gh (a : Nat)
  | ls (a : Nat)
  | nothing
  deriving DecidableEq, Repr

/-- Bytes of a Glasshouse (R167). -/
def ghBytes : Nat := 96 * 1048576

/-- The lines that poison marks: 64 bytes of device memory, 128 of local store and the Glasshouse
(R321). -/
def lineOf : Loc → Nat
  | .dev a => a / 64
  | .gh a => a / 128
  | .ls a => a / 128
  | .nothing => 0

/-- What a descriptor's operands resolve against: the plot, the Pavilion, and the record that each lane
holds (pointer and bytes), if any (R150). -/
structure OpCtx where
  plot : Nat
  pav : Nat
  lanes : List (Option (Nat × Nat))
  deriving DecidableEq, Repr

/-- Resolve an offset of a tensor's memory (Table LAY-2). A Glasshouse offset maps through the plot's
MiB units (Table MEM-7); an ADAPTER offset is inside the record or nothing (R150). -/
def State.locate (s : State) (cx : OpCtx) (mem lane a : Nat) : Loc :=
  if mem = 0 then .dev a
  else if mem = 1 then
    match (s.plot cx.plot).gh0Units[a / 1048576]? with
    | some u => .gh (u * 1048576 + a % 1048576)
    | none => .nothing
  else if mem = 2 then
    match (s.plot cx.plot).gh1Units[a / 1048576]? with
    | some u => .gh (ghBytes + u * 1048576 + a % 1048576)
    | none => .nothing
  else if mem = 3 then .ls a
  else
    match cx.lanes.getD lane none with
    | some r => if a < r.2 then .dev (r.1 + a) else .nothing
    | none => .nothing

/-- The byte at a place. -/
def State.locByte (s : State) (pav : Nat) : Loc → Byte
  | .dev a => s.mem.read a
  | .gh a => s.mem.gh.get 0 a
  | .ls a => (s.pav pav).store.get 0 a
  | .nothing => 0

/-- Whether the line at a place is poisoned. -/
def State.locPoison (s : State) (pav : Nat) : Loc → Bool
  | .dev a => s.mem.linePoisoned (a / 64)
  | .gh a => s.mem.ghPoison.contains (a / 128)
  | .ls a => (s.pav pav).storePoison.contains (a / 128)
  | .nothing => false

/-! ### Reading a box -/

/-- An element as read: its code, its E8M0 scale code (127 where none applies), and whether it comes from
a poisoned line. -/
structure Elem where
  code : Nat
  scale : Nat
  poisoned : Bool
  deriving DecidableEq, Repr

/-- The code of an element given its row's address. -/
def State.elemAt (s : State) (cx : OpCtx) (t : Tensor) (row i0 : Nat) : Nat × Bool :=
  let (off, n, bit) := elemPlace t.fmt i0
  let locs := (List.range n).map (fun k => s.locate cx t.mem t.lane (row + off + k))
  (leNat (locs.map (s.locByte cx.pav)) / 2 ^ bit % 2 ^ formatBits t.fmt, locs.any (s.locPoison cx.pav))

/-- The element at tensor indices that are in bounds. -/
def State.tensorElem (s : State) (cx : OpCtx) (t : Tensor) (i : List Nat) : Elem :=
  let e := s.elemAt cx t (t.rowAddr i) (i.getD 0 0)
  if isMx t.fmt then
    let l := s.locate cx t.mem t.lane (t.scaleAddr i)
    { code := e.1, scale := (s.locByte cx.pav l).toNat, poisoned := e.2 || s.locPoison cx.pav l }
  else { code := e.1, scale := 127, poisoned := e.2 }

/-- The element at a box index: the tensor's, or the view's FILL when out of bounds, with scale code 127
(R135). A view of MEM ADAPTER whose lane holds no adapter reads only fill (R150). -/
def State.viewElem (s : State) (cx : OpCtx) (t : Tensor) (v : View) (j : List Nat) : Elem :=
  let fill : Elem := { code := v.fill % 2 ^ formatBits t.fmt, scale := 127, poisoned := false }
  if t.mem = 4 ∧ (cx.lanes.getD t.lane none).isNone then fill
  else
    match v.inBounds t j with
    | some i => s.tensorElem cx t i
    | none => fill

/-- Every element of a box in row-major order. -/
def State.viewElems (s : State) (cx : OpCtx) (t : Tensor) (v : View) : List Elem :=
  (List.range v.size).map (fun n => s.viewElem cx t v (v.index n))

/-- The exact value of a code in a format, before any scale (Tables NUM-1, NUM-2). -/
def codeValue (fmt c : Nat) : Num :=
  match fmt with
  | 0 => decodeFloat fmtFp32 c
  | 1 => decodeFloat fmtBf16 c
  | 2 => decodeFloat fmtE4m3 c
  | 3 => decodeFloat fmtE5m2 c
  | 8 => decodeFloat fmtE4m3 c
  | 9 => decodeFloat fmtE5m2 c
  | 0x0A => finiteCode fmtE2m3 c
  | 0x0B => finiteCode fmtE3m2 c
  | 0x0C => finiteCode fmtE2m1 c
  | 0x0D => (Num.ofInt (signedOf 8 c)).scale (-6)
  | 6 => Num.ofInt (signedOf 4 c)
  | 0x12 => Num.ofInt (signedOf 4 c)
  | 0x13 => Num.ofInt (signedOf 4 c)
  | _ => Num.ofInt (signedOf 8 c)

/-- The value of an element: its code's value times 2^(scale − 127); the scale 0xFF is NaN (R34). -/
def Elem.value (fmt : Nat) (e : Elem) : Num :=
  if isMx fmt then (if e.scale = 0xFF then .nan else (codeValue fmt e.code).scale ((e.scale : Int) - 127))
  else codeValue fmt e.code

/-! ### Writing a box -/

/-- Bytes staged by a descriptor before its destination accepts them, with the lines that take data from
a poisoned source. The key of a byte is its place's number within one memory. -/
structure Staged where
  bytes : NMap Byte
  poisoned : List Nat
  deriving DecidableEq, Repr

/-- The address within its memory of a place. -/
def locAddr : Loc → Nat
  | .dev a => a
  | .gh a => a
  | .ls a => a
  | .nothing => 0

/-- Stage one byte at a place. -/
def Staged.put (g : Staged) (l : Loc) (b : Byte) (poisoned : Bool) : Staged :=
  match l with
  | .nothing => g
  | _ => { bytes := g.bytes.set (locAddr l) b
           poisoned := if poisoned && !g.poisoned.contains (lineOf l) then g.poisoned ++ [lineOf l] else g.poisoned }

/-- The byte that a stage shows at a place: the staged byte, or what stands there. -/
def Staged.byte (g : Staged) (s : State) (pav : Nat) (l : Loc) : Byte :=
  match g.bytes.find (locAddr l) with
  | some b => b
  | none => s.locByte pav l

/-- Stage an element: whole bytes are written; a partial byte group is read, merged and written back, and
no bit outside the element changes (R131). -/
def State.stageElem (s : State) (cx : OpCtx) (t : Tensor) (i : List Nat) (e : Elem) (g : Staged) : Staged :=
  let (off, n, bit) := elemPlace t.fmt (i.getD 0 0)
  let row := t.rowAddr i
  let locs := (List.range n).map (fun k => s.locate cx t.mem t.lane (row + off + k))
  let w := formatBits t.fmt
  let old := leNat (locs.map (fun l => g.byte s cx.pav l))
  let new := old - (old / 2 ^ bit % 2 ^ w) * 2 ^ bit + (e.code % 2 ^ w) * 2 ^ bit
  let g := (locs.zip (natLE n new)).foldl (fun g p => g.put p.1 p.2 e.poisoned) g
  if isMx t.fmt then
    g.put (s.locate cx t.mem t.lane (t.scaleAddr i)) (BitVec.ofNat 8 e.scale) e.poisoned
  else g

/-- Stage a list of elements over a box in row-major order; out-of-bounds elements are dropped (R135). -/
def State.stageBox (s : State) (cx : OpCtx) (t : Tensor) (v : View) (es : List Elem) (g : Staged) : Staged :=
  if t.mem = 4 ∧ (cx.lanes.getD t.lane none).isNone then g
  else
    ((List.range v.size).zip es).foldl (fun g p =>
      match v.inBounds t (v.index p.1) with
      | some i => s.stageElem cx t i p.2 g
      | none => g) g

/-- An empty stage. -/
def Staged.none : Staged := { bytes := [], poisoned := [] }

/-- How many of a line's bytes a stage writes. -/
def Staged.inLine (g : Staged) (size line : Nat) : Nat := (g.bytes.filter (fun e => e.1 / size == line)).length

/-- The poison marks of a memory with 128-byte lines after a stage is written: lines that take poisoned
data are marked; a line written whole with sound data is cleared (R321). -/
def Staged.marks (g : Staged) (old : List Nat) : List Nat :=
  let kept := old.filter (fun l => decide (g.inLine 128 l < 128))
  g.poisoned.foldl (fun ls l => if ls.contains l then ls else ls ++ [l]) kept

/-- Write a stage into a Pavilion's local store. -/
def State.commitStore (s : State) (pav : Nat) (g : Staged) : State :=
  s.updPav pav (fun v => { v with
    store := g.bytes.foldl (fun m e => m.set e.1 e.2) v.store
    storePoison := g.marks v.storePoison })

/-- Write a stage into the Glasshouses. -/
def State.commitGh (s : State) (g : Staged) : State :=
  s.updMem (fun m => { m with
    gh := g.bytes.foldl (fun t e => t.set e.1 e.2) m.gh
    ghPoison := g.marks m.ghPoison })

/-- The line writes of a stage over device memory, in rising order of line. -/
def Staged.lines (g : Staged) (plot : Nat) : List LineWrite :=
  let keys := g.bytes.foldl (fun ls e => if ls.contains (e.1 / 64) then ls else ls ++ [e.1 / 64]) ([] : List Nat)
  keys.map (fun l => { line := l, plot := plot, bytes := g.bytes.filter (fun e => e.1 / 64 == l),
                       poisoned := g.poisoned.contains l })

/-! ### Address ranges (R141) -/

/-- The in-bounds index range of a box in a dimension: least index and count. -/
def View.clip (v : View) (t : Tensor) (d : Nat) : Nat × Nat :=
  let o := v.origins.getD d 0
  let lo := max o 0
  let hi := min (o + (v.extents.getD d 0 : Nat)) (t.dims.getD d 0 : Nat)
  (lo.toNat, (hi - lo).toNat)

/-- The byte range of a view's in-bounds part, scale bytes apart: first byte and the byte after the last;
none when no element is in bounds. -/
def View.range (v : View) (t : Tensor) : Option (Nat × Nat) :=
  let c := (List.range 4).map (v.clip t)
  if c.any (fun x => x.2 == 0) then none
  else
    let lo := c.map (·.1)
    let hi := c.map (fun x => x.1 + x.2 - 1)
    let pf := elemPlace t.fmt (lo.getD 0 0)
    let pl := elemPlace t.fmt (hi.getD 0 0)
    some (t.rowAddr lo + pf.1, t.rowAddr hi + pl.1 + pl.2.1)

/-- The byte range of a view's scale bytes. -/
def View.scaleRange (v : View) (t : Tensor) : Option (Nat × Nat) :=
  if isMx t.fmt then
    let c := (List.range 4).map (v.clip t)
    if c.any (fun x => x.2 == 0) then none
    else some (t.scaleAddr (c.map (·.1)), t.scaleAddr (c.map (fun x => x.1 + x.2 - 1)) + 1)
  else none

/-- The range of a view: from the lowest to the highest byte that its in-bounds elements or their scale
bytes occupy (R141). -/
def View.fullRange (v : View) (t : Tensor) : Option (Nat × Nat) :=
  match v.range t, v.scaleRange t with
  | some a, some b => some (min a.1 b.1, max a.2 b.2)
  | r, _ => r

/-- Whether two ranges intersect. -/
def rangesMeet : Option (Nat × Nat) → Option (Nat × Nat) → Bool
  | some a, some b => decide (a.1 < b.2) && decide (b.1 < a.2)
  | _, _ => false

/-- Whether two views overlap (R141). -/
def viewsOverlap (v : View) (t : Tensor) (w : View) (u : Tensor) : Bool :=
  t.mem == u.mem && rangesMeet (v.fullRange t) (w.fullRange u)

/-- Bytes of the in-bounds part of a view, its scale bytes with it: what a read of it fetches (R135, R136). -/
def View.fetched (v : View) (t : Tensor) : Nat :=
  let c := (List.range 4).map (fun d => (v.clip t d).2)
  let rows := c.getD 1 0 * c.getD 2 0 * c.getD 3 0
  if c.getD 0 0 = 0 then 0
  else rows * ((c.getD 0 0 * formatBits t.fmt + 7) / 8 +
    (if isMx t.fmt then ((v.clip t 0).1 + c.getD 0 0 - 1) / 32 - (v.clip t 0).1 / 32 + 1 else 0))

/-- Count what a read of a view fetches (R355): device memory by tier, and the Glasshouse. -/
def State.chargeViewRead (s : State) (cx : OpCtx) (p : Nat) (x : View × Tensor) : State :=
  if x.2.mem = 0 ∨ x.2.mem = 4 then
    (match s.locate cx x.2.mem x.2.lane x.2.base with
     | .dev a => s.chargeRead p a (x.1.fetched x.2)
     | _ => s)
  else if x.2.mem = 1 ∨ x.2.mem = 2 then
    s.charge p (fun c => { c with ghBytes := c.ghBytes + BitVec.ofNat 64 (x.1.fetched x.2) })
  else s

/-- The bank of a Glasshouse's physical offset (R167). -/
def ghBank (x : Nat) : Nat := x / 128 % 96

end Sys2Proof.Machine
end

