-- ==== Sys2Proof/Machine/Memory.lean ====
section
/-! DEFINITION. Plot memory windows (MEM_MAP, MEM_UNMAP, MEM_SCRUB), the controllers' write queues and the
start of tier moves (chapter 06). -/

namespace Sys2Proof.Machine

/-! ### What makes a window busy (Table MEM-6) -/

/-- The device ranges that a loaded plan makes busy: its tensors in DEVICE memory, the areas that its
header names, and its gradient spill slots. -/
def Plan.busyRanges (pl : Plan) : List (Nat × Nat) :=
  let h := pl.header
  ((pl.tensors.map parseTensor).filter (fun t => t.mem == 0)).map (fun t => (t.base, t.endAddr)) ++
  ((pl.tensors.map parseTensor).filter (fun t => t.mem == 0 && isMx t.fmt)).map
    (fun t => (t.scaleBase, t.scaleBase + t.scaleBytes)) ++
  [(h.worklistAddr, h.worklistAddr + 5120000), (h.appendAddr, h.appendAddr + h.appendBytes),
   (h.reducedAddr, h.reducedAddr + h.reducedBytes)] ++
  ((pl.gtiles.map (fun e => e.2)).flatten).map (fun a => (a, a + 32768))

/-- The first byte of an adapter's resident record and of its state section, wherever they lie: in a pool, or rebuilt in
an absorb window (R294). Each lies in one window. -/
def Adapter.recordMarks (a : Adapter) : List (Nat × Nat) :=
  (if a.residency = .nonresident then [] else [(a.resAddr, a.resAddr + 1)]) ++
  (if a.train && a.state != .stale then [(a.stateAddr, a.stateAddr + 1)] else [])

/-- Every device range of a plot that makes its window busy: the completion ring, plans, adapter records
and state sections, key-value pages, and snapshot and mirror areas. -/
def Plot.busyRanges (q : Plot) : List (Nat × Nat) :=
  (match q.windows.find 0 with
   | some r => [(r.base, r.base + 4096 * 64)]
   | none => []) ++
  (q.plans.map (fun e => e.2.busyRanges)).flatten ++
  (q.kvAlloc ++ q.poolAlloc).map (fun a => (a.1, a.1 + a.2)) ++
  (q.adapters.map (fun e => e.2.recordMarks)).flatten ++
  (q.partners.map (fun e => (e.2.addr, e.2.addr + e.2.len))) ++
  (q.policies.map (fun e => (e.2.mirrorAddr, e.2.mirrorAddr + e.2.mirrorLen)))

/-- The windows that the plot's BASE_BIND names (R234). -/
def Plot.boundRuns (q : Plot) : List Run :=
  match q.binding with
  | some b => [b.res0, b.res1, b.cat].filterMap (fun w => q.windows.find w)
  | none => []

/-- Whether a window is bound or holds any busy range (Table MEM-6, R234). -/
def Plot.windowBusy (q : Plot) (r : Run) : Bool :=
  q.boundRuns.contains r || q.busyRanges.any (fun b => decide (b.1 < b.2) && decide (b.1 < r.base + r.bytes) && decide (r.base < b.2))

/-! ### MEM_MAP, MEM_UNMAP, MEM_SCRUB (R164) -/

/-- The firmware handles one plot's memory messages one at a time (R164): whether one is under way. -/
def State.memMessageBusy (s : State) (p : Nat) : Bool :=
  (s.plot p).mail.held.any (fun r => r.phase == .started &&
    (r.opcode == opMemMap || r.opcode == opMemUnmap || r.opcode == opMemScrub))

/-- The first granule that a HINT names in a tier, when it is a multiple of 2 MiB in the tier's grantable
range with room for `n` granules before its end. -/
def hintGranule (tier hint n : Nat) : Option Nat :=
  if hint % granuleBytes = 0 ∧ tierBase tier ≤ hint ∧ (hint - tierBase tier) / granuleBytes + n ≤ tierGranules tier
  then some ((hint - tierBase tier) / granuleBytes) else none

/-- The tier of a MEM_MAP: TIER 2 takes the Terrace with the longer free run, Terrace 0 when they are
equal, or the Terrace whose range holds HINT (Table MEM-4). -/
def State.mapTier (s : State) (tier hint : Nat) : Nat :=
  if tier = 2 then
    if hint = 0 then (if s.mem.longestFree 0 < s.mem.longestFree 1 then 1 else 0)
    else if hint < tierBase 1 then 0 else 1
  else tier

/-- The lowest window number that a plot does not hold. -/
def Plot.freeWindow (q : Plot) : Option Nat :=
  (List.range 4096).find? (fun i => (q.windows.find i).isNone)

/-- Where MEM_MAP places a window, or the status that refuses it (Table MEM-6). -/
def State.placeWindow (s : State) (p tier n hint : Nat) : Except Nat (Nat × Run) :=
  if 3 < tier ∨ n = 0 ∨ 262144 < n then .error stNotPermitted
  else
    let t := s.mapTier tier hint
    if hint ≠ 0 ∧ (hintGranule t hint n).isNone then .error stNotPermitted
    else
      match (s.plot p).freeWindow with
      | none => .error stNoMemory
      | some w =>
        if (s.plot p).quota t < (s.plot p).used t + n then .error stNoMemory
        else
          match (if hint = 0 then s.mem.lowestRun t n else
                 (hintGranule t hint n).filter (fun f => s.mem.runFree t f n)) with
          | none => .error stNoMemory
          | some f => .ok (w, { tier := t, first := f, count := n })

/-- Map a window: its granules leave the free pool. -/
def State.mapWindow (s : State) (p w : Nat) (r : Run) : State :=
  (s.updMem (fun m => m.grant r)).updPlot p (fun q => { q with windows := q.windows.set w r })

/-- MEM_MAP (R164). -/
def execMemMap (p : Nat) (s : State) : Out :=
  if s.memMessageBusy p = true then .next s
  else .next (s.serve p opMemMap (fun _ => true) (fun r s =>
    match s.placeWindow p (fieldAt r.payload 0 1) (fieldAt r.payload 4 4) (fieldAt r.payload 8 8) with
    | .error st => s.refuse p r st
    | .ok (w, run) => (s.mapWindow p w run).ok p r (natLE 8 run.base ++ natLE 4 run.count ++ natLE 2 w)))

/-- Whether a byte range meets a run. -/
def Run.meets (r : Run) (a n : Nat) : Bool := decide (a < r.base + r.bytes) && decide (r.base < a + n)

/-- Whether accesses of a plot to a run are still to be carried out: writes in a controller queue, or a move that has
started from or to it (R166). -/
def Mem.holdsWrites (m : Mem) (p : Nat) (r : Run) : Bool :=
  m.queues.any (fun e => e.2.any (fun w =>
    w.plot == p && decide (r.base ≤ w.line * 64) && decide (w.line * 64 < r.base + r.bytes))) ||
  m.moving.any (fun v => v.plot == p && (r.meets v.src v.len || r.meets v.dst v.len))

/-- Complete a MEM_UNMAP whose window no queue holds accesses to: the granules go to zeroing. -/
def State.finishUnmap (s : State) (p : Nat) (r : Req) (run : Run) : State :=
  (s.updMem (fun m => m.release p false [run])).ok p r (List.replicate 8 0)

/-- The run that a started MEM_UNMAP waits for. -/
def Req.unmapRun (r : Req) : Option Run :=
  match r.waits with
  | [(t, f), (n, _)] => if r.opcode = opMemUnmap ∧ r.phase = .started then some { tier := t, first := f, count := n } else none
  | _ => none

/-- MEM_UNMAP (R166): the window leaves the plot's checks at once; the message completes when every
controller queue holds no more of the plot's accesses to it. -/
def execMemUnmap (p : Nat) (s : State) : Out :=
  if s.memMessageBusy p = true then .next s
  else .next (s.serve p opMemUnmap (fun _ => true) (fun r s =>
    match (s.plot p).windows.find (fieldAt r.payload 0 2) with
    | none => s.refuse p r stNotPermitted
    | some run =>
      if (s.plot p).windowBusy run then s.refuse p r stWindowBusy
      else
        let s := s.updPlot p (fun q => { q with windows := q.windows.erase (fieldAt r.payload 0 2) })
        if s.mem.holdsWrites p run then
          s.updMail p (fun m => { m with held := m.held.map (fun h =>
            if h.slot = r.slot then { h with phase := .started, waits := [(run.tier, run.first), (run.count, 0)] } else h) })
        else s.finishUnmap p r run))

/-- MEM_SCRUB (R166): the named granules of the window are zeroed in the plot's own bandwidth; while a stack of theirs has
stopped it waits (R160). -/
def execMemScrub (p : Nat) (s : State) : Out :=
  if s.memMessageBusy p = true then .next s
  else .next (s.serve p opMemScrub (fun _ => true) (fun r s =>
    let first := fieldAt r.payload 4 4
    let n := fieldAt r.payload 8 4
    match (s.plot p).windows.find (fieldAt r.payload 0 2) with
    | none => s.refuse p r stNotPermitted
    | some run =>
      if run.count < first + n then s.refuse p r stNotPermitted
      else
        let z : Run := { tier := run.tier, first := run.first + first, count := n }
        if s.mem.stopped z.base z.bytes then s
        else ((s.updMem (fun m => m.zeroRun z)).chargeWrite p z.base z.bytes).ok p r (List.replicate 8 0)))

/-! ### Write retirement (R159) -/

/-- Complete the MEM_UNMAP of a plot whose window has no access left in any queue. -/
def State.settleUnmap (s : State) (p : Nat) : State :=
  match (s.plot p).mail.held.find? (fun r => r.unmapRun.isSome) with
  | none => s
  | some r =>
    match r.unmapRun with
    | none => s
    | some run => if s.mem.holdsWrites p run then s else s.finishUnmap p r run

/-! ### The tier mover (R168) -/

/-- The class of a move in the mover's order of service. -/
def MoveFor.cls : MoveFor → Nat
  | .trellisPrefetch _ _ => 1
  | .orangeryPrefetch _ => 2
  | .spill _ _ => 3
  | .promotion _ => 4

/-- The next move in class order, arrival order within a class. -/
def nextMove (ms : List Move) : Option Move :=
  [1, 2, 3, 4].foldl (fun b c => match b with
    | some m => some m
    | none => ms.find? (fun m => m.purpose.cls == c)) none

/-- Remove the first occurrence of an element. -/
def dropFirst {α : Type} [DecidableEq α] (x : α) : List α → List α
  | [] => []
  | y :: l => if y = x then l else y :: dropFirst x l

/-- Whether a move lies in its plot's windows, source and destination (R163). -/
def State.moveFits (s : State) (m : Move) : Bool := s.inWindows m.plot m.src m.len && s.inWindows m.plot m.dst m.len

/-- TIER_MOVE (R168): the mover starts the next move in class order once it has reserved the
destination's write credits. A move outside its plot's windows is dropped with an address fault (R163). -/
def execTierMove (s : State) : Out :=
  if s.unitFenced 30 then .next s else
  match nextMove s.mem.moveQueue with
  | none => .next s
  | some m =>
    if s.moveFits m = false then
      .next ((s.updMem (fun d => { d with moveQueue := dropFirst m d.moveQueue })).addressFault m.plot
        (if s.inWindows m.plot m.src m.len then m.dst else m.src))
    else if m.credits.all (fun e => decide (s.mem.creditsHeld e.1 + e.2 ≤ queueLines e.1)) then
      .next (s.updMem (fun d => { d with moveQueue := dropFirst m d.moveQueue, moving := d.moving ++ [m] }))
    else .next s

/-- Device memory with every queued write applied. -/
def Mem.settled (m : Mem) : List Host.Cell :=
  m.queues.foldl (fun b e => e.2.foldl (fun b w => cellPutCells b w.bytes) b) m.bytes

/-- Copy `n` bytes of device memory with their poison, line for line (R173). Both addresses are multiples
of 64 bytes. -/
def Mem.copyRange (m : Mem) (src dst n : Nat) : Mem :=
  let cells := (m.settled.filter (fun c => decide (src ≤ c.1) && decide (c.1 < src + n))).map
    (fun c => (c.1 - src + dst, c.2))
  let poisoned := ((List.range (ceilDiv n 64)).filter (fun i => m.linePoisoned (src / 64 + i))).map (fun i => dst / 64 + i)
  let z := m.zero dst n
  poisoned.foldl (fun d l => d.poisonLine l) { z with bytes := cellPutCells z.bytes cells }

end Sys2Proof.Machine
end

