-- ==== Sys2Proof/Machine/Reduction.lean ====
section
/-! DEFINITION. The path of a tile through the Cascade (R209 to R217): hand-off, scan, wave, conversion,
values up and down, exit; and the retirement of memory writes, which frees the credits that exits wait
for. -/

namespace Sys2Proof.Machine

/-! ### Scan (R56, R211) -/

/-- Elements of a tile: 64 rows of 128. -/
def tileElements : Nat := 8192

/-- Frames of a tile, of 512 words each (Table CSC-9). -/
def tileFrames : Nat := 16

/-- Whether element `j` lies in a poisoned 128-byte line of the tile. -/
def Tile.elementPoisoned (t : Tile) (j : Nat) : Bool := t.poison.contains (j / 32)

/-- A tile's own wave entry: the largest exponent field of its finite elements, non-finite and poisoned
elements noted, and the member's count and dropped count. -/
def Tile.scan (t : Tile) : WaveEntry :=
  let good := t.data.filter (fun e => !t.elementPoisoned e.1)
  { seq := t.seq
    e := good.foldl (fun m e => if finite32 e.2 then max m (expField e.2) else m) 0
    c := t.count, dropped := t.dropped
    nonfinite := !t.poison.isEmpty || good.any (fun e => !finite32 e.2)
    poison := !t.poison.isEmpty }

/-- The wave's combination: maximum of the exponents, sum of the counts, OR of the flags (R211). -/
def WaveEntry.join (a b : WaveEntry) : WaveEntry :=
  { seq := a.seq, e := max a.e b.e, c := (a.c + b.c) % 2 ^ 32, dropped := (a.dropped + b.dropped) % 2 ^ 32,
    nonfinite := a.nonfinite || b.nonfinite, poison := a.poison || b.poison }

/-- The 16 bytes of a wave entry. -/
def WaveEntry.bytes (w : WaveEntry) : Bytes :=
  natLE 4 w.seq ++ natLE 1 w.e ++ natLE 1 (b2n w.nonfinite + 2 * b2n w.poison) ++ natLE 2 0 ++ natLE 4 w.c ++
  natLE 4 w.dropped

/-- Entry `i` of a WAVE frame's payload. -/
def waveEntryAt (pl : Bytes) (i : Nat) : WaveEntry :=
  let b := pl.drop (16 * i)
  { seq := fieldAt b 0 4, e := fieldAt b 4 1, nonfinite := bitOf (fieldAt b 5 1) 0,
    poison := bitOf (fieldAt b 5 1) 1, c := fieldAt b 8 4, dropped := fieldAt b 12 4 }

/-! ### Values (R57 to R59, R216) -/

/-- The generator's inputs of a tile: the plan's seed, the step, and the contributor. -/
def Tile.word (t : Tile) (seed step contributor j : Nat) : W32 :=
  ctrRandom seed t.adapter step t.tensor contributor (t.indexBase + j)

/-- The entry conversion of a tile with the wave's exponent in a tree of M members: its non-zero words.
Non-finite and poisoned elements convert to 0. -/
def Tile.convert (t : Tile) (seed step rank m : Nat) (w : WaveEntry) : NMap W64 :=
  let l := rxL w.e m
  (t.data.filter (fun e => !t.elementPoisoned e.1)).map (fun e => (e.1, rxIn l (t.word seed step rank e.1) e.2))

/-- Elements of a tile that lie in the flush range. -/
def Tile.flushCount (t : Tile) (m : Nat) (w : WaveEntry) : Nat :=
  (t.data.filter (fun e => !t.elementPoisoned e.1 && flushed (rxL w.e m) e.2)).length

/-- The words of frame `i` of a word table. -/
def frameWords (ws : NMap W64) (i : Nat) : NMap W64 := ws.filter (fun e => e.1 / 512 == i)

/-- The eight words of line `l` of frame `i`. -/
def lineWords (ws : NMap W64) (i l : Nat) : List W64 := (List.range 8).map (fun k => ws.get 0 (512 * i + 8 * l + k))

/-- The residues of the 64 lines of frame `i`. -/
def residuesOf (ws : NMap W64) (i : Nat) : List Nat := (List.range 64).map (fun l => residueOf (lineWords ws i l))

/-- The payload of frame `i`: 512 words of 8 bytes. -/
def wordPayload (ws : NMap W64) (i : Nat) : Bytes :=
  ((List.range 512).map (fun k => natLE 8 (ws.get 0 (512 * i + k)).toNat)).flatten

/-- The non-zero words of frame `i` from its payload. -/
def payloadWords (pl : Bytes) (i : Nat) : NMap W64 :=
  ((List.range 512).map (fun k => (512 * i + k, BitVec.ofNat 64 (fieldAt pl (8 * k) 8)))).filter (fun e => e.2 != 0)

/-- Whether every line of an arriving frame agrees with its residue. -/
def linesHold (f : Frame) : Bool :=
  f.residues == residuesOf (payloadWords f.payload f.frameIdx) f.frameIdx

/-- The sum of two word tables, word by word. -/
def addWords (a b : NMap W64) : NMap W64 := b.foldl (fun m e => m.modify 0 e.1 (· + e.2)) a

/-- The sum of residues modulo 65,535: the carried residue of an adder's output line. -/
def addResidues (a b : List Nat) : List Nat := (a.zip b).map (fun p => (p.1 + p.2) % 65535)

/-- A child's words of every frame, once it has sent them all. -/
def Tile.childWords (t : Tile) (child : Nat) : NMap W64 :=
  ((t.childFrames.filter (fun c => c.1 == child)).map (fun c => c.2.2.1)).foldl addWords []

/-- Whether a child has sent all its frames. -/
def Tile.childComplete (t : Tile) (child : Nat) : Bool :=
  (List.range tileFrames).all (fun i => t.childFrames.any (fun c => c.1 == child && c.2.1 == i))

/-- This rank's sum: its contribution and its children's words. -/
def Tile.subtotal (t : Tile) (children : List Nat) : NMap W64 :=
  children.foldl (fun a c => addWords a (t.childWords c)) t.words

/-- The carried residues of frame `i` of the sum. -/
def Tile.carried (t : Tile) (children : List Nat) (i : Nat) : List Nat :=
  children.foldl (fun a c =>
    match t.childFrames.find? (fun x => x.1 == c && x.2.1 == i) with
    | some x => addResidues a x.2.2.2
    | none => a) (residuesOf t.words i)

/-! ### The checks inside the module (R214 to R217) -/

/-- The faultless transfers. -/
def TileFaults.clean : TileFaults := { crc := [], adds := [], back := [] }

/-- The 65,536 bytes of a tile's words. -/
def tileBytes (ws : NMap W64) : Bytes := ((List.range tileFrames).map (wordPayload ws)).flatten

/-- Words with some of their bytes changed: places in the 65,536 bytes, and the bits that change there. -/
def hitBytes (ws : NMap W64) (hits : List (Nat × Nat)) : NMap W64 :=
  hits.foldl (fun m h => if h.1 < 8 * tileElements then
      m.modify 0 (h.1 / 8) (fun w => w ^^^ BitVec.ofNat 64 (h.2 % 256 * 2 ^ (8 * (h.1 % 8))))
    else m) ws

/-- Words with some of their bits changed: word numbers, and the bits that change there. -/
def hitWords (ws : NMap W64) (hits : List (Nat × Nat)) : NMap W64 :=
  hits.foldl (fun m h => if h.1 < tileElements then m.modify 0 h.1 (fun w => w ^^^ BitVec.ofNat 64 h.2) else m) ws

/-- The retries of one transfer (R215, R217). -/
def maxRetries : Nat := 3

/-- The first attempt of a transfer whose check holds, among the first and its three retries. -/
def passes (holds : List (Nat × Nat) → Bool) (ups : Upsets) : Option Nat :=
  (List.range (maxRetries + 1)).find? (fun k => holds (ups.getD k []))

/-- What a transfer of a tile's words inside the module delivers (R215): the words of the first attempt whose CRC-32C
agrees with the sender's, with the retries before it; none after three failed retries. -/
def crcTransfer (ws : NMap W64) (ups : Upsets) : Option (NMap W64 × Nat) :=
  (passes (fun h => h.isEmpty || crc32c (tileBytes (hitBytes ws h)) == crc32c (tileBytes ws)) ups).map (fun k =>
    (hitBytes ws (ups.getD k []), k))

/-- What an adder delivers (R216): the output words of the first addition whose lines all have the residues that the inputs
carry, with the retries before it. -/
def checkedSum (ws : NMap W64) (carried : Nat → List Nat) (ups : Upsets) : Option (NMap W64 × Nat) :=
  (passes (fun h => (List.range tileFrames).all (fun i => residuesOf (hitWords ws h) i == carried i)) ups).map (fun k =>
    (hitWords ws (ups.getD k []), k))

/-- The exit conversion of element `j` (R59). -/
def Tile.exitWord (t : Tile) (seed step m : Nat) (w : WaveEntry) (j : Nat) : W32 :=
  rxOut (rxL w.e m) w.c (t.word seed step 0xFFFE j) (t.total.get 0 j)

/-- Whether the exit sets the adapter's skip flag: NONFINITE, C = 0, or an infinite result (R59, R212). -/
def Tile.exitFlag (t : Tile) (seed step m : Nat) (w : WaveEntry) : Bool :=
  w.nonfinite || w.c == 0 || t.total.any (fun e => !finite32 (t.exitWord seed step m w e.1))

/-! ### Frames of a tile -/

/-- The frames of the values of a tile, up or down. -/
def Group.valueFrames (g : Group) (own kind vc step : Nat) (t : Tile) (w : WaveEntry) (ws : NMap W64)
    (res : Nat → List Nat) : List Frame :=
  (List.range tileFrames).map (fun i => { g.frame own kind vc step with
    frameIdx := i, frameCnt := tileFrames, seq := t.seq, e := w.e, nonfinite := w.nonfinite, poison := w.poison,
    c := w.c, dropped := w.dropped, adapter := t.adapter, tensor := t.tensor, tile := t.indexBase / tileElements,
    payload := wordPayload ws i, residues := res i })

/-- A WAVE frame of one entry. -/
def Group.waveFrame (g : Group) (own vc step : Nat) (w : WaveEntry) : Frame :=
  { g.frame own 2 vc step with seq := w.seq, payload := w.bytes }

/-! ### One tile's transitions -/

/-- What the tiles of a step share: plot, plan, step, seed, and the group; and the faults that a command meets. -/
structure Flow where
  plot : Nat
  plan : Nat
  step : Nat
  seed : Nat
  group : Group
  faults : TileFaults
  deriving DecidableEq, Repr

/-- The state together with the tile under way. -/
abbrev Pumped := State × Tile

/-- The FP32 words and poisoned lines of a gradient tile: from the buffer, or from its spill slot. -/
def State.gtileData (s : State) (g : GTile) (slot : Nat) : NMap W32 × List Nat :=
  if g.resident then (g.data, g.poison)
  else
    (((List.range tileElements).map (fun j => (j, BitVec.ofNat 32 (s.mem.readNat (slot + 4 * j) 4)))).filter (fun e => e.2 != 0),
     (List.range 256).filter (fun l => s.mem.poisonedIn (slot + 128 * l) 128))

/-- The spill slot of a handle on a Pavilion (R113). -/
def Plan.spillSlot (pl : Plan) (pav handle : Nat) : Nat := (pl.gtiles.get [] pav).getD handle 0

/-- The Terrace engine reads a tile that the Cascade holds (R209, Table CSC-6): from the gradient buffer, or, evicted, from
its spill slot, which is charged to the plot (Table PLT-4). -/
def State.readTile (s : State) (p plan : Nat) (t : Tile) : State × Tile :=
  match (s.pav t.pav).gbuf.find? (fun g => g.plot == p && g.plan == plan && g.handle == t.gtile), (s.plot p).plans.find plan with
  | some g, some pl =>
    let a := pl.spillSlot t.pav t.gtile
    let d := s.gtileData g a
    (if g.resident then s else s.chargeRead p a 32768, { t with data := d.1, poison := (t.poison ++ d.2).eraseDups })
  | _, _ => (s, t)

/-- Admission (R209): strictly in SEQ order and within the window; the tile is scanned, its routes are
fixed (R224), and a poisoned tile sets POISON_IN. -/
def Flow.admitTiles (fl : Flow) (all : List Tile) (x : Pumped) : Pumped :=
  let (s, t) := x
  if t.phase = 1 ∧ all.all (fun u => (decide (t.seq ≤ u.seq) || decide (2 ≤ u.phase)) &&
      (decide (t.seq < u.seq + fl.group.window) || u.phase == 7)) = true then
    let (s, t) := s.readTile fl.plot fl.plan t
    let t := { t with phase := 2, own := t.scan
                      routes := (fl.group.neighbours s.fabric).map (fun f => (f, s.route fl.plot f)) }
    if t.poison.isEmpty then (s, t)
    else
      let s := s.updEngine (t.pav / 64) (fun e => { e with err := setFlag e.err 2 })
      (s.raise fl.plot (s.errOf 1 4 2 (t.pav / 64) fl.step), t)
  else x

/-- The ports that a tile may still use to a neighbour: those it reserved and that still lead there. -/
def Tile.liveRoute (t : Tile) (s : State) (fabric : Nat) : List Nat :=
  match (t.routes.find? (fun e => e.1 == fabric)).map (·.2) with
  | some r => r.filter (fun i => s.portLeads i fabric)
  | none => []

/-- Wave up, or the root's final entry (Table CSC-6, phases 2 and 3). -/
def Flow.waveUp (fl : Flow) (x : Pumped) : Pumped :=
  let (s, t) := x
  let own := s.fabric
  if t.phase = 2 ∧ t.sentWave = false ∧
      (fl.group.children own).all (fun c => t.childWaves.any (fun w => w.1 == c)) = true then
    let w := (t.childWaves.map (·.2)).foldl WaveEntry.join t.own
    match fl.group.parent own with
    | none => (s, { t with sentWave := true, final := some w })
    | some r =>
      let route := t.liveRoute s (fl.group.at r)
      let f := fl.group.waveFrame own 1 fl.step w
      if s.creditsFree fl.plot (fl.group.at r) route [f] then
        (s.sendFrames fl.plot (fl.group.at r) route [f], { t with sentWave := true })
      else x
  else x

/-- Wave down: the final entry is held, counted, and sent to each child once. -/
def Flow.waveDown (fl : Flow) (x : Pumped) : Pumped :=
  let (s, t) := x
  match t.final with
  | none => x
  | some w =>
    let y : Pumped :=
      if t.phase = 2 then
        (if w.nonfinite then s.updEngine (t.pav / 64) (fun e => { e with nonfinite := e.nonfinite + 1 }) else s,
         { t with phase := 3 })
      else x
    ((fl.group.children s.fabric).map fl.group.at).foldl (fun (z : Pumped) f =>
      let route := z.2.liveRoute z.1 f
      let fr := fl.group.waveFrame z.1.fabric 2 fl.step w
      if !z.2.finalSent.contains f && z.1.creditsFree fl.plot f route [fr] then
        (z.1.sendFrames fl.plot f route [fr], { z.2 with finalSent := z.2.finalSent ++ [f] })
      else z) y

/-- Count a tile forwarded by the engines of the ports that carried it. -/
def State.countForward (s : State) (route : List Nat) : State :=
  route.foldl (fun t i => t.updEngine (portEngine i) (fun e => { e with tilesOut := e.tilesOut + 1 })) s

/-- The engine of the port that a tile's contribution goes to: that of the first port of its routes, and the Terrace's own
where it has none. -/
def Tile.portUnit (t : Tile) : Nat :=
  match (t.routes.map (·.2)).flatten.head? with
  | some i => portEngine i
  | none => t.pav / 64

/-- Count the retries of a check at an engine; `crc` tells those of R215 from those of R217. -/
def State.countRetries (s : State) (engine n : Nat) (crc : Bool) : State :=
  if n = 0 then s
  else s.updEngine engine (fun e =>
    if crc then { e with crcRetries := e.crcRetries + BitVec.ofNat 64 n } else { e with residueRetries := e.residueRetries + BitVec.ofNat 64 n })

/-- The addition of a tile at this rank (phase 5): its contribution and its children's sums, once all are there. The inputs
are held until the output has passed its check (R217); after three failed retries the adder has failed. -/
def Flow.addUp (fl : Flow) (x : Pumped) : Pumped :=
  let (s, t) := x
  let cs := fl.group.children s.fabric
  if t.phase = 4 ∧ t.failed.isNone = true ∧ cs.all t.childComplete = true then
    if cs.isEmpty then
      (s, { t with phase := 5, totalResidues := (List.range tileFrames).map (fun i => (i, residuesOf t.words i)) })
    else
      let carried := t.carried cs
      match checkedSum (t.subtotal cs) carried fl.faults.adds with
      | none => (s.countRetries t.portUnit maxRetries false, { t with failed := some (t.portUnit, 1) })
      | some (ws, n) =>
        (s.countRetries t.portUnit n false,
         { t with phase := 5, words := ws, childFrames := [], totalResidues := (List.range tileFrames).map (fun i => (i, carried i)) })
  else x

/-- The transfer of the final sum from the port engine to the Terrace engine (R215): the total that the exit takes. A group
of one member passes nothing (R213). -/
def Flow.passBack (fl : Flow) (ws : NMap W64) (x : Pumped) : Pumped :=
  let (s, t) := x
  if fl.group.size ≤ 1 then (s, { t with phase := 6, total := ws })
  else
    match crcTransfer ws fl.faults.back with
    | none => (s.countRetries (t.pav / 64) maxRetries true, { t with failed := some (t.pav / 64, 0) })
    | some (total, n) => (s.countRetries (t.pav / 64) n true, { t with phase := 6, words := ws, total := total })

/-- Values up, or the root's total (phases 5 and 6). -/
def Flow.valuesUp (fl : Flow) (x : Pumped) : Pumped :=
  let (s, t) := x
  let own := s.fabric
  if t.phase = 5 ∧ t.upSent = false ∧ t.failed.isNone = true then
    match fl.group.parent own with
    | none => fl.passBack t.words (s, { t with upSent := true })
    | some r =>
      let route := t.liveRoute s (fl.group.at r)
      let fs := fl.group.valueFrames own 3 1 fl.step t (t.final.getD t.own) t.words (fun i => t.totalResidues.get [] i)
      if s.creditsFree fl.plot (fl.group.at r) route fs then
        ((s.sendFrames fl.plot (fl.group.at r) route fs).countForward route, { t with upSent := true })
      else x
  else x

/-- Values down: the total goes to each child once. -/
def Flow.valuesDown (fl : Flow) (x : Pumped) : Pumped :=
  if x.2.phase = 6 then
    ((fl.group.children x.1.fabric).map fl.group.at).foldl (fun (z : Pumped) f =>
      let route := z.2.liveRoute z.1 f
      let fs := fl.group.valueFrames z.1.fabric 4 2 fl.step z.2 (z.2.final.getD z.2.own) z.2.words
        (fun i => z.2.totalResidues.get [] i)
      if !z.2.downSent.contains f && z.1.creditsFree fl.plot f route fs then
        ((z.1.sendFrames fl.plot f route fs).countForward route, { z.2 with downSent := z.2.downSent ++ [f] })
      else z) x
  else x

/-- The line writes of a tile's exit: FP32 by element over DST_VIEW, every line poisoned when the wave
carries POISON (R212). -/
def Flow.exitWrites (fl : Flow) (s : State) (t : Tile) : List LineWrite :=
  match (s.plot fl.plot).plans.find fl.plan with
  | none => []
  | some pl =>
    let v := parseView (pl.views.getD t.dstView [])
    let tn := parseTensor (pl.tensors.getD v.tensor [])
    let w := t.final.getD t.own
    let es := (List.range tileElements).map (fun j =>
      { code := (t.exitWord fl.seed fl.step fl.group.size w j).toNat, scale := 127, poisoned := w.poison : Elem })
    (s.stageBox { plot := fl.plot, pav := t.pav, lanes := [] } tn v es Staged.none).lines fl.plot

/-- Exit (phase 7): once the reduced tile's lines are in the controllers' queues and its children have the total, the
adapter's skip flag is set and the tile has finished. -/
def Flow.exit (fl : Flow) (x : Pumped) : Pumped :=
  let (s, t) := x
  if t.phase = 6 ∧ t.exitLines.isEmpty = true ∧ ((fl.group.children s.fabric).map fl.group.at).all t.downSent.contains = true then
    let w := t.final.getD t.own
    let s := s.updEngine (t.pav / 64) (fun e => { e with tilesOut := e.tilesOut + 1 })
    let s := if t.exitFlag fl.seed fl.step fl.group.size w then
      s.updPlot fl.plot (fun q => { q with running := q.running.map (fun st =>
        if st.plan = fl.plan ∧ st.skipFlags.contains t.adapter = false then
          { st with skipFlags := st.skipFlags ++ [t.adapter] } else st) })
    else s
    (s, { t with phase := 7 })
  else x

/-- Stage the exit of a tile whose total has just become complete: it takes its place among the results that wait for
write credits (R19). -/
def Flow.stageExit (fl : Flow) (before : Nat) (x : Pumped) : Pumped :=
  if before < 6 ∧ x.2.phase = 6 then
    let ws := fl.exitWrites x.1 x.2
    let key := (fl.plot, fl.plan, x.2.seq)
    (if ws.isEmpty then x.1 else x.1.updMem (fun m => { m with exits := m.exits.filter (· != key) ++ [key] }), { x.2 with exitLines := ws })
  else x

/-- A tile that holds every frame of the total from its parent: the words stay in the port engine's retention, and the sum
passes to the Terrace engine (R215). -/
def Flow.totalHeld (fl : Flow) (x : Pumped) : Pumped :=
  if x.2.phase = 5 ∧ x.2.failed.isNone = true ∧ x.2.downHeld.length = tileFrames then fl.passBack x.2.total x else x

/-- Every transition but the exit that a tile can make now, in the order of its phases. -/
def Flow.advance (fl : Flow) (all : List Tile) (x : Pumped) : Pumped :=
  let before := x.2.phase
  fl.valuesDown (fl.stageExit before (fl.totalHeld (fl.valuesUp (fl.addUp (fl.waveDown (fl.waveUp (fl.admitTiles all x)))))))

/-- Put a tile back into its step. -/
def State.putTile (s : State) (p plan : Nat) (t : Tile) : State :=
  s.updPlot p (fun q => { q with running := q.running.map (fun st =>
    if st.plan = plan then { st with tiles := st.tiles.map (fun u => if u.seq = t.seq then t else u) } else st) })

/-- The group of one member that a plan without a reduction group reduces in (R213). -/
def soloGroup (own : Nat) : Group :=
  { handle := 0xFFFF, groupId := 0, kind := 0, jobTag := 0, digest := 0, window := 64, generation := 1, state := groupActive,
    live := [own], lost := [], answered := [], heard := [], pauseTicks := [], joinTick := 0, regroupTick := 0, timeoutS := 0,
    joinSlot := none, early := [], suspended := false, peerReleased := false }

/-- The flow of a running step whose reduction group is ACTIVE; a step that is stopped reduces nothing. -/
def State.flowOf (s : State) (p plan : Nat) : Option Flow :=
  let q := s.plot p
  match q.running.find? (fun st => st.plan == plan), q.plans.find plan with
  | some st, some pl =>
    (if pl.header.rgroup = 0 then some (soloGroup s.fabric) else q.groupById pl.header.rgroup).bind (fun g =>
      if g.state = groupActive ∧ g.suspended = false ∧ st.stopped = false then
        some { plot := p, plan := plan, step := st.step, seed := pl.seed, group := g, faults := TileFaults.clean }
      else none)
  | _, _ => none

/-- The tiles of a running step. -/
def State.tilesOf (s : State) (p plan : Nat) : List Tile :=
  match (s.plot p).running.find? (fun st => st.plan == plan) with
  | some st => st.tiles
  | none => []

/-- Insert a tile by SEQ. -/
def insertTile (t : Tile) : List Tile → List Tile
  | [] => [t]
  | u :: l => if t.seq ≤ u.seq then t :: u :: l else u :: insertTile t l

/-- Tiles in SEQ order. -/
def bySeq (ts : List Tile) : List Tile := ts.foldr insertTile []

/-- A tile of a running step by its SEQ. -/
def State.tileAt (s : State) (p plan seq : Nat) : Option Tile := (s.tilesOf p plan).find? (fun t => t.seq == seq)

/-- The lines of a Cascade result that waits for credits; a result that no longer waits has none. -/
def State.exitLinesOf (s : State) (k : Nat × Nat × Nat) : List LineWrite :=
  match s.tileAt k.1 k.2.1 k.2.2 with
  | some t => if t.phase = 6 then t.exitLines else []
  | none => []

/-- Whether two lists of line writes need credits of one controller. -/
def sharesController (a b : List LineWrite) : Bool := (creditsOf a).any (fun e => (creditsOf b).any (fun d => d.1 == e.1))

/-- Whether a Cascade result waits for credits of a controller that some line writes need: the result goes first (R19). -/
def State.exitWants (s : State) (ws : List LineWrite) : Bool := s.mem.exits.any (fun k => sharesController (s.exitLinesOf k) ws)

/-- Serve the results that wait, in the order in which they came (R19): one takes all its credits in one reservation (R17),
and a later one does not pass it at a controller that both need. -/
def State.serveExits (s : State) : State :=
  let y := s.mem.exits.foldl (fun (y : State × List (Nat × Nat × Nat) × List LineWrite) k =>
    let ws := y.1.exitLinesOf k
    if ws.isEmpty then y
    else if !sharesController y.2.2 ws && y.1.mem.room ws then
      match y.1.tileAt k.1 k.2.1 k.2.2 with
      | some t => ((y.1.updMem (fun m => m.enqueue ws)).putTile k.1 k.2.1 { t with exitLines := [] }, y.2)
      | none => y
    else (y.1, y.2.1 ++ [k], y.2.2 ++ ws)) (s, [], [])
  y.1.updMem (fun m => { m with exits := y.2.1 })

/-- Apply a transition to one tile of a step. -/
def Flow.onTile (fl : Flow) (seq : Nat) (f : Pumped → Pumped) (s : State) : State :=
  match s.tileAt fl.plot fl.plan seq with
  | none => s
  | some t =>
    let y := f (s, t)
    if y.2 = t then y.1 else y.1.putTile fl.plot fl.plan y.2

/-- Advance the tiles of a step, in SEQ order (R209), serve the results that wait for credits, and finish the tiles whose
results have gone. -/
def Flow.run (fl : Flow) (s : State) : State :=
  let seqs := (bySeq (s.tilesOf fl.plot fl.plan)).map (·.seq)
  let s := seqs.foldl (fun s q => fl.onTile q (fl.advance (s.tilesOf fl.plot fl.plan)) s) s
  seqs.foldl (fun s q => fl.onTile q fl.exit s) s.serveExits

/-- Advance a step's tiles while a command's transfers meet faults. -/
def State.pumpWith (s : State) (p plan : Nat) (faults : TileFaults) : State :=
  match s.flowOf p plan with
  | none => s
  | some fl => Flow.run { fl with faults := faults } s

/-- Advance every tile of a step. -/
def State.pump (s : State) (p plan : Nat) : State := s.pumpWith p plan TileFaults.clean

/-- Advance the tiles of every running step of a plot. -/
def State.pumpPlot (s : State) (p : Nat) : State :=
  ((s.plot p).running.map (·.plan)).foldl (fun t plan => t.pump p plan) s

/-- Advance every tile of the module. -/
def State.pumpAll (s : State) : State := tenantPlots.foldl State.pumpPlot s.serveExits

/-! ### TILE_HANDOFF (R190, R209, R323) -/

/-- The micro-batches of a step that held at least one token of an adapter on this member (R190). -/
def Step.countOf (st : Step) (adapter : Nat) : Nat :=
  (st.lists.filter (fun l => !st.droppedMbs.contains l.microbatch &&
    l.seqs.any (fun r => r.adapter == adapter && decide (0 < r.rows)))).length

/-- The first tile handed off on a Pavilion that its step has not taken yet, with its plan. -/
def State.handedOff (s : State) (pav : Nat) : Option (GTile × Step × Tile) :=
  ((s.pav pav).gbuf.filterMap (fun g =>
    if g.cascade then
      ((s.plot g.plot).running.filterMap (fun st =>
        (st.tiles.find? (fun t => st.plan == g.plan && t.pav == pav && t.gtile == g.handle && t.phase == 0)).map (fun t => (g, st, t)))).head?
    else none)).head?

/-- TILE_HANDOFF (R209): the tile enters the Cascade with its count; in a void step it is marked poisoned
(R323). It is admitted in SEQ order within the window, and read when it is. -/
def execTileHandoff (pav : Nat) (s : State) : Out :=
  match s.handedOff pav with
  | none => .next s
  | some (g, st, t) =>
    let t := { t with data := [], poison := if st.isVoid then List.range 256 else [], phase := 1,
                      count := st.countOf t.adapter, dropped := st.droppedMbs.length }
    .next ((s.putTile g.plot st.plan t).pump g.plot st.plan)

/-! ### TILE_CONVERT (R57, R209, R215) -/

/-- Convert a tile that holds the final wave entry. The contribution passes to the port engine, which checks its CRC; one
that fails is converted again. The gradient tile is released when it has passed (R114, R116). -/
def State.convertTile (s : State) (fl : Flow) (t : Tile) : State :=
  let w := t.final.getD t.own
  let m := fl.group.size
  let s := (s.readTile fl.plot fl.plan t).1
  let ws := t.convert fl.seed fl.step (fl.group.rankOf s.fabric) m w
  let s := s.updEngine (t.pav / 64) (fun e => { e with
    tilesIn := e.tilesIn + 1, flushed := e.flushed + BitVec.ofNat 64 (t.flushCount m w) })
  match (if m ≤ 1 then some (ws, 0) else crcTransfer ws fl.faults.crc) with
  | none => (s.countRetries t.portUnit maxRetries true).putTile fl.plot fl.plan { t with failed := some (t.portUnit, 0) }
  | some (ws, n) =>
    let s := (s.countRetries t.portUnit n true).updPav t.pav (fun v => { v with
      gbuf := v.gbuf.filter (fun g => !(g.plot == fl.plot && g.plan == fl.plan && g.handle == t.gtile)) })
    fl.run (s.putTile fl.plot fl.plan { t with phase := 4, words := ws })

/-! ### Arriving frames of a reduction -/

/-- The running plan that reduces a group's tiles. -/
def Plot.reducing (q : Plot) (g : Group) : Option Step :=
  q.running.find? (fun st => match q.plans.find st.plan with | some pl => pl.header.rgroup == g.groupId | none => false)

/-- Keep a frame of a step that has not started on this member; it is worked when the step starts. -/
def State.keepEarly (s : State) (i p : Nat) (g : Group) (f : Frame) : State :=
  s.updGroup p g.handle (fun x => { x with early := x.early ++ [(i, f)] })

/-- Ask for a frame again (R217). -/
def State.askAgain (s : State) (i p : Nat) (f : Frame) : State :=
  let g := ((s.plot p).groupById f.groupId).map (fun g => g.frame s.fabric 1 0 f.step)
  (s.updEngine (portEngine i) (fun e => { e with residueRetries := e.residueRetries + 1 })).sendOn i f.src
    (g.getD (blankFrame s.fabric)) (.resend f.seq f.frameIdx f.groupId)

/-- Find the step that a reduction frame belongs to: none running keeps it, once its lines have passed their checks,
and another step is a protocol fault (R226). -/
def State.forStep (s : State) (i p : Nat) (g : Group) (f : Frame) (work : Step → State → State) : State :=
  match (s.plot p).reducing g with
  | none => if f.kind = 2 ∨ linesHold f = true then (s.acceptFrame i p g.handle f).keepEarly i p g f else s.askAgain i p f
  | some st => if st.step = f.step then work st s else s.protocolFault i p g

/-- Put a wave entry into its tile: from the parent it is final, from a child it is the child's. -/
def State.takeEntry (s : State) (p plan : Nat) (g : Group) (sender : Nat) (w : WaveEntry) : State :=
  match (s.tilesOf p plan).find? (fun t => t.seq == w.seq) with
  | none => s
  | some t =>
    if g.parent s.fabric = some sender then s.putTile p plan { t with final := some w }
    else if (g.children s.fabric).contains sender then
      s.putTile p plan { t with childWaves := t.childWaves.filter (fun c => c.1 != sender) ++ [(sender, w)] }
    else s

/-- Work a WAVE frame's entries. -/
def State.takeWave (s : State) (p : Nat) (g : Group) (st : Step) (f : Frame) : State :=
  ((List.range (min 256 (f.payload.length / 16))).foldl (fun t k =>
    t.takeEntry p st.plan g f.senderRank (waveEntryAt f.payload k)) s).pump p st.plan

/-- Common form of the arriving reduction frames. -/
def State.arriving (s : State) (port : Nat) (f : Frame) (kind : Nat) (work : Nat → Group → State → State) : State :=
  if f.kind = kind then
    match s.arrive port f with
    | .dropped t => t
    | .duplicate t => t
    | .taken p g t => work p g t
  else s

/-- WAVE (R211). -/
def execWave (port : Nat) (f : Frame) (s : State) : Out :=
  .next (s.arriving port f 2 (fun p g s =>
    s.forStep port p g f (fun st s => (s.acceptFrame port p g.handle f).takeWave p g st f)))

/-- Retries of one transfer of a tile: by kind, sender and frame. -/
def retryKey (f : Frame) : Nat := (f.senderRank * 16 + f.frameIdx) * 2 + (if f.kind = 3 then 0 else 1)

/-- A line that fails its residue: the receiver asks for the frame again and counts the retry; after three
failed retries the edge's port is faulty (R217, R225). -/
def State.residueFault (s : State) (i p plan : Nat) (f : Frame) (t : Tile) : State :=
  let n := t.retries.get 0 (retryKey f)
  if n < maxRetries then (s.putTile p plan { t with retries := t.retries.set (retryKey f) (n + 1) }).askAgain i p f
  else (s.updPort i (fun x => { x with faulty := true })).routesChanged i 3

/-- A child's frame of values: held; the sum goes up once all are there (R216). -/
def State.takeUp (s : State) (i p : Nat) (g : Group) (st : Step) (f : Frame) (t : Tile) (u : TileFaults) : State :=
  if (g.children s.fabric).contains f.senderRank = true ∧ t.phase < 5 then
    let t := { t with childFrames := t.childFrames ++
      [(f.senderRank, f.frameIdx, payloadWords f.payload f.frameIdx, f.residues)] }
    let s := if t.childComplete f.senderRank then
      s.updEngine (portEngine i) (fun e => { e with tilesIn := e.tilesIn + 1 }) else s
    (s.putTile p st.plan t).pumpWith p st.plan u
  else s

/-- A parent's frame of the total: held; the whole total goes on (R212). -/
def State.takeDown (s : State) (p : Nat) (g : Group) (st : Step) (f : Frame) (t : Tile) (u : TileFaults) : State :=
  if g.parent s.fabric = some f.senderRank ∧ t.phase = 5 ∧ t.upSent = true ∧ t.downHeld.contains f.frameIdx = false then
    let t := { t with total := addWords t.total (payloadWords f.payload f.frameIdx)
                      totalResidues := t.totalResidues.set f.frameIdx f.residues
                      downHeld := t.downHeld ++ [f.frameIdx] }
    (s.putTile p st.plan t).pumpWith p st.plan u
  else s

/-- A frame of values: its lines are checked, and a frame that fails is asked for again; one that holds is
accepted, unless it was accepted before its step started, and worked. -/
def State.takeValues (s : State) (i p : Nat) (g : Group) (st : Step) (f : Frame) (accepted : Bool) (u : TileFaults) : State :=
  match s.tileAt p st.plan f.seq with
  | none => if accepted then s else s.acceptFrame i p g.handle f
  | some t =>
    if linesHold f = false then s.residueFault i p st.plan f t
    else
      let s := if accepted then s else s.acceptFrame i p g.handle f
      if f.kind = 3 then s.takeUp i p g st f t u else s.takeDown p g st f t u

/-- Work a reduction frame that came before its step started. -/
def State.replayFrame (s : State) (p : Nat) (g : Group) (e : Nat × Frame) : State :=
  match (s.plot p).reducing g with
  | none => s.keepEarly e.1 p g e.2
  | some st =>
    if st.step ≠ e.2.step then s.protocolFault e.1 p g
    else if e.2.kind = 2 then s.takeWave p g st e.2
    else s.takeValues e.1 p g st e.2 true TileFaults.clean

/-- Work the reduction frames that came before a group's step started, in the order of arrival. -/
def State.replayReduction (s : State) (p handle : Nat) : State :=
  match (s.plot p).groupOf handle with
  | none => s
  | some g =>
    let mine (e : Nat × Frame) : Bool := decide (2 ≤ e.2.kind) && decide (e.2.kind ≤ 4)
    let s := s.updGroup p handle (fun x => { x with early := x.early.filter (fun e => !mine e) })
    (g.early.filter mine).foldl (fun t e => t.replayFrame p g e) s

end Sys2Proof.Machine
end

