-- ==== Sys2Proof/Machine/Pools.lean ====
section
/-! DEFINITION. The pools inside a plot's windows (R235, R243, R277), the base manifest (R465), the layout of
key-value blocks (R279), the seal (R47) and the page tables (R278). -/

namespace Sys2Proof.Machine

/-! ### First fit -/

/-- Round up to a multiple. -/
def roundUp (v m : Nat) : Nat := ceilDiv v m * m

/-- Whether `n` bytes from an address are free of a list of allocations. -/
def placeFree (allocs : List (Nat × Nat)) (a n : Nat) : Bool :=
  allocs.all (fun x => decide (x.1 + x.2 ≤ a) || decide (a + n ≤ x.1))

/-- The lowest place of `n` bytes, aligned, in a range. -/
def firstFit (allocs : List (Nat × Nat)) (base stop n align : Nat) : Option Nat :=
  leastOf ((((base :: allocs.map (fun x => x.1 + x.2)).filter (fun a => decide (base ≤ a))).map (fun a => roundUp a align)).filter
    (fun a => decide (a + n ≤ stop) && placeFree allocs a n))

/-- The longest free run of a range. -/
def longestRun (allocs : List (Nat × Nat)) (base stop : Nat) : Nat :=
  let mine := allocs.filter (fun x => decide (base ≤ x.1) && decide (x.1 < stop))
  (base :: mine.map (fun x => x.1 + x.2)).foldl (fun b a =>
    let e := (leastOf ((mine.map (·.1)).filter (fun x => decide (a ≤ x)))).getD stop
    max b (e - a)) 0

/-- The range of a window of a plot. -/
def Plot.windowRange (q : Plot) (w : Nat) : Option (Nat × Nat) :=
  (q.windows.find w).map (fun r => (r.base, r.base + r.bytes))

/-! ### The manifest (R465, Table ORG-15) -/

def Binding.layersTotal (b : Binding) : Nat := fieldAt b.manifest 6 2
def Binding.dModel (b : Binding) : Nat := fieldAt b.manifest 8 4
def Binding.qHeads (b : Binding) : Nat := fieldAt b.manifest 0x0C 2
def Binding.kvHeads (b : Binding) : Nat := fieldAt b.manifest 0x0E 2
def Binding.headDim (b : Binding) : Nat := fieldAt b.manifest 0x10 2
def Binding.dHidden (b : Binding) : Nat := fieldAt b.manifest 0x14 4
def Binding.expertWidth (b : Binding) : Nat := fieldAt b.manifest 0x1C 4

/-- The layer-table entry of a base layer. -/
def Binding.layerEntry (b : Binding) (l : Nat) : Nat := fieldAt b.manifest (fieldAt b.manifest 0x24 4 + 4 * l) 4

/-- The layers of a plot's bound range. -/
def Binding.layers (b : Binding) : List Nat := (List.range (b.lastLayer + 1 - b.firstLayer)).map (· + b.firstLayer)

/-- Whether a manifest's header and layer table hold (R465). -/
def manifestHolds (m : Bytes) : Bool :=
  let experts := fieldAt m 0x18 4
  let table := fieldAt m 0x24 4
  let layers := fieldAt m 6 2
  decide (64 ≤ m.length) && fieldAt m 0 4 == 0x314E414D && fieldAt m 4 2 == 1 && layers != 0 &&
  fieldAt m 8 4 != 0 && fieldAt m 8 4 % 128 == 0 && fieldAt m 0x0C 2 != 0 && fieldAt m 0x0E 2 != 0 &&
  decide (32 ≤ fieldAt m 0x10 2) && decide (fieldAt m 0x10 2 ≤ 128) && fieldAt m 0x10 2 % 32 == 0 &&
  (experts != 0 || (fieldAt m 0x12 2 == 0 && fieldAt m 0x1C 4 == 0)) &&
  (experts == 0 || (fieldAt m 0x1C 4 != 0 && fieldAt m 0x1C 4 % 128 == 0)) &&
  fieldAt m 0x14 4 % 128 == 0 && fieldAt m 0x20 4 != 0 && table % 8 == 0 && decide (0x40 ≤ table) &&
  zeroAt m 0x28 24 && decide (table + 4 * layers ≤ m.length) &&
  (List.range layers).all (fun l => fieldAt m (table + 4 * l) 4 / 256 == 0)

/-! ### Tensors of an adapter record (R236) -/

/-- The shape of A and B of a target: inputs and outputs (Table ORG-4). -/
def targetShape (b : Binding) (bit : Nat) : Nat × Nat :=
  let att := b.qHeads * b.headDim
  let kv := b.kvHeads * b.headDim
  if bit = 0 then (b.dModel, att) else if bit = 1 then (b.dModel, kv) else if bit = 2 then (b.dModel, kv)
  else if bit = 3 then (att, b.dModel) else if bit = 4 then (b.dModel, b.dHidden)
  else if bit = 5 then (b.dModel, b.dHidden) else (b.dHidden, b.dModel)

/-- A tensor of an array section: its elements, and whether it is a B tensor (R239). -/
structure ArrayTensor where
  elems : Nat
  isB : Bool
  deriving DecidableEq, Repr

/-- The tensors of the array section of a rank, target set and extra experts, in the order of R236. -/
def arrayTensors (b : Binding) (rank targets nexpert expertWidth : Nat) : List ArrayTensor :=
  (b.layers.map (fun l => ((List.range 7).filter (fun i => bitOf targets i && bitOf (b.layerEntry l) i)).map (fun i =>
    let sh := targetShape b i
    [{ elems := sh.1 * rank, isB := false }, { elems := rank * sh.2, isB := true : ArrayTensor }]))).flatten.flatten ++
  ((List.range nexpert).map (fun _ => ((b.layers.filter (fun l => bitOf (b.layerEntry l) 7)).map (fun _ =>
    [{ elems := b.dModel, isB := false }, { elems := b.dModel * expertWidth, isB := false },
     { elems := b.dModel * expertWidth, isB := false },
     { elems := expertWidth * b.dModel, isB := false : ArrayTensor }])).flatten)).flatten

/-- The places of a list of sizes laid out on 128-byte boundaries: each start, and the end of the last. -/
def layOut : Nat → List Nat → List Nat × Nat
  | a, [] => ([], a)
  | a, n :: ns =>
    let start := roundUp a 128
    let r := layOut (start + n) ns
    (start :: r.1, r.2)

/-- The starts of the tensors in the record (from its header) and the bytes of the array section. -/
def arrayPlaces (ts : List ArrayTensor) : List Nat × Nat :=
  let r := layOut 0x100 (ts.map (fun t => 2 * t.elems))
  (r.1, r.2 - 0x100)

/-- The starts of W, M, V and CMP of each tensor in the state section, and its bytes (R237). -/
def statePlaces (ts : List ArrayTensor) : List Nat × Nat :=
  layOut 0 (ts.map (fun t => [4 * t.elems, 4 * t.elems, 4 * t.elems, 4 * t.elems])).flatten

/-- Pool units of 64 KiB (R235), in bytes. -/
def poolUnit : Nat := 65536

/-! ### Key-value blocks (R279, Table TRL-16) -/

/-- The largest magnitude of a sealed element (R47): 127 of the INT8 codes, 7 of the INT4 ones. -/
def kvLevels (fmt : Nat) : Int := if fmt = 0x10 ∨ fmt = 0x11 then 127 else 7

/-- Bytes of the codes of a key or value page of width D. -/
def kvCodeBytes (fmt d : Nat) : Nat := if fmt = 1 then 128 * d else if fmt = 0x10 then 64 * d else 32 * d

/-- SK: bytes of a key page, padded to 128. -/
def kvSk (fmt d : Nat) : Nat := roundUp (kvCodeBytes fmt d + (if fmt = 1 then 0 else 2 * (d / 32))) 128

/-- SV: bytes of a value page, padded to 128. -/
def kvSv (fmt d : Nat) : Nat := roundUp (kvCodeBytes fmt d + (if fmt = 1 then 0 else 128 * (d / 32))) 128

/-- The offset of the key page of (layer slot, head) in a block. -/
def kvPageAt (b : Binding) (fmt l h : Nat) : Nat := (l * b.kvHeads + h) * (kvSk fmt b.headDim + kvSv fmt b.headDim)

/-- Bytes of a block, rounded up to 4 KiB units. -/
def kvBlockBytes (b : Binding) (fmt : Nat) : Nat :=
  roundUp (b.layers.length * b.kvHeads * (kvSk fmt b.headDim + kvSv fmt b.headDim)) 4096

/-- The place of key channel `k` of token `n` in a page: byte offset, and bit within the byte. -/
def keyPlace (fmt k n : Nat) : Nat × Nat :=
  if fmt = 1 then (2 * (64 * k + n), 0) else if fmt = 0x10 then (64 * k + n, 0) else (32 * k + n / 2, n % 2 * 4)

/-- The place of value channel `k` of token `n`. -/
def valuePlace (fmt d k n : Nat) : Nat × Nat :=
  if fmt = 1 then (2 * (d * n + k), 0) else if fmt = 0x10 then (d * n + k, 0) else (d / 2 * n + k / 2, k % 2 * 4)

/-! ### The seal (R47) -/

/-- The FP32 value of a BF16 pattern. -/
def bfWord (c : Nat) : W32 := BitVec.ofNat 32 (c * 65536)

/-- The scale of a group: amax of its finite elements divided by the levels, in BF16. -/
def sealScale (levels : Int) (xs : List Nat) : Nat :=
  let amax := xs.foldl (fun m c =>
    match decodeFloat fmtBf16 c with
    | .fin _ k e => m.max2 (.fin false k e)
    | _ => m) (Num.zero false)
  match amax with
  | .fin _ m e => roundWide fmtBf16 .nearest false m levels.toNat e
  | _ => 0

/-- The code of an element of a group with scale `s`; a non-finite element stores 0, and so does every
element when s is zero. -/
def sealCode (levels : Int) (s c : Nat) : Int :=
  if s = 0 then 0
  else if !(decodeFloat fmtBf16 c).isFinite then 0
  else
    match (f32 (fdiv (bfWord c) (bfWord s))).toInt with
    | some v => clampInt v (-levels) levels
    | none => 0

/-- The BF16 value of a sealed code: q × s rounded once (R42). -/
def widenCode (q : Int) (s : Nat) : Nat := ((Num.ofInt q).mul (decodeFloat fmtBf16 s)).toWide fmtBf16 .nearest

/-- Elements of a group that are not finite. -/
def nonfiniteOf (xs : List Nat) : Nat := (xs.filter (fun c => !(decodeFloat fmtBf16 c).isFinite)).length

/-- Pack 4-bit codes two to a byte, the lower first. -/
def packNibbles : List Int → Bytes
  | a :: b :: l => BitVec.ofNat 8 ((a % 16).toNat + 16 * (b % 16).toNat) :: packNibbles l
  | [a] => [BitVec.ofNat 8 (a % 16).toNat]
  | [] => []

/-- The bytes of a list of codes in a page format. -/
def packCodes (fmt : Nat) (qs : List Int) : Bytes :=
  if fmt = 0x10 ∨ fmt = 0x11 then qs.map (fun q => BitVec.ofInt 8 q) else packNibbles qs

/-- A page part padded to its size. -/
def padTo (n : Nat) (bs : Bytes) : Bytes := bs ++ List.replicate (n - bs.length) 0

/-- Seal the keys of one (layer slot, head): `x k n` is the BF16 code of channel k and token n. -/
def sealKeys (fmt d : Nat) (x : Nat → Nat → Nat) : Bytes :=
  if fmt = 1 then
    padTo (kvSk fmt d) (((List.range d).map (fun k => ((List.range 64).map (fun n => natLE 2 (x k n))).flatten)).flatten)
  else
    let lv := kvLevels fmt
    let scale (g : Nat) : Nat := sealScale lv (((List.range 32).map (fun i => (List.range 64).map (x (32 * g + i)))).flatten)
    let scales := (List.range (d / 32)).map scale
    padTo (kvSk fmt d)
      (packCodes fmt (((List.range d).map (fun k => (List.range 64).map (fun n => sealCode lv (scales.getD (k / 32) 0) (x k n)))).flatten) ++
       (scales.map (natLE 2)).flatten)

/-- Seal the values of one (layer slot, head). -/
def sealValues (fmt d : Nat) (x : Nat → Nat → Nat) : Bytes :=
  if fmt = 1 then
    padTo (kvSv fmt d) (((List.range 64).map (fun n => ((List.range d).map (fun k => natLE 2 (x k n))).flatten)).flatten)
  else
    let lv := kvLevels fmt
    let scaleOf (n g : Nat) : Nat := sealScale lv ((List.range 32).map (fun i => x (32 * g + i) n))
    let scales := (List.range 64).map (fun n => (List.range (d / 32)).map (scaleOf n))
    padTo (kvSv fmt d)
      (packCodes fmt (((List.range 64).map (fun n => (List.range d).map (fun k =>
          sealCode lv ((scales.getD n []).getD (k / 32) 0) (x k n)))).flatten) ++
       (scales.map (fun l => (l.map (natLE 2)).flatten)).flatten)

/-- A sealed key element widened to BF16 (R42), read through `rd` from its page. -/
def widenKey (fmt d : Nat) (rd : Nat → Byte) (k n : Nat) : Nat :=
  let pl := keyPlace fmt k n
  if fmt = 1 then (rd pl.1).toNat + 256 * (rd (pl.1 + 1)).toNat
  else
    let so := kvCodeBytes fmt d + 2 * (k / 32)
    let s := (rd so).toNat + 256 * (rd (so + 1)).toNat
    let w := if fmt = 0x10 then 8 else 4
    widenCode (signedOf w ((rd pl.1).toNat / 2 ^ pl.2)) s

/-- A sealed value element widened to BF16. -/
def widenValue (fmt d : Nat) (rd : Nat → Byte) (k n : Nat) : Nat :=
  let pl := valuePlace fmt d k n
  if fmt = 1 then (rd pl.1).toNat + 256 * (rd (pl.1 + 1)).toNat
  else
    let so := kvCodeBytes fmt d + 2 * (n * (d / 32) + k / 32)
    let s := (rd so).toNat + 256 * (rd (so + 1)).toNat
    let w := if fmt = 0x10 then 8 else 4
    widenCode (signedOf w ((rd pl.1).toNat / 2 ^ pl.2)) s

/-! ### Allocation in the key-value pools (R277) -/

/-- The window of the HBM pool, and of the Cold Frame pool (R344). -/
def kvHbmWindow : Nat := 1
def kvCfWindow : Nat := 2

/-- A place of `n` bytes in a pool window, if one is free. -/
def Plot.kvPlace (q : Plot) (w n align : Nat) : Option Nat :=
  (q.windowRange w).bind (fun r => firstFit q.kvAlloc r.1 r.2 n align)

/-- Take `n` bytes of a pool window. -/
def State.kvTake (s : State) (p w n align : Nat) : Option (Nat × State) :=
  ((s.plot p).kvPlace w n align).map (fun a => (a, s.updPlot p (fun q => { q with kvAlloc := q.kvAlloc ++ [(a, n)] })))

/-- Return a place to its pool. -/
def State.kvDrop (s : State) (p a : Nat) : State :=
  s.updPlot p (fun q => { q with kvAlloc := q.kvAlloc.filter (fun x => x.1 != a) })

/-! ### Page tables (R278, Table TRL-15) -/

/-- Bytes of a root or leaf table. -/
def tableBytes : Nat := 512

/-- A page-table entry's fields. -/
def pteAddr (e : Nat) : Nat := e % 2 ^ 48
def pteValid (e : Nat) : Bool := bitOf e 48
def pteMoving (e : Nat) : Bool := bitOf e 49
def ptePoison (e : Nat) : Bool := bitOf e 50

/-- An entry of a valid block. -/
def pteOf (a : Nat) : Nat := a % 2 ^ 48 + 2 ^ 48

/-- The address of the entry of page `p`, when its leaf table stands. -/
def Mem.pteSlot (m : Mem) (root p : Nat) : Option Nat :=
  let e := m.readNat (root + 8 * (p / 64)) 8
  if pteValid e then some (pteAddr e + 8 * (p % 64)) else none

/-- The entry of page `p`; 0 when there is none. -/
def Mem.pte (m : Mem) (root p : Nat) : Nat :=
  match m.pteSlot root p with
  | some a => m.readNat a 8
  | none => 0

/-- Write the entry of page `p`. -/
def Mem.setPte (m : Mem) (root p e : Nat) : Mem :=
  match m.pteSlot root p with
  | some a => m.write a (natLE 8 e)
  | none => m

/-- The pages of a sequence that are sealed: those below floor(CTX / 64). -/
def SeqEntry.sealedPages (e : SeqEntry) : Nat := e.ctx / 64

/-- The leaf tables of a sequence. -/
def Mem.leafTables (m : Mem) (root : Nat) : List Nat :=
  ((List.range 64).map (fun i => m.readNat (root + 8 * i) 8)).filterMap (fun e => if pteValid e then some (pteAddr e) else none)

end Sys2Proof.Machine
end

