-- ==== Sys2Proof/Machine/Sequences.lean ====
section
/-! DEFINITION. Sequences (chapter 10): the table, admission, editing, retirement, endings and their
events, and the spilling of sealed blocks. -/

namespace Sys2Proof.Machine

/-! ### The table (R255 to R257) -/

/-- States of a sequence (Table TRL-2). -/
def seqActive : Nat := 1
def seqListed : Nat := 2
def seqDone : Nat := 3
def seqTerminated : Nat := 4

/-- No adapter. -/
def noAdapter : Nat := 0xFFFFFFFF

/-- The plot index and the incarnation of a SEQ_ID. -/
def seqIndex (id : Nat) : Nat := id % 2 ^ 20
def seqIncarnation (id : Nat) : Nat := id / 2 ^ 20

/-- Whether a SEQ_ID names an index of the plot in its present incarnation (R257). -/
def Plot.knowsSeq (q : Plot) (id : Nat) : Bool :=
  decide (seqIndex id < q.cfg.seqQuota) && q.incarnations.get 0 (seqIndex id) == seqIncarnation id

/-- Change a sequence by plot index. -/
def State.updSeq (s : State) (p i : Nat) (f : SeqEntry → SeqEntry) : State :=
  s.updPlot p (fun q =>
    match q.seqs.find i with
    | some e => { q with seqs := q.seqs.set i (f e) }
    | none => q)

/-- SFLAGS of an entry (Table TRL-1). -/
def SeqEntry.flags (e : SeqEntry) : Nat :=
  b2n e.adapterGone + 2 * b2n e.paused + 4 * b2n e.editPending + 8 * b2n e.retirePending + 16 * b2n e.spilled +
  32 * b2n e.reportPending + 64 * b2n e.nextValid

/-! ### Endings (R263, Table TRL-7) -/

/-- End a sequence as DONE or TERMINATED with an event kind, arising from a step. -/
def State.endSeq (s : State) (p i st kind step : Nat) : State :=
  s.updPlot p (fun q =>
    match q.seqs.find i with
    | some e =>
      if e.state = seqDone ∨ e.state = seqTerminated then q
      else { q with seqs := q.seqs.set i { e with state := st, reportPending := true, reportKind := kind,
                                                  reportStep := step, reportOrder := q.reportCount } }
    | none => q)

/-- The events made reportable together share an order; the next ones come after them. -/
def State.nextOrder (s : State) (p : Nat) : State :=
  (s.updPlot p (fun q => { q with reportCount := q.reportCount + 1 })).report p

/-- Mark the sequences of an adapter ADAPTER_GONE (R247): an ACTIVE one is terminated with kind 4, a LISTED
one keeps the mark and leaves at its token boundary, a DONE one takes the flag, a TERMINATED one is
unchanged. The number marked is returned. -/
def State.markGone (s : State) (p handle step : Nat) : State × Nat :=
  let is := ((s.plot p).seqs.filter (fun e => e.2.adapter == handle && e.2.state != 0 && e.2.state != seqTerminated &&
    !e.2.adapterGone)).map (·.1)
  let s := is.foldl (fun t i =>
    let t := t.updSeq p i (fun e => { e with adapterGone := true })
    match (t.plot p).seqs.find i with
    | some e => if e.state = seqActive then t.endSeq p i seqTerminated 4 step else t
    | none => t) s
  (s.nextOrder p, is.length)

/-- Terminate every sequence of a plot, as BASE_BIND does: DONE ones become TERMINATED with no new record
(R263). The number terminated is returned. -/
def State.terminateAll (s : State) (p kind step : Nat) : State × Nat :=
  let is := ((s.plot p).seqs.filter (fun e => e.2.state != 0 && e.2.state != seqTerminated)).map (·.1)
  let s := is.foldl (fun t i =>
    match (t.plot p).seqs.find i with
    | some e => if e.state = seqDone then t.updSeq p i (fun e => { e with state := seqTerminated })
                else t.endSeq p i seqTerminated kind step
    | none => t) s
  (s.nextOrder p, is.length)

/-! ### Spilling (R284 to R286) -/

/-- A sealed block that may be spilled, with its order of spilling. -/
structure SpillBlock where
  served : Nat
  page : Nat
  seqId : Nat
  index : Nat
  addr : Nat
  size : Nat
  deriving DecidableEq, Repr

/-- The order of R284: LAST_SERVED, page index, SEQ_ID. -/
def SpillBlock.before (a b : SpillBlock) : Bool :=
  decide (a.served < b.served) ||
  (a.served == b.served && (decide (a.page < b.page) || (a.page == b.page && decide (a.seqId < b.seqId))))

/-- Insert by the order of R284. -/
def insertSpill (a : SpillBlock) : List SpillBlock → List SpillBlock
  | [] => [a]
  | b :: l => if a.before b then a :: b :: l else b :: insertSpill a l

/-- The lists being built for a plot: those of running steps, and those begun ahead of a plan's next step (R264). -/
def Plot.buildings (q : Plot) : List Building := q.running.filterMap (·.building) ++ q.ahead.map (·.2)

/-- The candidates of the lists being built for a plot. -/
def Plot.candidates (q : Plot) : List Nat := ((q.buildings.map (·.cands)).flatten).map seqIndex

/-- Bytes of a sealed block of a sequence. -/
def Plot.blockBytes (q : Plot) (fmt : Nat) : Nat :=
  match q.binding with
  | some b => kvBlockBytes b fmt
  | none => 4096

/-- The sealed blocks in HBM that may be spilled, in order: never those of a LISTED sequence or of a
candidate (R284). -/
def State.spillable (s : State) (p : Nat) : List SpillBlock :=
  let q := s.plot p
  ((q.seqs.filter (fun e => e.2.state != 0 && e.2.state != seqListed && e.2.kind == 1 &&
      !q.candidates.contains e.1)).map (fun e =>
    (List.range e.2.sealedPages).filterMap (fun pg =>
      let x := s.mem.pte e.2.ptRoot pg
      if pteValid x && !pteMoving x && isHbm (pteAddr x) then
        some { served := e.2.lastServed, page := pg, seqId := e.2.seqId, index := e.1, addr := pteAddr x,
               size := q.blockBytes e.2.kvFmt : SpillBlock }
      else none))).flatten.foldr insertSpill []

/-- Whether allocations of given sizes and alignments fit together beside those of a list. -/
def fitsAll (r : Nat × Nat) : List (Nat × Nat) → List (Nat × Nat) → Bool
  | _, [] => true
  | allocs, (n, align) :: needs =>
    match firstFit allocs r.1 r.2 n align with
    | none => false
    | some a => fitsAll r (allocs ++ [(a, n)]) needs

/-- The spills that let allocations fit together, in order, with their places in the Cold Frame:
they stop as soon as all fit; none when they never do, or when the Cold Frame pool cannot take one. -/
def spillPlan (q : Plot) (needs : List (Nat × Nat)) : List SpillBlock → List (Nat × Nat) → List (SpillBlock × Nat) → Option (List (SpillBlock × Nat))
  | bs, allocs, acc =>
    match q.windowRange kvHbmWindow with
    | none => none
    | some r =>
      if fitsAll r allocs needs then some acc
      else
        match bs with
        | [] => none
        | b :: rest =>
          match (q.windowRange kvCfWindow).bind (fun c => firstFit allocs c.1 c.2 b.size 4096) with
          | none => none
          | some d => spillPlan q needs rest (allocs.filter (fun x => x.1 != b.addr) ++ [(d, b.size)]) (acc ++ [(b, d)])

/-- The blocks that are leaving HBM: spills asked for and not retired. -/
def State.spillsUnderWay (s : State) (p : Nat) : Bool :=
  (s.mem.moveQueue ++ s.mem.moving).any (fun m => m.plot == p && m.purpose.cls == 3)

/-- Whether allocations in HBM could still fit once blocks have spilled. -/
def State.fitsAfterSpill (s : State) (p : Nat) (needs : List (Nat × Nat)) : Bool :=
  s.spillsUnderWay p || (spillPlan (s.plot p) needs (s.spillable p) (s.plot p).kvAlloc []).isSome

/-- Ask for the spill of one block: its place in the Cold Frame is taken and its entry is MOVING; POISON stays. -/
def State.startSpill (s : State) (p : Nat) (b : SpillBlock) (dst : Nat) : State :=
  let root := match (s.plot p).seqs.find b.index with | some e => e.ptRoot | none => 0
  let s := s.updPlot p (fun q => { q with kvAlloc := q.kvAlloc ++ [(dst, b.size)] })
  s.updMem (fun m => { (m.setPte root b.page (m.pte root b.page + 2 ^ 49)) with
    moveQueue := m.moveQueue ++ [{ plot := p, purpose := .spill b.index b.page, src := b.addr, dst := dst,
                                   len := b.size, discard := false }] })

/-- KV_SPILL (R284): blocks spill in order until an allocation of `bytes` fits, a table's or a block's. -/
def execKvSpill (plot bytes : Nat) (s : State) : Out :=
  match spillPlan (s.plot plot) [(bytes, if bytes ≤ 512 then 512 else 4096)] (s.spillable plot) (s.plot plot).kvAlloc [] with
  | none => .next s
  | some l => .next (l.foldl (fun t x => t.startSpill plot x.1 x.2) s)

/-! ### SEQ_ADMIT (R258, Table TRL-3) -/

/-- The adapter of a SEQ_ADMIT or SET_ADAPTER: exists, is not STALE, is admitted, and is TRAIN for a TRAIN
sequence; the status of the first failed check. -/
def Plot.adapterCheck (q : Plot) (kind handle : Nat) : Option Nat :=
  if handle = noAdapter then (if kind = 1 then none else some stNotPermitted)
  else
    match q.adapters.find handle with
    | none => some stUnknownAdapter
    | some a =>
      match a.state with
      | .stale => some stStaleBase
      | .revoking => some stAdapterRevoked
      | .poisoned => some stAdapterRevoked
      | .registered => some stNotPermitted
      | .admitted => if a.leaving || (kind == 0 && !a.train) then some stNotPermitted else none

/-- The fields of SEQ_ADMIT that Table TRL-3 limits. -/
def admitFields (pl : Bytes) : Bool :=
  let kind := fieldAt pl 0 1
  let fmt := fieldAt pl 1 1
  let len := fieldAt pl 0x18 4
  let mx := fieldAt pl 0x1C 4
  decide (kind ≤ 1) && decide (1 ≤ len) && decide (len ≤ 262144) &&
  (if kind = 0 then fmt == 0 && mx == 0 && fieldAt pl 0x20 8 == 0 && fieldAt pl 4 4 != noAdapter
   else (fmt == 1 || fmt == 0x10 || fmt == 0x12) && decide (len < mx) && decide (mx ≤ 262144))

/-- The lowest free plot index (R257). -/
def Plot.freeSeq (q : Plot) : Option Nat := (List.range q.cfg.seqQuota).find? (fun i => (q.seqs.find i).isNone)

/-- The checks of SEQ_ADMIT before its resources, in the order of R467. -/
def State.admitCheck (s : State) (p : Nat) (pl : Bytes) : Option Nat :=
  let q := s.plot p
  let kind := fieldAt pl 0 1
  let len := fieldAt pl 0x18 4
  if q.binding.isNone then some stStaleBase
  else if admitFields pl = false then some stNotPermitted
  else
    match q.adapterCheck kind (fieldAt pl 4 4) with
    | some st => some st
    | none =>
      if s.inWindows p (fieldAt pl 0x10 8) (if kind = 0 then 8 * len else 4 * len) = false then some stNotPermitted
      else if kind = 1 ∧ s.inWindows p (fieldAt pl 0x20 8) (4 * (fieldAt pl 0x1C 4 - len)) = false then some stNotPermitted
      else none

/-- The entry of a newly admitted sequence. -/
def newSeq (pl : Bytes) (id root openBlock : Nat) : SeqEntry :=
  let kind := fieldAt pl 0 1
  let len := fieldAt pl 0x18 4
  { seqId := id, state := seqActive, kind := kind, adapterGone := false, paused := false, editPending := false,
    retirePending := false, spilled := false, reportPending := false, nextValid := false,
    kvFmt := fieldAt pl 1 1, gen := 1, adapter := fieldAt pl 4 4, firstStep := fieldAt pl 8 8, lastServed := 0,
    prevServed := 0, ctx := 0, pendingToks := len, maxLen := fieldAt pl 0x1C 4, generated := 0,
    inAddr := fieldAt pl 0x10 8, outAddr := fieldAt pl 0x20 8, ptRoot := root, openBlock := openBlock,
    dataIndex := fieldAt pl 0x28 8, userTag := fieldAt pl 0x30 8, hbmBlocks := 0, cfBlocks := 0, deferrals := 0,
    ringLen := if kind = 1 then fieldAt pl 0x1C 4 - len else 0, nextInput := 0, reportKind := 0, reportStep := 0,
    reportOrder := 0, reserved := [] }

/-- Put a new sequence into the lowest free index, with its root table and open block zeroed. -/
def State.placeSeq (s : State) (p i : Nat) (r : Req) (root openBlock : Nat) : State :=
  let inc := ((s.plot p).incarnations.get 0 i + 1) % 4096
  let id := i + 2 ^ 20 * inc
  let s := s.updPlot p (fun q => { q with
    seqs := q.seqs.set i (newSeq r.payload id root openBlock), incarnations := q.incarnations.set i inc })
  s.ok p r (natLE 4 id ++ natLE 2 1 ++ natLE 2 0)

/-- SEQ_ADMIT (R258). A request whose root table and open block need blocks to spill first waits for
KV_SPILL; one that could never fit returns ST_NO_MEMORY. -/
def execSeqAdmit (plot : Nat) (s : State) : Out :=
  .next (s.serve plot opSeqAdmit (fun _ => true) (fun r s =>
    match s.admitCheck plot r.payload with
    | some st => s.refuse plot r st
    | none =>
      match (s.plot plot).freeSeq with
      | none => s.refuse plot r stNoMemory
      | some i =>
        if fieldAt r.payload 0 1 = 0 then s.placeSeq plot i r 0 0
        else
          let n := (s.plot plot).blockBytes 1
          let wait : State :=
            if s.fitsAfterSpill plot [(tableBytes, tableBytes), (n, 4096)] then s else s.refuse plot r stNoMemory
          match s.kvTake plot kvHbmWindow tableBytes tableBytes with
          | none => wait
          | some (root, t) =>
            match t.kvTake plot kvHbmWindow n 4096 with
            | none => wait
            | some (ob, t) => (t.updMem (fun m => (m.zero root tableBytes).zero ob n)).placeSeq plot i r root ob))

/-! ### Freeing pages -/

/-- Drop the moves of a page of a sequence, with the places they were going to. -/
def State.cancelMoves (s : State) (p i page : Nat) : State :=
  let mine (m : Move) : Bool := m.plot == p && (m.purpose == .spill i page || m.purpose == .trellisPrefetch i page)
  let gone := (s.mem.moveQueue ++ s.mem.moving).filter mine
  let s := gone.foldl (fun t m => t.kvDrop p m.dst) s
  s.updMem (fun d => { d with moveQueue := d.moveQueue.filter (fun m => !mine m), moving := d.moving.filter (fun m => !mine m) })

/-- Free the block of a sealed page and clear its entry. -/
def State.freePage (s : State) (p i page : Nat) : State :=
  match (s.plot p).seqs.find i with
  | none => s
  | some e =>
    let x := s.mem.pte e.ptRoot page
    if pteValid x then
      let s := ((s.cancelMoves p i page).kvDrop p (pteAddr x)).updMem (fun m => m.setPte e.ptRoot page 0)
      s.updSeq p i (fun e => if isHbm (pteAddr x) then { e with hbmBlocks := e.hbmBlocks - 1 }
                             else { e with cfBlocks := e.cfBlocks - 1, spilled := e.cfBlocks - 1 != 0 })
    else s

/-- Free everything that a sequence holds (R261); the number of blocks, the open one among them. -/
def State.freeSeq (s : State) (p i : Nat) : State × Nat :=
  match (s.plot p).seqs.find i with
  | none => (s, 0)
  | some e =>
    if e.kind = 0 then (s.updPlot p (fun q => { q with seqs := q.seqs.erase i }), 0)
    else
      let n := ((List.range e.sealedPages).filter (fun pg => pteValid (s.mem.pte e.ptRoot pg))).length
      let s := (List.range e.sealedPages).foldl (fun t pg => t.freePage p i pg) s
      let s := e.reserved.foldl (fun t a => t.kvDrop p a) s
      let s := (s.mem.leafTables e.ptRoot).foldl (fun t a => t.kvDrop p a) s
      let s := (s.kvDrop p e.ptRoot).kvDrop p e.openBlock
      (s.updPlot p (fun q => { q with seqs := q.seqs.erase i }), n + 1)

/-! ### SEQ_EDIT and SEQ_RETIRE (R259 to R262) -/

/-- The edit operations of Table TRL-5. -/
def editAppend : Nat := 1
def editTruncate : Nat := 2
def editSetMax : Nat := 3
def editSetAdapter : Nat := 4
def editPause : Nat := 5
def editResume : Nat := 6
def editQuery : Nat := 7

/-- Whether an operation is allowed for a kind: APPEND, TRUNCATE and SET_MAX only for GENERATE. -/
def editAllowed (op kind : Nat) : Bool := kind == 1 || decide (4 ≤ op)

/-- The QUERY result (Table TRL-6). -/
def SeqEntry.queryResult (e : SeqEntry) : Bytes :=
  natLE 1 e.state ++ natLE 1 (e.flags % 256) ++ natLE 2 e.gen ++ natLE 4 e.ctx ++ natLE 2 (min e.hbmBlocks 65535) ++
  natLE 2 (min e.cfBlocks 65535) ++ natLE 4 e.pendingToks ++ natLE 8 e.lastServed

/-- The result of every other edit. -/
def SeqEntry.editResult (e : SeqEntry) : Bytes := natLE 4 e.ctx ++ natLE 2 e.gen ++ natLE 2 0

/-- Read a byte of a block. -/
def Mem.blockByte (m : Mem) (base off : Nat) : Byte := m.read (base + off)

/-- The open block of a sequence whose context is cut inside a sealed page: the page's first `n` tokens
widened by R42, every later token +0.0. -/
def State.reopenBytes (s : State) (b : Binding) (fmt block n : Nat) : Bytes :=
  let d := b.headDim
  padTo (kvBlockBytes b 1) (((List.range (b.layers.length * b.kvHeads)).map (fun lh =>
    let l := lh / b.kvHeads
    let h := lh % b.kvHeads
    let kb := block + kvPageAt b fmt l h
    let vb := kb + kvSk fmt d
    let vfmt := fmt
    sealKeys 1 d (fun k t => if t < n then widenKey fmt d (s.mem.blockByte kb) k t else 0) ++
    sealValues 1 d (fun k t => if t < n then widenValue vfmt d (s.mem.blockByte vb) k t else 0))).flatten)

/-- Rewrite an open block from the first `n` tokens of a block, itself or a sealed one. An open block's poisoned lines stay
so; DESIGN CHOICE: a sealed block that holds a poisoned line makes every line of the open block poisoned. -/
def State.reopen (s : State) (b : Binding) (fmt block openBlock n : Nat) : State :=
  let first := openBlock / 64
  let lines := ceilDiv (kvBlockBytes b 1) 64
  let bad := ((List.range lines).map (· + first)).filter (fun l =>
    if block = openBlock then s.mem.linePoisoned l else s.mem.poisonedIn block (kvBlockBytes b fmt))
  s.updMem (fun m => bad.foldl Mem.poisonLine (m.write openBlock (s.reopenBytes b fmt block n)))

/-- Clear the token rows of an open block at or beyond `n` (R279). -/
def State.clearOpen (s : State) (b : Binding) (block n : Nat) : State := s.reopen b 1 block block n

/-- TRUNCATE to a context length (Table TRL-5). -/
def State.truncateTo (s : State) (p i c : Nat) : State :=
  match (s.plot p).seqs.find i, (s.plot p).binding with
  | some e, some b =>
    if c = e.ctx then s.updSeq p i (fun e => { e with gen := (e.gen + 1) % 65536 })
    else
      let inSealed := decide (c / 64 < e.sealedPages)
      let s := if inSealed then
          s.reopen b e.kvFmt (pteAddr (s.mem.pte e.ptRoot (c / 64))) e.openBlock (c % 64)
        else s.clearOpen b e.openBlock (c % 64)
      let s := ((List.range e.sealedPages).filter (fun pg => decide (c / 64 ≤ pg))).foldl (fun t pg => t.freePage p i pg) s
      s.updSeq p i (fun e => { e with ctx := c, generated := e.generated - (e.ctx - c), nextValid := false,
                                      gen := (e.gen + 1) % 65536 })
  | _, _ => s

/-- Apply an edit other than QUERY to a sequence: the status, and the state after. -/
def State.editSeq (s : State) (p i : Nat) (e : SeqEntry) (op arg0 arg1 : Nat) : Nat × State :=
  let bump (f : SeqEntry → SeqEntry) : Nat × State := (stOk, s.updSeq p i (fun x => { f x with gen := (x.gen + 1) % 65536 }))
  if e.state = 0 ∨ e.state = seqTerminated ∨ editAllowed op e.kind = false then (stNotPermitted, s)
  else if op = editAppend then
    if arg1 = 0 ∨ e.maxLen < e.ctx + e.pendingToks + arg1 ∨ (e.pendingToks ≠ 0 ∧ arg0 ≠ e.inAddr + 4 * e.pendingToks) ∨
        s.inWindows p arg0 (4 * arg1) = false then (stNotPermitted, s)
    else bump (fun x => { x with
      inAddr := if x.pendingToks = 0 then arg0 else x.inAddr, pendingToks := x.pendingToks + arg1, nextValid := false,
      state := if x.state = seqDone then seqActive else x.state })
  else if op = editTruncate then
    if e.pendingToks ≠ 0 ∨ e.ctx < arg0 then (stNotPermitted, s) else (stOk, s.truncateTo p i arg0)
  else if op = editSetMax then
    if arg0 ≤ e.ctx + e.pendingToks ∨ 262144 < arg0 then (stNotPermitted, s) else bump (fun x => { x with maxLen := arg0 })
  else if op = editSetAdapter then
    match (s.plot p).adapterCheck e.kind (arg0 % 2 ^ 32) with
    | some st => (st, s)
    | none => bump (fun x => { x with
        adapter := arg0 % 2 ^ 32, adapterGone := if x.state = seqDone then false else x.adapterGone })
  else if op = editPause then (stOk, s.updSeq p i (fun x => { x with paused := true }))
  else if op = editResume then (stOk, s.updSeq p i (fun x => { x with paused := false }))
  else (stNotPermitted, s)

/-- The SEQ_ID that a held SEQ_EDIT or SEQ_RETIRE names, when it is deferred. -/
def Req.deferredSeq (r : Req) : Option Nat :=
  if r.phase = .deferred ∧ (r.opcode = opSeqEdit ∨ r.opcode = opSeqRetire) then some (fieldAt r.payload 0 4) else none

/-- Set EDIT_PENDING and RETIRE_PENDING of a sequence from the requests held for it (R260). -/
def State.pendingFlags (s : State) (p id : Nat) : State :=
  let mine := (s.plot p).mail.held.filter (fun r => r.deferredSeq == some id)
  s.updSeq p (seqIndex id) (fun e => { e with
    editPending := mine.any (fun r => r.opcode == opSeqEdit), retirePending := mine.any (fun r => r.opcode == opSeqRetire) })

/-- Apply a SEQ_EDIT or a SEQ_RETIRE and complete it. -/
def State.applySeq (s : State) (p : Nat) (r : Req) : State :=
  let id := fieldAt r.payload 0 4
  let i := seqIndex id
  match (if (s.plot p).knowsSeq id then (s.plot p).seqs.find i else none) with
  | none => s.refuse p r (if r.opcode = opSeqEdit ∧ (s.plot p).knowsSeq id = true then stNotPermitted else stUnknownSequence)
  | some e =>
    if r.opcode = opSeqRetire then
      let y := s.freeSeq p i
      y.1.ok p r (natLE 4 y.2 ++ natLE 4 0)
    else
      let y := s.editSeq p i e (fieldAt r.payload 4 1) (fieldAt r.payload 8 8) (fieldAt r.payload 0x10 4)
      if y.1 = stOk then
        match (y.2.plot p).seqs.find i with
        | some e => y.2.ok p r e.editResult
        | none => y.2.ok p r []
      else s.refuse p r y.1

/-- Whether the appender or a seal job of a plot has work left. -/
def State.appendingFor (s : State) (p : Nat) : Bool := s.trellis.appending.any (fun j => j.plot == p)

/-- The steps of a plot that run: the steps that a request taken now waits for (R260). -/
def Plot.runningSteps (q : Plot) : List (Nat × Nat) := q.running.map (fun st => (st.plan, st.step))

/-- Apply the held sequence requests that wait for no step, in the order taken, once the appender has
finished (R260, R283). -/
def State.settleEdits (s : State) (p : Nat) : State :=
  if s.appendingFor p then s
  else
    ((s.plot p).mail.held.filter (fun r => r.deferredSeq.isSome && r.waits.isEmpty)).foldl (fun t r =>
      (t.applySeq p r).pendingFlags p (fieldAt r.payload 0 4)) s

/-- Requests deferred for one sequence, and whether a retirement is among them (R260). -/
def Plot.deferredFor (q : Plot) (id : Nat) : Nat × Bool :=
  let mine := q.mail.held.filter (fun r => r.deferredSeq == some id)
  (mine.length, mine.any (fun r => r.opcode == opSeqRetire))

/-- Take a SEQ_EDIT or SEQ_RETIRE whose first checks have passed: at once while no step of the plot runs,
else held to the end of the steps that run now; at most 8 for one sequence, none after a retirement. -/
def State.takeSeq (s : State) (p : Nat) (r : Req) : State :=
  let id := fieldAt r.payload 0 4
  let d := (s.plot p).deferredFor id
  if (s.plot p).running.isEmpty && !s.appendingFor p then s.applySeq p r
  else if 8 ≤ d.1 ∨ d.2 = true then s.refuse p r stSeqBusy
  else
    (s.updMail p (fun m => { m with held := m.held.map (fun h =>
      if h.slot = r.slot then { h with phase := .deferred, waits := (s.plot p).runningSteps } else h) })).pendingFlags p id

/-- The checks of SEQ_EDIT at its take: the binding, the SEQ_ID, and the operation against the KIND. -/
def State.editCheck (s : State) (p : Nat) (r : Req) : Option Nat :=
  let id := fieldAt r.payload 0 4
  if (s.plot p).binding.isNone then some stStaleBase
  else if (s.plot p).knowsSeq id = false then some stUnknownSequence
  else
    match (s.plot p).seqs.find (seqIndex id) with
    | none => some stNotPermitted
    | some e => if editAllowed (fieldAt r.payload 4 1) e.kind = false then some stNotPermitted else none

/-- Serve a SEQ_EDIT of one operation. -/
def State.serveEdit (s : State) (p op : Nat) : State :=
  s.serve p opSeqEdit (fun pl => fieldAt pl 4 1 == op) (fun r s =>
    match s.editCheck p r with
    | some st => s.refuse p r st
    | none =>
      if op = editQuery then
        match (s.plot p).seqs.find (seqIndex (fieldAt r.payload 0 4)) with
        | some e => s.ok p r e.queryResult
        | none => s.refuse p r stNotPermitted
      else s.takeSeq p r)

/-- APPEND (Table TRL-5). -/
def execAppend (plot : Nat) (s : State) : Out := .next (s.serveEdit plot editAppend)
/-- TRUNCATE (Table TRL-5). -/
def execTruncate (plot : Nat) (s : State) : Out := .next (s.serveEdit plot editTruncate)
/-- SET_MAX (Table TRL-5). -/
def execSetMax (plot : Nat) (s : State) : Out := .next (s.serveEdit plot editSetMax)
/-- SET_ADAPTER (Table TRL-5). -/
def execSetAdapter (plot : Nat) (s : State) : Out := .next (s.serveEdit plot editSetAdapter)
/-- PAUSE (Table TRL-5). -/
def execPause (plot : Nat) (s : State) : Out := .next (s.serveEdit plot editPause)
/-- RESUME (Table TRL-5). -/
def execResume (plot : Nat) (s : State) : Out := .next (s.serveEdit plot editResume)
/-- QUERY (Table TRL-6): answers at once and is never deferred. -/
def execSeqEditQuery (plot : Nat) (s : State) : Out := .next (s.serveEdit plot editQuery)

/-- SEQ_RETIRE (R261). -/
def execSeqRetire (plot : Nat) (s : State) : Out :=
  .next (s.serve plot opSeqRetire (fun _ => true) (fun r s =>
    let id := fieldAt r.payload 0 4
    if (s.plot plot).knowsSeq id = false ∨ ((s.plot plot).seqs.find (seqIndex id)).isNone = true then
      s.refuse plot r stUnknownSequence
    else s.takeSeq plot r))

end Sys2Proof.Machine
end

