-- ==== Sys2Proof/Machine/Orangery.lean ====
section
/-! DEFINITION. The Orangery (chapter 09): the base binding, adapter registration, admission, residency,
eviction and revocation, prefetch, poisoned records, and the retirement of tier moves. -/

namespace Sys2Proof.Machine

/-! ### Records and pools -/

/-- Change an adapter of a plot. -/
def State.updAdapter (s : State) (p h : Nat) (f : Adapter → Adapter) : State :=
  s.updPlot p (fun q =>
    match q.adapters.find h with
    | some a => { q with adapters := q.adapters.set h (f a) }
    | none => q)

/-- Bytes that a record takes in a pool: header and array section in whole 64 KiB units. -/
def Adapter.recordBytes (a : Adapter) : Nat := roundUp (0x100 + a.arrayBytes) poolUnit

/-- The tensors of an adapter's array section under its plot's binding. -/
def Adapter.tensors (a : Adapter) (b : Binding) : List ArrayTensor :=
  arrayTensors b a.rank a.targets a.nexpert a.expertWidth

/-- Bytes of an adapter's state section in whole units. -/
def Adapter.stateBytes (a : Adapter) (b : Binding) : Nat := roundUp (statePlaces (a.tensors b)).2 poolUnit

/-- The places of a record and its state section in the pools. -/
def Adapter.poolPlaces (a : Adapter) : Nat × Nat := a.home.getD (a.resAddr, a.stateAddr)

/-- A place in one of the plot's pool windows. -/
def Plot.poolPlace (q : Plot) (w n : Nat) : Option Nat :=
  if w = 0xFFFF then none
  else (q.windowRange w).bind (fun r => firstFit q.poolAlloc r.1 r.2 n poolUnit)

/-- Take a place. -/
def State.poolTake (s : State) (p a n : Nat) : State :=
  s.updPlot p (fun q => { q with poolAlloc := q.poolAlloc ++ [(a, n)] })

/-- Zero and free a place. -/
def State.poolDrop (s : State) (p a n : Nat) : State :=
  (s.updMem (fun m => m.zero a n)).updPlot p (fun q => { q with poolAlloc := q.poolAlloc.filter (fun x => x.1 != a) })

/-- The resident windows in the order that a preference gives: the preferred Terrace's first; without
one, the window with the longer free run, Terrace 0 on a tie (R243). -/
def Plot.residentOrder (q : Plot) (b : Binding) (terrace : Nat) : List Nat :=
  let run (w : Nat) : Nat := match q.windowRange w with | some r => longestRun q.poolAlloc r.1 r.2 | none => 0
  if terrace = 0 then [b.res0, b.res1]
  else if terrace = 1 then [b.res1, b.res0]
  else if run b.res0 < run b.res1 then [b.res1, b.res0] else [b.res0, b.res1]

/-- A place for a resident copy, trying the windows in order. -/
def Plot.residentPlace (q : Plot) (b : Binding) (terrace n : Nat) : Option Nat :=
  (q.residentOrder b terrace).findSome? (fun w => q.poolPlace w n)

/-- The resident windows in the order of a record's own window: that one first (R237). -/
def Plot.sameWindowFirst (q : Plot) (b : Binding) (a : Nat) : List Nat :=
  match q.windowRange b.res1 with
  | some r => if r.1 ≤ a ∧ a < r.2 then [b.res1, b.res0] else [b.res0, b.res1]
  | none => [b.res0, b.res1]

/-- Whether a record could fit in an empty resident window of the plot (R244). -/
def Plot.couldFit (q : Plot) (b : Binding) (n : Nat) : Bool :=
  [b.res0, b.res1].any (fun w => match q.windowRange w with | some r => decide (r.1 + n ≤ r.2) | none => false)

/-! ### Lists that hold an adapter (R241) -/

/-- Whether a published list of an unfinished step holds an adapter. -/
def Plot.onList (q : Plot) (h : Nat) : Bool := q.running.any (fun st => st.lists.any (fun l => l.seqs.any (fun r => r.adapter == h)))

/-- Whether a list being built holds an adapter. -/
def Plot.onBuilding (q : Plot) (h : Nat) : Bool :=
  q.buildings.any (fun b => b.cands.any (fun id => !b.late.contains id &&
    (match q.seqs.find (seqIndex id) with | some e => e.seqId == id && e.adapter == h | none => false)))

/-- Whether a resident record is LOCKED (R241): a TRAIN record always, any other while a published list of an unfinished
step or a list being built holds its adapter, whatever the adapter's state. -/
def Plot.locked (q : Plot) (h : Nat) : Bool :=
  match q.adapters.find h with
  | some a => a.residency == .resident && (a.train || q.onList h || q.onBuilding h)
  | none => false

/-- Whether an adapter is pinned (R246): a sequence names it, or the adapter list of a loaded training
plan. -/
def Plot.seqPinned (q : Plot) (h : Nat) : Bool :=
  q.seqs.any (fun e => e.2.adapter == h && e.2.state != 0 && e.2.state != seqTerminated)

/-- Whether a loaded plan's adapter list names an adapter. -/
def Plot.planPinned (q : Plot) (h : Nat) : Bool := q.plans.any (fun e => e.2.adapters.contains h)

/-! ### Residency (R242 to R245) -/

/-- Records that a plot keeps resident or is loading. -/
def Plot.recordsHeld (q : Plot) : Nat :=
  (q.adapters.filter (fun e => e.2.residency != .nonresident)).length

/-- The ticks of a resident period are added to the adapter's account. -/
def Adapter.endResidence (a : Adapter) (now : Nat) : Adapter :=
  if a.residency = .resident then { a with residentTicks := a.residentTicks + BitVec.ofNat 64 (now - a.residentSince) } else a

/-- Zero and free a resident copy, or cancel one that is loading: its move is discarded when it retires. -/
def State.dropCopy (s : State) (p h : Nat) : State :=
  match (s.plot p).adapters.find h with
  | none => s
  | some a =>
    match a.residency with
    | .nonresident => s.updAdapter p h (fun a => { a with prefetch := 0 })
    | .resident =>
      (s.poolDrop p a.resAddr a.recordBytes).updAdapter p h (fun a =>
        { a.endResidence s.now with residency := .nonresident, resAddr := 0, prefetch := 0 })
    | .loading =>
      (s.updMem (fun m =>
        let f (x : Move) : Move := if x.plot = p ∧ x.purpose = .orangeryPrefetch h then { x with discard := true } else x
        { m with moveQueue := m.moveQueue.map f, moving := m.moving.map f })).updAdapter p h (fun a =>
          { a with residency := .nonresident, resAddr := 0, prefetch := 0 })

/-- The records that an eviction may take, in the order of R244: RESIDENT, not LOCKED, the smallest
LAST_USE first, then the lowest handle. -/
def Plot.nextEviction (q : Plot) : Option Nat :=
  ((q.adapters.filter (fun e => e.2.residency == .resident && !e.2.train && !q.onList e.1 && !q.onBuilding e.1)).foldl
    (fun b e => match b with
      | none => some e
      | some c => if e.2.lastUse < c.2.lastUse then some e else some c) none).map (·.1)

/-- Evict records one at a time until a record of `n` bytes fits within quota and pool: the place, if one was found before
every record left was LOCKED or LOADING, and the state that the evictions give (R244). -/
def State.makeRoom : Nat → State → Nat → Binding → Nat → Nat → Option Nat × State
  | fuel, s, p, b, terrace, n =>
    let q := s.plot p
    match (if q.recordsHeld < q.cfg.residentQuota then q.residentPlace b terrace n else none) with
    | some a => (some a, s)
    | none =>
      match fuel with
      | 0 => (none, s)
      | k + 1 =>
        match q.nextEviction with
        | none => (none, s)
        | some h =>
          let t := (s.dropCopy p h).updAdapter p h (fun a => { a with evictions := a.evictions + 1 })
          State.makeRoom k { t with orangery := { t.orangery with evictions := t.orangery.evictions + 1 } } p b terrace n

/-- Ask for a prefetch of an adapter whose record is not resident (R242, R265). -/
def State.wantPrefetch (s : State) (p h : Nat) : State :=
  s.updAdapter p h (fun a =>
    if a.state = .admitted ∧ a.leaving = false ∧ a.residency = .nonresident ∧ a.prefetch = 0 then { a with prefetch := 1 } else a)

/-- The move that loads a record into the resident pool: its whole pool units (R235, R245). -/
def Adapter.moveTo (a : Adapter) (p dst : Nat) : Move :=
  { plot := p, purpose := .orangeryPrefetch a.handle, src := a.catAddr, dst := dst,
    len := a.recordBytes, discard := false }

/-- Carry out a prefetch: evict until the record fits and queue its copy; when every record is LOCKED or
LOADING it waits for the end of the current step (R244). -/
def State.prefetchNow (s : State) (p h : Nat) : State :=
  match (s.plot p).binding, (s.plot p).adapters.find h with
  | some b, some a =>
    match s.makeRoom (s.plot p).adapters.length p b a.terrace a.recordBytes with
    | (some dst, t) =>
      let t := (t.poolTake p dst a.recordBytes).updAdapter p h (fun a =>
        { a with residency := .loading, resAddr := dst, prefetch := 0 })
      t.updMem (fun m => { m with moveQueue := m.moveQueue ++ [a.moveTo p dst] })
    | (none, t) =>
      let t := t.updAdapter p h (fun a => { a with prefetch := 2 })
      { t with orangery := { t.orangery with deferrals := t.orangery.deferrals + 1 } }
  | _, _ => s

/-- ADAPTER_PREFETCH (R244). -/
def execAdapterPrefetch (plot handle : Nat) (s : State) : Out :=
  match (s.plot plot).adapters.find handle with
  | none => .next s
  | some a =>
    if s.unitFenced 29 = false ∧ a.state = .admitted ∧ a.residency = .nonresident ∧ a.prefetch = 1 then .next (s.prefetchNow plot handle) else .next s

/-- PREFETCH_RETRY (R244): a prefetch that waited tries again once the step it waited for has ended. -/
def execPrefetchRetry (plot handle : Nat) (s : State) : Out :=
  match (s.plot plot).adapters.find handle with
  | none => .next s
  | some a =>
    if s.unitFenced 29 = false ∧ a.state = .admitted ∧ a.residency = .nonresident ∧
        (a.prefetch = 3 ∨ (a.prefetch = 2 ∧ (s.plot plot).running = [])) then .next (s.prefetchNow plot handle)
    else .next s

/-! ### ADAPTER_ADMIT (R242, R249) -/

/-- SLOTS of an adapter: four bytes, 0xFF where unused. -/
def Adapter.slotBytes (a : Adapter) : Bytes := (List.range 4).map (fun e => BitVec.ofNat 8 (a.slots.getD e 0xFF))

/-- The slots that the other adapters of a plot hold. -/
def Plot.slotsHeld (q : Plot) (h : Nat) : List Nat :=
  ((q.adapters.filter (fun e => e.1 != h)).map (fun e => e.2.slots)).flatten

/-- Grant the bytes of 0xFF, each the lowest free slot, after the named ones. -/
def grantSlots (taken : List Nat) : List Nat → List Nat → Option (List Nat)
  | [], acc => some acc.reverse
  | r :: rs, acc =>
    if r ≠ 0xFF then grantSlots taken rs (r :: acc)
    else
      match (List.range 64).find? (fun i => !taken.contains i && !acc.contains i && !rs.contains i) with
      | none => none
      | some i => grantSlots taken rs (i :: acc)

/-- The ADMIT result. -/
def Adapter.admitResult (a : Adapter) : Bytes :=
  a.slotBytes ++ natLE 1 (b2n (a.residency == .resident)) ++ natLE 3 0

/-- Complete the ADMITs of an adapter that wait for residence. -/
def State.settleAdmits (s : State) (p h : Nat) : State :=
  ((s.plot p).mail.held.filter (fun r => r.opcode == opAdapterAdmit && r.phase == .started && fieldAt r.payload 0 4 == h)).foldl
    (fun t r => match (t.plot p).adapters.find h with
      | some a => t.ok p r a.admitResult
      | none => t.ok p r (List.replicate 4 0xFF ++ List.replicate 4 0)) s

/-- Answer an ADMIT whose adapter is admitted: at once, or once resident. -/
def State.answerAdmit (s : State) (p : Nat) (r : Req) : State :=
  match (s.plot p).adapters.find (fieldAt r.payload 0 4) with
  | none => s
  | some a =>
    if bitOf (fieldAt r.payload 4 1) 0 && a.residency != .resident then s.setPhase p r.slot .started
    else s.ok p r a.admitResult

/-- ADAPTER_ADMIT: SLOT_REQ of an adapter that is already ADMITTED is ignored; of any other, its reserved bytes are
checked with the payload (R5, R366 step 5), before the binding. -/
def execAdapterAdmit (plot : Nat) (s : State) : Out :=
  .next (s.serve plot opAdapterAdmit (fun _ => true) (fun r s =>
    let q := s.plot plot
    let h := fieldAt r.payload 0 4
    let ignored : Bool := match q.adapters.find h with | some a => a.state == .admitted | none => false
    let req := if ignored then [] else (List.range 4).map (fun e => fieldAt r.payload (8 + e) 1)
    let terr := fieldAt r.payload 5 1
    let n := match q.adapters.find h with | some a => a.nexpert | none => 4
    let mine := req.take n
    let named := mine.filter (· != 0xFF)
    if (req.drop n).any (· != 0) = true then s.refuse plot r stBadLength
    else
    match q.binding with
    | none => s.refuse plot r stStaleBase
    | some b =>
      if named.any (fun x => decide (63 < x)) = true ∨ named.length ≠ named.eraseDups.length ∨
          (terr ≠ 0 ∧ terr ≠ 1 ∧ terr ≠ 0xFF) then s.refuse plot r stNotPermitted
      else
        match q.adapters.find h with
        | none => s.refuse plot r stUnknownAdapter
        | some a =>
          match a.state with
          | .stale => s.refuse plot r stStaleBase
          | .revoking => s.refuse plot r stAdapterRevoked
          | .poisoned => s.refuse plot r stAdapterRevoked
          | .admitted =>
            let s := if a.leaving then
                (((s.plot plot).mail.held.filter (fun x => x.opcode == opAdapterEvict && x.phase == .started &&
                  fieldAt x.payload 0 4 == h)).foldl (fun t x => t.ok plot x (List.replicate 8 0)) s).updAdapter plot h
                  (fun a => { a with leaving := false, unregister := false })
              else s
            (s.wantPrefetch plot h).answerAdmit plot r
          | .registered =>
            if named.any (fun x => (q.slotsHeld h).contains x) = true then
              let s := { s with orangery := { s.orangery with slotConflicts := s.orangery.slotConflicts + 1 } }
              s.refuse plot r stSlotConflict
            else
              match grantSlots (q.slotsHeld h ++ named) mine [] with
              | none => s.refuse plot r stNoMemory
              | some slots =>
                if !a.train && (q.cfg.residentQuota == 0 || !q.couldFit b a.recordBytes) then s.refuse plot r stNoMemory
                else
                  let s := s.updAdapter plot h (fun a => { a with
                    state := .admitted, slots := slots, terrace := terr, lastUse := (s.plot plot).useClock, stall := [] })
                  (s.wantPrefetch plot h).answerAdmit plot r))

/-! ### ADAPTER_EVICT (R246 to R248) -/

/-- Remove a handle: its catalogue copy, a TRAIN record and a state section are zeroed and freed. -/
def State.unregister (s : State) (p h : Nat) : State :=
  match (s.plot p).adapters.find h, (s.plot p).binding with
  | some a, some b =>
    let s := if a.state = .stale then s
      else if a.train then (s.poolDrop p a.poolPlaces.1 a.recordBytes).poolDrop p a.poolPlaces.2 (a.stateBytes b)
      else (s.dropCopy p h).poolDrop p a.catAddr a.recordBytes
    s.updPlot p (fun q => { q with adapters := q.adapters.erase h })
  | _, _ => s

/-- The evictions of an adapter that wait, with RESIDENCY_ONLY or without it. -/
def Plot.evictsOf (q : Plot) (h : Nat) (residencyOnly : Bool) : List Req :=
  q.mail.held.filter (fun r => r.opcode == opAdapterEvict && r.phase == .started && fieldAt r.payload 0 4 == h &&
    bitOf (fieldAt r.payload 4 1) 2 == residencyOnly)

/-- Complete the RESIDENCY_ONLY requests of an adapter: they mark no sequence. -/
def State.settleDrops (s : State) (p h : Nat) : State :=
  ((s.plot p).evictsOf h true).foldl (fun t r => t.ok p r (List.replicate 8 0)) s

/-- Complete the evictions of an adapter that wait: the one that marked the sequences, the first with FORCE or else the
first, with their number, the others with 0 unless one added UNREGISTER (R248). -/
def State.settleEvicts (s : State) (p h gone : Nat) : State :=
  let rs := (s.plot p).evictsOf h false
  let s := s.settleDrops p h
  match (rs.filter (fun r => bitOf (fieldAt r.payload 4 1) 0)) ++ rs with
  | [] => s
  | r0 :: _ =>
    rs.foldl (fun t r =>
      let adds := bitOf (fieldAt r.payload 4 1) 1 && !bitOf (fieldAt r0.payload 4 1) 1
      t.ok p r (natLE 4 (if adds || r.slot == r0.slot then gone else 0) ++ natLE 4 0)) s

/-- Finish an eviction or a revocation whose adapter no list of an unfinished step and no list being built
holds: its slots are free, a non-TRAIN resident copy is zeroed and freed, UNREGISTER is carried out, and
the waiting completions are posted. A POISONED adapter that an UNREGISTER waits for is removed once its sequences are
marked. -/
def State.finishEvict (s : State) (p h : Nat) : State :=
  match (s.plot p).adapters.find h with
  | none => s
  | some a =>
    if a.state == .poisoned && a.unregister && a.gone.isNone then (s.unregister p h).settleEvicts p h a.goneCount
    else if (a.state == .revoking && a.gone.isNone || a.state == .admitted && a.leaving) && !(s.plot p).onList h &&
        !(s.plot p).onBuilding h then
      let s := if a.train then s else s.dropCopy p h
      let s := s.updAdapter p h (fun a => { a with
        state := .registered, slots := [], leaving := false, gone := none, goneCount := 0, unregister := false,
        dropResident := false, stall := [] })
      let s := if a.unregister then s.unregister p h else s
      (s.settleAdmits p h).settleEvicts p h a.goneCount
    else s

/-- Mark the sequences of a revoked or poisoned adapter once the steps that ran have ended (R247). -/
def State.settleGone (s : State) (p h step : Nat) : State :=
  match (s.plot p).adapters.find h with
  | none => s
  | some a =>
    match a.gone with
    | some [] =>
      let y := s.markGone p h step
      (y.1.updAdapter p h (fun a => { a with gone := none, goneCount := a.goneCount + y.2 })).finishEvict p h
    | _ => s

/-- A resident copy that RESIDENCY_ONLY asks back is freed once it is not LOCKED. -/
def State.finishDrop (s : State) (p h : Nat) : State :=
  match (s.plot p).adapters.find h with
  | none => s
  | some a =>
    if a.dropResident && !(s.plot p).onList h && !(s.plot p).onBuilding h then
      ((s.dropCopy p h).updAdapter p h (fun a => { a with dropResident := false })).settleAdmits p h |>.settleDrops p h
    else s

/-- The common beginning of the four forms of ADAPTER_EVICT: binding, combinations, existence. -/
def State.serveEvict (s : State) (p : Nat) (sel : Nat → Bool) (work : Req → Adapter → State → State) : State :=
  s.serve p opAdapterEvict (fun pl => sel (fieldAt pl 4 1)) (fun r s =>
    let fl := fieldAt r.payload 4 1
    if (s.plot p).binding.isNone then s.refuse p r stStaleBase
    else if bitOf fl 2 && (bitOf fl 0 || bitOf fl 1) then s.refuse p r stNotPermitted
    else
      match (s.plot p).adapters.find (fieldAt r.payload 0 4) with
      | none => s.refuse p r stUnknownAdapter
      | some a => work r a s)

/-- A second eviction of a REVOKING adapter joins the first (R248). -/
def State.joinEvict (s : State) (p : Nat) (r : Req) (h : Nat) : State :=
  (s.setPhase p r.slot .started).updAdapter p h (fun a =>
    { a with unregister := a.unregister || bitOf (fieldAt r.payload 4 1) 1 }) |>.finishEvict p h

/-- Eviction without FORCE, with or without UNREGISTER (R247). -/
def State.plainEvict (s : State) (p : Nat) (r : Req) (a : Adapter) : State :=
  let h := a.handle
  let unreg := bitOf (fieldAt r.payload 4 1) 1
  match a.state with
  | .stale => if unreg then (s.unregister p h).ok p r (List.replicate 8 0) else s.refuse p r stStaleBase
  | .revoking => s.joinEvict p r h
  | .admitted =>
    if (s.plot p).seqPinned h || (s.plot p).planPinned h then s.refuse p r stAdapterPinned
    else
      ((s.setPhase p r.slot .started).updAdapter p h (fun a => { a with
        leaving := true, unregister := a.unregister || unreg })).finishEvict p h
  | _ =>
    if (s.plot p).seqPinned h || (s.plot p).planPinned h then s.refuse p r stAdapterPinned
    else (if unreg then s.unregister p h else s).ok p r (List.replicate 8 0)

/-- ADAPTER_EVICT without flags. -/
def execAdapterEvict (plot : Nat) (s : State) : Out :=
  .next (s.serveEvict plot (fun fl => fl == 0) (fun r a s => s.plainEvict plot r a))

/-- Revocation: the adapter becomes REVOKING, and its sequences are marked at once or at the end of the
steps that run (R247). -/
def State.revoke (s : State) (p : Nat) (r : Req) (a : Adapter) : State :=
  let h := a.handle
  let s := (s.setPhase p r.slot .started).updAdapter p h (fun a => { a with
    state := .revoking, leaving := false, unregister := a.unregister || bitOf (fieldAt r.payload 4 1) 1,
    gone := some (s.plot p).runningSteps, goneCount := 0, prefetch := 0 })
  let s := match a.residency with | .loading => s.dropCopy p h | _ => s
  ((s.settleAdmits p h).settleGone p h (s.plot p).eventStep)

/-- ADAPTER_EVICT with FORCE (R247). -/
def execAdapterEvictForce (plot : Nat) (s : State) : Out :=
  .next (s.serveEvict plot (fun fl => bitOf fl 0 && !bitOf fl 1 && !bitOf fl 2) (fun r a s =>
    match a.state with
    | .stale => s.refuse plot r stStaleBase
    | .revoking => s.joinEvict plot r a.handle
    | .admitted => if (s.plot plot).planPinned a.handle then s.refuse plot r stAdapterPinned else s.revoke plot r a
    | _ => s.refuse plot r stNotPermitted))

/-- ADAPTER_EVICT with UNREGISTER, with or without FORCE (R247). -/
def execAdapterEvictUnregister (plot : Nat) (s : State) : Out :=
  .next (s.serveEvict plot (fun fl => bitOf fl 1 && !bitOf fl 2) (fun r a s =>
    if bitOf (fieldAt r.payload 4 1) 0 then
      match a.state with
      | .stale => (s.unregister plot a.handle).ok plot r (List.replicate 8 0)
      | .revoking => s.joinEvict plot r a.handle
      | .admitted => if (s.plot plot).planPinned a.handle then s.refuse plot r stAdapterPinned else s.revoke plot r a
      | _ => s.refuse plot r stNotPermitted
    else s.plainEvict plot r a))

/-- ADAPTER_EVICT with RESIDENCY_ONLY (R247): the adapter stays ADMITTED. -/
def execAdapterEvictResidencyOnly (plot : Nat) (s : State) : Out :=
  .next (s.serveEvict plot (fun fl => bitOf fl 2) (fun r a s =>
    match a.state with
    | .stale => s.refuse plot r stStaleBase
    | .admitted =>
      if a.train then s.refuse plot r stAdapterPinned
      else if a.leaving then s.refuse plot r stNotPermitted
      else
        ((s.setPhase plot r.slot .started).updAdapter plot a.handle (fun a => { a with dropResident := true })).finishDrop
          plot a.handle
    | _ => s.refuse plot r stNotPermitted))

/-! ### Poisoned records (R250) -/

/-- The opcode of ADAPTER_EVENT records (Table BTH-5). -/
def srcAdapterEvent : Nat := 0x8004

/-- A poisoned line of a record: the adapter becomes POISONED, its sequences are marked as FORCE marks
them, RECORD_POISON is set, and an adapter event is posted. The evictions that wait complete, but an UNREGISTER among them
waits with them until the sequences are marked, and then removes the handle (R247). -/
def State.recordPoison (s : State) (p h : Nat) : State :=
  match (s.plot p).adapters.find h with
  | none => s
  | some a =>
    if a.state = .poisoned ∨ a.state = .stale then s
    else
      let step := (s.plot p).eventStep
      let s := { s with orangery := { s.orangery with err := setFlag s.orangery.err 0 } }
      let s := if a.residency = .loading then s.dropCopy p h else s
      let s := s.updAdapter p h (fun a => { a with
        state := .poisoned, slots := [], leaving := false, prefetch := 0, dropResident := false, gone := some (s.plot p).runningSteps })
      let s := s.unsolicited p srcAdapterEvent (natLE 4 h ++ natLE 2 1 ++ natLE 2 0 ++ natLE 8 step ++ natLE 8 s.now)
      let s := s.settleAdmits p h
      (if a.unregister then s else s.settleEvicts p h a.goneCount).settleGone p h step

/-- The adapter whose record or state section holds an address, if any. -/
def Plot.recordAt (q : Plot) (x : Nat) : Option Nat :=
  (q.adapters.find? (fun e =>
    let a := e.2
    let within (base n : Nat) : Bool := base != 0 && decide (base ≤ x) && decide (x < base + n)
    within a.catAddr a.recordBytes || (a.residency != .nonresident && within a.resAddr a.recordBytes) ||
    (match q.binding with | some b => within a.stateAddr (a.stateBytes b) | none => false))).map (·.1)

/-! ### ADAPTER_REGISTER (R238 to R240, Tables ORG-3, ORG-5, GTH-7) -/

/-- Whether a record image's header and length hold under the bound manifest. -/
def imageHolds (b : Binding) (im : Bytes) : Bool :=
  let rank := fieldAt im 6 1
  let nexp := fieldAt im 7 1
  let tg := fieldAt im 8 4
  let ew := fieldAt im 0x30 2
  let ts := arrayTensors b rank tg nexp ew
  fieldAt im 0 4 == 0x3147524F && fieldAt im 4 2 == 1 &&
  (rank == 4 || rank == 8 || rank == 16 || rank == 32 || rank == 64 || rank == 128) && decide (nexp ≤ 4) &&
  (tg != 0 || nexp != 0) && decide (tg < 128) && fieldAt im 0x0C 2 == b.firstLayer && fieldAt im 0x0E 2 == b.lastLayer &&
  (if nexp = 0 then ew == 0 else ew != 0 && ew % 128 == 0 && decide (ew ≤ b.expertWidth)) &&
  fieldAt im 0x38 8 == (arrayPlaces ts).2 && decide (im.length = 0x100 + (arrayPlaces ts).2) &&
  zeroAt im 0x34 4 && zeroAt im 0x40 12

/-- The BF16 codes of `n` elements of a tensor in an image. -/
def imageCodes (im : Bytes) (at_ n : Nat) : List Nat := (List.range n).map (fun i => fieldAt im (at_ + 2 * i) 2)

/-- The record that a TRAIN registration writes: B tensors zero, TRAIN, HANDLE and STATE_ADDR filled in,
and PARAMS at no update (R239). -/
def trainRecord (im : Bytes) (ts : List ArrayTensor) (handle stateAddr : Nat) : Bytes :=
  let places := (arrayPlaces ts).1
  let hdr := im.take 0x34 ++ natLE 4 1 ++ (im.drop 0x38).take 8 ++ natLE 8 stateAddr ++ natLE 4 handle ++
    (im.drop 0x4C).take 0x34 ++ natLE 4 0 ++ (im.drop 0x84).take 0x28 ++ natLE 4 0x3F800000 ++ natLE 4 0x3F800000 ++
    (im.drop 0xB4).take 0x4C
  (places.zip ts).foldl (fun r p =>
    if p.2.isB then r.take p.1 ++ List.replicate (2 * p.2.elems) 0 ++ r.drop (p.1 + 2 * p.2.elems) else r)
    (hdr ++ im.drop 0x100)

/-- The state section of a TRAIN registration: W widened from A, everything else +0.0 (R237, R239). -/
def stateSection (im : Bytes) (ts : List ArrayTensor) : Bytes :=
  let places := (arrayPlaces ts).1
  ((places.zip ts).map (fun p =>
    let w := if p.2.isB then List.replicate (4 * p.2.elems) 0
             else ((imageCodes im p.1 p.2.elems).map (fun c => natLE 4 (c * 65536))).flatten
    let z := List.replicate (roundUp (4 * p.2.elems) 128) (0 : Byte)
    padTo (roundUp (4 * p.2.elems) 128) w ++ z ++ z ++ z)).flatten

/-- A new adapter entry. -/
def newAdapter (im : Bytes) (handle : Nat) (train : Bool) : Adapter :=
  { handle := handle, state := .registered, train := train, rank := fieldAt im 6 1, nexpert := fieldAt im 7 1,
    targets := fieldAt im 8 4, expertWidth := fieldAt im 0x30 2, arrayBytes := fieldAt im 0x38 8, catAddr := 0,
    residency := .nonresident, resAddr := 0, stateAddr := 0, absorbed := 255, absorbedFirst := 0, absorbedLast := 0, home := none, lastUse := 0, slots := [], terrace := 0xFF,
    prefetch := 0, leaving := false, unregister := false, dropResident := false, gone := none, goneCount := 0,
    rowsFwd := 0, rowsBwd := 0, arrayCycles := 0, movedBytes := 0, residentSince := 0, residentTicks := 0, skipped := 0,
    prefetches := 0, evictions := 0, stall := [] }

/-- The fused security version of a firmware class's group (R429). -/
def State.fusedSvn (s : State) (cls : Nat) : Nat := if cls % 2 = 1 then s.mgmt.fuseGatehouse else s.mgmt.fuseBothy

/-- The running security version of a firmware class. That of the first image is at least the fused one, as every
image that boots (R394). -/
def State.svn (s : State) (cls : Nat) : Nat :=
  match (s.mgmt.classes.get FwClass.init cls).runningImage with
  | some i => i.svn
  | none => max (s.fusedSvn cls) (Config.factoryImage cls 1)

/-- The running SVN_GATEHOUSE. -/
def State.svnGatehouse (s : State) : Nat := s.svn 1

/-- A bundle's header (Table GTH-7) as the checks read it. -/
def bundleHolds (hdr : Bytes) (len kindLo kindHi : Nat) : Bool :=
  fieldAt hdr 0 4 == 0x31424C53 && fieldAt hdr 4 2 == 1 && decide (kindLo ≤ fieldAt hdr 6 1) && decide (fieldAt hdr 6 1 ≤ kindHi) &&
  zeroAt hdr 7 1 && zeroAt hdr 0x24 4 && zeroAt hdr 0x34 12 && fieldAt hdr 0x28 8 != 0 && len == fieldAt hdr 0x28 8 + 80

/-- Open a sealed bundle in device memory: the plaintext, when its tag holds; no unit reads a poisoned line (R321). -/
def State.openBundle (s : State) (key addr : Nat) : Option Bytes :=
  let hdr := s.mem.readBytes addr 64
  let n := fieldAt hdr 0x28 8
  if s.mem.poisonedIn addr (n + 80) then none
  else Config.gcmOpen key (fieldAt hdr 0x18 12) hdr (s.mem.readBytes (addr + 64) n) (s.mem.readNat (addr + 64 + n) 16)

/-- Replace or add an adapter's entry, freeing what a POISONED entry still holds (R240). -/
def State.replaceEntry (s : State) (p h : Nat) : State :=
  match (s.plot p).adapters.find h with
  | some a => if a.state = .poisoned then s.unregister p h else s.updPlot p (fun q => { q with adapters := q.adapters.erase h })
  | none => s

/-- Write a registered record and complete the request. -/
def State.keepRecord (s : State) (p : Nat) (r : Req) (a : Adapter) (addr : Nat) (moved : Nat) : State :=
  let s := s.updPlot p (fun q => { q with adapters := q.adapters.set a.handle { a with movedBytes := BitVec.ofNat 64 moved } })
  let s := { s with orangery := { s.orangery with movedBytes := s.orangery.movedBytes + BitVec.ofNat 64 moved } }
  (s.chargeWrite p addr moved).ok p r (natLE 8 a.arrayBytes ++ natLE 8 addr)

/-- Register an image that has passed its checks: a TRAIN record goes to the resident pool with its state
section, any other to the catalogue. -/
def State.registerImage (s : State) (p : Nat) (r : Req) (b : Binding) (im : Bytes) : State :=
  let h := fieldAt r.payload 0 4
  let train := bitOf (fieldAt r.payload 4 1) 0
  let a := newAdapter im h train
  let full := decide (65536 ≤ (s.plot p).adapters.length) && ((s.plot p).adapters.find h).isNone
  let s' := s.replaceEntry p h
  if full then s.refuse p r stNoMemory
  else if train then
    match s'.makeRoom (s'.plot p).adapters.length p b 0xFF a.recordBytes with
    | (none, _) => s.refuse p r stNoMemory
    | (some addr, t) =>
      let t := t.poolTake p addr a.recordBytes
      match ((t.plot p).sameWindowFirst b addr).findSome? (fun w => (t.plot p).poolPlace w (a.stateBytes b)) with
      | none => s.refuse p r stNoMemory
      | some st =>
        let ts := a.tensors b
        let t := (t.poolTake p st (a.stateBytes b)).updMem (fun m =>
          (m.write addr (trainRecord im ts h st)).write st (stateSection im ts))
        t.keepRecord p r { a with residency := .resident, resAddr := addr, stateAddr := st, residentSince := s.now } addr
          (0x100 + a.arrayBytes)
  else
    match (s'.plot p).poolPlace b.cat a.recordBytes with
    | none => s.refuse p r stNoMemory
    | some addr =>
      let t := (s'.poolTake p addr a.recordBytes).updMem (fun m =>
        m.write addr (im.take 0x48 ++ natLE 4 h ++ im.drop 0x4C))
      t.keepRecord p r { a with catAddr := addr } addr (0x100 + a.arrayBytes)

/-- ADAPTER_REGISTER: the checks in the order of R467. -/
def execAdapterRegister (plot : Nat) (s : State) : Out :=
  .next (s.serve plot opAdapterRegister (fun _ => true) (fun r s =>
    let q := s.plot plot
    let h := fieldAt r.payload 0 4
    let addr := fieldAt r.payload 8 8
    let len := fieldAt r.payload 0x10 8
    match q.binding with
    | none => s.refuse plot r stStaleBase
    | some b =>
      if h = noAdapter then s.refuse plot r stNotPermitted
      else if (match q.adapters.find h with | some a => a.state != .stale && a.state != .poisoned | none => false) = true then
        s.refuse plot r stHandleInUse
      else if s.inWindows plot addr len = false then s.refuse plot r stNotPermitted
      else
        match q.keys.find (fieldAt r.payload 5 1) with
        | none => s.refuse plot r stAttestRequired
        | some k =>
          let hdr := s.mem.readBytes addr (min len 64)
          if s.mem.poisonedIn addr (min len 64) = true then s.refuse plot r stBadBundle
          else if s.svnGatehouse < fieldAt hdr 0x30 4 then s.refuse plot r stSvnTooLow
          else if bundleHolds hdr len 3 3 = false then s.refuse plot r stBadBundle
          else
            match s.openBundle k.key addr with
            | none =>
              let s := { s with orangery := { s.orangery with err := setFlag s.orangery.err 2 } }
              s.refuse plot r stBadBundle
            | some im =>
              if imageHolds b im = false then s.refuse plot r stBadBundle
              else if fieldAt im 0x10 32 ≠ b.fp then s.refuse plot r stStaleBase
              else s.registerImage plot r b im))

/-! ### BASE_BIND (R232 to R234, Table ORG-2) -/

/-- Whether a window of a plot lies in a tier. -/
def Plot.windowIn (q : Plot) (w tier : Nat) : Bool :=
  match q.windows.find w with
  | some r => r.tier == tier
  | none => false

/-- The binding that a request asks for. -/
def bindingOf (pl manifest : Bytes) : Binding :=
  { fp := fieldAt pl 0 32, manifest := manifest, firstLayer := fieldAt pl 0x2C 2, lastLayer := fieldAt pl 0x2E 2,
    res0 := fieldAt pl 0x30 2, res1 := fieldAt pl 0x32 2, cat := fieldAt pl 0x34 2 }

/-- The plots that hold the binding. -/
def State.boundPlots (s : State) : Nat := (tenantPlots.filter (fun p => (s.plot p).binding.isSome)).length

/-- The own fields of BASE_BIND with a fingerprint: layers, windows and the manifest's length. -/
def State.bindFields (s : State) (p : Nat) (pl : Bytes) : Bool :=
  let q := s.plot p
  let b := bindingOf pl []
  decide (b.firstLayer ≤ b.lastLayer) && decide (1 ≤ fieldAt pl 0x28 4) && decide (fieldAt pl 0x28 4 ≤ 16777216) &&
  !(b.res0 == 0xFFFF && b.res1 == 0xFFFF) && (b.res0 == 0xFFFF || q.windowIn b.res0 0) &&
  (b.res1 == 0xFFFF || q.windowIn b.res1 1) && q.windowIn b.cat 3

/-- What a BASE_BIND is to do (Table ORG-2): a status that refuses it, or its action. -/
inductive BindPlan where
  | refuse (status : Nat)
  | keep
  | join (b : Binding)
  | replace (b : Binding)
  | release
  deriving DecidableEq, Repr

/-- Read a BASE_BIND against the module. -/
def State.bindPlan (s : State) (p : Nat) (pl : Bytes) : BindPlan :=
  let q := s.plot p
  let fp := fieldAt pl 0 32
  let m := s.mem.readBytes (fieldAt pl 0x20 8) (fieldAt pl 0x28 4)
  let b := bindingOf pl m
  let others := tenantPlots.any (fun k => k != p && (s.plot k).binding.isSome)
  if fp = 0 then .release
  else if s.bindFields p pl = false then .refuse stNotPermitted
  else if s.inWindows p (fieldAt pl 0x20 8) (fieldAt pl 0x28 4) = false then .refuse stNotPermitted
  else if Config.sha3 m ≠ fp ∨ manifestHolds m = false then .refuse stBadBundle
  else if b.layersTotal ≤ b.lastLayer then .refuse stNotPermitted
  else if s.orangery.fpValid = true ∧ fp = s.orangery.fp then
    match q.binding with
    | none => .join b
    | some old => if old = b then .keep else .refuse stNotPermitted
  else if others then .refuse stNotPermitted
  else .replace b

/-- The BASE_BIND result. -/
def bindResult (plots invalidated terminated : Nat) : Bytes :=
  natLE 4 plots ++ natLE 4 invalidated ++ natLE 4 terminated ++ natLE 4 0

/-- Invalidate a plot's adapters: records zeroed and freed, entries STALE (R234). A revocation that is
pending finishes first (R248). The number invalidated is returned. -/
def State.invalidate (s : State) (p step : Nat) : State × Nat :=
  let hs := ((s.plot p).adapters.filter (fun e => e.2.state == .revoking)).map (·.1)
  let s := hs.foldl (fun t h => (t.updAdapter p h (fun a =>
    { a with gone := match a.gone with | some _ => some [] | none => none })).settleGone p h step) s
  let live := ((s.plot p).adapters.filter (fun e => e.2.state != .stale)).map (·.1)
  let s := live.foldl (fun t h =>
    match (t.plot p).adapters.find h, (t.plot p).binding with
    | some a, some b =>
      let t := if a.train then (t.poolDrop p a.poolPlaces.1 a.recordBytes).poolDrop p a.poolPlaces.2 (a.stateBytes b)
               else (t.dropCopy p h).poolDrop p a.catAddr a.recordBytes
      (t.updAdapter p h (fun a => { a.endResidence t.now with
        state := .stale, residency := .nonresident, slots := [], resAddr := 0, stateAddr := 0, catAddr := 0, home := none,
        absorbed := 255,
        prefetch := 0, leaving := false, unregister := false, dropResident := false })).settleAdmits p h |>.settleEvicts p h 0
    | _, _ => t) s
  (s, live.length)

/-- Carry out a BASE_BIND whose plot runs no step. -/
def State.bindNow (s : State) (p : Nat) (r : Req) : State :=
  let s := s.updPlot p (fun q => { q with bindHeld := false })
  let step := (s.plot p).eventStep
  match s.bindPlan p r.payload with
  | .refuse st => s.refuse p r st
  | .keep => s.ok p r (bindResult s.boundPlots 0 0)
  | .join b =>
    let s := s.updPlot p (fun q => { q with binding := some b, useClock := 0 })
    s.ok p r (bindResult s.boundPlots 0 0)
  | .release =>
    if (s.plot p).binding.isNone then s.ok p r (bindResult 0 0 0)
    else
      let y := s.invalidate p step
      let z := y.1.terminateAll p 5 step
      let s := z.1.updPlot p (fun q => { q with binding := none })
      s.ok p r (bindResult s.boundPlots y.2 z.2)
  | .replace b =>
    let y := if (s.plot p).binding.isSome then s.invalidate p step else (s, 0)
    let z := tenantPlots.foldl (fun (t : State × Nat) k =>
      let u := t.1.terminateAll k 5 (if k = p then step else 0xFFFFFFFFFFFFFFFF)
      (u.1, t.2 + u.2)) (y.1, 0)
    let s := z.1.updPlot p (fun q => { q with binding := some b, useClock := 0 })
    let s := { s with orangery := { s.orangery with fp := b.fp, fpValid := true } }
    s.ok p r (bindResult s.boundPlots y.2 z.2)

/-- Whether a BASE_BIND invalidates adapters, and therefore waits for the running steps (R234). -/
def BindPlan.invalidates : BindPlan → Bool
  | .replace _ => true
  | .release => true
  | _ => false

/-- BASE_BIND (R233): at once, or held until the plot's running steps end. -/
def execBaseBind (plot : Nat) (s : State) : Out :=
  .next (s.serve plot opBaseBind (fun _ => true) (fun r s =>
    if (s.bindPlan plot r.payload).invalidates && (s.plot plot).binding.isSome && !(s.plot plot).running.isEmpty then
      (s.setPhase plot r.slot .started).updPlot plot (fun q => { q with bindHeld := true })
    else s.bindNow plot r))

/-- BASE_BIND_APPLY (R234): a held request takes effect once no step of the plot runs and the appender has
finished. -/
def execBaseBindApply (plot : Nat) (s : State) : Out :=
  match (s.plot plot).mail.held.find? (fun r => r.opcode == opBaseBind && r.phase == .started) with
  | none => .next s
  | some r =>
    if (s.plot plot).running.isEmpty && !s.appendingFor plot then .next (s.bindNow plot r) else .next s

end Sys2Proof.Machine
end

