-- ==== Sys2Proof/Machine/Lists.lean ====
section
/-! DEFINITION. Work lists (chapter 10): selection, the exchange over a Bower group, close, grouping and
publication (R264 to R272), and the appender with its seal jobs (R282, R283). -/

namespace Sys2Proof.Machine

/-! ### Candidates (R265, R266) -/

/-- Rows that a list takes of a sequence (R266). -/
def SeqEntry.rowsFor (e : SeqEntry) (chunk : Nat) : Nat :=
  if e.kind = 0 then e.pendingToks else if e.pendingToks = 0 then 1 else min e.pendingToks chunk

/-- The classes of adapters that a plan names (R236, R265): rank, target set, extra experts and expert width. A training
plan names those of its adapter list; where a decode plan names its own the spec does not say. -/
def Plot.planClasses (q : Plot) (pl : Plan) : List (Nat × Nat × Nat × Nat) :=
  if pl.header.workload = 0 then
    pl.adapters.filterMap (fun h => (q.adapters.find h).map (fun a => (a.rank, a.targets, a.nexpert, a.expertWidth)))
  else Config.planClasses pl.tensors

/-- Whether an adapter's rank class and target set appear in a plan (R265). -/
def Plot.serves (q : Plot) (pl : Plan) (h : Nat) : Bool :=
  h == noAdapter || (match q.adapters.find h with
    | some a => (q.planClasses pl).contains (a.rank, a.targets, a.nexpert, a.expertWidth)
    | none => false)

/-- Whether a sequence's own fields make it a candidate of a plan's list for a step (R265). -/
def Plan.eligible (pl : Plan) (step : Nat) (e : SeqEntry) : Bool :=
  e.state == seqActive && decide (e.firstStep ≤ step) && !e.paused && !e.adapterGone &&
  e.kind == (if pl.header.workload = 0 then 0 else 1) && (e.pendingToks != 0 || (e.kind == 1 && e.nextValid)) &&
  (e.kind == 1 || pl.adapters.contains e.adapter)

/-- The order of selection: LAST_SERVED, then SEQ_ID. -/
def SeqEntry.servedBefore (a b : SeqEntry) : Bool :=
  decide (a.lastServed < b.lastServed) || (a.lastServed == b.lastServed && decide (a.seqId < b.seqId))

/-- Insert into a list kept in an order. -/
def insertBy {α : Type} (before : α → α → Bool) (a : α) : List α → List α
  | [] => [a]
  | b :: l => if before a b then a :: b :: l else b :: insertBy before a l

/-- Sort by an order. -/
def sortBy {α : Type} (before : α → α → Bool) (l : List α) : List α := l.foldr (insertBy before) []

/-- Take candidates until the next would exceed the sequences or the unpadded rows (R266). -/
def takeCandidates (limit rows chunk : Nat) : List SeqEntry → Nat → Nat → List SeqEntry
  | [], _, _ => []
  | e :: es, n, r =>
    if limit ≤ n ∨ rows < r + e.rowsFor chunk then []
    else e :: takeCandidates limit rows chunk es (n + 1) (r + e.rowsFor chunk)

/-- The sequences of a list: 4,096 for training, 16,384 for decode. -/
def Plan.seqLimit (pl : Plan) : Nat := if pl.header.workload = 0 then 4096 else 16384

/-- Lists of a step: one for each micro-batch of a training plan, one for a decode plan (R264). -/
def Plan.listsOf (pl : Plan) : Nat := if pl.header.workload = 0 then pl.header.microbatches else 1

/-- Whether a sequence is a candidate of a plan's list for a step (R265); `known` are the sequences of the table when the
step started, where it has (R14). -/
def Plot.mayList (q : Plot) (pl : Plan) (step : Nat) (known : Option (List Nat)) (e : SeqEntry) : Bool :=
  pl.eligible step e && q.serves pl e.adapter && (match known with | some l => l.contains e.seqId | none => true)

/-- The eligible sequences of a plot in selection order. -/
def Plot.eligibleOf (q : Plot) (pl : Plan) (step : Nat) (known : Option (List Nat)) : List SeqEntry :=
  sortBy SeqEntry.servedBefore ((q.seqs.map (·.2)).filter (q.mayList pl step known))

/-- Terminate the TRAIN sequences whose rows exceed MAX_ROWS (R266). -/
def State.dropLong (s : State) (p : Nat) (pl : Plan) (step : Nat) (known : Option (List Nat)) : State :=
  let long := ((s.plot p).eligibleOf pl step known).filter (fun e => e.kind == 0 && decide (pl.header.maxRows < e.pendingToks))
  if long.isEmpty then s
  else
    let s := long.foldl (fun t e => t.endSeq p (seqIndex e.seqId) seqTerminated 8 step) s
    ({ s with trellis := { s.trellis with err := setFlag s.trellis.err 5 } }).nextOrder p

/-- Whether an adapter's record is RESIDENT; no adapter needs none. -/
def Plot.recordReady (q : Plot) (h : Nat) : Bool :=
  h == noAdapter || (match q.adapters.find h with | some a => a.residency == .resident | none => false)

/-- The sequence that a SEQ_ID names in its present incarnation. -/
def Plot.seqOf (q : Plot) (id : Nat) : Option SeqEntry := (q.seqs.find (seqIndex id)).filter (fun e => e.seqId == id)

/-- Ask for the prefetch of a spilled block in class 1 of the mover (R285); without a place, blocks of
other sequences spill first and the prefetch waits for them. -/
def State.fetchBlock (s : State) (p i page : Nat) (e : SeqEntry) : State :=
  let x := s.mem.pte e.ptRoot page
  let n := (s.plot p).blockBytes e.kvFmt
  if !pteValid x || pteMoving x || isHbm (pteAddr x) then s
  else
    match s.kvTake p kvHbmWindow n 4096 with
    | some (dst, t) =>
      t.updMem (fun m => { (m.setPte e.ptRoot page (x + 2 ^ 49)) with
        moveQueue := m.moveQueue ++ [{ plot := p, purpose := .trellisPrefetch i page, src := pteAddr x, dst := dst,
                                       len := n, discard := false }] })
    | none =>
      let w := { s with trellis := { s.trellis with waiting := s.trellis.waiting.filter (· != (p, i, page)) ++ [(p, i, page)] } }
      if s.spillsUnderWay p then w
      else
        match spillPlan (s.plot p) [(n, 4096)] (s.spillable p) (s.plot p).kvAlloc [] with
        | some l => l.foldl (fun t b => t.startSpill p b.1 b.2) w
        | none => s

/-- A spill of a plot has retired: the prefetches that wait try again. -/
def State.retryFetch (s : State) (p : Nat) : State :=
  let mine := s.trellis.waiting.filter (fun w => w.1 == p)
  let s := { s with trellis := { s.trellis with waiting := s.trellis.waiting.filter (fun w => w.1 != p) } }
  mine.foldl (fun t w =>
    match (t.plot p).seqs.find w.2.1 with
    | some e => t.fetchBlock p w.2.1 w.2.2 e
    | none => t) s

/-- Start the prefetches of a candidate: its adapter's record and its spilled blocks. -/
def State.fetchFor (s : State) (p id : Nat) : State :=
  match (s.plot p).seqOf id with
  | none => s
  | some e =>
    let s := if (s.plot p).recordReady e.adapter then s else s.wantPrefetch p e.adapter
    if e.kind = 0 then s
    else (List.range e.sealedPages).foldl (fun t pg => t.fetchBlock p (seqIndex id) pg e) s

/-- Change the list under construction of a plan's step. -/
def State.updBuilding (s : State) (p plan : Nat) (f : Building → Option Building) : State :=
  s.updPlot p (fun q => { q with running := q.running.map (fun st =>
    if st.plan = plan then { st with building := st.building.bind f } else st) })

/-- Begin a list. -/
def State.setBuilding (s : State) (p plan : Nat) (b : Building) : State :=
  s.updPlot p (fun q => { q with running := q.running.map (fun st =>
    if st.plan = plan then { st with building := some b } else st) })

/-- A list with no candidate yet. -/
def Building.init (mb : Nat) : Building :=
  { microbatch := mb, cands := [], late := [], frames := [], complete := false, candSent := 0, closed := false, own := [],
    child := none, upSent := false, final := none, downSent := false }

/-- A list whose candidates are known: those whose record is not resident are deferred (R265). -/
def Plot.withCandidates (q : Plot) (b : Building) (ids : List Nat) : Building :=
  { b with cands := ids, complete := true
           late := ids.filter (fun id => match q.seqOf id with | some e => !q.recordReady e.adapter | none => true) }

/-- Candidates are known, and prefetches start. -/
def State.candidatesKnown (s : State) (p plan : Nat) (b : Building) (ids : List Nat) : State :=
  ids.foldl (fun t id => t.fetchFor p id) (s.setBuilding p plan ((s.plot p).withCandidates b ids))

/-- The candidates of the first list of a plan's next step are known while the step before it runs (R264). -/
def State.candidatesAhead (s : State) (p plan : Nat) (ids : List Nat) : State :=
  ids.foldl (fun t id => t.fetchFor p id)
    (s.updPlot p (fun q => { q with ahead := q.ahead.set plan (q.withCandidates (Building.init 0) ids) }))

/-- The running step of a plan. -/
def Plot.runOf (q : Plot) (plan : Nat) : Option Step := q.running.find? (fun st => st.plan == plan)

/-- The Bower group of a plan when it has more than one member (R267). -/
def Plot.bowerOf (q : Plot) (pl : Plan) : Option Group :=
  if pl.header.bgroup = 0 then none else (q.groupById pl.header.bgroup).filter (fun g => decide (1 < g.size))

/-! ### Frames of a list (R267) -/

/-- Cut a list into runs of `n`; `fuel` bounds the runs. -/
def chunks {α : Type} (n : Nat) : Nat → List α → List (List α)
  | 0, _ => []
  | _, [] => []
  | fuel + 1, l => l.take n :: chunks n fuel (l.drop n)

/-- The CANDIDATES frames of a list: up to 1,024 SEQ_IDs each, at least one frame. -/
def Group.candidateFrames (g : Group) (own step mb : Nat) (ids : List Nat) : List Frame :=
  let cs := if ids.isEmpty then [[]] else chunks 1024 ids.length ids
  ((List.range cs.length).zip cs).map (fun c => { g.frame own 7 2 step with
    seq := mb, frameIdx := c.1, frameCnt := cs.length, payload := (c.2.map (natLE 4)).flatten })

/-- Pack bits eight to a byte, the first in bit 0. -/
def packBits (bs : List Bool) : Bytes :=
  (List.range (ceilDiv bs.length 8)).map (fun i =>
    BitVec.ofNat 8 ((List.range 8).map (fun k => 2 ^ k * b2n (bs.getD (8 * i + k) false))).sum)

/-- The first `n` bits of a byte string. -/
def unpackBits (n : Nat) (bs : Bytes) : List Bool :=
  (List.range n).map (fun i => ((bs.drop (i / 8)).headD 0).getLsbD (i % 8))

/-- A READYSET frame. -/
def Group.readyFrame (g : Group) (own vc step mb : Nat) (bits : List Bool) : Frame :=
  { g.frame own 8 vc step with seq := mb, payload := packBits bits }

/-- Send frames of a plot in order while each finds its buffer; the number sent. -/
def State.sendWhile (s : State) (p dest : Nat) (route : List Nat) : List Frame → State × Nat
  | [] => (s, 0)
  | f :: fs =>
    if s.creditsFree p dest route [f] then
      let y := State.sendWhile (s.sendFrames p dest route [f]) p dest route fs
      (y.1, y.2 + 1)
    else (s, 0)

/-! ### Layout (R268 to R270) -/

/-- A surviving sequence: its entry and its rows. -/
structure Item where
  entry : SeqEntry
  rows : Nat
  deriving DecidableEq, Repr

/-- The segment width of a rank; ranks 64 and 128 have no lanes. -/
def widthOf (rank : Nat) : Nat := if rank ≤ 8 then 8 else if rank = 16 then 16 else if rank = 32 then 32 else 0

/-- The rank of an adapter of a plot. -/
def Plot.rankOf (q : Plot) (h : Nat) : Nat := match q.adapters.find h with | some a => a.rank | none => 128

/-- The adapters of each lane group in order, with its width; the final group has no adapter. -/
def Plot.laneSets (q : Plot) (items : List Item) : List (Nat × List Nat) :=
  let of (w : Nat) : List Nat :=
    ((items.map (·.entry.adapter)).filter (fun h => h != noAdapter && widthOf (q.rankOf h) == w)).eraseDups
  let cut (w per : Nat) : List (Nat × List Nat) := (chunks per (of w).length (of w)).map (fun l => (w, l))
  cut 8 16 ++ cut 16 8 ++ cut 32 4 ++ cut 0 1 ++
  (if items.any (fun x => x.entry.adapter == noAdapter) then [(0, [])] else [])

/-- The layout under way: rows used, sequence rows, groups, and select bytes. -/
structure Layout where
  rows : Nat
  seqs : List SeqRow
  lanes : List LaneGroup
  tiles : List TileGroup
  selects : List Byte
  deriving DecidableEq, Repr

/-- The select byte of a row beyond every sequence (R269). -/
def maskedSelect : Byte := 0x8F

/-- PAGES of a sequence at a position. -/
def pagesOf (pos : Nat) : Nat := ceilDiv pos 64

/-- Whether a sequence takes the PADDED form (R269). -/
def Item.padded (x : Item) : Bool := x.entry.kind == 0 || x.entry.pendingToks != 0

/-- The sequence row of an item (Table TRL-12). -/
def Item.row (x : Item) (lane first tg : Nat) : SeqRow :=
  { seqId := x.entry.seqId, gen := x.entry.gen, lane := lane, form := b2n x.padded, firstRow := first, rows := x.rows,
    pos := x.entry.ctx, pages := pagesOf x.entry.ctx,
    seals := if x.entry.kind = 0 then 0 else (x.entry.ctx + x.rows) / 64 - x.entry.ctx / 64, tileGroup := tg,
    adapter := x.entry.adapter, dataIndex := x.entry.dataIndex, userTag := x.entry.userTag,
    fedNext := x.entry.kind == 1 && x.entry.pendingToks == 0 }

/-- The lane of an adapter in a lane group, or 0xFF. -/
def laneIn (ads : List Nat) (h : Nat) : Nat := if h = noAdapter then 0xFF else ads.findIdx (· == h)

/-- The select byte of a sequence's rows: its lane, or NOLANE with select 0 (Table TRL-10). A lane group of
rank 64 or 128 has select 0. -/
def selectOf (width lane : Nat) : Nat := if lane = 0xFF then 0x10 else if width = 0 then 0 else lane

/-- Add one tile group to a layout. -/
def Layout.addTile (width : Nat) (ads : List Nat) (lay : Layout) (run : List Item) : Layout :=
  let padded := run.any Item.padded
  let pad := if padded then roundUp (run.foldl (fun m x => max m x.rows) 0) 16 else 1
  let total := if padded then pad * run.length else roundUp run.length 16
  let tg := lay.tiles.length
  let rows := ((List.range run.length).zip run).map (fun e =>
    e.2.row (laneIn ads e.2.entry.adapter) (lay.rows + e.1 * pad) tg)
  let sel (r : SeqRow) : List Byte := (List.range pad).map (fun j =>
    BitVec.ofNat 8 (selectOf width r.lane + (if j < r.rows then 0 else 0x80)))
  { rows := lay.rows + total, seqs := lay.seqs ++ rows, lanes := lay.lanes
    tiles := lay.tiles ++ [{ firstRow := lay.rows, rows := total, firstSeq := lay.seqs.length, seqs := run.length,
                             form := b2n padded, padLen := pad,
                             pagePad := run.foldl (fun m x => max m (pagesOf x.entry.ctx)) 0,
                             laneGroup := lay.lanes.length }]
    selects := lay.selects ++ (rows.map sel).flatten ++ List.replicate (total - pad * run.length) maskedSelect }

/-- The order of a PADDED group: descending rows, then SEQ_ID; of a PACKED group: descending PAGES. -/
def Item.paddedBefore (a b : Item) : Bool :=
  decide (b.rows < a.rows) || (a.rows == b.rows && decide (a.entry.seqId < b.entry.seqId))
def Item.packedBefore (a b : Item) : Bool :=
  decide (pagesOf b.entry.ctx < pagesOf a.entry.ctx) ||
  (pagesOf a.entry.ctx == pagesOf b.entry.ctx && decide (a.entry.seqId < b.entry.seqId))

/-- The lane block's pointers and slot holders (Table ORG-9). -/
def Plot.lanePtrs (q : Plot) (ads : List Nat) : List Nat :=
  ads.map (fun h => match q.adapters.find h with | some a => a.resAddr | none => 0)
def Plot.slotLanes (q : Plot) (ads : List Nat) : List Nat :=
  (List.range 64).map (fun slot =>
    ((((List.range ads.length).zip ads).find? (fun e => match q.adapters.find e.2 with
      | some a => a.slots.contains slot
      | none => false)).map (·.1)).getD 0xFF)

/-- Add one lane group: its PADDED tile groups, then its PACKED ones. -/
def Plot.addLane (q : Plot) (pl : Plan) (items : List Item) (lay : Layout) (set : Nat × List Nat) : Layout :=
  let mine := items.filter (fun x => if set.2.isEmpty then x.entry.adapter == noAdapter else set.2.contains x.entry.adapter)
  let padded := sortBy Item.paddedBefore (mine.filter Item.padded)
  let packed := sortBy Item.packedBefore (mine.filter (fun x => !x.padded))
  let runs := chunks pl.header.tgSeqs padded.length padded ++ chunks pl.header.tgSeqsPacked packed.length packed
  let out := runs.foldl (Layout.addTile set.1 set.2) lay
  { out with lanes := lay.lanes ++ [{ firstRow := lay.rows, rows := out.rows - lay.rows, firstTg := lay.tiles.length,
                                      tgs := out.tiles.length - lay.tiles.length, width := set.1, lanes := set.2,
                                      ptrs := q.lanePtrs set.2, slotLane := q.slotLanes set.2 }] }

/-- The layout of a list's items. -/
def Plot.layOutItems (q : Plot) (pl : Plan) (items : List Item) : Layout :=
  (q.laneSets items).foldl (q.addLane pl items) { rows := 0, seqs := [], lanes := [], tiles := [], selects := [] }

/-- The three limits of R270. -/
def Layout.fits (lay : Layout) (maxRows : Nat) : Bool :=
  decide (lay.rows ≤ maxRows) && decide (lay.lanes.length ≤ 2048) && decide (lay.tiles.length ≤ 4096)

/-- Remove the last sequences in selection order until the limits hold; the argument is in reverse
selection order. -/
def Plot.fitItems (q : Plot) (pl : Plan) : List Item → List Item
  | [] => []
  | x :: xs =>
    if (q.layOutItems pl (x :: xs).reverse).fits pl.header.maxRows then (x :: xs).reverse else q.fitItems pl xs

/-! ### The record in memory (R250, R271, Tables TRL-10 to TRL-13, ORG-9) -/

/-- Bytes of a record buffer. -/
def recordBytes : Nat := 2560000

/-- The address of a list's record. -/
def Plan.recordAddr (pl : Plan) (buffer : Nat) : Nat := pl.header.worklistAddr + recordBytes * buffer

/-- The header of a record. -/
def WorkList.header (l : WorkList) (kind : Nat) : Bytes :=
  bytesAt (natLE 4 0x314C5257 ++ natLE 1 kind ++ natLE 3 0 ++ natLE 8 l.step ++ natLE 4 l.microbatch ++
    natLE 4 l.seqs.length ++ natLE 4 l.rowsTotal ++ natLE 2 l.laneGroups.length ++ natLE 2 l.tileGroups.length ++
    natLE 4 l.deferred ++ natLE 4 l.useClock ++ natLE 8 l.dataIndexMax) 0 4096

/-- A sequence row. -/
def SeqRow.bytes (r : SeqRow) : Bytes :=
  natLE 4 r.seqId ++ natLE 2 r.gen ++ natLE 1 r.lane ++ natLE 1 r.form ++ natLE 4 r.firstRow ++ natLE 4 r.rows ++
  natLE 4 r.pos ++ natLE 2 r.pages ++ natLE 1 r.seals ++ natLE 1 0 ++ natLE 4 0 ++ natLE 2 r.tileGroup ++ natLE 2 0 ++
  natLE 4 r.adapter ++ natLE 4 0 ++ natLE 8 r.dataIndex ++ natLE 8 r.userTag ++ natLE 8 0

/-- A lane group with its lane block. -/
def LaneGroup.bytes (g : LaneGroup) : Bytes :=
  ((List.range 16).map (fun i => natLE 8 (match g.ptrs[i]? with | some a => validAddress a | none => 0))).flatten ++
  (g.slotLane.map (natLE 1)).flatten ++ natLE 4 g.firstRow ++ natLE 4 g.rows ++ natLE 2 g.firstTg ++ natLE 2 g.tgs ++
  natLE 1 g.width ++ natLE 1 g.lanes.length ++ List.replicate 50 0

/-- A tile group. -/
def TileGroup.bytes (g : TileGroup) : Bytes :=
  natLE 4 g.firstRow ++ natLE 4 g.rows ++ natLE 2 g.firstSeq ++ natLE 1 g.seqs ++ natLE 1 g.form ++ natLE 4 g.padLen ++
  natLE 2 g.pagePad ++ natLE 2 g.laneGroup ++ List.replicate 12 0

/-- The input token and the target of row `j` of a sequence. -/
def Mem.rowWords (m : Mem) (e : SeqEntry) (j : Nat) : Nat × Nat :=
  if e.kind = 0 then (m.readNat (e.inAddr + 8 * j) 4, m.readNat (e.inAddr + 8 * j + 4) 4)
  else if e.pendingToks ≠ 0 then (m.readNat (e.inAddr + 4 * j) 4, 0xFFFFFFFF)
  else (e.nextInput, 0xFFFFFFFF)

/-- Write the words of one sequence's unmasked rows: input tokens, targets, positions. -/
def Mem.writeRows (m : Mem) (base : Nat) (e : SeqEntry) (r : SeqRow) : Mem :=
  (List.range r.rows).foldl (fun d j =>
    let w := m.rowWords e j
    let at_ := 4 * (r.firstRow + j)
    ((d.write (base + 0x1B1000 + at_) (natLE 4 w.1)).write (base + 0x1F1000 + at_) (natLE 4 w.2)).write
      (base + 0x231000 + at_) (natLE 4 (r.pos + j))) m

/-- Write a published record. -/
def State.writeRecord (s : State) (p : Nat) (pl : Plan) (l : WorkList) : State :=
  let base := pl.recordAddr l.buffer
  let seqs := l.seqs.filterMap (fun r => ((s.plot p).seqOf r.seqId).map (fun e => (e, r)))
  s.updMem (fun m =>
    let m := (m.write base (l.header (if pl.header.workload = 0 then 0 else 1))).write (base + 0x1000)
      (l.seqs.map SeqRow.bytes).flatten
    let m := (m.write (base + 0x101000) (l.laneGroups.map LaneGroup.bytes).flatten).write (base + 0x181000)
      (l.tileGroups.map TileGroup.bytes).flatten
    let m := m.write (base + 0x1A1000) (l.selects ++ List.replicate (pl.header.maxRows - l.selects.length) maskedSelect)
    seqs.foldl (fun d x => d.writeRows base x.1 x.2) m)

/-! ### Publication (R270 to R272) -/

/-- Release the blocks that a close reserved for a sequence. -/
def State.unreserve (s : State) (p i : Nat) : State :=
  match (s.plot p).seqs.find i with
  | none => s
  | some e => (e.reserved.foldl (fun t a => t.kvDrop p a) s).updSeq p i (fun e => { e with reserved := [] })

/-- A deferred sequence keeps its LAST_SERVED and counts the deferral. -/
def State.defer (s : State) (p id : Nat) : State :=
  (s.unreserve p (seqIndex id)).updSeq p (seqIndex id) (fun e => { e with deferrals := e.deferrals + 1 })

/-- Publish the list that the surviving candidates form. -/
def State.publish (s : State) (p : Nat) (pl : Plan) (st : Step) (b : Building) (bits : List Bool) : State :=
  let known := (b.cands.zip bits).filterMap (fun c => ((s.plot p).seqOf c.1).map (fun e => (e, c.2)))
  let still := known.filter (fun x => (s.plot p).mayList pl st.step (some st.known) x.1)
  let items := (still.filter (·.2)).map (fun x => { entry := x.1, rows := x.1.rowsFor pl.header.prefillChunk : Item })
  let fit := (s.plot p).fitItems pl items.reverse
  let deferred := (still.filter (fun x => !x.2)).map (·.1) ++ (items.drop fit.length).map (·.entry)
  let lay := (s.plot p).layOutItems pl fit
  let clock := (s.plot p).useClock + 1
  let l : WorkList :=
    { step := st.step, microbatch := b.microbatch, buffer := pl.listsMade % 2, rowsTotal := lay.rows,
      deferred := deferred.length, useClock := clock,
      dataIndexMax := lay.seqs.foldl (fun m r => max m r.dataIndex) 0, seqs := lay.seqs, laneGroups := lay.lanes,
      tileGroups := lay.tiles, selects := lay.selects }
  let s := s.writeRecord p pl l
  let s := deferred.foldl (fun t e => t.defer p e.seqId) s
  let s := lay.seqs.foldl (fun t r => t.updSeq p (seqIndex r.seqId) (fun e => { e with
    state := seqListed, prevServed := e.lastServed, lastServed := st.step, nextValid := false })) s
  let s := (((lay.seqs.map (·.adapter)).filter (· != noAdapter)).eraseDups).foldl (fun t h =>
    t.updAdapter p h (fun a => { a with lastUse := clock })) s
  let s := s.updPlot p (fun q => { q with
    useClock := clock
    plans := q.plans.modify pl pl.handle (fun x => { x with listsMade := x.listsMade + 1 })
    running := q.running.map (fun x => if x.plan = pl.handle then { x with building := none, lists := x.lists ++ [l] } else x) })
  let live := (lay.seqs.map (·.rows)).sum
  let s := { s with trellis := { s.trellis with
    lists := s.trellis.lists + 1, rows := s.trellis.rows + BitVec.ofNat 64 live,
    padRows := s.trellis.padRows + BitVec.ofNat 64 (lay.rows - live),
    deferred := s.trellis.deferred + BitVec.ofNat 64 deferred.length } }
  (((s.plot p).adapters.map (·.1))).foldl (fun t h => (t.finishEvict p h).finishDrop p h) s

/-! ### The exchange of a list (R267) -/

/-- Send the CANDIDATES frames that the child has not had. -/
def State.pushCandidates (s : State) (p plan : Nat) (g : Group) (step : Nat) (b : Building) : State :=
  match g.children s.fabric with
  | c :: _ =>
    let fs := (g.candidateFrames s.fabric step b.microbatch b.cands).drop b.candSent
    let y := s.sendWhile p (g.at c) (s.route p (g.at c)) fs
    if y.2 = 0 then s else y.1.updBuilding p plan (fun b => some { b with candSent := b.candSent + y.2 })
  | [] => s

/-- This member's bits, with the child's once they are there. -/
def Building.joined (b : Building) (leaf : Bool) : Option (List Bool) :=
  if b.closed = false then none
  else if leaf then some b.own
  else b.child.map (fun c => (b.own.zip c).map (fun x => x.1 && x.2))

/-- Send the readiness bits to the parent, or take them as the result at the root. -/
def State.pushReady (s : State) (p plan : Nat) (g : Group) (step : Nat) (b : Building) : State :=
  match b.joined (g.children s.fabric).isEmpty with
  | none => s
  | some bits =>
    if b.upSent then s
    else
      match g.parent s.fabric with
      | none => s.updBuilding p plan (fun b => some { b with upSent := true, final := some bits })
      | some r =>
        let y := s.sendWhile p (g.at r) (s.route p (g.at r)) [g.readyFrame s.fabric 1 step b.microbatch bits]
        if y.2 = 0 then s else y.1.updBuilding p plan (fun b => some { b with upSent := true })

/-- Send the root's result to the child. -/
def State.pushFinal (s : State) (p plan : Nat) (g : Group) (step : Nat) (b : Building) : State :=
  match b.final, g.children s.fabric with
  | some bits, c :: _ =>
    if b.downSent then s
    else
      let y := s.sendWhile p (g.at c) (s.route p (g.at c)) [g.readyFrame s.fabric 2 step b.microbatch bits]
      if y.2 = 0 then s else y.1.updBuilding p plan (fun b => some { b with downSent := true })
  | some _, [] => s.updBuilding p plan (fun b => some { b with downSent := true })
  | none, _ => s

/-- Apply a function to the list under construction of a plan's step. -/
def State.onBuildingOf (s : State) (p plan : Nat) (f : Plan → Step → Building → State → State) : State :=
  match (s.plot p).runOf plan, (s.plot p).plans.find plan with
  | some st, some pl =>
    match st.building with
    | some b => f pl st b s
    | none => s
  | _, _ => s

/-- Publish once this member has closed and the result is known and passed on. -/
def State.publishReady (s : State) (p plan : Nat) : State :=
  s.onBuildingOf p plan (fun pl st b s =>
    match b.final with
    | some bits => if b.closed && b.downSent then s.publish p pl st b bits else s
    | none => s)

/-- Whatever the exchange of a plan's list can send now. A plan whose Bower has one member exchanges
nothing: its own bits are the result. -/
def State.pushList (s : State) (p plan : Nat) : State :=
  s.onBuildingOf p plan (fun pl st b s =>
    match (s.plot p).bowerOf pl with
    | none =>
      if b.closed then s.updBuilding p plan (fun b => some { b with final := some b.own, downSent := true }) else s
    | some g =>
      if g.state ≠ groupActive ∨ g.suspended = true then s
      else
        let s := if b.complete then s.pushCandidates p plan g st.step b else s
        let s := s.onBuildingOf p plan (fun _ st b s => s.pushReady p plan g st.step b)
        s.onBuildingOf p plan (fun _ st b s => s.pushFinal p plan g st.step b))

/-- What a CANDIDATES or READYSET frame does to its list: `none` when the list has not come to it yet. -/
def State.takeListFrame (s : State) (p : Nat) (g : Group) (f : Frame) : Option State :=
  match (s.plot p).running.find? (fun st =>
      match (s.plot p).plans.find st.plan with | some pl => pl.header.bgroup == g.groupId | none => false) with
  | none => none
  | some st =>
    if f.step < st.step ∨ (f.step = st.step ∧ f.seq < st.lists.length) then some s
    else if st.step < f.step ∨ st.lists.length < f.seq then none
    else if f.kind = 7 then
      match (s.plot p).plans.find st.plan with
      | none => some s
      | some pl =>
        let b := st.building.getD (Building.init f.seq)
        if b.complete then some s
        else
          let ids := (List.range (f.payload.length / 4)).map (fun i => fieldAt f.payload (4 * i) 4)
          let b := { b with frames := b.frames.set f.frameIdx ids }
          if b.frames.length < f.frameCnt then some (s.setBuilding p st.plan b)
          else some ((s.dropLong p pl st.step (some st.known)).candidatesKnown p st.plan b (b.frames.map (·.2)).flatten)
    else
      match st.building with
      | none => none
      | some b =>
        if b.complete = false then none
        else
          let bits := unpackBits b.cands.length f.payload
          if g.parent s.fabric = some f.senderRank then
            some (s.updBuilding p st.plan (fun b => some { b with final := some bits }))
          else some (s.updBuilding p st.plan (fun b => some { b with child := some bits }))

/-- Work again the frames that came before their list. -/
def State.replayLists (s : State) (p handle : Nat) : State :=
  match (s.plot p).groupOf handle with
  | none => s
  | some g =>
    let mine := g.early.filter (fun e => e.2.kind == 7 || e.2.kind == 8)
    let s := s.updGroup p handle (fun x => { x with early := x.early.filter (fun e => !(e.2.kind == 7 || e.2.kind == 8)) })
    mine.foldl (fun t e =>
      match t.takeListFrame p g e.2 with
      | some u => u
      | none => t.keepEarly e.1 p g e.2) s

/-- Send what can be sent, publish when the result is there, and begin the next list's frames. -/
def State.pumpList (s : State) (p plan : Nat) : State :=
  let before := match (s.plot p).runOf plan with | some st => st.lists.length | none => 0
  let s := (s.pushList p plan).publishReady p plan
  let after := match (s.plot p).runOf plan with | some st => st.lists.length | none => 0
  if before = after then s
  else
    match (s.plot p).plans.find plan with
    | some pl =>
      match (s.plot p).bowerOf pl with
      | some g => (s.replayLists p g.handle).pushList p plan
      | none => s
    | none => s

/-- Advance the lists of every running step of the module. -/
def State.pumpLists (s : State) : State :=
  tenantPlots.foldl (fun t p => ((t.plot p).running.map (·.plan)).foldl (fun u plan => u.pumpList p plan) t) s

/-- Common form of the frames of a list. -/
def State.listFrame (s : State) (port : Nat) (f : Frame) (kind : Nat) : State :=
  s.arriving port f kind (fun p g s =>
    let s := s.acceptFrame port p g.handle f
    match s.takeListFrame p g f with
    | some t => ((t.plot p).running.map (·.plan)).foldl (fun u plan => u.pumpList p plan) t
    | none => s.keepEarly port p g f)

/-- CANDIDATES (R267). -/
def execCandidates (port : Nat) (f : Frame) (s : State) : Out := .next (s.listFrame port f 7)

/-- READYSET (R267). -/
def execReadyset (port : Nat) (f : Frame) (s : State) : Out := .next (s.listFrame port f 8)

/-! ### LIST_SELECTION and LIST_CLOSE (R264, R265, R285) -/

/-- A list that lists nothing: that of a micro-batch that a kept step drops (R305). -/
def WorkList.blank (step mb : Nat) : WorkList :=
  { step := step, microbatch := mb, buffer := 0, rowsTotal := 0, deferred := 0, useClock := 0, dataIndexMax := 0, seqs := [],
    laneGroups := [], tileGroups := [], selects := [] }

/-- The candidates that a selection takes of a plan's list for a step. -/
def Plot.selected (q : Plot) (pl : Plan) (step : Nat) (known : Option (List Nat)) : List Nat :=
  (takeCandidates pl.seqLimit pl.header.maxRows pl.header.prefillChunk (q.eligibleOf pl step known) 0 0).map (·.seqId)

/-- LIST_SELECTION: the next list of a running step takes its candidates, or, once all its lists are published, the first
list of the plan's next step (R264). In a Bower of several members only rank 0 selects (R267). A micro-batch that the step
drops has an empty list. -/
def execListSelection (plot plan : Nat) (s : State) : Out :=
  if s.unitFenced 28 then .next s else
  match (s.plot plot).runOf plan, (s.plot plot).plans.find plan with
  | some st, some pl =>
    if st.stopped = false ∧ st.lists.length < pl.listsOf ∧ st.droppedMbs.contains st.lists.length = true then
      .next (s.updPlot plot (fun q => { q with running := q.running.map (fun x =>
        if x.plan = plan then { x with building := none, lists := x.lists ++ [WorkList.blank st.step st.lists.length] } else x) }))
    else
    let first := match (s.plot plot).bowerOf pl with
      | some g => g.rankOf s.fabric == 0
      | none => true
    if st.building.isSome = true ∨ st.stopped = true ∨ st.ended = true ∨ first = false then .next s
    else if pl.listsOf ≤ st.lists.length then
      if ((s.plot plot).ahead.find plan).isSome then .next s
      else
        let s := s.dropLong plot pl (st.step + 1) none
        .next (s.candidatesAhead plot plan ((s.plot plot).selected pl (st.step + 1) none))
    else
      let s := s.dropLong plot pl st.step (some st.known)
      .next ((s.candidatesKnown plot plan (Building.init st.lists.length) ((s.plot plot).selected pl st.step (some st.known))).pumpList
        plot plan)
  | _, _ => .next s

/-- Whether every sealed block of a sequence stands in HBM and none is MOVING. -/
def State.blocksReady (s : State) (e : SeqEntry) : Bool :=
  (List.range e.sealedPages).all (fun pg =>
    let x := s.mem.pte e.ptRoot pg
    pteValid x && !pteMoving x && isHbm (pteAddr x))

/-- Install the leaf table of a page when it has none: `none` when the pool has no room. -/
def State.leafFor (s : State) (p : Nat) (e : SeqEntry) (page : Nat) : Option State :=
  if (s.mem.pteSlot e.ptRoot page).isSome then some s
  else
    (s.kvTake p kvHbmWindow tableBytes tableBytes).map (fun x =>
      x.2.updMem (fun m => (m.zero x.1 tableBytes).write (e.ptRoot + 8 * (page / 64)) (natLE 8 (pteOf x.1))))

/-- Reserve one block for each page of a list from `page` on: `none` when one finds no room. -/
def State.reservePages (p : Nat) (e : SeqEntry) (n : Nat) : Nat → Nat → State → List Nat → Option (State × List Nat)
  | 0, _, s, acc => some (s, acc)
  | k + 1, page, s, acc =>
    (s.leafFor p e page).bind (fun t => (t.kvTake p kvHbmWindow n 4096).bind (fun x =>
      State.reservePages p e n k (page + 1) x.2 (acc ++ [x.1])))

/-- Whether the blocks of a sequence could never fit in the plot's HBM pool (R286). -/
def Plot.exceedsPool (q : Plot) (e : SeqEntry) (seals : Nat) : Bool :=
  match q.windowRange kvHbmWindow with
  | some r => decide (r.2 - r.1 < (e.sealedPages + seals) * q.blockBytes e.kvFmt + q.blockBytes 1)
  | none => true

/-- One candidate at close: its bit, with its reservation. -/
def State.closeOne (s : State) (p : Nat) (pl : Plan) (st : Step) (b : Building) (id : Nat) : State × Bool :=
  match (s.plot p).seqOf id with
  | none => (s, false)
  | some e =>
    if (s.plot p).mayList pl st.step (some st.known) e = false then (s, false)
    else if e.kind = 0 then (s, !b.late.contains id)
    else
      let n := (e.ctx + e.rowsFor pl.header.prefillChunk) / 64 - e.ctx / 64
      if (s.plot p).exceedsPool e n then
        let s := s.endSeq p (seqIndex id) seqTerminated 7 st.step
        (({ s with trellis := { s.trellis with err := setFlag s.trellis.err 4 } }).nextOrder p, false)
      else if b.late.contains id || !s.blocksReady e then (s, false)
      else
        match State.reservePages p e ((s.plot p).blockBytes e.kvFmt) n e.sealedPages s [] with
        | none => (s, false)
        | some (t, l) => (t.updSeq p (seqIndex id) (fun e => { e with reserved := l }), true)

/-- LIST_CLOSE (R265, R270, R285): after the appender and its seal jobs, the candidates are checked again,
blocks are reserved, and the list is published; in a Bower, once the bitmaps have met (R267). -/
def execListClose (plot plan : Nat) (s : State) : Out :=
  .next (s.onBuildingOf plot plan (fun pl st b s =>
    if b.complete = false ∨ b.closed = true ∨ s.appendingFor plot = true ∨ st.stopped = true then s
    else
      let y := b.cands.foldl (fun (x : State × List Bool) id =>
        let z := x.1.closeOne plot pl st b id
        (z.1, x.2 ++ [z.2])) (s, [])
      (y.1.updBuilding plot plan (fun b => some { b with closed := true, own := y.2 })).pumpList plot plan))

/-! ### The appender (R282) -/

/-- The address of a row's key in the append area; the value follows it by 2 D bytes. -/
def Binding.appendKey (b : Binding) (area r l h : Nat) : Nat :=
  area + ((r * b.layers.length + l) * b.kvHeads + h) * (4 * b.headDim)

/-- Bytes of one row of the append area. -/
def Binding.appendRow (b : Binding) : Nat := b.layers.length * b.kvHeads * (4 * b.headDim)

/-- Put one row's keys and values into an open block at token position `n`. -/
def Mem.appendOne (m : Mem) (b : Binding) (area row openBlock n : Nat) : Mem :=
  (List.range (b.layers.length * b.kvHeads)).foldl (fun d lh =>
    let l := lh / b.kvHeads
    let h := lh % b.kvHeads
    let src := b.appendKey area row l h
    let kb := openBlock + kvPageAt b 1 l h
    let vb := kb + kvSk 1 b.headDim
    let d := (List.range b.headDim).foldl (fun d k =>
      d.write (kb + (keyPlace 1 k n).1) (m.readBytes (src + 2 * k) 2)) d
    d.write (vb + (valuePlace 1 b.headDim 0 n).1) (m.readBytes (src + 2 * b.headDim) (2 * b.headDim))) m

/-- Rows that a job can write before its open block is full. -/
def AppendJob.chunk (j : AppendJob) (ctx : Nat) : Nat := min j.left (64 - ctx % 64)

/-- Whether a job's next rows fill the open block, so that it waits for the seal. -/
def AppendJob.fills (j : AppendJob) (ctx : Nat) : Bool := j.left != 0 && decide (ctx % 64 + j.chunk ctx = 64)

/-- Whether a page or table of a sequence has been found poisoned (R280). -/
def State.pagePoisoned (s : State) (e : SeqEntry) : Bool :=
  (List.range e.sealedPages).any (fun pg =>
    ptePoison (s.mem.pte e.ptRoot pg) || ptePoison (s.mem.readNat (e.ptRoot + 8 * (pg / 64)) 8))

/-- A sequence advances by `n` tokens. -/
def SeqEntry.advance (e : SeqEntry) (n : Nat) : SeqEntry :=
  let t := min n e.pendingToks
  { e with ctx := e.ctx + n, inAddr := e.inAddr + 4 * t, pendingToks := e.pendingToks - t }

/-- The mark of a revoked adapter ends an ACTIVE sequence at its token boundary (R247). -/
def State.leaveAdapter (s : State) (p i step : Nat) : State :=
  match (s.plot p).seqs.find i with
  | some e => if e.adapterGone && e.state == seqActive then s.endSeq p i seqTerminated 4 step else s
  | none => s

/-- Write a sampled token into the ring and take it as the next input (R258, R272). -/
def State.takeSample (s : State) (p i : Nat) (e : SeqEntry) (token : Nat) : State :=
  let a := e.outAddr + 4 * (e.generated % e.ringLen)
  let s := if s.inWindows p a 4 then s.updMem (fun m => m.write a (natLE 4 token)) else s.addressFault p a
  s.updSeq p i (fun e => { e with generated := e.generated + 1, nextInput := token, nextValid := true })

/-- What a step's end makes of a sequence whose tokens are appended (R272); one that has ended meanwhile stays so. -/
def State.finishAppend (s : State) (j : AppendJob) : State :=
  match (s.plot j.plot).seqs.find j.index with
  | none => s
  | some e =>
    if e.state ≠ seqListed then s else
    let s := s.updSeq j.plot j.index (fun e => { e with state := seqActive })
    let s :=
      if e.maxLen ≤ e.ctx then (s.updSeq j.plot j.index (fun e => { e with nextValid := false })).endSeq j.plot j.index seqDone 1 j.step
      else if e.pendingToks = 0 then
        let s := s.takeSample j.plot j.index e j.sampled
        if j.stop then s.endSeq j.plot j.index seqDone 2 j.step else s
      else s
    s.leaveAdapter j.plot j.index j.step

/-- Put the next rows of a job into the open block; a block that is full waits for its seal, and a job with
no row left is finished. The job that remains is returned. -/
def State.appendRows (s : State) (j : AppendJob) : State × Option AppendJob :=
  match (s.plot j.plot).seqs.find j.index, (s.plot j.plot).binding with
  | some e, some b =>
    let n := j.chunk e.ctx
    let s := (List.range n).foldl (fun t k =>
      t.updMem (fun m => m.appendOne b j.area (j.nextRow + k) e.openBlock (e.ctx % 64 + k))) s
    if j.fills e.ctx then (s, some j)
    else ((s.updSeq j.plot j.index (fun e => e.advance n)).finishAppend { j with left := 0 }, none)
  | _, _ => (s, none)

/-- A BF16 code of an open block; one in a poisoned line counts as not finite, as in the seal of a SCALE. -/
def Mem.openCode (m : Mem) (bad : Bool) (a : Nat) : Nat := if bad && m.linePoisoned (a / 64) then quietNan fmtBf16 else m.readNat a 2

/-- The BF16 code of a channel and token in an open block; `bad` says that some line of the block is poisoned. -/
def Mem.openKey (m : Mem) (bad : Bool) (kb k n : Nat) : Nat := m.openCode bad (kb + (keyPlace 1 k n).1)
def Mem.openValue (m : Mem) (bad : Bool) (d vb k n : Nat) : Nat := m.openCode bad (vb + (valuePlace 1 d k n).1)

/-- The bytes of a sealed block made from an open block (R47, R279). -/
def Mem.sealedBlock (m : Mem) (b : Binding) (fmt openBlock : Nat) (bad : Bool) : Bytes :=
  let d := b.headDim
  padTo (kvBlockBytes b fmt) (((List.range (b.layers.length * b.kvHeads)).map (fun lh =>
    let kb := openBlock + kvPageAt b 1 (lh / b.kvHeads) (lh % b.kvHeads)
    sealKeys fmt d (m.openKey bad kb) ++ sealValues fmt d (m.openValue bad d (kb + kvSk 1 d)))).flatten)

/-- For each element of an open block: its place there, and the line of its code in the sealed block at `blk`. -/
def sealPlaces (b : Binding) (fmt openBlock blk : Nat) : List (Nat × Nat) :=
  let d := b.headDim
  ((List.range (b.layers.length * b.kvHeads)).map (fun lh =>
    let kb := openBlock + kvPageAt b 1 (lh / b.kvHeads) (lh % b.kvHeads)
    let ks := blk + kvPageAt b fmt (lh / b.kvHeads) (lh % b.kvHeads)
    ((List.range d).map (fun k => ((List.range 64).map (fun n =>
      [(kb + (keyPlace 1 k n).1, (ks + (keyPlace fmt k n).1) / 64),
       (kb + kvSk 1 d + (valuePlace 1 d k n).1, (ks + kvSk fmt d + (valuePlace fmt d k n).1) / 64)])).flatten)).flatten)).flatten

/-- The lines of a sealed block that hold codes of poisoned elements (R123). -/
def Mem.sealPoison (m : Mem) (b : Binding) (fmt openBlock blk : Nat) : List Nat :=
  (((sealPlaces b fmt openBlock blk).filter (fun x => m.linePoisoned (x.1 / 64))).map (·.2)).eraseDups

/-- The elements of an open block that a quantising seal finds not finite (R47, R48). -/
def Mem.sealNonfinite (m : Mem) (b : Binding) (fmt openBlock : Nat) (bad : Bool) : Nat :=
  if fmt = 1 then 0 else nonfiniteOf ((sealPlaces b fmt openBlock 0).map (fun x => m.openCode bad x.1))

/-- The SCALE passes of a seal: one for each key page and each value page; a BF16 block is copied. -/
def sealPasses (b : Binding) (fmt : Nat) : Nat := if fmt = 1 then 0 else 2 * (b.layers.length * b.kvHeads)

/-- What a seal job adds to the counters of the Pavilion that runs it and to its plot's account (R124, R282). The job's
local store is its own scratch: DESIGN CHOICE, it leaves nothing in the plot's. -/
def State.chargeSeal (s : State) (p : Nat) (b : Binding) (e : SeqEntry) (bad : Bool) : State :=
  let w := Config.sealWork s.trellis.seals.toNat
  let s := s.updPav (w.1 % 128) (fun v => { v with ctr := { v.ctr with
    scalePasses := v.ctr.scalePasses + BitVec.ofNat 64 (sealPasses b e.kvFmt)
    rillNonfinite := v.ctr.rillNonfinite + BitVec.ofNat 64 (s.mem.sealNonfinite b e.kvFmt e.openBlock bad) } })
  s.charge p (fun a => { a with rillCycles := a.rillCycles + BitVec.ofNat 64 w.2.1, moveCycles := a.moveCycles + BitVec.ofNat 64 w.2.2 })

/-- Seal the open block of a job's sequence into the first block reserved for it (R282 steps 2 and 3): the
entry becomes VALID, the open block is cleared, GEN rises and CTX advances. DEDUCED: a block sealed from poisoned lines held
an uncorrectable error, so its entry has POISON (Table TRL-15). -/
def State.sealOpen (s : State) (j : AppendJob) : State × AppendJob :=
  match (s.plot j.plot).seqs.find j.index, (s.plot j.plot).binding with
  | some e, some b =>
    let n := j.chunk e.ctx
    let blk := e.reserved.headD 0
    let size := kvBlockBytes b e.kvFmt
    let bad := s.mem.poisonedIn e.openBlock (kvBlockBytes b 1)
    let s := s.chargeSeal j.plot b e bad
    let s := (s.chargeRead j.plot e.openBlock (kvBlockBytes b 1)).chargeWrite j.plot blk size
    let s := s.updMem (fun m =>
      let d := m.write blk (m.sealedBlock b e.kvFmt e.openBlock bad)
      let d := if bad then (m.sealPoison b e.kvFmt e.openBlock blk).foldl Mem.poisonLine d else d
      (d.setPte e.ptRoot e.sealedPages (pteOf blk + 2 ^ 50 * b2n bad)).zero e.openBlock (kvBlockBytes b 1))
    let s := s.updSeq j.plot j.index (fun e => { e.advance n with
      reserved := e.reserved.drop 1, hbmBlocks := e.hbmBlocks + 1, gen := (e.gen + 1) % 65536 })
    ({ s with trellis := { s.trellis with seals := s.trellis.seals + 1 } },
     { j with nextRow := j.nextRow + n, left := j.left - n })
  | _, _ => (s, { j with left := 0 })

/-- Once the appender has finished, the held edits apply in the order taken (R260, R283). -/
def State.afterAppend (s : State) (p : Nat) : State :=
  if s.appendingFor p then s else (s.nextOrder p).settleEdits p

/-- SEAL_JOB (R282): the next seal job of a plot. -/
def execSealJob (plot : Nat) (s : State) : Out :=
  match s.trellis.appending.find? (fun j => j.plot == plot) with
  | none => .next s
  | some j =>
    let y := s.sealOpen j
    let z := if y.2.left = 0 then (y.1.finishAppend y.2, none) else y.1.appendRows y.2
    let s := z.1
    .next (({ s with trellis := { s.trellis with
      appending := (match z.2 with | some k => [k] | none => []) ++ dropFirst j s.trellis.appending } }).afterAppend plot)

/-! ### The end of a step for its sequences (R272, R322, R323) -/

/-- A listed sequence whose step gave it nothing returns to ACTIVE unchanged; a row that fed NEXT_INPUT
holds it again. -/
def State.giveBack (s : State) (p : Nat) (r : SeqRow) : State :=
  (s.unreserve p (seqIndex r.seqId)).updSeq p (seqIndex r.seqId) (fun e => { e with
    state := if e.state = seqListed then seqActive else e.state, nextValid := e.nextValid || r.fedNext })

/-- Whether a sequence's rows are poisoned: its append-area rows or its SAMPLED field (R322). -/
def State.rowPoisoned (s : State) (b : Binding) (area record : Nat) (r : SeqRow) : Bool :=
  s.mem.poisonedIn (area + r.firstRow * b.appendRow) (r.rows * b.appendRow) || s.mem.poisonedIn (record + 0x18) 4

/-- What a step's end does for one row of a list; a job is left when an open block waits for its seal. -/
def State.endRow (s : State) (p : Nat) (pl : Plan) (st : Step) (l : WorkList) (k : Nat) (r : SeqRow) : State :=
  let i := seqIndex r.seqId
  match (s.plot p).seqOf r.seqId, (s.plot p).binding with
  | some e, some b =>
    if e.state ≠ seqListed then s
    else if e.kind = 0 then
      (s.updSeq p i (fun e => { e with state := seqActive, pendingToks := 0 })).endSeq p i seqDone 3 st.step
    else
      let record := pl.recordAddr l.buffer + 0x1000 + 64 * k
      if s.pagePoisoned e then (s.giveBack p r).endSeq p i seqTerminated 6 st.step
      else if st.isVoid || s.rowPoisoned b pl.header.appendAddr record r then (s.giveBack p r).leaveAdapter p i st.step
      else
        let j : AppendJob := { plot := p, index := i, area := pl.header.appendAddr, nextRow := r.firstRow, left := r.rows,
                               step := st.step, sampled := s.mem.readNat (record + 0x18) 4,
                               stop := s.mem.read (record + 0x17) != 0 }
        let y := s.appendRows j
        match y.2 with
        | some j => { y.1 with trellis := { y.1.trellis with appending := y.1.trellis.appending ++ [j] } }
        | none => y.1
  | _, _ => s

/-- The end of a step for every row of its lists, in list order. -/
def State.endRows (s : State) (p : Nat) (pl : Plan) (st : Step) : State :=
  (st.lists.map (fun l => ((List.range l.seqs.length).zip l.seqs).map (fun x => (l, x.1, x.2)))).flatten.foldl
    (fun t x => t.endRow p pl st x.1 x.2.1 x.2.2) s

/-- An aborted step gives its sequences back with the LAST_SERVED that they held before (R301, R386). -/
def State.unlist (s : State) (p : Nat) (st : Step) : State :=
  let s := ((st.lists.map (·.seqs)).flatten).foldl (fun t r =>
    (t.giveBack p r).updSeq p (seqIndex r.seqId) (fun e => { e with lastServed := e.prevServed })) s
  match st.building with
  | some b => b.cands.foldl (fun t id => t.unreserve p (seqIndex id)) s
  | none => s

end Sys2Proof.Machine
end

