-- ==== Sys2Proof/Machine/Plans.lean ====
section
/-! DEFINITION. Loading and dropping plans (R378 to R381): the image, its header and directory, the checks of
every descriptor and record (R98 to R106, R138, R203, R273 to R276), and PLAN_DROP. -/

namespace Sys2Proof.Machine

/-! ### The image (Tables BTH-10, BTH-11) -/

/-- The header of a plan image. -/
def parseHeader (im : Bytes) : PlanHeader :=
  { workload := fieldAt im 6 1, pflags := fieldAt im 7 1, planBytes := fieldAt im 8 8, baseFp := fieldAt im 0x10 32,
    firstLayer := fieldAt im 0x30 2, lastLayer := fieldAt im 0x32 2, members := fieldAt im 0x34 1, stage := fieldAt im 0x35 1,
    lostStage := fieldAt im 0x36 1, rgroup := fieldAt im 0x38 4, bgroup := fieldAt im 0x3C 4, need := fieldAt im 0x40 16,
    microbatches := fieldAt im 0x50 4, maxRows := fieldAt im 0x54 4, prefillChunk := fieldAt im 0x58 2,
    tgSeqs := fieldAt im 0x5A 1, tgSeqsPacked := fieldAt im 0x5B 1, waitLimit := fieldAt im 0x5C 2, sems0 := fieldAt im 0x5E 2,
    sems1 := fieldAt im 0x60 2, sections := fieldAt im 0x64 4, worklistAddr := fieldAt im 0x68 8,
    appendAddr := fieldAt im 0x70 8, reducedAddr := fieldAt im 0x78 8, appendBytes := fieldAt im 0x80 8,
    reducedBytes := fieldAt im 0x88 8 }

/-- A directory entry (R379). -/
structure Section where
  kind : Nat
  pav : Nat
  count : Nat
  offset : Nat
  deriving DecidableEq, Repr

/-- Bytes of a record of a section kind. -/
def recordSize (kind : Nat) : Nat :=
  if kind ≤ 6 then 64 else if kind = 7 then 32 else if kind = 8 then 4 else if kind = 9 then 1 else if kind = 10 then 8 else 16

/-- Bytes of a section. -/
def Section.bytes (x : Section) : Nat := x.count * recordSize x.kind

/-- The directory of an image. -/
def directory (im : Bytes) (n : Nat) : List Section :=
  (List.range n).map (fun i => { kind := fieldAt im (0x100 + 16 * i) 2, pav := fieldAt im (0x102 + 16 * i) 2,
                                 count := fieldAt im (0x104 + 16 * i) 4, offset := fieldAt im (0x108 + 16 * i) 8 })

/-- The largest count that a section kind admits (R125, R273, R246). -/
def sectionMax (kind : Nat) : Nat :=
  if kind = 4 then 65536 else if kind = 5 then 1048576 else if kind = 6 then 4096 else if kind = 8 then 8192
  else if kind = 10 then 4096 else 2 ^ 32

/-- Whether entry `i` of a directory holds under R379. -/
def sectionHolds (dir : List Section) (size i : Nat) : Bool :=
  match dir[i]? with
  | none => false
  | some x =>
    decide (1 ≤ x.kind) && decide (x.kind ≤ 11) && decide (x.count ≤ sectionMax x.kind) &&
    (if x.kind ≤ 3 ∨ x.kind = 10 then decide (x.pav ≤ 127) else x.pav == 0xFFFF) &&
    decide (0x100 + 16 * dir.length ≤ x.offset) && decide (x.offset + x.bytes ≤ size) &&
    (dir.take i).all (fun y => !(y.kind == x.kind && y.pav == x.pav) &&
      (decide (y.offset + y.bytes ≤ x.offset) || decide (x.offset + x.bytes ≤ y.offset)))

/-- The records of a section. -/
def Section.records (im : Bytes) (x : Section) : List Bytes :=
  (List.range x.count).map (fun i => (im.drop (x.offset + i * recordSize x.kind)).take (recordSize x.kind))

/-- The records of the section of a kind that has one. -/
def recordsOf (im : Bytes) (dir : List Section) (kind : Nat) : List Bytes :=
  match dir.find? (fun x => x.kind == kind) with
  | some x => x.records im
  | none => []

/-- The plan that an image spells, before its resources are taken. -/
def buildPlan (im : Bytes) (handle seed : Nat) : Plan :=
  let h := parseHeader im
  let dir := directory im h.sections
  { handle := handle, header := h, seed := seed
    streams := (dir.filter (fun x => decide (x.kind ≤ 3))).foldl (fun m x => m.set (3 * x.pav + (x.kind - 1)) (x.records im)) []
    tensors := recordsOf im dir 4, views := recordsOf im dir 5, spans := recordsOf im dir 6, reduce := recordsOf im dir 7
    adapters := (recordsOf im dir 8).map leNat
    program := (recordsOf im dir 9).flatten
    gtiles := (dir.filter (fun x => x.kind == 10)).foldl (fun m x => m.set x.pav ((x.records im).map leNat)) []
    relays := recordsOf im dir 11, runs := [], sems := [], damaged := false, standby := false, lastStep := 0,
    nextStep := none, listsMade := 0 }

/-! ### A failed check (R106, R378) -/

/-- What a failed check reports. -/
structure Flaw where
  dcode : Nat
  detail : Nat
  body : Bytes
  deriving DecidableEq, Repr

/-- A flaw of a table's record: DETAIL all ones, and TABLE and INDEX in the body. -/
def tableFlaw (code table index : Nat) : Flaw :=
  { dcode := code, detail := 0xFFFFFFFF, body := natLE 1 table ++ natLE 3 0 ++ natLE 4 index }

/-- The status of a failed check. -/
def Flaw.status (f : Flaw) : Nat := if f.dcode = 0x0D then stOverlapRefused else stPlanMismatch

/-- The least of a list of codes, if any. DESIGN CHOICE: of several checks that one descriptor or record breaks, the least
code is reported; R106 and R380 step 6 give no order among them. -/
def leastCode (cs : List Nat) : Option Nat := leastOf cs

/-! ### The header (R380 steps 1 and 6) -/

/-- A check of a header field: its offset, its code, and whether it holds. -/
def headerFlaw (checks : List (Nat × Nat × Bool)) : Option Flaw :=
  (checks.find? (fun c => !c.2.2)).map (fun c => tableFlaw c.2.1 0 c.1)

/-- MAGIC, VERSION and PLAN_BYTES. -/
def firstChecks (im : Bytes) (size : Nat) : Option Flaw :=
  headerFlaw [(0, 0x0F, fieldAt im 0 4 == 0x4C503359), (4, 0x0F, fieldAt im 4 2 == 1),
              (8, 0x0F, fieldAt im 8 8 == size && decide (0x100 ≤ size))]

/-- The other fields of Table BTH-10, in ascending order of offset. -/
def State.headerChecks (s : State) (p : Nat) (b : Binding) (im : Bytes) : Option Flaw :=
  let h := parseHeader im
  let rows := h.maxRows * (b.layers.length * b.kvHeads * (4 * b.headDim))
  headerFlaw
    ([(0x06, 0x0F, decide (h.workload ≤ 1)), (0x07, 0x03, decide (h.pflags < 4)),
      (0x34, 0x0F, decide (1 ≤ h.members) && decide (h.members ≤ 64)), (0x35, 0x0F, decide (h.stage < h.members)),
      (0x36, 0x0F, (h.lostStage != 0xFF) == bitOf h.pflags 0), (0x37, 0x03, zeroAt im 0x37 1),
      (0x50, 0x0F, decide (1 ≤ h.microbatches) && (h.workload == 0 || h.microbatches == 1)),
      (0x54, 0x0F, h.maxRows % 16 == 0 && decide (16 ≤ h.maxRows) && decide (h.maxRows ≤ 65536)),
      (0x58, 0x0F, h.prefillChunk % 16 == 0 && decide (16 ≤ h.prefillChunk) && decide (h.prefillChunk ≤ 4096)),
      (0x5A, 0x0F, decide (1 ≤ h.tgSeqs) && decide (h.tgSeqs ≤ 16)),
      (0x5B, 0x0F, decide (1 ≤ h.tgSeqsPacked) && decide (h.tgSeqsPacked ≤ 128))] ++
     [(0x5C, 0x0F, decide (h.waitLimit ≤ 10000)), (0x5E, 0x0F, decide (h.sems0 ≤ 1024)), (0x60, 0x0F, decide (h.sems1 ≤ 1024)),
      (0x62, 0x03, zeroAt im 0x62 2),
      (0x64, 0x0F, decide (h.sections ≤ 519) && decide (0x100 + 16 * h.sections ≤ im.length)),
      (0x68, 0x0F, s.inOneWindow p h.worklistAddr (2 * recordBytes) && s.inHbmWindows p h.worklistAddr (2 * recordBytes)),
      (0x70, 0x0F, h.appendAddr == 0 || s.inOneWindow p h.appendAddr h.appendBytes),
      (0x78, 0x0F, h.reducedAddr == 0 || s.inOneWindow p h.reducedAddr h.reducedBytes),
      (0x80, 0x0F, if h.appendAddr = 0 then h.appendBytes == 0 else decide (rows ≤ h.appendBytes)),
      (0x88, 0x0F, h.reducedAddr != 0 || h.reducedBytes == 0), (0x90, 0x03, zeroAt im 0x90 112)])

/-- The first directory entry that breaks R379. -/
def directoryFlaw (dir : List Section) (size : Nat) : Option Flaw :=
  ((List.range dir.length).find? (fun i => !sectionHolds dir size i)).map (tableFlaw 0x0F 0xFF)

/-! ### Tensors and views (R126 to R138) -/

/-- Bytes of a Glasshouse allocation. -/
def Plot.ghAllocation (q : Plot) (mem : Nat) : Nat :=
  1048576 * (if mem = 1 then q.gh0Units.length else q.gh1Units.length)

/-- Bytes of a record of a class that a plan's views may reach (R150, R236). In a degraded plan it is the rebuilt record
(R294): the record, and the absorbed section of the lost stage's layers, which the spec lets no field of the plan name. -/
def PlanHeader.recordExtent (h : PlanHeader) (b : Binding) (c : Nat × Nat × Nat × Nat) : Nat :=
  let section_ (b : Binding) : Nat := (arrayPlaces (arrayTensors b c.1 c.2.1 c.2.2.1 c.2.2.2)).2
  if h.lostStage = 0xFF then 0x100 + section_ b
  else
    let x := Config.stageLayers b.manifest h.lostStage
    roundUp (0x100 + section_ b) 128 + section_ { b with firstLayer := x.1, lastLayer := x.2 }

/-- The largest record of a plan's classes: DEDUCED, since a plan of several classes may reach the largest. -/
def Plot.recordExtent (q : Plot) (pl : Plan) : Nat :=
  match q.binding with
  | none => 0
  | some b => ((q.planClasses pl).map (pl.header.recordExtent b)).foldl max 0

/-- Whether a range lies in the memory of Table LAY-2; an empty one does (R139). -/
def State.rangeHolds (s : State) (p : Nat) (pl : Plan) (mem a n : Nat) : Bool :=
  n == 0 ||
  (if mem = 0 then s.inWindows p a n
   else if mem = 1 ∨ mem = 2 then decide (a + n ≤ (s.plot p).ghAllocation mem)
   else if mem = 3 then decide (a + n ≤ 10485760)
   else decide (a + n ≤ (s.plot p).recordExtent pl))

/-- The codes that a tensor record breaks. -/
def State.tensorCodes (s : State) (p : Nat) (pl : Plan) (b : Bytes) : List Nat :=
  let t := parseTensor b
  let above (d : Nat) : Bool := decide (d < t.rank) || (t.dims.getD d 1 == 1 && t.strides.getD d 0 == 0)
  let align := if t.fmt = 0 then 4 else if t.fmt = 1 then 2 else 1
  (if fieldAt b 6 2 != 0 || fieldAt b 0x0E 2 != 0 || !zeroAt b 0x24 4 || fieldAt b 0x13 1 / 16 != 0 || fieldAt b 0x2E 2 != 0 ||
      fieldAt b 0x36 2 != 0 || fieldAt b 0x3E 2 != 0 then [0x03] else []) ++
  (if !knownFormat t.fmt || t.fmt == 0x20 then [0x02] else []) ++
  (if decide (4 < t.mem) || t.rank == 0 || decide (4 < t.rank) || !([1, 2, 3].all above) || t.base % align != 0 ||
      t.strides.any (fun x => x % align != 0) || (!isMx t.fmt && t.scaleBase != 0) || (t.mem != 4 && t.lane != 0) ||
      !s.rangeHolds p pl t.mem t.base (t.endAddr - t.base) ||
      (isMx t.fmt && !s.rangeHolds p pl t.mem t.scaleBase t.scaleBytes) then [0x0A] else [])

/-- The tensor record of a view. -/
def Plan.tensorOf (pl : Plan) (v : View) : Tensor := parseTensor (pl.tensors.getD v.tensor [])

/-- The codes that a view record breaks, its tensor's among them. -/
def State.viewCodes (s : State) (p : Nat) (pl : Plan) (b : Bytes) : List Nat :=
  let v := parseView b
  match pl.tensors[v.tensor]? with
  | none => [0x0A]
  | some tb =>
    let t := parseTensor tb
    s.tensorCodes p pl tb ++ (if zeroAt b 0x28 24 then [] else [0x03]) ++
    (if ([1, 2, 3].all (fun d => decide (d < t.rank) || (v.origins.getD d 0 == 0 && v.extents.getD d 1 == 1))) &&
        decide (v.fill < 2 ^ formatBits t.fmt) then [] else [0x0A])

/-- The dimensions above 0 of the in-bounds part of a box: stride and count of each. -/
def View.strided (v : View) (t : Tensor) : List (Nat × Nat) :=
  [1, 2, 3].map (fun d => (t.strides.getD d 0, (v.clip t d).2))

/-- Bytes from the first to the last that the in-bounds elements of one row occupy. -/
def View.rowSpan (v : View) (t : Tensor) : Nat :=
  let c := v.clip t 0
  let f := elemPlace t.fmt c.1
  let l := elemPlace t.fmt (c.1 + c.2 - 1)
  l.1 + l.2.1 - f.1

/-- Whether rows nest: each stride clears what the smaller ones cover. Such rows share no byte. -/
def rowsNest (dims : List (Nat × Nat)) (row : Nat) : Bool :=
  let sorted := sortBy (fun a b => decide (a.1 < b.1)) (dims.filter (fun d => decide (1 < d.2)))
  (sorted.foldl (fun (x : Bool × Nat) d => (x.1 && decide (x.2 ≤ d.1), d.1 * (d.2 - 1) + x.2)) (true, row)).1

/-- Whether some two different rows start less than `row` bytes apart: the difference of their indices is tried in each
dimension. `d` is the distance so far, and `moved` whether an index differs. -/
def rowsClash (row : Nat) : List (Nat × Nat) → Int → Bool → Bool
  | [], d, moved => moved && decide (d.natAbs < row)
  | (st, c) :: ds, d, moved =>
    (List.range c).any (fun k => rowsClash row ds (d + (st * k : Nat)) (moved || k != 0) ||
      (k != 0 && rowsClash row ds (d - (st * k : Nat)) true))

/-- Whether a stride makes two in-bounds elements of a destination view share a byte (R138). A stride of 0 in a dimension
whose box extent exceeds 1 counts as sharing. -/
def sharesBytes (v : View) (t : Tensor) : Bool :=
  [1, 2, 3].any (fun d => t.strides.getD d 0 == 0 && decide (1 < v.extents.getD d 1)) ||
  ((v.clip t 0).2 != 0 && (v.strided t).all (fun d => d.2 != 0) && !rowsNest (v.strided t) (v.rowSpan t) &&
    rowsClash (v.rowSpan t) (v.strided t) 0 false)

/-- The use of a view by a descriptor's field: the memories that the field reaches (Table LAY-5), whether
it is written, and whether the index may be none. -/
structure Use where
  index : Nat
  mems : List Nat
  dest : Bool
  optional : Bool
  deriving DecidableEq, Repr

/-- Whether the base manifest marks a plan's tensor as a base weight (R179). -/
def Plot.isBase (q : Plot) (pl : Plan) (i : Nat) : Bool :=
  match q.binding with
  | some b => Config.baseWeight b.manifest (pl.tensors.getD i [])
  | none => false

/-- The codes that a use breaks. -/
def State.useCodes (s : State) (p : Nat) (pl : Plan) (inSpan : Bool) (u : Use) : List Nat :=
  if u.index = noView then (if u.optional then [] else [0x0A])
  else
    match pl.views[u.index]? with
    | none => [0x0A]
    | some b =>
      let v := parseView b
      let t := pl.tensorOf v
      s.viewCodes p pl b ++
      (if u.mems.contains t.mem && (t.mem != 4 || inSpan) &&
          !(u.dest && pl.header.workload == 0 && (s.plot p).isBase pl v.tensor) &&
          (!u.dest || (!sharesBytes v t &&
            (!isMx t.fmt || (v.origins.getD 0 0 % 32 == 0 && v.extents.getD 0 0 % 32 == 0)))) then [] else [0x0A])

/-! ### Descriptors (R98 to R106) -/

/-- Fields of a descriptor's header. -/
def dType (d : Bytes) : Nat := fieldAt d 0 1
def dStart (d : Bytes) : Bool := bitOf (fieldAt d 1 1) 0
def dEnd (d : Bytes) : Bool := bitOf (fieldAt d 1 1) 1
def dBlock (d : Bytes) : Nat := fieldAt d 2 1 % 16
def dShape (d : Bytes) : Nat := fieldAt d 2 1 / 16 % 4
def dId (d : Bytes) : Nat := fieldAt d 4 4

/-- Whether a descriptor is of a semaphore type. -/
def isSem (d : Bytes) : Bool := dType d == 0x30 || dType d == 0x31

/-- Blocks of a shape, and the size of one (Table PAR-6). -/
def shapeBlocks (shape : Nat) : Nat := if shape = 0 then 1 else if shape = 1 then 4 else 16
def blockSize (shape : Nat) : Nat := if shape = 0 then 128 else if shape = 1 then 64 else 32

/-- Types of each queue (Table PAV-2): 0 ARRAY, 1 RILL, 2 MOVE. -/
def typeAllowed (queue t : Nat) : Bool :=
  t == 0x30 || t == 0x31 || (queue == 0 && decide (1 ≤ t) && decide (t ≤ 3)) || (queue == 1 && (t == 0x10 || t == 0x11)) ||
  (queue == 2 && t == 0x20)

/-- What the scan of an ARRAY stream knows: whether a command is open, the block and part that it expects
(0 a block's start, 1 its STREAM, 2 its DRAIN), whether its blocks load weights, its formats, and the
orientation of the weights of each block. -/
structure Scan where
  isOpen : Bool
  shape : Nat
  block : Nat
  part : Nat
  loads : Option Bool
  wfmt : Option Nat
  sfmt : Option Nat
  rows : NMap Bool
  deriving DecidableEq, Repr

/-- The scan between commands. -/
def Scan.idle (rows : NMap Bool) : Scan :=
  { isOpen := false, shape := 0, block := 0, part := 0, loads := none, wfmt := none, sfmt := none, rows := rows }

/-- One descriptor of the scan: the codes it breaks, and the scan after it. -/
def Scan.step (x : Scan) (d : Bytes) : List Nat × Scan :=
  let t := dType d
  let x := if x.isOpen then x else { Scan.idle x.rows with shape := dShape d }
  let head := dStart d == !x.isOpen && dShape d == x.shape && dBlock d == x.block && decide (x.shape ≤ 2)
  if isSem d then (if !x.isOpen && dStart d && dEnd d then [] else [0x04], x)
  else if t = 1 then
    let mix := match x.wfmt with | some f => f != fieldAt d 0x0C 1 | none => false
    ((if head && !dEnd d && x.part == 0 && x.loads != some false then [] else [0x04]) ++ (if mix then [0x07] else []),
     { x with isOpen := true, part := 1, loads := some true, wfmt := some (fieldAt d 0x0C 1)
              rows := x.rows.set (dBlock d) (bitOf (fieldAt d 0x0F 1) 2 && fieldAt d 0x0F 1 % 4 != 0) })
  else if t = 2 then
    let mix := match x.sfmt with | some f => f != fieldAt d 0x0C 1 | none => false
    ((if head && !dEnd d && (x.part == 1 || (x.part == 0 && x.loads != some true)) then [] else [0x04]) ++
     (if x.part == 1 && x.rows.get false (dBlock d) && fieldAt d 0x0C 1 == 5 then [0x06] else []) ++ (if mix then [0x07] else []),
     { x with isOpen := true, part := 2, loads := if x.part = 1 then x.loads else some false, sfmt := some (fieldAt d 0x0C 1) })
  else if t = 3 then
    let last := x.block + 1 == shapeBlocks x.shape
    (if head && x.isOpen && x.part == 2 && dEnd d == last then [] else [0x04],
     if last then Scan.idle x.rows else { x with block := x.block + 1, part := 0 })
  else ([], x)

/-- The codes of each descriptor of an ARRAY stream; a command left open breaks the last. -/
def scanArray : Scan → List Bytes → List (List Nat)
  | _, [] => []
  | x, [d] =>
    let y := x.step d
    [y.1 ++ (if y.2.isOpen then [0x04] else [])]
  | x, d :: e :: ds =>
    let y := x.step d
    y.1 :: scanArray y.2 (e :: ds)

/-! ### Spans (R273 to R276) -/

/-- A span record (Table TRL-14). -/
structure Span where
  kind : Nat
  forms : Nat
  pav : Nat
  width : Nat
  first : List Nat
  count : List Nat
  exitSem : Nat
  part : Nat
  parts : Nat
  layerSlot : Nat
  head : Nat
  gqa : Nat
  advViews : List Nat
  advSteps : List Nat
  deriving DecidableEq, Repr

/-- Read a span record. -/
def parseSpan (b : Bytes) : Span :=
  { kind := fieldAt b 0 1, forms := fieldAt b 1 1, pav := fieldAt b 2 1, width := fieldAt b 3 1,
    first := [fieldAt b 4 4, fieldAt b 8 4, fieldAt b 12 4], count := [fieldAt b 0x10 2, fieldAt b 0x12 2, fieldAt b 0x14 2],
    exitSem := fieldAt b 0x16 2, part := fieldAt b 0x18 1, parts := fieldAt b 0x19 1, layerSlot := fieldAt b 0x1A 2,
    head := fieldAt b 0x1C 1, gqa := fieldAt b 0x1D 1,
    advViews := [fieldAt b 0x20 4, fieldAt b 0x24 4, fieldAt b 0x28 4, fieldAt b 0x2C 4],
    advSteps := [fieldAt b 0x30 4, fieldAt b 0x34 4, fieldAt b 0x38 4, fieldAt b 0x3C 4] }

/-- Whether descriptor `i` of a queue lies in a span's run. -/
def Span.covers (x : Span) (pav queue i : Nat) : Bool :=
  x.pav == pav && decide (x.first.getD queue 0 ≤ i) && decide (i < x.first.getD queue 0 + x.count.getD queue 0)

/-- The span that holds a descriptor, with its index. -/
def Plan.spanAt (pl : Plan) (pav queue i : Nat) : Option (Nat × Span) :=
  ((List.range pl.spans.length).zip (pl.spans.map parseSpan)).find? (fun x => x.2.covers pav queue i)

/-- Whether a semaphore lies in the plan's allocation: plan-relative index and Terrace (R118). -/
def PlanHeader.semHolds (h : PlanHeader) (sem : Nat) : Bool :=
  decide (sem < 2048) && decide (sem % 1024 < (if sem / 1024 = 0 then h.sems0 else h.sems1))

/-- The semaphores that descriptors inside spans signal. -/
def Plan.spanSignals (pl : Plan) : List Nat :=
  ((pl.streams.map (fun e => ((List.range e.2.length).zip e.2).filterMap (fun x =>
    if dType x.2 == 0x31 && (pl.spanAt (e.1 / 3) (e.1 % 3) x.1).isSome then some (fieldAt x.2 8 2) else none)))).flatten

/-! ### Each descriptor -/

/-- Reserved bytes of each type (Tables PAV-3 to PAV-11), with the enumerated fields whose other values are
reserved. -/
def reservedFlaw (d : Bytes) : Bool :=
  let t := dType d
  decide (3 < fieldAt d 1 1) || !zeroAt d 3 1 || decide (0x3F < fieldAt d 2 1) || (decide (3 < t) && !zeroAt d 2 1) ||
  (if t = 1 then decide (15 < fieldAt d 0x0F 1) || decide (1 < fieldAt d 0x1A 1) || !zeroAt d 0x1B 37
   else if t = 2 then
     decide (2 < fieldAt d 0x0D 1) || decide (2 < fieldAt d 0x0E 1) || !zeroAt d 0x0F 1 || decide (0x3F < fieldAt d 0x24 1) ||
     !zeroAt d 0x2E 2 || !zeroAt d 0x34 12
   else if t = 3 then decide (31 < fieldAt d 0x0D 1) || !zeroAt d 0x1C 36
   else if t = 0x10 then !zeroAt d 0x2A 6 || !zeroAt d 0x38 8
   else if t = 0x11 then decide (7 < fieldAt d 0x19 1) || !zeroAt d 0x1C 4 || !zeroAt d 0x28 24
   else if t = 0x20 then decide (1 < fieldAt d 0x11 1) || !zeroAt d 0x12 46
   else decide (2047 < fieldAt d 8 2) || decide (1 < fieldAt d 0x0A 1) || !zeroAt d 0x0B 1 || !zeroAt d 0x10 48)

/-- Weight formats outside a walk (Table NUM-4). -/
def weightFormat (f : Nat) : Bool := [1, 2, 3, 4, 6].contains f || isMx f

/-- Formats of a walk's weights: BF16 and the page codes. -/
def walkFormat (f : Nat) : Bool := f == 1 || isPage f

/-- Formats that SCALE produces. -/
def scaleFormat (f : Nat) : Bool := [2, 3, 4, 5, 8, 9].contains f || isPage f

/-- The parameters of a STREAM's convolution (Tables PAV-4, PAR-8). -/
structure Conv where
  kh : Nat
  kw : Nat
  strideY : Nat
  strideX : Nat
  dilY : Nat
  dilX : Nat
  padTop : Nat
  padLeft : Nat
  outW : Nat
  outY0 : Nat
  outX0 : Nat
  kFirst : Nat
  deriving DecidableEq, Repr

/-- Read them. -/
def parseConv (d : Bytes) : Conv :=
  let k := fieldAt d 0x24 1
  let st := fieldAt d 0x25 1
  { kh := k % 8 + 1, kw := k / 8 % 8 + 1, strideY := st % 4 + 1, strideX := st / 4 % 4 + 1, dilY := st / 16 % 4 + 1,
    dilX := st / 64 % 4 + 1, padTop := fieldAt d 0x26 1, padLeft := fieldAt d 0x27 1, outW := fieldAt d 0x28 2,
    outY0 := fieldAt d 0x2A 2, outX0 := fieldAt d 0x2C 2, kFirst := fieldAt d 0x30 4 }

/-- Whether convolution fields hold (R83, R24). DESIGN CHOICE: an OUT_W of 0, by which R83 would divide, is refused with the
other geometry errors. -/
def convHolds (d : Bytes) : Bool :=
  if fieldAt d 0x0D 1 = 1 then
    let c := parseConv d
    decide (c.kh ≤ 7) && decide (c.kw ≤ 7) && decide (c.padTop ≤ 6 * c.dilY) && decide (c.padLeft ≤ 6 * c.dilX) && c.outW != 0
  else zeroAt d 0x24 16

/-- A view of a plan with its tensor. -/
def Plan.viewAt (pl : Plan) (i : Nat) : View × Tensor :=
  let v := parseView (pl.views.getD i [])
  (v, pl.tensorOf v)

/-- Whether a STREAM's box agrees with its ROWS (R133). -/
def Plan.streamBox (pl : Plan) (d : Bytes) : Bool :=
  let v := (pl.viewAt (fieldAt d 8 4)).1
  let n := v.extents.getD 1 0 * v.extents.getD 2 0 * v.extents.getD 3 0
  decide (v.extents.getD 0 0 ≤ 128) && (fieldAt d 0x0D 1 == 1 || fieldAt d 0x10 4 == 0xFFFFFFFF || fieldAt d 0x10 4 == n)

/-- The source dimension of destination dimension `k` of a COPY. -/
def permOf (d : Bytes) (k : Nat) : Nat := fieldAt d 0x10 1 / 4 ^ k % 4

/-- Whether a COPY is permuting (R140). -/
def Plan.permuting (pl : Plan) (d : Bytes) : Bool :=
  fieldAt d 0x10 1 != 0xE4 || (pl.viewAt (fieldAt d 8 4)).2.strides != (pl.viewAt (fieldAt d 0x0C 4)).2.strides

/-- The codes of a COPY with a source (R138, R142, R143). -/
def Plan.copyCodes (pl : Plan) (d : Bytes) : List Nat :=
  let x := pl.viewAt (fieldAt d 8 4)
  let y := pl.viewAt (fieldAt d 0x0C 4)
  (if x.2.fmt == y.2.fmt && [0, 1, 2, 3].all (fun k => [0, 1, 2, 3].any (fun j => permOf d j == k)) &&
      [0, 1, 2, 3].all (fun k => y.1.extents.getD k 0 == x.1.extents.getD (permOf d k) 0) then [] else [0x0A]) ++
  (if pl.permuting d then
     (if x.2.fmt ≤ 5 then [] else [0x02]) ++ (if x.2.mem = 4 ∨ y.2.mem = 4 then [0x0A] else []) ++
     (if viewsOverlap x.1 x.2 y.1 y.2 then [0x0D] else [])
   else [])

/-- The uses of views by a descriptor; `walk` says that a WLOAD's block walks, and `written` which operands its program
writes. -/
def usesOf (d : Bytes) (walk : Bool) (written : List Nat) : List Use :=
  let v (off : Nat) (mems : List Nat) (dest optional : Bool) : Use :=
    { index := fieldAt d off 4, mems := mems, dest := dest, optional := optional }
  let t := dType d
  if t = 1 then (if walk then [] else [v 8 [1, 2, 3] false false]) ++ [v 0x10 [1, 2, 3] false true]
  else if t = 2 then
    [v 8 [3] false false, v 0x14 [3] false true, v 0x18 [3] false (fieldAt d 0x0E 1 != 1), v 0x1C [3] false true,
     v 0x20 [3] false true]
  else if t = 3 then (if bitOf (fieldAt d 0x0D 1) 3 then [] else [v 8 [3] true false])
  else if t = 0x10 then (List.range 6).map (fun i => v (0x10 + 4 * i) [3] (written.contains i) true)
  else if t = 0x11 then
    let page := isPage (fieldAt d 0x18 1)
    let conv := bitOf (fieldAt d 0x19 1) 0
    [v 8 [3] false false, v 0x10 [3] (!conv || page) false] ++ (if conv || page then [v 0x0C [3] true false] else []) ++
    (if bitOf (fieldAt d 0x19 1) 1 then [v 0x14 [3] true true] else [])
  else if t = 0x20 then
    (if bitOf (fieldAt d 0x11 1) 0 then [] else [v 8 [0, 1, 2, 3, 4] false false]) ++ [v 0x0C [0, 1, 2, 3, 4] true false]
  else []

/-- The codes of a filling COPY whose PERM differs from 0xE4: it counts as permuting (R140), so R143 holds of its
destination. -/
def Plan.fillCodes (pl : Plan) (d : Bytes) : List Nat :=
  let y := pl.viewAt (fieldAt d 0x0C 4)
  (if y.2.fmt ≤ 5 then [] else [0x02]) ++ (if y.2.mem = 4 then [0x0A] else [])

/-- Whether an iteration of a span may move a view (R274). -/
def Plan.advances (pl : Plan) (i : Nat) : Bool := pl.spans.any (fun b => (parseSpan b).advViews.contains i)

/-- The lines of device memory that the largest in-bounds part of a box covers, counted by controller: a view that spans
advance is taken from index 0 (R274), and a record from a 64 KiB boundary. -/
def Plan.boxCredits (pl : Plan) (i : Nat) : NMap Nat :=
  let x := pl.viewAt i
  let c (d : Nat) : Nat × Nat :=
    if pl.advances i then (0, min (x.1.extents.getD d 0) (x.2.dims.getD d 0)) else x.1.clip x.2 d
  let pf := elemPlace x.2.fmt (c 0).1
  let pe := elemPlace x.2.fmt ((c 0).1 + (c 0).2 - 1)
  let rows := ((List.range (c 3).2).map (fun k => ((List.range (c 2).2).map (fun j => (List.range (c 1).2).map (fun n =>
    x.2.rowAddr [0, (c 1).1 + n, (c 2).1 + j, (c 3).1 + k]))).flatten)).flatten
  let lines := if (c 0).2 = 0 then [] else
    (rows.map (fun a => (List.range ((a + pe.1 + pe.2.1 - 1) / 64 + 1 - (a + pf.1) / 64)).map (fun n => (a + pf.1) / 64 + n))).flatten
  creditsOf ((lines.foldl (fun l n => if l.contains n then l else n :: l) []).map (fun n =>
    { line := n, plot := 0, bytes := [], poisoned := false }))

/-- Whether a COPY's destination block needs no more write credits than the queues hold (R18, Table ARC-4). -/
def Plan.reservationHolds (pl : Plan) (i : Nat) : Bool :=
  let t := (pl.viewAt i).2
  (t.mem != 0 && t.mem != 4) || (pl.boxCredits i).all (fun e => decide (e.2 ≤ queueLines e.1))

/-- Whether the tensor of a view stands in the format that a descriptor names. DESIGN CHOICE: INT8 data may be named with
or without a zero point. -/
def Plan.inFormat (pl : Plan) (i fmt : Nat) : Bool :=
  let f := (pl.viewAt i).2.fmt
  f == fmt || ((f == 4 || f == 5) && (fmt == 4 || fmt == 5))

/-- The codes of R35 and Table NUM-4: an operand's tensor that stands in another format than the descriptor's. DESIGN
CHOICE: the code is DE_TENSOR_CLASS, since the spec names none for a descriptor that differs from its tensor. -/
def Plan.classCodes (pl : Plan) (d : Bytes) (walk : Bool) : List Nat :=
  let t := dType d
  let holds :=
    if t = 1 then walk || pl.inFormat (fieldAt d 8 4) (fieldAt d 0x0C 1)
    else if t = 2 then pl.inFormat (fieldAt d 8 4) (fieldAt d 0x0C 1)
    else if t = 3 then bitOf (fieldAt d 0x0D 1) 3 || pl.inFormat (fieldAt d 8 4) (fieldAt d 0x0C 1)
    else if t = 0x11 then
      !bitOf (fieldAt d 0x19 1) 0 || isPage (fieldAt d 0x18 1) || pl.inFormat (fieldAt d 0x0C 4) (fieldAt d 0x18 1)
    else true
  if holds then [] else [0x08]

/-- The codes that a descriptor breaks on its own: its queue and place, itself, the next descriptor of its
stream, and the semaphores signalled inside spans. -/
def State.descCodes (s : State) (p : Nat) (pl : Plan) (signals : List Nat) (pav queue i : Nat) (d next : Bytes) : List Nat :=
  let t := dType d
  let span := pl.spanAt pav queue i
  let inWalk := match span with | some x => x.2.kind == 2 | none => false
  let walk := t == 1 && fieldAt next 0x0D 1 == 2 && dType next == 2
  let fmt := fieldAt d 0x0C 1
  let df := fieldAt d 0x0D 1
  if !typeAllowed queue t then [0x01]
  else
    (if reservedFlaw d then [0x03] else []) ++
    ((usesOf d walk ((Config.rillProgram pl.program (fieldAt d 8 4)).map (·.arg))).map (s.useCodes p pl span.isSome)).flatten ++
    (if queue != 0 && !(dStart d && dEnd d) then [0x04] else []) ++
    pl.classCodes d walk ++
    (if t = 1 then
       (if (if walk then walkFormat fmt else weightFormat fmt) then [] else [0x02]) ++
       (if walk && (!inWalk) then [0x04] else []) ++
       (if !inWalk && (fieldAt d 0x14 4 == 0xFFFFFFFF || fieldAt d 0x18 2 == 0xFFFF) then [0x04] else [])
     else if t = 2 then
       (if 1 ≤ fmt ∧ fmt ≤ 5 then [] else [0x02]) ++
       (if fieldAt d 0x10 4 == 0xFFFFFFFF && span.isNone then [0x04] else []) ++
       (if convHolds d then [] else [0x05]) ++
       (if pl.streamBox d && (fmt == 5 || fieldAt d 0x20 4 == noView) then [] else [0x0A])
     else if t = 3 then
       (if fmt ≤ 1 then [] else if bitOf df 1 then [0x08] else [0x02]) ++
       (if bitOf df 3 then
          (if decide (fieldAt d 0x18 2 < min 4096 (pl.gtiles.get [] pav).length) && decide (fieldAt d 0x1A 2 ≤ 63) && fmt == 0
           then [] else [0x0C])
        else if bitOf df 4 then [0x0C] else [])
     else if t = 0x10 then (if Config.programHolds pl.program (fieldAt d 8 4) then [] else [0x0E])
     else if t = 0x11 then
       let f := fieldAt d 0x18 1
       let gradient := bitOf (fieldAt d 0x19 1) 2
       (if (scaleFormat f || gradient) && decide ((pl.viewAt (fieldAt d 8 4)).2.fmt ≤ 1) then [] else [0x02]) ++
       (if gradient && f != 3 then [0x08] else [])
     else if t = 0x20 then
       (if bitOf (fieldAt d 0x11 1) 0 then (if fieldAt d 0x10 1 != 0xE4 then pl.fillCodes d else []) else pl.copyCodes d) ++
       (if pl.reservationHolds (fieldAt d 0x0C 4) then [] else [0x09])
     else
       let sem := fieldAt d 8 2
       (if pl.header.semHolds sem && !(span.isSome && fieldAt d 0x0A 1 != 0) &&
           !(span.isNone && t == 0x30 && signals.contains sem) then [] else [0x0B]))

/-- The first flawed descriptor of a stream. -/
def State.streamFlaw (s : State) (p : Nat) (pl : Plan) (signals : List Nat) (pav queue : Nat) (ds : List Bytes) : Option Flaw :=
  let scan := if queue = 0 then scanArray (Scan.idle []) ds else ds.map (fun _ => [])
  (((List.range ds.length).zip (ds.zip scan)).filterMap (fun x =>
    (leastCode (s.descCodes p pl signals pav queue x.1 x.2.1 (ds.getD (x.1 + 1) []) ++ x.2.2)).map
      (fun c => ({ dcode := c, detail := dId x.2.1, body := [] } : Flaw)))).head?

/-- The first flawed descriptor of a plan: ARRAY streams first, then RILL, then MOVE, by Pavilion. -/
def State.descFlaw (s : State) (p : Nat) (pl : Plan) : Option Flaw :=
  let signals := pl.spanSignals
  ([0, 1, 2].map (fun queue => (pl.streams.filter (fun e => e.1 % 3 == queue)).map (fun e => (queue, e)))).flatten.findSome?
    (fun x => s.streamFlaw p pl signals (x.2.1 / 3) x.1 x.2.2)

/-! ### Tables that no descriptor uses -/

/-- The first flawed record of a table. -/
def tableFlaws (table : Nat) (codes : List (List Nat)) : Option Flaw :=
  (((List.range codes.length).zip codes).filterMap (fun x => (leastCode x.2).map (fun c => tableFlaw c table x.1))).head?

/-- The codes of a span record. -/
def Plan.spanCodes (pl : Plan) (i : Nat) (b : Bytes) : List Nat :=
  let x := parseSpan b
  let others := ((pl.spans.take i).map parseSpan).filter (fun y => y.pav == x.pav)
  let run (y : Span) (k : Nat) : Option (Nat × Nat) :=
    if y.count.getD k 0 = 0 then none else some (y.first.getD k 0, y.first.getD k 0 + y.count.getD k 0)
  (if !zeroAt b 0x1E 2 || decide (3 < x.forms) then [0x03] else []) ++
  (if decide (x.kind ≤ 2) && decide (x.pav ≤ 127) && [0, 1, 2].all (fun k =>
        decide (x.count.getD k 0 = 0) ||
        decide (x.first.getD k 0 + x.count.getD k 0 ≤ (pl.streams.get [] (3 * x.pav + k)).length)) &&
      others.all (fun y => [0, 1, 2].all (fun k => !rangesMeet (run x k) (run y k))) &&
      (x.kind != 2 || (decide (1 ≤ x.parts) && decide (x.parts ≤ 128) && decide (x.part < x.parts))) &&
      (x.kind != 0 || [0, 8, 16, 32].contains x.width) then [] else [0x04]) ++
  (if x.advViews.all (fun v => v == noView || decide (v < pl.views.length)) then [] else [0x0A]) ++
  (if pl.header.semHolds x.exitSem then [] else [0x0B])

/-- A reduce-table entry (Table CSC-1). -/
structure ReduceEntry where
  pav : Nat
  gtile : Nat
  seq : Nat
  adapter : Nat
  tensor : Nat
  indexBase : Nat
  dstView : Nat
  deriving DecidableEq, Repr

/-- Read a reduce-table entry. -/
def parseReduce (b : Bytes) : ReduceEntry :=
  { pav := fieldAt b 0 2, gtile := fieldAt b 2 2, seq := fieldAt b 4 4, adapter := fieldAt b 8 4, tensor := fieldAt b 0x0C 2,
    indexBase := fieldAt b 0x10 8, dstView := fieldAt b 0x18 4 }

/-- Whether SEQ values are exactly 0 to T − 1 and no tile stands twice (R203). -/
def reduceHolds (es : List ReduceEntry) : Bool :=
  (List.range es.length).all (fun k => (es.filter (fun e => e.seq == k)).length == 1) &&
  es.all (fun e => (es.filter (fun x => x.pav == e.pav && x.gtile == e.gtile)).length == 1)

/-- Whether a view's range lies in an area. -/
def Plan.viewInArea (pl : Plan) (i base n : Nat) : Bool :=
  let x := pl.viewAt i
  decide (i < pl.views.length) && x.2.mem == 0 && x.2.fmt == 0 &&
  (match x.1.fullRange x.2 with | some r => decide (base ≤ r.1) && decide (r.2 ≤ base + n) | none => true)

/-- The codes of a reduce-table entry. -/
def Plan.reduceCodes (pl : Plan) (b : Bytes) : List Nat :=
  let e := parseReduce b
  (if zeroAt b 0x0E 2 && zeroAt b 0x1C 4 then [] else [0x03]) ++
  (if pl.viewInArea e.dstView pl.header.reducedAddr pl.header.reducedBytes then [] else [0x0A]) ++
  (if decide (e.pav ≤ 127) && decide (e.gtile < (pl.gtiles.get [] e.pav).length) then [] else [0x0C])

/-- The codes of a gradient tile record. -/
def State.slotCodes (s : State) (p a : Nat) : List Nat :=
  (if a < 2 ^ 48 then [] else [0x03]) ++ (if a % 4096 == 0 && s.inHbmWindows p a 32768 then [] else [0x0C])

/-- The codes of a relay record. -/
def Plan.relayCodes (pl : Plan) (b : Bytes) : List Nat :=
  (if zeroAt b 6 2 && zeroAt b 14 2 then [] else [0x03]) ++ (if decide (fieldAt b 8 4 < pl.views.length) then [] else [0x0A]) ++
  (if pl.header.semHolds (fieldAt b 12 2) then [] else [0x0B])

/-- Whether entry `i` of an adapter list names a registered TRAIN adapter, sound and not repeated (R246). -/
def Plot.adapterEntry (q : Plot) (hs : List Nat) (i : Nat) : Bool :=
  match q.adapters.find (hs.getD i 0) with
  | some a => a.train && a.state != .stale && a.state != .poisoned && !(hs.take i).contains (hs.getD i 0)
  | none => false

/-- A flaw without a code. -/
def plainFlaw : Flaw := { dcode := 0, detail := 0, body := [] }

/-- The flaws of the tables, in ascending order of section kind. -/
def State.tablesFlaw (s : State) (p : Nat) (pl : Plan) (dir : List Section) : Option Flaw :=
  let has (k : Nat) : Bool := dir.any (fun x => x.kind == k)
  let train := pl.header.workload == 0
  let es := pl.reduce.map parseReduce
  [tableFlaws 4 (pl.tensors.map (s.tensorCodes p pl)),
   tableFlaws 5 (pl.views.map (s.viewCodes p pl)),
   tableFlaws 6 (((List.range pl.spans.length).zip pl.spans).map (fun x => pl.spanCodes x.1 x.2)),
   if has 7 == train && has 8 == train then none else some plainFlaw,
   tableFlaws 7 (pl.reduce.map pl.reduceCodes),
   if reduceHolds es then none else some plainFlaw,
   ((List.range pl.adapters.length).find? (fun i => !(s.plot p).adapterEntry pl.adapters i)).map (tableFlaw 0 8),
   (pl.gtiles.map (fun e => tableFlaws 10 (e.2.map (s.slotCodes p)))).findSome? id,
   tableFlaws 11 (pl.relays.map pl.relayCodes)].findSome? id

/-! ### PLAN_LOAD (R378, R380) -/

/-- Whether a unit that a plan needs is fenced: a Pavilion of NEED, the sequencer or the Cascade engine of a Terrace
that NEED uses, the Trellis or the Orangery (R331). -/
def State.needFenced (s : State) (need : Nat) : Bool :=
  need &&& (s.mod.fencedPav0.toNat + 2 ^ 64 * s.mod.fencedPav1.toNat) != 0 ||
  (need % 2 ^ 64 != 0 && ((s.engine 0).fenced || s.unitFenced 0)) ||
  (need / 2 ^ 64 != 0 && ((s.engine 1).fenced || s.unitFenced 1)) ||
  s.unitFenced 28 || s.unitFenced 29

/-- Step 3: the status that the groups of a header give. A reduction group has one member for each replica, so
MEMBERS and STAGE name the Bower group's size and rank (R289). -/
def State.groupsCheck (s : State) (p : Nat) (h : PlanHeader) : Option Nat :=
  let q := s.plot p
  let one (id kind : Nat) : Option Nat :=
    if id = 0 then none
    else
      match q.groupById id with
      | none => some stNotPermitted
      | some g =>
        if g.state = groupClosed then some stNotPermitted
        else if g.kind = kind ∧ (kind = 0 ∨ (g.size = h.members ∧ g.rankOf s.fabric = h.stage)) then none
        else some stPlanMismatch
  match one h.rgroup 0 with
  | some st => some st
  | none => one h.bgroup 1

/-- Bytes of an image that go to Terrace 1: the stream sections of Pavilions 64 to 127. -/
def terrace1Bytes (dir : List Section) : Nat :=
  ((dir.filter (fun x => decide (x.kind ≤ 3) && decide (64 ≤ x.pav) && decide (x.pav ≤ 127))).map Section.bytes).sum

/-- The semaphores of a Terrace that no plan of a plot holds, lowest first (R118). -/
def Plot.freeSems (q : Plot) (t : Nat) : List Nat :=
  let held := (q.plans.map (fun e => e.2.sems)).flatten
  ((List.range 1024).map (· + 1024 * t)).filter (fun k => !held.contains k)

/-- Take `n` granules of a tier, lowest first. -/
def Mem.takeGranules (tier : Nat) : Nat → Mem → List Run → Option (Mem × List Run)
  | 0, m, rs => some (m, rs)
  | n + 1, m, rs =>
    match m.lowestRun tier 1 with
    | none => none
    | some f =>
      let r : Run := { tier := tier, first := f, count := 1 }
      Mem.takeGranules tier n (m.grant r) (rs ++ [r])

/-- Step 5: the memory with the copy's granules granted, the granules, and the semaphores. -/
def State.planResources (s : State) (p : Nat) (h : PlanHeader) (dir : List Section) : Option (Mem × List Run × List Nat) :=
  let q := s.plot p
  let n1 := ceilDiv (terrace1Bytes dir) granuleBytes
  let n0 := ceilDiv (h.planBytes - terrace1Bytes dir) granuleBytes
  if 64 ≤ q.plans.length ∨ (q.freeSems 0).length < h.sems0 ∨ (q.freeSems 1).length < h.sems1 ∨ q.quota 0 < q.used 0 + n0 ∨
      q.quota 1 < q.used 1 + n1 then none
  else
    (s.mem.takeGranules 0 n0 []).bind (fun x => (x.1.takeGranules 1 n1 x.2).map (fun y =>
      (y.1, y.2, (q.freeSems 0).take h.sems0 ++ (q.freeSems 1).take h.sems1)))

/-- Refuse a PLAN_LOAD with a flaw. -/
def State.refusePlan (s : State) (p : Nat) (r : Req) (f : Flaw) : State :=
  s.completeWith p r f.status f.dcode f.detail f.body

/-- PLAN_LOAD. -/
def execPlanLoad (plot : Nat) (s : State) : Out :=
  .next (s.serve plot opPlanLoad (fun _ => true) (fun r s =>
    let q := s.plot plot
    let addr := fieldAt r.payload 0 8
    let size := fieldAt r.payload 8 8
    let im := s.mem.readBytes addr size
    let h := parseHeader im
    if s.inWindows plot addr (max size 1) = false then s.refuse plot r stNotPermitted
    else
      match firstChecks im size, q.binding with
      | some f, _ => s.refusePlan plot r f
      | none, none => s.refuse plot r stStaleBase
      | none, some b =>
        if h.baseFp ≠ b.fp ∨ h.firstLayer ≠ b.firstLayer ∨ h.lastLayer ≠ b.lastLayer then s.refuse plot r stStaleBase
        else
          match s.groupsCheck plot h with
          | some st => s.completeWith plot r st 0 0 []
          | none =>
            if s.needFenced h.need = true then s.refuse plot r stUnitFenced
            else
              let dir := directory im (min h.sections 519)
              match s.planResources plot h dir with
              | none => s.refuse plot r stNoMemory
              | some (m, runs, sems) =>
                let pl := buildPlan im (q.nextPlan + 1) (fieldAt r.payload 0x10 8)
                match [s.headerChecks plot b im, directoryFlaw dir size].findSome? id with
                | some f => s.refusePlan plot r f
                | none =>
                  match [s.descFlaw plot pl, s.tablesFlaw plot pl dir].findSome? id with
                  | some f => s.refusePlan plot r f
                  | none =>
                    let t := (s.updMem (fun _ => m)).updPlot plot (fun q => { q with
                      nextPlan := pl.handle, plans := q.plans.set pl.handle { pl with runs := runs, sems := sems } })
                    t.ok plot r (natLE 4 pl.handle ++ natLE 4 runs.length ++
                      natLE 4 (pl.streams.map (fun e => e.2.length)).sum ++ natLE 4 0)))

/-! ### PLAN_DROP (R381) -/

/-- Whether an armed policy names a plan. -/
def Plot.policyNames (q : Plot) (plan : Nat) : Bool :=
  q.policies.any (fun e => e.2.plan == plan || e.2.standby.contains plan || e.2.promoted == plan || e.2.activePlan == plan)

/-- The STEP_RUN requests of a plan that wait for their turn, oldest first. -/
def Plot.queuedFor (q : Plot) (plan : Nat) : List Req :=
  q.mail.held.filter (fun r => r.opcode == opStepRun && r.phase == .started && fieldAt r.payload 0 4 == plan &&
    !q.running.any (fun st => st.slot == r.slot))

/-- Whether a plan is running or queued. -/
def Plot.planActive (q : Plot) (plan : Nat) : Bool := (q.runOf plan).isSome || !(q.queuedFor plan).isEmpty

/-- Remove a plan: its semaphores and pins are free, and its granules go to zeroing. -/
def State.removePlan (s : State) (p plan : Nat) : State :=
  match (s.plot p).plans.find plan with
  | none => s
  | some pl =>
    (s.updMem (fun m => m.release p false pl.runs)).updPlot p (fun q => { q with plans := q.plans.erase plan, ahead := q.ahead.erase plan })

/-- PLAN_DROP. -/
def execPlanDrop (plot : Nat) (s : State) : Out :=
  .next (s.serve plot opPlanDrop (fun _ => true) (fun r s =>
    let plan := fieldAt r.payload 0 4
    match (s.plot plot).plans.find plan with
    | none => s.refuse plot r stNotPermitted
    | some _ =>
      if (s.plot plot).planActive plan || (s.plot plot).policyNames plan then s.refuse plot r stPlanBusy
      else (s.removePlan plot plan).ok plot r []))

end Sys2Proof.Machine
end

