-- ==== Sys2Proof/Machine/Special.lean ====
section
/-! DEFINITION. The special functions of the Rill (R110, R111): each result is the exact one for its FP32 operand, rounded
once to nearest even. The transcendental ones are computed in fixed point with some 500 fractional bits and rounded from
there. DEDUCED: no FP32 operand has a result so near to a rounding boundary that these bits do not settle it. -/

namespace Sys2Proof.Machine

/-- Fractional bits of the fixed-point values below. -/
def fixBits : Nat := 544

/-- One in fixed point. -/
def fixOne : Int := 2 ^ fixBits

/-- The product of two fixed-point values. -/
def fixMul (a b : Int) : Int := a * b / fixOne

/-- The series a + a·z/k₁ + …, where term i + 1 is term i times `z` divided by `den i`. -/
def fixSeries (z : Int) (den : Nat → Int) : Nat → Nat → Int → Int → Int
  | 0, _, _, acc => acc
  | fuel + 1, i, term, acc =>
    let next := fixMul term z / den i
    fixSeries z den fuel (i + 1) next (acc + next)

/-- Σ z^(2k+1) / (2k+1), with `sign` −1 for alternating signs: atanh and atan. -/
def fixAtan (sign : Int) (z : Int) : Nat → Nat → Int → Int → Int
  | 0, _, _, acc => acc
  | fuel + 1, k, power, acc =>
    fixAtan sign z fuel (k + 1) (sign * fixMul (fixMul power z) z) (acc + power / ((2 * k + 1 : Nat) : Int))

/-- ln 2 = 2 atanh(1/3). -/
def fixLn2 : Int := 2 * fixAtan 1 (fixOne / 3) 180 0 (fixOne / 3) 0

/-- 2π = 8 (4 atan(1/5) − atan(1/239)). -/
def fixTwoPi : Int :=
  8 * (4 * fixAtan (-1) (fixOne / 5) 125 0 (fixOne / 5) 0 - fixAtan (-1) (fixOne / 239) 40 0 (fixOne / 239) 0)

/-- A finite value in fixed point. -/
def fixOf (neg : Bool) (m : Nat) (e : Int) : Int :=
  let v : Int := if 0 ≤ e + fixBits then (m * 2 ^ (e + fixBits).toNat : Nat) else (m / 2 ^ (-(e + fixBits)).toNat : Nat)
  if neg then -v else v

/-- A fixed-point value times 2^x, rounded once to FP32. -/
def fixRound (v x : Int) : W32 :=
  BitVec.ofNat 32 (roundWide fmtFp32 .nearest (decide (v < 0)) v.natAbs 1 (x - fixBits))

/-- +Inf and −Inf in FP32. -/
def inf32 : W32 := 0x7F800000
def negInf32 : W32 := 0xFF800000

/-- 2^x. -/
def exp2Of (w : W32) : W32 :=
  match f32 w with
  | .nan => nan32
  | .inf neg => if neg then 0 else inf32
  | .fin neg m e =>
    if m = 0 then 0x3F800000
    else if 7 ≤ floorLog2 m 1 e ∧ neg = false then inf32
    else if 8 ≤ floorLog2 m 1 e then 0
    else
      let x := fixOf neg m e
      let i := x / fixOne
      let y := fixMul (x - i * fixOne) fixLn2
      fixRound (fixSeries y (fun k => ((k + 1 : Nat) : Int)) 100 0 fixOne fixOne) i

/-- log2 x. -/
def log2Of (w : W32) : W32 :=
  match f32 w with
  | .nan => nan32
  | .inf neg => if neg then nan32 else inf32
  | .fin neg m e =>
    if m = 0 then negInf32
    else if neg then nan32
    else
      let k := m.log2
      let whole : Int := e + k
      if m = 2 ^ k then (Num.ofInt whole).toF32
      else
        let z : Int := ((m - 2 ^ k : Nat) : Int) * fixOne / ((m + 2 ^ k : Nat) : Int)
        fixRound (whole * fixOne + 2 * fixAtan 1 z 180 0 z 0 * fixOne / fixLn2) 0

/-- 1 / x. -/
def recipOf (w : W32) : W32 := fdiv 0x3F800000 w

/-- 1 / √x: the root of 2^400 / x in integers, with a sticky bit below it. -/
def rsqrtOf (w : W32) : W32 :=
  match f32 w with
  | .nan => nan32
  | .inf neg => if neg then nan32 else 0
  | .fin neg m e =>
    if m = 0 then (if neg then negInf32 else inf32)
    else if neg then nan32
    else
      let n := if e % 2 = 0 then m else 2 * m
      let g := if e % 2 = 0 then e else e - 1
      let r := isqrt (2 ^ 400 / n)
      let sticky := if r * r * n = 2 ^ 400 then 0 else 1
      BitVec.ofNat 32 (roundWide fmtFp32 .nearest false (2 * r + sticky) 1 (-201 - g / 2))

/-- The angle modulo 2π, in fixed point. -/
def fixAngle (neg : Bool) (m : Nat) (e : Int) : Int := fixOf neg m e % fixTwoPi

/-- sin x, x in radians. -/
def sinOf (w : W32) : W32 :=
  match f32 w with
  | .fin neg m e =>
    if m = 0 then w
    else
      let x := fixAngle neg m e
      fixRound (fixSeries (-(fixMul x x)) (fun k => (((2 * k + 2) * (2 * k + 3) : Nat) : Int)) 90 0 x x) 0
  | _ => nan32

/-- cos x, x in radians. -/
def cosOf (w : W32) : W32 :=
  match f32 w with
  | .fin neg m e =>
    let x := fixAngle neg m e
    fixRound (fixSeries (-(fixMul x x)) (fun k => (((2 * k + 1) * (2 * k + 2) : Nat) : Int)) 90 0 fixOne fixOne) 0
  | _ => nan32

end Sys2Proof.Machine
end

