-- ==== Sys2Proof/Machine/Optimiser.lean ====
section
/-! DEFINITION. The optimiser and the Belvedere (chapter 07): the parts of an adapter's record and state, the
schedule and the element update of R193, the ratios and events of R195 to R199, and BELVEDERE_CFG. -/

namespace Sys2Proof.Machine

/-! ### The parts of a TRAIN record (R236, R237, R294) -/

/-- One tensor of a TRAIN record: its elements, and the addresses of WA, W, M, V and CMP. -/
structure Part where
  elems : Nat
  wa : Nat
  w : Nat
  m : Nat
  v : Nat
  cmp : Nat
  deriving DecidableEq, Repr

/-- The parts of a layout: the array places from an address and the state places from another. -/
def partsAt (ts : List ArrayTensor) (array state : Nat) : List Part :=
  let ap := (arrayPlaces ts).1
  let sp := (statePlaces ts).1
  ((List.range ts.length).zip ts).map (fun e =>
    { elems := e.2.elems, wa := array + (ap.getD e.1 0x100 - 0x100), w := state + sp.getD (4 * e.1) 0,
      m := state + sp.getD (4 * e.1 + 1) 0, v := state + sp.getD (4 * e.1 + 2) 0, cmp := state + sp.getD (4 * e.1 + 3) 0 })

/-- The binding whose range is the absorbed stage's layers. -/
def Adapter.absorbedBinding (a : Adapter) (b : Binding) : Binding :=
  { b with firstLayer := a.absorbedFirst, lastLayer := a.absorbedLast }

/-- Where the absorbed section and the absorbed state of a rebuilt record start. -/
def Adapter.absorbedArray (a : Adapter) : Nat := a.resAddr + roundUp (0x100 + a.arrayBytes) 128
def Adapter.absorbedState (a : Adapter) (b : Binding) : Nat := a.stateAddr + roundUp (statePlaces (a.tensors b)).2 128

/-- The parts of an adapter's record, the absorbed ones last. -/
def Adapter.parts (a : Adapter) (b : Binding) : List Part :=
  partsAt (a.tensors b) (a.resAddr + 0x100) a.stateAddr ++
  (if a.absorbed = 255 then [] else
    partsAt (a.tensors (a.absorbedBinding b)) a.absorbedArray (a.absorbedState b))

/-! ### The parameter block (Table STP-2) -/

/-- An FP32 field, and an unsigned field, of an adapter's parameter block. -/
def State.paramWord (s : State) (a : Adapter) (off : Nat) : W32 := BitVec.ofNat 32 (s.mem.readNat (a.resAddr + 0x80 + off) 4)
def State.paramNat (s : State) (a : Adapter) (off : Nat) : Nat := s.mem.readNat (a.resAddr + 0x80 + off) 4

/-! ### R193 -/

/-- The per-adapter scalars. -/
structure Scalars where
  t : Nat
  lr : W32
  a1 : W32
  a2 : W32
  c1 : W32
  c2 : W32
  b1pow : W32
  b2pow : W32
  deriving DecidableEq, Repr

/-- 3.14159265, 0.5 and 1.0 as FP32. -/
def piWord : W32 := 0x40490FDB
def halfWord : W32 := 0x3F000000
def oneWord : W32 := 0x3F800000

/-- The learning rate of update `t` (R193). -/
def learningRate (peak least : W32) (warmup decay t : Nat) : W32 :=
  if 0 < warmup ∧ t ≤ warmup then fdiv (fmul peak (fnat t)) (fnat warmup)
  else if decay = 0 then peak
  else if decay ≤ t - warmup then least
  else
    let h := fmul halfWord (fsub peak least)
    ffma h (fadd oneWord (cosOf (fdiv (fmul piWord (fnat (t - warmup))) (fnat decay)))) least

/-- The scalars of an adapter's next update. -/
def State.scalars (s : State) (a : Adapter) : Scalars :=
  let t := s.paramNat a 0 + 1
  let b1 := fmul (s.paramWord a 0x2C) (s.paramWord a 0x14)
  let b2 := fmul (s.paramWord a 0x30) (s.paramWord a 0x18)
  { t := t, lr := learningRate (s.paramWord a 4) (s.paramWord a 8) (s.paramNat a 0x0C) (s.paramNat a 0x10) t
    a1 := fsub oneWord (s.paramWord a 0x14), a2 := fsub oneWord (s.paramWord a 0x18)
    c1 := fsub oneWord b1, c2 := fsub oneWord b2, b1pow := b1, b2pow := b2 }

/-- The clip of a gradient element. -/
def clipElem (clip g : W32) : W32 :=
  if fgt clip 0 then (((f32 g).max2 (f32 clip).neg).min2 (f32 clip)).toF32 else g

/-- The state of one element. -/
structure ElemState where
  w : W32
  m : W32
  v : W32
  cmp : W32
  deriving DecidableEq, Repr

/-- The element update. -/
def adamElem (x : ElemState) (g b1 b2 eps wd clip : W32) (k : Scalars) : ElemState :=
  let g := clipElem clip g
  let m := ffma b1 x.m (fmul k.a1 g)
  let v := ffma b2 x.v (fmul k.a2 (fmul g g))
  let q := fdiv (fdiv m k.c1) (fadd (fsqrt (fdiv v k.c2)) eps)
  let d := fmul (fneg k.lr) (ffma wd x.w q)
  let y := fadd d x.cmp
  let w := fadd x.w y
  { w := w, m := m, v := v, cmp := fsub y (fsub w x.w) }

/-- One element of a part: what is read, whether any source line is poisoned, and what is written. The pair
(w − w_old)², w_old² goes to the sums of R195. -/
def State.updateElem (s : State) (a : Adapter) (k : Scalars) (p : Part) (i : Nat) (g : W32) (gPoison : Bool) :
    State × W32 × W32 :=
  let word (base : Nat) : W32 := BitVec.ofNat 32 (s.mem.readNat (base + 4 * i) 4)
  let bad := gPoison || [p.w, p.m, p.v, p.cmp].any (fun b => s.mem.poisonedIn (b + 4 * i) 4)
  let old : ElemState := { w := word p.w, m := word p.m, v := word p.v, cmp := word p.cmp }
  let new := adamElem old g (s.paramWord a 0x14) (s.paramWord a 0x18) (s.paramWord a 0x1C) (s.paramWord a 0x20)
    (s.paramWord a 0x24) k
  let put (m : Mem) (at_ : Nat) (bs : Bytes) : Mem :=
    let m := m.write at_ bs
    if bad then m.poisonLine (at_ / 64) else m
  let s := s.updMem (fun m =>
    let m := put m (p.w + 4 * i) (natLE 4 new.w.toNat)
    let m := put m (p.m + 4 * i) (natLE 4 new.m.toNat)
    let m := put m (p.v + 4 * i) (natLE 4 new.v.toNat)
    let m := put m (p.cmp + 4 * i) (natLE 4 new.cmp.toNat)
    put m (p.wa + 2 * i) (natLE 2 ((f32 new.w).toWide fmtBf16 .nearest)))
  let d := fsub new.w old.w
  (s, fmul d d, fmul old.w old.w)

/-! ### The reduced gradient of a tensor -/

/-- The elements of a tile's destination view: the index in the tensor, row-major, the reduced value, and
whether its line is poisoned. -/
def State.reducedElems (s : State) (pl : Plan) (p : Nat) (t : Tile) : List (Nat × W32 × Bool) :=
  let x := pl.viewAt t.dstView
  let cx : OpCtx := { plot := p, pav := t.pav, lanes := [] }
  (List.range x.1.size).filterMap (fun n => (x.1.inBounds x.2 (x.1.index n)).map (fun i =>
    let e := s.tensorElem cx x.2 i
    (i.getD 0 0 + x.2.dims.getD 0 1 * (i.getD 1 0 + x.2.dims.getD 1 1 * (i.getD 2 0 + x.2.dims.getD 2 1 * i.getD 3 0)),
     BitVec.ofNat 32 e.code, e.poisoned)))

/-- The tensor identifiers of an adapter in a step's tiles, ascending. -/
def Step.tensorsOf (st : Step) (h : Nat) : List Nat :=
  sortBy (fun a b => decide (a < b)) (((st.tiles.filter (fun t => t.adapter == h)).map (·.tensor)).eraseDups)

/-- The tiles of a tensor of an adapter in ascending element order. -/
def Step.tilesFor (st : Step) (h tensor : Nat) : List Tile :=
  sortBy (fun a b => decide (a.indexBase < b.indexBase)) (st.tiles.filter (fun t => t.adapter == h && t.tensor == tensor))

/-- Update a run of elements; the terms of the two sums in order. -/
def State.updateRun (s : State) (a : Adapter) (k : Scalars) (p : Part) (es : List (Nat × W32 × Bool)) :
    State × List W32 × List W32 :=
  es.foldl (fun x e =>
    let y := x.1.updateElem a k p e.1 e.2.1 e.2.2
    (y.1, x.2.1 ++ [y.2.1], x.2.2 ++ [y.2.2])) (s, [], [])

/-- Sum the terms of a tile in the fixed tree (R110, R195). -/
def tileSum (ws : List W32) : W32 := treeSum 13 (ws ++ List.replicate (8192 - ws.length) 0)

/-- Cut a list into pieces of a length, at most `fuel` of them. -/
def piecesOf {α : Type} (n : Nat) : Nat → List α → List (List α)
  | 0, _ => []
  | fuel + 1, l => if l.isEmpty then [] else l.take n :: piecesOf n fuel (l.drop n)

/-- The elements that no tile covers, as tiles of their own: runs of consecutive elements that end at the 8,192-element
boundaries of the tensor. -/
def gapTiles : List Nat → List (List Nat)
  | [] => []
  | i :: l =>
    match gapTiles l with
    | (j :: r) :: rs => if j = i + 1 ∧ j % 8192 ≠ 0 then (i :: j :: r) :: rs else [i] :: (j :: r) :: rs
    | rs => [i] :: rs

/-- The tiles of a tensor in ascending element order (R195): index, gradient and its poison. An element that no tile
covers has the gradient +0.0. -/
def State.tensorTiles (s : State) (p : Nat) (pl : Plan) (st : Step) (h tensor elems : Nat) : List (List (Nat × W32 × Bool)) :=
  let runs := (st.tilesFor h tensor).map (fun x => (s.reducedElems pl p x).filter (fun e => decide (e.1 < elems)))
  let covered := (runs.flatten).map (·.1)
  let gaps := gapTiles ((List.range elems).filter (fun i => !covered.contains i))
  let first (r : List (Nat × W32 × Bool)) : Nat := match r with | e :: _ => e.1 | [] => 0
  let tiles := (runs.map (fun r => piecesOf 8192 (r.length + 1) r)).flatten
  sortBy (fun a b => decide (first a < first b)) (tiles ++ gaps.map (fun g => g.map (fun i => (i, (0 : W32), false))))

/-- Update one tensor of an adapter: D2 and W2 (R195). -/
def State.updateTensor (s : State) (p : Nat) (pl : Plan) (st : Step) (a : Adapter) (k : Scalars) (part : Part) (tensor : Nat) :
    State × W32 × W32 :=
  (s.tensorTiles p pl st a.handle tensor part.elems).foldl
    (fun x es =>
      let y := x.1.updateRun a k part es
      (y.1, fadd x.2.1 (tileSum y.2.1), fadd x.2.2 (tileSum y.2.2))) (s, 0, 0)

/-! ### The Belvedere (R196 to R198) -/

/-- An infinity as FP32. -/
def infWord : W32 := 0x7F800000

/-- The ratio of an update (R196). -/
def ratioOf (d2 w2 : W32) : W32 :=
  if !finite32 d2 || !finite32 w2 then nan32
  else if w2 = 0 ∧ d2 = 0 then 0
  else if w2 = 0 then infWord
  else fsqrt (fdiv d2 w2)

/-- An event that concerns a tensor of an adapter. -/
def belEvent (kind tensor adapter updates : Nat) (value threshold : W32) (nonfinite : Nat) : BelEvent :=
  { kind := kind, tensor := tensor, adapter := adapter, updates := updates, value := value.toNat,
    threshold := threshold.toNat, nonfinite := nonfinite }

/-- The stall counter after an update, and whether it reached STALL_STEPS (R198). -/
def stallAfter (b : BelSettings) (ratio : W32) (finite : Bool) (count : Nat) : Nat × Bool :=
  if finite = false then (count, false)
  else if fgt (BitVec.ofNat 32 b.ratioLow) ratio then
    (if b.stallSteps ≤ count + 1 then (0, true) else (count + 1, false))
  else (0, false)

/-- The events of one tensor's update; `fresh` says that W2 is zero and D2 is not, which never raises an alarm (R196). A
RATIO_HIGH of 0, of either sign, disables its alarm. -/
def ratioEvents (b : BelSettings) (ratio : W32) (finite fresh wBad stalled : Bool) (tensor adapter updates bad : Nat) : List BelEvent :=
  let armed := decide (b.warmup < updates)
  (if armed && finite && !fresh && fgt (BitVec.ofNat 32 b.ratioHigh) 0 && fgt ratio (BitVec.ofNat 32 b.ratioHigh) then
     [belEvent 3 tensor adapter updates ratio (BitVec.ofNat 32 b.ratioHigh) 0] else []) ++
  (if armed && stalled then [belEvent 4 tensor adapter updates ratio (BitVec.ofNat 32 b.ratioLow) 0] else []) ++
  (if wBad || !finite then [belEvent 7 tensor adapter updates ratio 0 bad] else [])

/-- Elements of W that are not finite. -/
def State.badWeights (s : State) (part : Part) : Nat :=
  ((List.range part.elems).filter (fun i => !finite32 (BitVec.ofNat 32 (s.mem.readNat (part.w + 4 * i) 4)))).length

/-- Change a running step of a plot. -/
def State.updStep (s : State) (p plan : Nat) (f : Step → Step) : State :=
  s.updPlot p (fun q => { q with running := q.running.map (fun st => if st.plan = plan then f st else st) })

/-- Apply the update of one tensor and form its ratio and events. -/
def State.applyTensor (s : State) (p : Nat) (pl : Plan) (st : Step) (a : Adapter) (k : Scalars) (part : Part) (tensor : Nat) :
    State :=
  let y := s.updateTensor p pl st a k part tensor
  let ratio := ratioOf y.2.1 y.2.2
  let finite := finite32 y.2.1 && finite32 y.2.2
  let s := (y.1.chargeRead p part.w (20 * part.elems)).chargeWrite p part.w (18 * part.elems)
  let bad := s.badWeights part
  let z := stallAfter st.bel ratio finite (((s.plot p).adapters.find a.handle).elim 0 (fun a => a.stall.get 0 tensor))
  (s.updAdapter p a.handle (fun a => { a with stall := a.stall.set tensor z.1 })).updStep p pl.handle (fun x => { x with
    ratios := x.ratios ++ [(a.handle, tensor, ratio.toNat, z.1)]
    events := x.events ++ ratioEvents st.bel ratio finite (finite && y.2.2 == 0 && y.2.1 != 0) (bad != 0) z.2 tensor a.handle k.t bad })

/-! ### The copy-on-write of a snapshot image (R312, R314) -/

/-- The byte ranges of an adapter's part of an image: PARAMS, the state section and the array section, each
with the absorbed stage's after it. -/
def Adapter.imageRanges (a : Adapter) (b : Binding) : List (Nat × Nat) :=
  let ab := a.absorbedBinding b
  let more (base n : Nat) : List (Nat × Nat) := if a.absorbed = 255 then [] else [(base, n)]
  [(a.resAddr + 0x80, 64), (a.stateAddr, (statePlaces (a.tensors b)).2)] ++
  more (a.absorbedState b) (statePlaces (a.tensors ab)).2 ++
  [(a.resAddr + 0x100, a.arrayBytes)] ++ more a.absorbedArray (arrayPlaces (a.tensors ab)).2

/-- Bytes of an adapter's part. -/
def Adapter.imagePart (a : Adapter) (b : Binding) : Nat := ((a.imageRanges b).map (·.2)).sum

/-- The adapters of a plan in directory order: ascending handle. -/
def Plot.imaged (q : Plot) (pl : Plan) : List Adapter :=
  (sortBy (fun a b => decide (a < b)) pl.adapters).filterMap (fun h => q.adapters.find h)

/-- Bytes of a plan's image. -/
def Plot.imageBytes (q : Plot) (b : Binding) (pl : Plan) : Nat :=
  128 + 64 * (q.imaged pl).length + ((q.imaged pl).map (fun a => a.imagePart b)).sum + 64

/-- States of a partnership (R315). -/
def partnerStreaming : Nat := 0
def partnerIdle : Nat := 1
def partnerLost : Nat := 2
def partnerOrphaned : Nat := 3

/-- Whether a partnership images a plan on this module. -/
def Partner.sources (x : Partner) (plan : Nat) : Bool := x.formed && x.role == 0 && x.plan == plan && x.state != partnerLost

/-- Copy an adapter's lines, as the image in flight of a partnership holds them, into its reserve, before the first
write to them (R312). DESIGN CHOICE: they stand at their place in the image. -/
def State.keepLines (s : State) (p : Nat) (pl : Plan) (b : Binding) (a : Adapter) (x : Partner) : State :=
  let as := (s.plot p).imaged pl
  let before := as.takeWhile (fun y => y.handle != a.handle)
  let off := 128 + 64 * as.length + (before.map (fun y => y.imagePart b)).sum
  let n := a.imagePart b
  if x.sources pl.handle && x.streamStep.isSome && decide (x.streamBytes < off + n) && decide (off + n ≤ x.image.length) &&
      decide (off + n ≤ x.len) && !x.kept.contains a.handle then
    let s := (s.updMem (fun m => m.write (x.addr + off) ((x.image.drop off).take n))).updPlot p (fun q => { q with
      partners := q.partners.mapVals (fun y => if y.handle = x.handle then { y with kept := y.kept ++ [a.handle] } else y) })
    (s.chargeRead p a.resAddr n).chargeWrite p (x.addr + off) n
  else s

/-- What precedes the update of an adapter: its marked lines are kept for every image in flight. -/
def State.keepMarked (s : State) (p : Nat) (pl : Plan) (b : Binding) (a : Adapter) : State :=
  (s.plot p).partners.foldl (fun t e => t.keepLines p pl b a e.2) s

/-- The tensor identifiers of an adapter's parts, in their order: those of the step's tiles, ascending. DESIGN CHOICE: where
a plan has fewer of them than the record has tensors, the others follow on from the last. -/
def Step.partTensors (st : Step) (h parts : Nat) : List Nat :=
  let ids := st.tensorsOf h
  let next := match ids.getLast? with | some i => i + 1 | none => 0
  ids ++ (List.range (parts - ids.length)).map (fun k => (next + k) % 65536)

/-- Apply one adapter's update: every tensor in ascending identifier, then UPDATES and the powers. -/
def State.applyAdapter (s : State) (p : Nat) (pl : Plan) (st : Step) (a : Adapter) (b : Binding) : State :=
  let s := s.keepMarked p pl b a
  let k := s.scalars a
  let parts := a.parts b
  let s := ((st.partTensors a.handle parts.length).zip parts).foldl (fun t x => t.applyTensor p pl st a k x.2 x.1) s
  let at_ := a.resAddr + 0x80
  s.updMem (fun m => ((m.write at_ (natLE 4 k.t)).write (at_ + 0x2C) (natLE 4 k.b1pow.toNat)).write (at_ + 0x30)
    (natLE 4 k.b2pow.toNat))

/-- The event of a skipped adapter: kind 2 when its own reduced tiles show only C = 0, kind 1 otherwise. -/
def Step.skipEvent (st : Step) (h updates : Nat) : BelEvent :=
  let ts := st.tiles.filter (fun t => t.adapter == h)
  let fin := ts.filterMap (·.final)
  let bad := (ts.map (fun t => (t.data.filter (fun e => !finite32 e.2)).length)).sum
  let kind := if fin.any (fun w => w.c == 0) && !fin.any (·.nonfinite) then 2 else 1
  belEvent kind 0xFFFF h updates 0 0 bad

/-- Whether a record or its state section holds a poisoned line. -/
def State.recordBad (s : State) (a : Adapter) (b : Binding) : Bool :=
  s.mem.poisonedIn a.resAddr (0x100 + a.arrayBytes) || s.mem.poisonedIn a.stateAddr (statePlaces (a.tensors b)).2

/-- One adapter of a plan at its step's update (R191, R193, R194): skipped with its event, left as it is when
FROZEN or POISONED, or updated. -/
def State.stepAdapter (p : Nat) (pl : Plan) (st : Step) (skip : List Nat) (s : State) (h : Nat) : State :=
  match (s.plot p).adapters.find h, (s.plot p).binding with
  | some a, some b =>
    if skip.contains h then
      (s.updAdapter p h (fun a => { a with skipped := a.skipped + 1 })).updStep p pl.handle (fun x => { x with
        skipped := x.skipped ++ [h], events := x.events ++ [st.skipEvent h (s.paramNat a 0)] })
    else
      let s := if s.recordBad a b then s.recordPoison p h else s
      let bad := match (s.plot p).adapters.find h with | some a => a.state == .poisoned || a.state == .stale | none => true
      let s := if bad || bitOf (s.paramNat a 0x34) 0 then s else s.applyAdapter p pl st a b
      s.updStep p pl.handle (fun x => { x with updated := x.updated ++ [h] })
  | _, _ => s.updStep p pl.handle (fun x => { x with updated := x.updated ++ [h] })

/-- Whether every tile of a step has landed. -/
def Step.landed (st : Step) : Bool := st.tiles.all (fun t => t.phase == 7)

/-- OPTIMISER_UPDATE (R191, R193, R195): once the member holds the skip set, its adapters are updated in
ascending order of handle. -/
def execOptimiserUpdate (plot plan : Nat) (s : State) : Out :=
  match (s.plot plot).runOf plan, (s.plot plot).plans.find plan with
  | some st, some pl =>
    match st.skipSet with
    | none => .next s
    | some skip =>
      if pl.header.workload = 0 ∧ st.landed = true ∧ st.stopped = false ∧ st.updated = [] ∧ st.skipped = [] then
        .next ((sortBy (fun a b => decide (a < b)) pl.adapters).foldl (State.stepAdapter plot pl st skip) s)
      else .next s
  | _, _ => .next s

/-! ### Histograms (R196, R198) -/

/-- The underflow event of a gradient tensor at a step's end: elements whose exponent field lies below
UFLOW_EXP, per million of the elements counted. -/
def AbsHist.underflow (x : AbsHist) (b : BelSettings) (tensor : Nat) : List BelEvent :=
  let low := ((x.bins.filter (fun e => decide (e.1 < b.uflowExp))).map (·.2)).sum
  let total := (x.bins.map (·.2)).sum + x.zero + x.nonfinite
  if x.gradient && b.uflowExp != 0 && decide (b.uflowPpm * total < low * 1000000) then
    [belEvent 5 tensor 0xFFFFFFFF 0 (BitVec.ofNat 32 (roundWide fmtFp32 .nearest false (low * 1000000) total 0)) (fnat b.uflowPpm)
      x.nonfinite]
  else []

/-- Add an event once for each kind, adapter and tensor of a step. -/
def addEvent (es : List BelEvent) (e : BelEvent) : List BelEvent :=
  if es.any (fun x => x.kind == e.kind && x.tensor == e.tensor && x.adapter == e.adapter) then es else es ++ [e]

/-- The order of R199. -/
def BelEvent.before (a b : BelEvent) : Bool :=
  decide (a.adapter < b.adapter) || (a.adapter == b.adapter &&
    (decide (a.tensor < b.tensor) || (a.tensor == b.tensor && decide (a.kind < b.kind))))

/-- The body of an event (Table STP-5). -/
def BelEvent.body (e : BelEvent) (step tick : Nat) : Bytes :=
  natLE 2 e.kind ++ natLE 2 e.tensor ++ natLE 4 e.adapter ++ natLE 8 step ++ natLE 4 e.updates ++ natLE 4 e.value ++
  natLE 4 e.threshold ++ natLE 4 e.nonfinite ++ natLE 8 tick ++ natLE 8 0

/-- The events that a step posts: those that the mask enables, in order; beyond 1,024 the first 1,023 and
one of kind 8 (R197, R199). -/
def postedEvents (b : BelSettings) (es : List BelEvent) : List BelEvent :=
  let l := sortBy BelEvent.before (es.filter (fun e => bitOf b.eventMask (e.kind - 1)))
  if l.length ≤ 1024 then l else l.take 1023 ++ [belEvent 8 0xFFFF 0xFFFFFFFF 0 (fnat (l.length - 1023)) 0 0]

/-! ### BELVEDERE_CFG (R197) -/

/-- The settings of a request (Table STP-3). -/
def parseBel (pl : Bytes) : BelSettings :=
  { warmup := fieldAt pl 2 2, ratioHigh := fieldAt pl 4 4, ratioLow := fieldAt pl 8 4, stallSteps := fieldAt pl 0x0C 2,
    uflowExp := fieldAt pl 0x0E 1, uflowPpm := fieldAt pl 0x10 4, eventMask := fieldAt pl 0x14 4 }

/-- The settings in the layout of the request. -/
def BelSettings.body (b : BelSettings) : Bytes :=
  natLE 2 0 ++ natLE 2 b.warmup ++ natLE 4 b.ratioHigh ++ natLE 4 b.ratioLow ++ natLE 2 b.stallSteps ++ natLE 1 b.uflowExp ++
  natLE 1 0 ++ natLE 4 b.uflowPpm ++ natLE 4 b.eventMask ++ natLE 8 0

/-- Whether a threshold is finite and not negative; −0 is no negative value. -/
def thresholdHolds (w : Nat) : Bool :=
  finite32 (BitVec.ofNat 32 w) && !fgt 0 (BitVec.ofNat 32 w)

/-- Whether settings hold (Table STP-4). -/
def BelSettings.holds (b : BelSettings) : Bool :=
  thresholdHolds b.ratioHigh && thresholdHolds b.ratioLow &&
  (!fgt (BitVec.ofNat 32 b.ratioLow) (BitVec.ofNat 32 b.ratioHigh) || !fgt (BitVec.ofNat 32 b.ratioHigh) 0) &&
  b.stallSteps != 0 && decide (b.uflowPpm ≤ 1000000)

/-- BELVEDERE_CFG that sets: each plan's next step takes the settings (R197). -/
def execBelvedereCfg (plot : Nat) (s : State) : Out :=
  .next (s.serve plot opBelvedereCfg (fun pl => !bitOf (fieldAt pl 0 1) 0) (fun r s =>
    let b := parseBel r.payload
    if b.holds = false then s.refuse plot r stNotPermitted
    else (s.updPlot plot (fun q => { q with bel := b })).ok plot r b.body))

/-- BELVEDERE_CFG with QUERY: the settings, and no change. -/
def execBelvedereCfgQuery (plot : Nat) (s : State) : Out :=
  .next (s.serve plot opBelvedereCfg (fun pl => bitOf (fieldAt pl 0 1) 0) (fun r s =>
    s.ok plot r (s.plot plot).bel.body))

/-! ### TELEMETRY_READ classes HISTOGRAM and RATIOS (R426, R427) -/

/-- A histogram record (Table MGT-3). -/
def AbsHist.record (x : AbsHist) (tensor step : Nat) : Bytes :=
  natLE 2 tensor ++ natLE 2 0 ++ natLE 4 x.zero ++ natLE 4 x.nonfinite ++ natLE 4 0 ++ natLE 8 step ++ natLE 8 0 ++
  ((List.range 256).map (fun i => natLE 4 (x.bins.get 0 i))).flatten

/-- A ratio record. -/
def ratioRecord (x : Nat × Nat × Nat × Nat) : Bytes :=
  natLE 4 x.1 ++ natLE 2 x.2.1 ++ natLE 2 0 ++ natLE 4 x.2.2.1 ++ natLE 4 x.2.2.2

/-- The records that fit whole into a buffer. -/
def fitRecords : Nat → List Bytes → List Bytes
  | _, [] => []
  | room, r :: rs => if r.length ≤ room then r :: fitRecords (room - r.length) rs else []

/-- Answer a TELEMETRY_READ whose class and PLOT hold: the data goes to the plot's memory, or, in plot 0's
area, to the management service's buffer of 16 MiB. `after` removes what CONSUME takes, of the number returned. -/
def State.telemetry (s : State) (p : Nat) (r : Req) (records : List Bytes) (after : Nat → State → State) : State :=
  let dst := fieldAt r.payload 8 8
  let room := fieldAt r.payload 0x10 8
  if (if p = 0 then dst != 0 else !s.inWindows p dst room) then s.refuse p r stNotPermitted
  else
    let fit := fitRecords (if p = 0 then min room 0x1000000 else room) records
    let data := fit.flatten
    let s := if p = 0 then s.emit (.mgmtData data) else s.updMem (fun m => m.write dst data)
    (after fit.length s).ok p r (natLE 8 data.length ++ natLE 4 fit.length ++ natLE 4 (b2n (fit.length != records.length)))

/-- Serve a TELEMETRY_READ of a class that names a plot. -/
def State.serveStepData (s : State) (p cls : Nat) (records : Nat → Nat → State → List Bytes)
    (after : Nat → Nat → Nat → State → State) : State :=
  s.serve p opTelemetryRead (fun pl => fieldAt pl 0 1 == cls) (fun r s =>
    let named := fieldAt r.payload 2 1
    if (if p = 0 then named == 0 || decide (16 < named) else named != 0) then s.refuse p r stNotPermitted
    else
      let q := if p = 0 then named else p
      let sel := fieldAt r.payload 4 4
      s.telemetry p r (records q sel s) (fun n t => if bitOf (fieldAt r.payload 1 1) 0 then after q sel n t else t))

/-- HISTOGRAM. -/
def execHistogram (plot : Nat) (s : State) : Out :=
  .next (s.serveStepData plot 6
    (fun q sel s => ((s.plot q).hist.filter (fun e => sel == 0xFFFFFFFF || e.1 == sel)).map (fun e => e.2.record e.1 (s.plot q).lastStep))
    (fun q sel n s => s.updPlot q (fun x =>
      let gone := ((x.hist.filter (fun e => sel == 0xFFFFFFFF || e.1 == sel)).take n).map (·.1)
      { x with hist := x.hist.filter (fun e => !gone.contains e.1) })))

/-- RATIOS. -/
def execRatios (plot : Nat) (s : State) : Out :=
  .next (s.serveStepData plot 7
    (fun q sel s => ((s.plot q).ratios.filter (fun e => sel == 0xFFFFFFFF || e.1 == sel)).map ratioRecord)
    (fun q sel n s => s.updPlot q (fun x =>
      let gone := (x.ratios.filter (fun e => sel == 0xFFFFFFFF || e.1 == sel)).take n
      { x with ratios := x.ratios.filter (fun e => !gone.contains e) })))

end Sys2Proof.Machine
end

