-- ==== Sys2Proof/Machine/Steps.lean ====
section
/-! DEFINITION. Steps (R373, R382 to R385): queueing, starting, ending and stopping a step, the skip-set
exchange (R191), the relay (R229), and the snapshot image that a step's end marks (R312, R314). -/

namespace Sys2Proof.Machine

/-! ### Snapshot images (R314) -/

/-- A directory entry. -/
def Adapter.imageEntry (a : Adapter) (off n : Nat) : Bytes :=
  bytesAt (natLE 4 a.handle ++ natLE 1 a.rank ++ natLE 1 a.nexpert ++ natLE 2 0 ++ natLE 4 a.targets ++ natLE 4 0 ++
    natLE 8 off ++ natLE 8 n) 0 64

/-- The directory of a list of adapters whose first part starts at an offset. -/
def imageDirectory (b : Binding) : Nat → List Adapter → Bytes
  | _, [] => []
  | off, a :: as => a.imageEntry off (a.imagePart b) ++ imageDirectory b (off + a.imagePart b) as

/-- The 32 bytes of a SHA3-256 digest. -/
def shaBytes (bs : Bytes) : Bytes := natLE 32 (Config.sha3 bs)

/-- The image of a plan after a step (R314). -/
def State.imageOf (s : State) (p : Nat) (pl : Plan) (b : Binding) (jobTag step cursor : Nat) : Bytes :=
  let q := s.plot p
  let as := q.imaged pl
  let head := bytesAt (natLE 4 0x31504E53 ++ natLE 4 as.length ++ natLE 8 step ++ natLE 8 cursor ++ natLE 8 jobTag ++
    natLE 32 b.fp ++ natLE 2 b.firstLayer ++ natLE 2 b.lastLayer ++ natLE 4 0 ++ natLE 8 (q.imageBytes b pl)) 0 128
  let parts := (as.map (fun a => ((a.imageRanges b).map (fun r => s.mem.readBytes r.1 r.2)).flatten)).flatten
  let front := head ++ imageDirectory b (128 + 64 * as.length) as ++ parts
  front ++ natLE 8 step ++ natLE 8 cursor ++ shaBytes front ++ natLE 16 0

/-- The newest complete image that a partnership knows. -/
def Partner.newestImage (x : Partner) : Option (Nat × Nat) := x.images.getD x.newest none

/-- Begin an image: its bytes are fixed, and its stream starts at 0. -/
def Partner.begin (x : Partner) (step cursor : Nat) (im : Bytes) : Partner :=
  { x with state := partnerStreaming, streamStep := some step, streamCursor := cursor, streamBytes := 0, image := im, kept := [], owed := none }

/-- The cursor of a step: the largest DATA_INDEX_MAX of its lists. -/
def Step.cursor (st : Step) : Nat := st.lists.foldl (fun m l => max m l.dataIndexMax) 0

/-- The marks of a step's end (R312): an image for every partnership whose interval divides the step. One
that still streams delays the next, which is taken when the stream is done; no step of the plan starts before. -/
def State.markImages (s : State) (p : Nat) (pl : Plan) (st : Step) : State :=
  match (s.plot p).binding with
  | none => s
  | some b =>
    s.updPlot p (fun q => { q with partners := q.partners.mapVals (fun x =>
      if x.sources pl.handle && st.step % x.interval == 0 then
        (if x.streamStep.isSome then { x with owed := some (st.step, st.cursor) }
         else x.begin st.step st.cursor (s.imageOf p pl b x.jobTag st.step st.cursor))
      else x) })

/-! ### Streams of a plan on the Pavilions -/

/-- The key of a stream position. -/
def posKey (p plan queue : Nat) : Nat := p + 32 * (3 * plan + queue)

/-- The position of a stream: the next descriptor to fetch. -/
def Pavilion.position (v : Pavilion) (p plan queue : Nat) : Nat := v.positions.get 0 (posKey p plan queue)

/-- A queue of a Pavilion: 0 ARRAY, 1 RILL, 2 MOVE. -/
def Pavilion.queue (v : Pavilion) (k : Nat) : List QDesc := if k = 0 then v.array else if k = 1 then v.rill else v.move

/-- Replace a queue. -/
def Pavilion.setQueue (v : Pavilion) (k : Nat) (l : List QDesc) : Pavilion :=
  if k = 0 then { v with array := l } else if k = 1 then { v with rill := l } else { v with move := l }

/-- The stream of a plan on a Pavilion's queue. -/
def Plan.stream (pl : Plan) (pav queue : Nat) : List Bytes := pl.streams.get [] (3 * pav + queue)

/-- Whether a Pavilion holds a descriptor of a plan. -/
def Pavilion.holds (v : Pavilion) (p plan : Nat) : Bool :=
  (v.array ++ v.rill ++ v.move).any (fun d => d.plot == p && d.plan == plan)

/-- Whether every stream of a plan has run to its end. -/
def State.streamsDone (s : State) (p : Nat) (pl : Plan) : Bool :=
  pl.streams.all (fun e => (s.pav (e.1 / 3)).position p pl.handle (e.1 % 3) == e.2.length) &&
  s.pavs.all (fun e => !e.2.holds p pl.handle)

/-- Put the streams, the spans and the semaphores of a plan back to the beginning of a step (R118). -/
def State.rewind (s : State) (p : Nat) (pl : Plan) : State :=
  let s := { s with pavs := s.pavs.mapVals (fun v => { v with
    positions := [0, 1, 2].foldl (fun m k => m.erase (posKey p pl.handle k)) v.positions
    span := v.span.filter (fun x => !(x.plot == p && x.plan == pl.handle)) }) }
  s.updPlot p (fun q => { q with sems := pl.sems.foldl (fun m k => m.erase k) q.sems })

/-! ### STEP_RUN and STEP_START (R373, R382, R383) -/

/-- STEP_RUN: the request is queued for its plan; its checks are made when its turn comes. -/
def execStepRun (plot : Nat) (s : State) : Out :=
  .next (s.serve plot opStepRun (fun _ => true) (fun r s =>
    match (s.plot plot).plans.find (fieldAt r.payload 0 4) with
    | none => s.refuse plot r stNotPermitted
    | some _ => s.setPhase plot r.slot .started))

/-- The groups of a plan's header. -/
def PlanHeader.groups (h : PlanHeader) : List Nat := [h.rgroup, h.bgroup].filter (· != 0)

/-- Whether a group of a plot is ACTIVE. -/
def Plot.groupUp (q : Plot) (id : Nat) : Bool :=
  match q.groupById id with
  | some g => g.state == groupActive
  | none => false

/-- The step that a RESTORE fixes next for a plan, and whether a step number exceeds the ones started
(R317, R383). -/
def Plot.fixedStep (q : Plot) (pl : Plan) : Option Nat :=
  match pl.nextStep with
  | some n => some n
  | none => if pl.header.rgroup = 0 then none else q.groupNext.find pl.header.rgroup
def Plot.stepAbove (q : Plot) (pl : Plan) (step : Nat) : Bool :=
  if pl.header.rgroup = 0 then decide (pl.lastStep ≤ step)
  else match q.groupSteps.find pl.header.rgroup with | some n => decide (n < step) | none => true

/-- The status that refuses a step whose turn has come (R382). -/
def State.startStatus (s : State) (p : Nat) (pl : Plan) (step : Nat) : Option Nat :=
  let q := s.plot p
  let h := pl.header
  if pl.damaged then some stPlanMismatch
  else if pl.standby then some stNotPermitted
  else if (match q.binding with | some b => b.fp != h.baseFp | none => true) then some stStaleBase
  else if s.needFenced h.need then some stUnitFenced
  else if !h.groups.all q.groupUp then some stGroupLost
  else
    match q.fixedStep pl with
    | some n => if step = n then none else some stSnapshotMismatch
    | none => if q.stepAbove pl step then none else some stNotPermitted

/-- Whether a partnership holds a step: the next image is still to be taken (R312), or the step would leave the
newest complete image more than LOSS_BOUND steps behind (R313). With no complete image there is none to fall
behind. -/
def Partner.holdsStep (x : Partner) (plan step : Nat) : Bool :=
  x.sources plan && (x.owed.isSome || (x.lossBound != 0 &&
  (match x.newestImage with | some im => decide (im.1 + x.lossBound < step) | none => false)))

/-- An empty wave entry. -/
def WaveEntry.none (seq : Nat) : WaveEntry := { seq := seq, e := 0, c := 0, dropped := 0, nonfinite := false, poison := false }

/-- The tile of a reduce-table entry before its hand-off. -/
def ReduceEntry.tile (e : ReduceEntry) : Tile :=
  { seq := e.seq, pav := e.pav, gtile := e.gtile, adapter := e.adapter, tensor := e.tensor, indexBase := e.indexBase,
    dstView := e.dstView, data := [], poison := [], phase := 0, count := 0, dropped := 0, routes := [],
    own := WaveEntry.none e.seq, childWaves := [], sentWave := false, final := none, finalSent := [], words := [],
    childFrames := [], upSent := false, total := [], totalResidues := [], downHeld := [], downSent := [], exitLines := [],
    retries := [], failed := none }

/-- A step at its start. -/
def Step.begin (s : State) (p : Nat) (pl : Plan) (r : Req) : Step :=
  { plan := pl.handle, step := fieldAt r.payload 8 8, slot := r.slot, tag := r.tag, vector := r.vector, startTick := s.mod.tick,
    lists := [], building := none, stopped := false, ended := false, done := 0, tiles := pl.reduce.map (fun b => (parseReduce b).tile),
    skipFlags := [], childSkips := [], skipSent := false, skipSet := none, updated := [], skipped := [], errors := [], events := [],
    isVoid := false, redos := 0, droppedMbs := [], keep := false, earlyDue := false, bel := (s.plot p).bel, ratios := [], stopFor := 0, skipDown := false,
    relayed := [], relaysOut := [], known := (s.plot p).seqs.map (fun e => e.2.seqId) }

/-! ### The skip-set exchange (R191) -/

/-- The bitmap of a set of adapters by their ordinal in the plan's list: 1 KiB. -/
def Plan.skipBits (pl : Plan) (hs : List Nat) : Bytes :=
  bytesAt (packBits (pl.adapters.map (fun h => hs.contains h))) 0 1024

/-- The adapters of a bitmap. -/
def Plan.skipHandles (pl : Plan) (bs : Bytes) : List Nat :=
  ((pl.adapters.zip (unpackBits pl.adapters.length bs)).filter (·.2)).map (·.1)

/-- A skip-set frame: VC1 towards the root, VC2 from it. -/
def Group.skipFrame (g : Group) (own vc step : Nat) (pl : Plan) (hs : List Nat) : Frame :=
  { g.frame own 6 vc step with payload := pl.skipBits hs }

/-- The union of the member's own flags and its child's. -/
def Step.skipUnion (st : Step) : List Nat := (st.childSkips.flatten ++ st.skipFlags).eraseDups

/-- Send the flags up, or form the union at the root. -/
def State.skipUp (s : State) (p : Nat) (pl : Plan) (g : Group) (st : Step) : State :=
  let cs := g.children s.fabric
  if st.skipSet.isSome || st.skipSent || !st.landed || st.keep || decide (st.childSkips.length < cs.length) then s
  else
    match g.parent s.fabric with
    | none => s.updStep p pl.handle (fun x => { x with skipSent := true, skipSet := some st.skipUnion })
    | some r =>
      let f := g.skipFrame s.fabric 1 st.step pl st.skipUnion
      let route := s.route p (g.at r)
      if s.creditsFree p (g.at r) route [f] then
        (s.sendFrames p (g.at r) route [f]).updStep p pl.handle (fun x => { x with skipSent := true })
      else s

/-- Send the union down to the child. -/
def State.skipDownTo (s : State) (p : Nat) (pl : Plan) (g : Group) (st : Step) : State :=
  match st.skipSet, (g.children s.fabric).map g.at with
  | some u, [c] =>
    let f := g.skipFrame s.fabric 2 st.step pl u
    let route := s.route p c
    if !st.skipDown && s.creditsFree p c route [f] then
      (s.sendFrames p c route [f]).updStep p pl.handle (fun x => { x with skipDown := true })
    else s
  | _, _ => s

/-- Advance the exchange of one step; without a Bower of several members the set is the member's own. -/
def State.pumpSkip (s : State) (p plan : Nat) : State :=
  match (s.plot p).runOf plan, (s.plot p).plans.find plan with
  | some st, some pl =>
    if pl.header.workload ≠ 0 ∨ st.stopped = true then s
    else
      match (s.plot p).bowerOf pl with
      | none => if st.landed && !st.keep && st.skipSet.isNone then s.updStep p plan (fun x => { x with skipSet := some st.skipFlags }) else s
      | some g =>
        if g.state ≠ groupActive ∨ g.suspended = true then s
        else
          let s := s.skipUp p pl g st
          match (s.plot p).runOf plan with
          | some st => s.skipDownTo p pl g st
          | none => s
  | _, _ => s

/-- Advance the exchange of every step of the module. -/
def State.pumpSkips (s : State) : State :=
  tenantPlots.foldl (fun t p => ((t.plot p).running.map (·.plan)).foldl (fun u plan => u.pumpSkip p plan) t) s

/-- The running step whose plan names a Bower group, with its plan. -/
def Plot.bowering (q : Plot) (g : Group) : Option (Step × Plan) :=
  q.running.findSome? (fun st => match q.plans.find st.plan with
    | some pl => if pl.header.bgroup = g.groupId then some (st, pl) else none
    | none => none)

/-- Work a skip-set frame: from the child it is a part, from the parent the whole union. -/
def State.takeSkip (s : State) (p : Nat) (g : Group) (st : Step) (pl : Plan) (f : Frame) : State :=
  let hs := pl.skipHandles f.payload
  let s :=
    if g.parent s.fabric = some f.senderRank then
      s.updStep p st.plan (fun x => { x with skipSet := if x.skipSet.isNone then some hs else x.skipSet })
    else if (g.children s.fabric).contains f.senderRank then
      s.updStep p st.plan (fun x => { x with childSkips := if x.childSkips.isEmpty then [hs] else x.childSkips })
    else s
  s.pumpSkip p st.plan

/-! ### Relay (R181, R229) -/

/-- The relay record of a plan for a micro-batch and a tensor: its view and its semaphore. -/
def Plan.relayFor (pl : Plan) (mb tensor : Nat) : Option (Nat × Nat) :=
  (pl.relays.find? (fun b => fieldAt b 0 4 == mb && fieldAt b 4 2 == tensor)).map (fun b => (fieldAt b 8 4, fieldAt b 12 2))

/-- The positions of a box in dimensions 1 to 3, in row-major order. -/
def View.rowIndices (v : View) : List (List Nat) :=
  let e (d : Nat) : Nat := v.extents.getD d 0
  (List.range (e 1 * e 2 * e 3)).map (fun n => [n % e 1, n / e 1 % e 2, n / (e 1 * e 2)])

/-- The places of the bytes of each row of a view. A byte of an element that is out of bounds has no place. -/
def State.rowPlaces (s : State) (cx : OpCtx) (t : Tensor) (v : View) : List (List Loc) :=
  v.rowIndices.map (fun r => (List.range (rowBytes t.fmt (v.extents.getD 0 0))).map (fun k =>
    match v.inBounds t (8 * k / formatBits t.fmt :: r) with
    | some i => s.locate cx t.mem t.lane (t.rowAddr i + (elemPlace t.fmt (i.getD 0 0)).1 +
        (k - (elemPlace t.fmt (8 * k / formatBits t.fmt)).1))
    | none => .nothing))

/-- The places of the scale bytes of each row of an MX view. -/
def State.scalePlaces (s : State) (cx : OpCtx) (t : Tensor) (v : View) : List (List Loc) :=
  if isMx t.fmt then
    v.rowIndices.map (fun r => (List.range (ceilDiv (v.extents.getD 0 0) 32)).map (fun k =>
      match v.inBounds t (32 * k :: r) with
      | some i => s.locate cx t.mem t.lane (t.scaleAddr i)
      | none => .nothing))
  else []

/-- The places of a view's bytes: its rows in row-major order, then its scale bytes. -/
def State.viewPlaces (s : State) (cx : OpCtx) (t : Tensor) (v : View) : List Loc :=
  (s.rowPlaces cx t v).flatten ++ (s.scalePlaces cx t v).flatten

/-- The maximal runs of consecutive local store bytes in a list of places: first byte and length. -/
def lsRuns : List Loc → List (Nat × Nat)
  | [] => []
  | .ls a :: l =>
    match lsRuns l with
    | (b, n) :: r => if b = a + 1 then (a, n + 1) :: r else (a, 1) :: (b, n) :: r
    | [] => [(a, 1)]
  | _ :: l => lsRuns l

/-- The accesses of a run of local store bytes that span two lines (R108): a unit moves the run in blocks of 128 bytes
from its first byte. -/
def runSplits (x : Nat × Nat) : Nat :=
  ((List.range (ceilDiv x.2 128)).filter (fun j =>
    (x.1 + 128 * j) / 128 != (x.1 + min (128 * j + 128) x.2 - 1) / 128)).length

/-- Split accesses of the rows of places that a unit moves one by one. -/
def splitsOf (rows : List (List Loc)) : Nat := (rows.map (fun r => ((lsRuns r).map runSplits).sum)).sum

/-- Split accesses of a pass over a view's box. -/
def State.viewSplits (s : State) (cx : OpCtx) (x : View × Tensor) : Nat :=
  splitsOf (s.rowPlaces cx x.2 x.1 ++ s.scalePlaces cx x.2 x.1)

/-- Put a line's bytes into device memory past the queues, with its poison; on a stopped stack the write stays in its
controller's queue (R160). -/
def Mem.landLine (m : Mem) (w : LineWrite) : Mem :=
  if m.stopped (w.line * 64) 64 then m.enqueue [w]
  else
    let m := if w.bytes.length = 64 then m.write (w.line * 64) (w.bytes.map (·.2)) else w.bytes.foldl (fun m c => m.write c.1 [c.2]) m
    if w.poisoned then m.poisonLine w.line else m

/-- Write a frame's bytes at their places, in device memory or a Glasshouse; the lines of a frame that bears POISON are
marked (R173). -/
def State.putRelay (s : State) (p : Nat) (t : Tensor) (ls : List Loc) (bs : Bytes) (bad : Bool) : State :=
  let g := (ls.zip bs).foldl (fun g x => g.put x.1 x.2 bad) Staged.none
  if t.mem = 0 then
    (g.lines p).foldl (fun s w => (s.updMem (fun m => m.landLine w)).chargeWrite p (w.line * 64) w.bytes.length) s
  else (s.commitGh g).charge p (fun c => { c with ghBytes := c.ghBytes + BitVec.ofNat 64 g.bytes.length })

/-- The physical semaphore of a plan-relative index (R118): the plan's Terrace 0 semaphores stand first. -/
def Plan.semKey (pl : Plan) (sem : Nat) : Nat :=
  pl.sems.getD (if sem < 1024 then sem else pl.header.sems0 + (sem - 1024)) 0

/-- Work a relay frame: its bytes go into the buffer that the plan names, and the last of them signals the
plan's semaphore. A frame that names no buffer is dropped and is a protocol fault. -/
def State.takeRelay (s : State) (port p : Nat) (g : Group) (st : Step) (pl : Plan) (f : Frame) : State :=
  match (if f.step = st.step then pl.relayFor f.seq f.tensor else none) with
  | none => (s.stale port).protocolFault port p g
  | some (view, sem) =>
    let x := pl.viewAt view
    let ls := s.viewPlaces { plot := p, pav := 0, lanes := [] } x.2 x.1
    let s := s.putRelay p x.2 ((ls.drop (8192 * f.tile)).take 8192) f.payload f.poison
    let had := st.relayed.contains (f.seq, f.tensor, f.tile)
    let got := if had then st.relayed else st.relayed ++ [(f.seq, f.tensor, f.tile)]
    let s := s.updStep p st.plan (fun y => { y with relayed := got })
    if !had && (List.range (ceilDiv ls.length 8192)).all (fun i => got.contains (f.seq, f.tensor, i)) then
      s.updPlot p (fun q => { q with sems := q.sems.modify 0 (pl.semKey sem) (· + 1) })
    else s

/-- The frames of a relay transfer: the bytes of its view in order, unchanged, 8,192 to a frame, in batches of 8. A frame
that takes a poisoned line bears POISON. -/
def State.relayFrames (s : State) (p : Nat) (g : Group) (st : Step) (pl : Plan) (r : RelaySend) : List Frame :=
  let x := pl.viewAt r.view
  let ls := s.viewPlaces { plot := p, pav := 0, lanes := [] } x.2 x.1
  let n := ceilDiv ls.length 8192
  (List.range n).map (fun i =>
    let part := (ls.drop (8192 * i)).take 8192
    { g.frame s.fabric 5 3 st.step with
      frameIdx := i % 8, frameCnt := min 8 (n - i / 8 * 8), seq := r.microbatch, tensor := r.tensor, tile := i
      poison := part.any (s.locPoison 0), payload := part.map (s.locByte 0) })

/-- Send the batches of a relay transfer, each once its receive buffers are free in one reservation (R17, R229); `fuel`
bounds the batches. -/
def State.sendBatches (s : State) (p dest : Nat) (route : List Nat) : Nat → List Frame → State × Nat
  | 0, _ => (s, 0)
  | fuel + 1, fs =>
    let batch := fs.take 8
    if !batch.isEmpty && s.creditsFree p dest route batch then
      let y := State.sendBatches (s.sendFrames p dest route batch) p dest route fuel (fs.drop 8)
      (y.1, y.2 + batch.length)
    else (s, 0)

/-- Send what finds buffers of one relay transfer, to the next stage or to the one before on the chain (R201). -/
def State.pumpRelay (s : State) (p : Nat) (g : Group) (st : Step) (pl : Plan) (r : RelaySend) : State × RelaySend :=
  let rank := if r.forward then some (g.rankOf s.fabric + 1) else g.parent s.fabric
  match rank with
  | none => (s, r)
  | some n =>
    let fs := s.relayFrames p g st pl r
    let y := s.sendBatches p (g.at n) (s.route p (g.at n)) fs.length (fs.drop r.sent)
    (y.1, { r with sent := r.sent + y.2 })

/-- Whether every frame of a relay transfer has gone; the last stage sends none forward and the first none back. -/
def State.relayGone (s : State) (p : Nat) (g : Group) (st : Step) (pl : Plan) (r : RelaySend) : Bool :=
  (if r.forward then decide (g.size ≤ g.rankOf s.fabric + 1) else g.rankOf s.fabric == 0) ||
  decide ((s.relayFrames p g st pl r).length ≤ r.sent)

/-- Send what finds buffers of a step's relay transfers, in the order in which they began; two to one stage do not pass
each other. A Bower of one member sends none (R181). -/
def State.pumpRelays (s : State) (p plan : Nat) : State :=
  match (s.plot p).runOf plan, (s.plot p).plans.find plan with
  | some st, some pl =>
    match (s.plot p).bowerOf pl with
    | none => if st.relaysOut.isEmpty then s else s.updStep p plan (fun x => { x with relaysOut := [] })
    | some g =>
      if st.relaysOut.isEmpty || st.stopped || g.state != groupActive || g.suspended then s
      else
        let y := st.relaysOut.foldl (fun (y : State × List RelaySend) r =>
          if y.2.any (fun x => x.forward == r.forward) then (y.1, y.2 ++ [r])
          else
            let z := y.1.pumpRelay p g st pl r
            (z.1, if z.1.relayGone p g st pl z.2 then y.2 else y.2 ++ [z.2])) (s, [])
        y.1.updStep p plan (fun x => { x with relaysOut := y.2 })
  | _, _ => s

/-- Send what finds buffers of every relay transfer of the module. -/
def State.pumpAllRelays (s : State) : State :=
  tenantPlots.foldl (fun t p => ((t.plot p).running.map (·.plan)).foldl (fun u plan => u.pumpRelays p plan) t) s

/-- Begin the relay transfer that a descriptor's retirement begins; its view is read (R355). -/
def State.beginRelay (s : State) (p plan pav queue index : Nat) : State :=
  match Config.relayOf plan pav queue index, (s.plot p).plans.find plan with
  | some (forward, mb, tensor, view), some pl =>
    let s := s.updStep p plan (fun x => { x with
      relaysOut := x.relaysOut ++ [{ forward := forward, microbatch := mb, tensor := tensor, view := view, sent := 0 }] })
    (s.chargeViewRead { plot := p, pav := pav, lanes := [] } p (pl.viewAt view)).pumpRelays p plan
  | _, _ => s

/-! ### Frames of a Bower that come before their step -/

/-- A SKIPSET or RELAY frame: kept until its step runs here, then worked. -/
def State.takeBower (s : State) (port p : Nat) (g : Group) (f : Frame) : State :=
  match (s.plot p).bowering g with
  | none => s.keepEarly port p g f
  | some (st, pl) =>
    if f.kind = 5 then (if st.step < f.step then s.keepEarly port p g f else s.takeRelay port p g st pl f)
    else if st.step < f.step then s.keepEarly port p g f
    else if f.step < st.step then s
    else s.takeSkip p g st pl f

/-- SKIPSET (R191). -/
def execSkipset (port : Nat) (f : Frame) (s : State) : Out :=
  .next (s.arriving port f 6 (fun p g s => (s.acceptFrame port p g.handle f).takeBower port p g f))

/-- RELAY (R229). -/
def execRelay (port : Nat) (f : Frame) (s : State) : Out :=
  .next (s.arriving port f 5 (fun p g s => (s.acceptFrame port p g.handle f).takeBower port p g f))

/-- Work the frames of a Bower that came before the step. -/
def State.replayBower (s : State) (p handle : Nat) : State :=
  match (s.plot p).groupOf handle with
  | none => s
  | some g =>
    let mine (e : Nat × Frame) : Bool := e.2.kind == 5 || e.2.kind == 6
    let s := s.updGroup p handle (fun x => { x with early := x.early.filter (fun e => !mine e) })
    (g.early.filter mine).foldl (fun t e => t.takeBower e.1 p g e.2) s

/-- Work every frame that waited for a plan's step. -/
def State.replayStep (s : State) (p : Nat) (pl : Plan) : State :=
  let of (id : Nat) : Option Nat := if id = 0 then none else ((s.plot p).groupById id).map (·.handle)
  let s := match of pl.header.rgroup with | some h => s.replayReduction p h | none => s
  match of pl.header.bgroup with
  | some h => (s.replayLists p h).replayBower p h
  | none => s

/-- Gradient tiles are live within one step only (R114): those of a plan go when its step starts, and when it is stopped
(R301). -/
def State.dropTiles (s : State) (p plan : Nat) : State :=
  { s with pavs := s.pavs.mapVals (fun v => { v with gbuf := v.gbuf.filter (fun g => !(g.plot == p && g.plan == plan)) }) }

/-- Record that a step has started (R383). -/
def Plot.noteStart (q : Plot) (pl : Plan) (step : Nat) : Plot :=
  { q with
    plans := q.plans.modify pl pl.handle (fun x => { x with lastStep := step + 1, nextStep := none })
    groupSteps := if pl.header.rgroup = 0 then q.groupSteps else q.groupSteps.set pl.header.rgroup step
    groupNext := if pl.header.rgroup = 0 then q.groupNext else q.groupNext.erase pl.header.rgroup }

/-- Start a step. -/
def State.startStep (s : State) (p : Nat) (pl : Plan) (r : Req) : State :=
  let st := { Step.begin s p pl r with building := (s.plot p).ahead.find pl.handle }
  let s := ((s.rewind p pl).dropTiles p pl.handle).updMail p (fun m => { m with stepHeld := false })
  let s := s.updPlot p (fun q => { q.noteStart pl st.step with running := q.running ++ [st], histLive := [], ahead := q.ahead.erase pl.handle })
  ((s.replayStep p pl).pumpList p pl.handle).pumpSkip p pl.handle

/-- STEP_START (R382): the next request of a plan, when no step of the plan runs, is checked, waits for the
backlog, for a BASE_BIND, for a hand-over and for the loss bound (R234, R310, R313, R373), and starts. -/
def execStepStart (plot plan : Nat) (s : State) : Out :=
  let q := s.plot plot
  match q.plans.find plan, q.queuedFor plan with
  | some pl, r :: _ =>
    if (q.runOf plan).isSome = true ∨ s.bothy.takeOver.isSome = true then .next s
    else
      let step := fieldAt r.payload 8 8
      match s.startStatus plot pl step with
      | some st => .next (s.refuse plot r st)
      | none =>
        if q.backlogFree < stepBacklog then .next (s.updMail plot (fun m => { m with stepHeld := true }))
        else if q.bindHeld || q.serving.any (fun x => x.use == 3) || q.partners.any (fun e => e.2.holdsStep plan step) then .next s
        else .next (s.startStep plot pl r)
  | _, _ => .next s

/-! ### The end of a step -/

/-- What waits for a step no longer waits for it: deferred requests, marks of adapters, and prefetches
(R244, R247, R260). -/
def State.stepGone (s : State) (p plan step : Nat) : State :=
  let s := s.updPlot p (fun q => { q with
    mail := { q.mail with held := q.mail.held.map (fun r =>
      if r.phase = .deferred then { r with waits := r.waits.filter (· != (plan, step)) } else r) }
    adapters := q.adapters.mapVals (fun a => { a with
      gone := a.gone.map (fun l => l.filter (· != (plan, step)))
      prefetch := if a.prefetch = 2 then 3 else a.prefetch }) })
  let s := ((s.plot p).adapters.map (·.1)).foldl (fun t h =>
    ((t.settleGone p h step).finishEvict p h).finishDrop p h) s
  s.afterAppend p

/-- Rows of a step's lists that belong to an adapter. -/
def Step.rowsOf (st : Step) (h : Nat) : Nat :=
  ((st.lists.map (fun l => ((l.seqs.filter (fun r => r.adapter == h)).map (·.rows)).sum))).sum

/-- The adapters' accounts at a step's end (Table ORG-10). -/
def State.countRows (s : State) (p : Nat) (pl : Plan) (st : Step) : State :=
  s.updPlot p (fun q => { q with adapters := q.adapters.map (fun e =>
    (e.1, { e.2 with rowsFwd := e.2.rowsFwd + BitVec.ofNat 64 (st.rowsOf e.1)
                     rowsBwd := if pl.header.workload = 0 then e.2.rowsBwd + BitVec.ofNat 64 (st.rowsOf e.1) else e.2.rowsBwd })) })

/-- Post a step's events (R198). -/
def State.postEvents (s : State) (p : Nat) (st : Step) : State :=
  let uf := ((s.plot p).histLive.map (fun e => e.2.underflow st.bel e.1)).flatten
  (postedEvents st.bel (uf.foldl addEvent st.events)).foldl (fun t e => t.unsolicited p 0x8009 (e.body st.step s.now)) s

/-- The 256th error record of a step, or one OVERFLOW record that counts what was not posted (R334). -/
def State.postOverflow (s : State) (p : Nat) (st : Step) : State :=
  let n := st.errors.length
  if n ≤ errorCap then s
  else if n = 256 then
    match st.errors[errorCap]? with
    | some e => s.unsolicited p srcError e.body
    | none => s
  else
    let e := s.errOf 6 0 0 0xFFFF st.step
    s.unsolicited p srcError ({ e with count := n - errorCap } : ErrRec).body

/-- The STEP_RUN result (Table BTH-13). -/
def Step.result (st : Step) (plan microbatches now : Nat) : Bytes :=
  natLE 8 st.step ++ natLE 4 microbatches ++ natLE 4 ((st.lists.map (fun l => l.seqs.length)).sum) ++
  natLE 4 st.skipped.length ++ natLE 4 plan ++ natLE 4 st.redos ++ natLE 4 (min st.errors.length 256) ++
  natLE 8 st.startTick.toNat ++ natLE 8 now

/-- Micro-batches of a step completed here. -/
def Step.completed (st : Step) (pl : Plan) : Nat := pl.listsOf - st.droppedMbs.length

/-- The STEP_RUN completion of a step. -/
def State.completeStep (s : State) (p : Nat) (st : Step) (status : Nat) (body : Bytes) : State :=
  (s.setPhase p st.slot .completed).post p
    { slot := st.slot, opcode := opStepRun, status := status, dcode := 0, tag := st.tag, detail := 0, body := body,
      vector := st.vector }

/-- Whether a step has a record of class POISONED, FUNCTION or VOID (R336). -/
def Step.faulted (st : Step) : Bool := st.errors.any (fun e => decide (1 ≤ e.cls) && decide (e.cls ≤ 3))

/-- Whether a training plan's step has its updates behind it. -/
def Step.updatesDone (st : Step) (pl : Plan) : Bool :=
  pl.header.workload != 0 || (st.landed && st.skipSet.isSome && pl.adapters.all (fun h => (st.updated ++ st.skipped).contains h))

/-- Whether a step has come to its end. -/
def State.stepFinished (s : State) (p : Nat) (pl : Plan) (st : Step) : Bool :=
  !st.stopped && s.streamsDone p pl && decide (st.completed pl ≤ st.lists.length) && st.building.isNone && st.updatesDone pl

/-- The end of a step: snapshot marks, the Belvedere's events, the error overflow, the completion, the
accounts, and what the sequences and the waiting requests take from it. -/
def State.endStep (s : State) (p : Nat) (pl : Plan) (st : Step) : State :=
  let s := (s.markImages p pl st).postEvents p st |>.postOverflow p st
  let s := s.completeStep p st (if st.faulted then stStepFaulted else stOk) (st.result pl.handle (st.completed pl) s.now)
  let s := (s.charge p (fun c => { c with steps := c.steps + 1 })).countRows p pl st
  let s := s.updPlot p (fun q => { q with
    running := q.running.filter (fun x => x.plan != st.plan), hist := q.histLive, ratios := st.ratios, lastStep := st.step, stageFlags := st.skipFlags })
  ((s.endRows p pl st).dropIdleGrant p).stepGone p st.plan st.step

/-! ### Stopping a step (R301, R308, R386) -/

/-- The index of the last descriptor of the ARRAY command under way on a Pavilion, when a STREAM or a DRAIN of
it has started: commands stop at their boundaries. -/
def Pavilion.commandEnd (v : Pavilion) (p : Nat) (pl : Plan) (pav : Nat) : Option Nat :=
  let ds := pl.stream pav 0
  let head := match (v.array.find? (fun d => d.plot == p && d.plan == pl.handle)) with
    | some d => d.index
    | none => v.position p pl.handle 0
  let first := ((List.range (head + 1)).reverse.find? (fun i => dStart (ds.getD i []))).getD head
  let isRun (i : Nat) : Bool :=
    (dType (ds.getD i []) == 2 || dType (ds.getD i []) == 3) &&
    (decide (i < head) || v.array.any (fun d => d.plot == p && d.plan == pl.handle && d.index == i && d.started))
  let upto := (List.range (ds.length - first)).map (· + first)
  match upto.find? (fun i => dEnd (ds.getD i [])) with
  | none => none
  | some last => if head ≤ last ∧ ((List.range (last + 1 - first)).map (· + first)).any isRun = true then some last else none

/-- Whether a held descriptor of a stopped step still runs: the rest of an ARRAY command under way, and a
Rill or Move descriptor that has started; a semaphore wait retires at once (R327). -/
def QDesc.keeps (d : QDesc) (last : Option Nat) (queue : Nat) : Bool :=
  dType d.bytes != 0x30 &&
  (if queue = 0 then (match last with | some n => decide (d.index ≤ n) | none => d.started && dType d.bytes == 0x31) else d.started)

/-- Drop the descriptors of a stopped step that have not started. -/
def Pavilion.dropUnstarted (v : Pavilion) (p : Nat) (pl : Plan) (pav : Nat) : Pavilion :=
  let last := v.commandEnd p pl pav
  let cut (queue : Nat) (l : List QDesc) : List QDesc :=
    l.filter (fun d => !(d.plot == p && d.plan == pl.handle) || d.keeps last queue)
  { v with array := cut 0 v.array, rill := cut 1 v.rill, move := cut 2 v.move }

/-- Whether a Pavilion has come to its command boundaries for a plan. -/
def Pavilion.quiet (v : Pavilion) (p : Nat) (pl : Plan) (pav : Nat) : Bool :=
  !v.holds p pl.handle && (v.commandEnd p pl pav).isNone

/-- Stop a running step of a plan for a reason; a step that already stops keeps the heavier reason: a redo
gives way to an end. -/
def State.stopStep (s : State) (p plan why : Nat) : State :=
  match (s.plot p).runOf plan, (s.plot p).plans.find plan with
  | some st, some pl =>
    let s := s.updStep p plan (fun x => { x with stopped := true, ended := false, stopFor := if st.stopped && st.stopFor != 3 then st.stopFor else why })
    { s with pavs := s.pavs.map (fun e => (e.1, e.2.dropUnstarted p pl e.1)) }
  | _, _ => s

/-- Drop the frames of a plot's group from retention. -/
def State.abandonFrames (s : State) (p : Nat) (g : Group) : State :=
  { s with ports := s.ports.mapVals (fun t => { t with
      retention := t.retention.filter (fun r => !(r.plot == p && r.frame.groupId == g.groupId)) }) }

/-- A group becomes DISSOLVED (Table CSC-5): none of its frames is repeated, the change is posted, and a GROUP_JOIN that
waits for it ends with ST_GROUP_LOST. -/
def State.dissolveGroup (s : State) (p handle fabric : Nat) : State :=
  match (s.plot p).groupOf handle with
  | none => s
  | some g =>
    if g.state = groupDissolved then s
    else
      let s := (s.abandonFrames p g).updGroup p handle (fun x => { x with state := groupDissolved, early := [], joinSlot := none })
      let s := s.survivalEvent p 8 { g with state := groupDissolved } fabric 0
      match g.joinSlot.bind (s.heldIn p) with
      | some r => s.refuse p r stGroupLost
      | none => s

/-- Send a LEAVE notice to every neighbour of a group (R218). -/
def State.sendLeave (s : State) (p : Nat) (g : Group) : State :=
  (g.neighbours s.fabric).foldl (fun t f =>
    t.sendControl f (t.groupHeader p g) (.leave g.groupId g.generation (g.rankOf t.fabric))) s

/-- Withdraw from a group (R218): LEAVE to the neighbours, and the group is DISSOLVED here. -/
def State.withdraw (s : State) (p handle : Nat) : State :=
  match (s.plot p).groupOf handle with
  | none => s
  | some g => if g.state = groupDissolved then s else (s.sendLeave p g).dissolveGroup p handle s.fabric

/-- Withdraw from every group of a plan. -/
def State.withdrawPlan (s : State) (p : Nat) (pl : Plan) : State :=
  (pl.header.groups.filterMap (fun id => ((s.plot p).groupById id).map (·.handle))).foldl (fun t h => t.withdraw p h) s

/-- The running plans of a plot that name a dissolved group. -/
def Plot.lostPlans (q : Plot) : List Nat :=
  ((q.groups.filter (fun g => g.state == groupDissolved)).map (fun g => q.plansNaming g.groupId)).flatten.eraseDups.filter
    (fun h => match q.runOf h with | some st => !st.stopped || st.stopFor == 3 | none => false)

/-- Stop the steps of the plans whose group is dissolved (R308). -/
def State.stopLost (s : State) (p : Nat) : State := (s.plot p).lostPlans.foldl (fun t h => t.stopStep p h 2) s

/-- The result of a step that ends without running to its end. -/
def Step.stoppedResult (st : Step) (now : Nat) : Bytes := st.result st.plan 0 now

end Sys2Proof.Machine
end

