-- ==== Sys2Proof/Machine/Edges.lean ====
section
/-! DEFINITION. The edges of groups: the OFFER of a pair exchange (R412) and the VC0 handshake (R205, R220). -/

namespace Sys2Proof.Machine

/-! ### Ticks of 100 MHz -/

/-- 100 ms and 250 ms. -/
def suspectTicks : Nat := 10000000
def leaseTicks : Nat := 25000000

/-! ### Pair exchange (R412): the OFFER -/

/-- The digest of the hall anchor, or 0. -/
def Mod.anchorDigest (m : Mod) : Nat := match m.anchor with | some a => a.digest | none => 0

/-- The bytes of an OFFER. -/
def offerBytes (anchor fabric : Nat) (ek nonce : Bytes) : Bytes := natLE 32 anchor ++ natLE 8 fabric ++ ek ++ nonce

/-- Change the entry of a peer. -/
def State.updPeer (s : State) (x : Peer) : State :=
  { s with gatehouse := { s.gatehouse with peers := s.gatehouse.peers.filter (fun e => e.fabricId != x.fabricId) ++ [x] } }

/-- An entry of a peer with which nothing has been exchanged. -/
def Peer.fresh (fabric : Nat) : Peer :=
  { fabricId := fabric, done := false, offered := false, pairKey := 0, ownSecret := 0, ownOffer := [], peerOffer := [], ssOwn := 0,
    portKeys := [], used := false }

/-- Whether some holding of a plot with a module lasts: a group edge, a copy or a partnership (Table SRV-5). -/
def State.holdsWith (s : State) (fabric : Nat) : Bool :=
  tenantPlots.any (fun p =>
    let q := s.plot p
    q.groups.any (fun g => (g.neighbours s.fabric).contains fabric) || q.fills.any (fun x => x.sources.head? == some fabric) ||
    q.serving.any (fun x => x.dest == fabric) || q.partners.any (fun e => e.2.peer == fabric))

/-- A pair entry lapses with the last holding that uses it (R412): drop the entries that have lapsed, and mark those in
use. -/
def State.renewPeers (s : State) : State :=
  { s with gatehouse := { s.gatehouse with
      peers := (s.gatehouse.peers.filter (fun e => !e.used || s.holdsWith e.fabricId)).map (fun e =>
        { e with used := e.used || s.holdsWith e.fabricId }) } }

/-- Begin a holding: entries that have lapsed before it are not its own. -/
def State.hold (s : State) (f : State → State) : State := (f s.renewPeers).renewPeers

/-- Peers that the module keeps pair state for (R412). -/
def maxPeers : Nat := 1024

/-- Send an OFFER to a module, once, while the random source is sound. -/
def State.sendOffer (s : State) (fabric : Nat) : State :=
  let old := (s.gatehouse.peers.find? (fun e => e.fabricId == fabric)).getD (Peer.fresh fabric)
  let full := decide (maxPeers ≤ s.gatehouse.peers.length) && s.gatehouse.peers.all (fun e => e.fabricId != fabric)
  if old.offered || old.done || !s.gatehouse.trngOk || s.gatehouse.halted || full then s
  else
    match s.portTo fabric with
    | none => s
    | some i =>
      let (seed, s) := s.draw 512
      let (nonce, s) := s.drawBytes 32
      let kp := Config.kemKeyGen seed
      let own := offerBytes s.mod.anchorDigest s.fabric kp.1 nonce
      let k : Keyx :=
        { form := .offer, anchorDigest := s.mod.anchorDigest, fabricId := s.fabric, issuer := Config.issuer, chainOk := true,
          svnGatehouse := s.svn 1, svnBothy := s.svn 2, debugUnlocked := s.gatehouse.debugUnlocked,
          engineeringSample := Config.engineeringSample, ek := kp.1, nonce := nonce, ct := [], sigOk := true, portKeys := [], acks := [] }
      (s.updPeer { old with offered := true, ownSecret := kp.2, ownOffer := own }).sendOn i fabric (blankFrame s.fabric) (.keyx k)

/-- Send an OFFER where hall mode needs pair keys that are not there. -/
def State.pairUp (s : State) (fabric : Nat) : State := if s.paired fabric then s else s.sendOffer fabric

/-! ### Handshakes (R205, R220) -/

/-- Whether this member has released a tile of a running step of a group to entry conversion (R299). -/
def Plot.released (q : Plot) (g : Group) : Bool :=
  q.running.any (fun st => (match q.plans.find st.plan with | some pl => pl.header.rgroup == g.groupId | none => false) &&
    st.tiles.any (fun t => decide (4 ≤ t.phase)))

/-- This member's handshake of a group. -/
def State.shakeOf (s : State) (p : Nat) (g : Group) : Handshake :=
  { src := s.fabric, groupId := g.groupId, kind := g.kind, members := g.size, jobTag := g.jobTag, digest := g.digest,
    rank := g.rankOf s.fabric, generation := g.generation, lost := g.lost, released := (s.plot p).released g || g.peerReleased }

/-- Send it to a module. -/
def State.shake (s : State) (p : Nat) (g : Group) (fabric : Nat) : State :=
  s.sendControl fabric (s.groupHeader p g) (.handshake (s.shakeOf p g))

/-- Send it to every neighbour; in hall mode a neighbour without pair keys gets an OFFER first. -/
def State.shakeAll (s : State) (p handle : Nat) : State :=
  match (s.plot p).groupOf handle with
  | none => s
  | some g => (g.neighbours s.fabric).foldl (fun t f =>
      (t.pairUp f).shake p g f) s

/-! ### Handles and ranks -/

/-- The lowest group handle that the module has free. -/
def State.freeGroup (s : State) : Option Nat :=
  (List.range 64).find? (fun h => tenantPlots.all (fun p => ((s.plot p).groupOf h).isNone))

/-- Put a module at a rank. -/
def insertAt (l : List Nat) (rank fabric : Nat) : List Nat := l.take rank ++ [fabric] ++ l.drop rank

/-- A FABRIC_ID that no module has: the place of a new member that this member does not meet. -/
def strangerId : Nat := 2 ^ 36

end Sys2Proof.Machine
end

