-- ==== Sys2Proof/Machine/Recovery.lean ====
section
/-! DEFINITION. Recovery on one member (R293 to R306): the standby plans of an armed policy and their activation, the
rebuilt records of absorption, the redo of a step, a kept step; and the ends of steps that lead to them (R385,
R386). -/

namespace Sys2Proof.Machine

/-! ### Policies and their plans (R293, R295) -/

/-- The plan handle that names none. -/
def noPlan : Nat := 0xFFFFFFFF

/-- The plans that a policy names: the plan, its promoted variant and its standby plans. -/
def Policy.named (x : Policy) : List Nat :=
  [x.plan, x.promoted] ++ ((List.range x.members).filter (· != x.stage)).map (fun j => x.standby.getD j noPlan)

/-- Whether an armed policy keeps a plan from running. -/
def Plot.standbyNow (q : Plot) (h : Nat) : Bool :=
  q.policies.any (fun e => e.2.state != 0 && e.2.named.contains h && e.2.activePlan != h)

/-- Mark the plans of a plot as active or standby. -/
def State.refreshStandby (s : State) (p : Nat) : State :=
  s.updPlot p (fun q => { q with plans := q.plans.mapVals (fun x => { x with standby := q.standbyNow x.handle }) })

/-- The armed policy that names a plan. -/
def Plot.policyNaming (q : Plot) (plan : Nat) : Option Policy :=
  (q.policies.find? (fun e => e.2.state != 0 && e.2.named.contains plan)).map (·.2)

/-- Change a policy. -/
def State.updPolicy (s : State) (p plan : Nat) (f : Policy → Policy) : State :=
  s.updPlot p (fun q => { q with policies := q.policies.map (fun e => if e.1 = plan then (e.1, f e.2) else e) })

/-- A queued STEP_RUN that follows its plan's activation (R384). -/
def Req.follow (r : Req) (old new : Nat) : Req :=
  if r.opcode = opStepRun ∧ fieldAt r.payload 0 4 = old then { r with payload := natLE 4 new ++ r.payload.drop 4 } else r

/-- Activate a plan of a policy: the plan that it replaces becomes standby, and queued steps follow. -/
def State.activatePlan (s : State) (p : Nat) (pol : Policy) (new : Nat) (f : Policy → Policy) : State :=
  let s := (s.updPolicy p pol.plan (fun x => f { x with activePlan := new })).refreshStandby p
  s.updMail p (fun m => { m with held := m.held.map (fun r => r.follow pol.activePlan new) })

/-- The group that a survival record about a plan names: its Bower group, or its reduction group, or none. -/
def Plot.planGroup (q : Plot) (pl : Plan) : Option Group :=
  match (if pl.header.bgroup = 0 then none else q.groupById pl.header.bgroup) with
  | some g => some g
  | none => if pl.header.rgroup = 0 then none else q.groupById pl.header.rgroup

/-- Post a survival event about a plan (R318). -/
def State.planEvent (s : State) (p kind : Nat) (pl : Plan) (step fabric dropped : Nat) : State :=
  let q := s.plot p
  let own := s.fabric
  let g := q.planGroup pl
  s.unsolicited p srcSurvival
    (Survival.body { kind := kind, group := match g with | some g => g.handle | none => 0xFFFF, state := 0xFF,
                     mode := q.modeOfPlan pl.handle, step := step, fabric := fabric,
                     generation := match g with | some g => g.generation | none => 0
                     members := match g with | some g => g.size | none => 1
                     rank := match g with | some g => g.rankOf own | none => 0
                     dropped := dropped } s.now)

/-! ### Dissolution (R308) -/

/-- The replica dissolves: LEAVE in every group of the plan, and its running step ends with ST_GROUP_LOST. -/
def State.dissolve (s : State) (p : Nat) (pl : Plan) : State := (s.withdrawPlan p pl).stopLost p

/-! ### The fill of a state (R302) -/

/-- The modules that the groups of a plot have lost. -/
def Plot.knownLost (q : Plot) : List Nat := (q.groups.map (·.lost)).flatten

/-- The group and job tag that a request names: of a group that this module has not joined and has heard to be
losing a member, else of the plan's reduction group. -/
def Plot.fillGroup (q : Plot) (pl : Plan) : Nat × Nat :=
  let mine := q.planGroup pl
  let tag := match mine with | some g => g.jobTag | none => 0
  match (q.notices.reverse.find? (fun n => (q.groupById n.1).isNone)) with
  | some n => (n.1, tag)
  | none => (if pl.header.rgroup = 0 then pl.header.bgroup else pl.header.rgroup, tag)

/-- Bytes of a fill that are complete: the frames that have arrived without a gap. -/
def FillState.done (x : FillState) : Nat :=
  8192 * (((List.range x.parts.length).takeWhile (fun i => (x.parts.find i).isSome)).length)

/-- Ask the first source left, from the offset reached; in hall mode a source without pair keys gets an OFFER first
(R412). -/
def State.askFill (s : State) (p : Nat) (x : FillState) : State :=
  match x.sources, (s.plot p).plans.find x.plan with
  | f :: _, some pl =>
    let g := (s.plot p).fillGroup pl
    if s.paired f then s.sendControl f (blankFrame s.fabric) (.fillAsk g.1 g.2 x.stage x.done (x.use == 0)
        (match (s.plot p).binding with | some b => b.fp | none => 0) x.ports) else s.sendOffer f
  | _, _ => s

/-- Change the fill of a plan and a use. -/
def State.updFill (s : State) (p plan use : Nat) (f : FillState → FillState) : State :=
  s.updPlot p (fun q => { q with fills := q.fills.map (fun x => if x.plan = plan ∧ x.use = use then f x else x) })

/-- The fill of a plan and a use. -/
def Plot.fillOf (q : Plot) (plan use : Nat) : Option FillState := q.fills.find? (fun x => x.plan == plan && x.use == use)

/-- A fill ends; the request that waits for it completes with a status. -/
def State.endFill (s : State) (p : Nat) (x : FillState) (status : Nat) : State :=
  let s := s.updPlot p (fun q => { q with fills := q.fills.filter (fun e => !(e.plan == x.plan && e.use == x.use)) })
  match x.slot.bind (s.heldIn p) with
  | some r => s.refuse p r status
  | none => s

/-- Begin the state fill of an absorbed stage, once; with no source the replica dissolves. -/
def State.beginAbsorb (s : State) (p : Nat) (pol : Policy) (stage : Nat) : State :=
  if ((s.plot p).fillOf pol.plan 1).isSome then s
  else
    let src := pol.sources.filter (fun f => !(s.plot p).knownLost.contains f)
    match src, (s.plot p).plans.find pol.activePlan with
    | [], some pl => s.dissolve p pl
    | _, _ =>
      let x : FillState :=
        { plan := pol.plan, use := 1, stage := stage, dst := 0, len := 0, parts := [], frames := none, bad := false, sources := src,
          ports := pol.fillPorts, slot := none, heard := s.now, origin := none }
      (s.updPlot p (fun q => { q with fills := q.fills ++ [x] })).askFill p x

/-! ### Copies that this module sends (R302, R310, R317) -/

/-- Bytes padded to whole 128-byte lines. -/
def padLines (bs : Bytes) : Bytes := padTo (roundUp bs.length 128) bs

/-- A record and its state as a fill carries them. -/
def State.recordOf (s : State) (a : Adapter) (b : Binding) : Bytes :=
  padLines (s.mem.readBytes a.resAddr (0x100 + a.arrayBytes)) ++
  padLines (s.mem.readBytes a.stateAddr (statePlaces (a.tensors b)).2)

/-- The absorbed section of a rebuilt record, with a header of its own, and the absorbed state. -/
def State.absorbedOf (s : State) (a : Adapter) (b : Binding) : Bytes :=
  let ts := a.tensors (a.absorbedBinding b)
  let n := (arrayPlaces ts).2
  let h := s.mem.readBytes a.resAddr 0x100
  padLines (h.take 0x0C ++ natLE 2 a.absorbedFirst ++ natLE 2 a.absorbedLast ++ (h.drop 0x10).take 0x28 ++ natLE 8 n ++
    h.drop 0x40 ++ s.mem.readBytes a.absorbedArray n) ++
  padLines (s.mem.readBytes (a.absorbedState b) (statePlaces ts).2)

/-- The stage that a plot runs for a lost member, if any. -/
def Plot.absorbedStage (q : Plot) : Option Nat :=
  (q.policies.find? (fun e => e.2.state == 2 || e.2.state == 3)).map (fun e => e.2.absorbedStage)

/-- The TRAIN records of a stage that a plot holds, in ascending order of handle: its own stage's, or the absorbed
stage's. -/
def State.stageRecords (s : State) (p stage : Nat) : Bytes :=
  match (s.plot p).binding with
  | none => []
  | some b =>
    let as := ((s.plot p).adapters.map (·.2)).filter (·.train)
    if (s.plot p).absorbedStage = some stage then ((as.filter (fun a => a.absorbed == stage)).map (fun a => s.absorbedOf a b)).flatten
    else (as.map (fun a => s.recordOf a b)).flatten

/-- Whether the state of a plot stands at a boundary for a copy: no step that changes it is under way. -/
def Plot.stands (q : Plot) (x : FillServe) : Bool :=
  q.running.all (fun st => (st.stopped && st.ended) || (x.use == 1 && !(q.plansNaming x.group).contains st.plan))

/-- Fix the bytes of the copies whose state stands. -/
def State.captureServes (s : State) (p : Nat) : State :=
  s.updPlot p (fun q => { q with serving := q.serving.map (fun x =>
    if (x.use = 1 ∨ x.use = 3) ∧ x.bytes.isNone = true ∧ q.stands x = true then
      let bs := s.stageRecords p x.stage
      { x with bytes := some bs, len := bs.length, flags := x.use == 1 }
    else x) })

/-- The frames of a copy; one without bytes takes one empty frame. -/
def FillServe.count (x : FillServe) : Nat := max 1 (ceilDiv x.len 8192)

/-- What a copy carries, as its frames' TENSOR field says: 0 a base area, 1 records, 3 a hand-over, 4 an image; 2 marks
the stage flags. -/
def FillServe.code (x : FillServe) : Nat := if x.use = 2 then 4 else x.use

/-- The device range that frame `i` of a base area's copy reads. -/
def FillServe.range (x : FillServe) (i : Nat) : Nat × Nat := (x.addr + 8192 * i, min 8192 (x.len - 8192 * i))

/-- Whether frame `i` of a copy reads only what the plot's windows hold. -/
def State.serveFits (s : State) (p : Nat) (x : FillServe) (i : Nat) : Bool :=
  x.bytes.isSome || s.inWindows p (x.range i).1 (x.range i).2

/-- Frame `i` of a copy; a read outside the windows gives zeros (R153), and a poisoned line marks its frame (R173). -/
def State.fillFrame (s : State) (p : Nat) (g : Group) (x : FillServe) (i : Nat) : Frame :=
  { g.frame s.fabric 10 3 0 with
    dropped := if x.use = 3 then (match (s.plot p).groups.find? (fun y => y.kind == 1) with | some y => y.generation | none => 0) else 0
    frameIdx := i % 256, seq := x.stage, tile := i, c := x.count, tensor := x.code
    payload := match x.bytes with
      | some bs => (bs.drop (8192 * i)).take 8192
      | none => if s.serveFits p x i then s.mem.readBytes (x.range i).1 (x.range i).2 else List.replicate (x.range i).2 0
    poison := x.bad.contains i || x.bytes.isNone && s.serveFits p x i && s.mem.poisonedIn (x.range i).1 (x.range i).2 }

/-- The frame of the stage flags. -/
def State.flagFrame (s : State) (p : Nat) (g : Group) (x : FillServe) : Frame :=
  let q := s.plot p
  let bits := match (q.plansNaming g.groupId).findSome? (fun h => q.plans.find h) with
    | some pl => pl.skipBits q.stageFlags
    | none => []
  { g.frame s.fabric 10 3 q.lastStep with seq := x.stage, c := 1, tensor := 2, payload := bits }

/-- The group in whose name a copy travels; a snapshot's names none. -/
def State.serveGroup (s : State) (p : Nat) (x : FillServe) : Group := ((s.plot p).groupById x.group).getD (soloGroup s.fabric)

/-- The ports of a copy: those of the route, at most as many as the requester allows (Tables SRV-3, SRV-4). DESIGN CHOICE:
a request names its FILL_PORTS to the source. -/
def State.fillRoute (s : State) (p dest ports : Nat) : List Nat := (s.route p dest).take ports

/-- Send what finds buffers of one copy. -/
def State.pumpServe (s : State) (p : Nat) (x : FillServe) : State × FillServe :=
  if x.use ≠ 0 ∧ x.bytes = none then (s, x)
  else
    let g := s.serveGroup p x
    let route := s.fillRoute p x.dest x.ports
    let y := if x.flags then s.sendWhile p x.dest route [s.flagFrame p g x] else (s, 1)
    if y.2 = 0 then (s, x)
    else
      let z := y.1.sendWhile p x.dest route ((List.range (x.count - x.next)).map (fun k => s.fillFrame p g x (x.next + k)))
      let sent := (List.range z.2).map (fun k => x.next + k)
      let t := match sent.find? (fun i => !s.serveFits p x i) with
        | some i => z.1.addressFault p (x.range i).1
        | none => z.1
      let t := if x.bytes.isSome then t else
        (sent.filter (fun i => s.serveFits p x i)).foldl (fun t i => t.chargeRead p (x.range i).1 (x.range i).2) t
      (t, { x with flags := false, next := x.next + z.2 })

/-- Send what finds buffers of every copy of a plot. A copy that is sent is done; a hand-over stays until the spare
has joined, since it holds the next step (R310). -/
def State.pumpServes (s : State) (p : Nat) : State :=
  let s := s.captureServes p
  let y := (s.plot p).serving.foldl (fun (y : State × List FillServe) x =>
    let z := y.1.pumpServe p x
    (z.1, if z.2.use ≠ 3 ∧ z.2.count ≤ z.2.next then y.2 else y.2 ++ [z.2])) (s, [])
  y.1.updPlot p (fun q => { q with serving := y.2 })

/-- Frame `i` of the image that a partnership streams (R312). -/
def State.imageFrame (s : State) (x : Partner) (step i : Nat) : Frame :=
  { (soloGroup s.fabric).frame s.fabric 9 3 step with
    frameIdx := i % 256, seq := x.jobTag % 2 ^ 32, tile := i, c := ceilDiv x.image.length 8192
    payload := (x.image.drop (8192 * i)).take 8192 }

/-- Send what finds buffers of the images that stream. -/
def State.pumpImages (s : State) (p : Nat) : State :=
  (s.plot p).partners.foldl (fun t e =>
    match e.2.streamStep with
    | none => t
    | some n =>
      if e.2.role ≠ 0 then t
      else
        let x := e.2
        let first := x.streamBytes / 8192
        let y := t.sendWhile p x.peer (t.route p x.peer)
          ((List.range (ceilDiv (x.image.length - x.streamBytes) 8192)).map (fun k => t.imageFrame x n (first + k)))
        let z : Partner := { x with streamBytes := min x.image.length (x.streamBytes + 8192 * y.2) }
        y.1.updPlot p (fun q => { q with partners := NMap.set q.partners e.1 z })) s

/-- Send what finds buffers of every copy and image of the module. -/
def State.pumpFills (s : State) : State := tenantPlots.foldl (fun t p => (t.pumpServes p).pumpImages p) s

/-! ### Records that arrive (R294, R302) -/

/-- Whether every frame of a fill has arrived. -/
def FillState.whole (x : FillState) : Bool :=
  match x.frames with
  | some n => (List.range n).all (fun i => (x.parts.find i).isSome)
  | none => false

/-- The bytes of a fill. -/
def FillState.bytes (x : FillState) : Bytes :=
  ((List.range (x.frames.getD 0)).map (fun i => x.parts.get [] i)).flatten

/-- A record that has arrived: its handle, its layers, its header with its array section, and its state. -/
structure Incoming where
  handle : Nat
  first : Nat
  last : Nat
  record : Bytes
  state : Bytes
  deriving DecidableEq, Repr

/-- The records of a byte string, at most a number of them; an unknown handle ends them. -/
def Plot.incoming (q : Plot) (b : Binding) : Nat → Bytes → List Incoming
  | 0, _ => []
  | n + 1, bs =>
    match (if bs.isEmpty then none else q.adapters.find (fieldAt bs 0x48 4)) with
    | none => []
    | some a =>
      let ts := a.tensors { b with firstLayer := fieldAt bs 0x0C 2, lastLayer := fieldAt bs 0x0E 2 }
      let rn := roundUp (0x100 + (arrayPlaces ts).2) 128
      let sn := roundUp (statePlaces ts).2 128
      { handle := a.handle, first := fieldAt bs 0x0C 2, last := fieldAt bs 0x0E 2, record := bs.take rn,
        state := (bs.drop rn).take sn } :: Plot.incoming q b n (bs.drop (rn + sn))

/-- Rebuild one record in the absorb window (R294): the record, the absorbed section, the state and the absorbed
state; the place after it is the next record's. -/
def State.rebuild (s : State) (p stage : Nat) (b : Binding) (at_ : Nat) (x : Incoming) : State × Nat :=
  match (s.plot p).adapters.find x.handle with
  | none => (s, at_)
  | some a =>
    let own := roundUp (0x100 + a.arrayBytes) 128
    let st := roundUp (at_ + own + (x.record.length - 0x100)) 128
    let ownState := roundUp (statePlaces (a.tensors b)).2 128
    let s := s.updMem (fun m => (m.copyRange a.resAddr at_ own).copyRange a.stateAddr st ownState)
    let s := s.updMem (fun m => ((m.write (at_ + 0x40) (natLE 8 st)).write (at_ + own) (x.record.drop 0x100)).write (st + ownState) x.state)
    (s.updAdapter p x.handle (fun a => { a with
      home := some a.poolPlaces, resAddr := at_, stateAddr := st, absorbed := stage, absorbedFirst := x.first, absorbedLast := x.last }),
     roundUp (st + ownState + x.state.length) poolUnit)

/-- The joined group of an absorbed stage or of a stage that is taken over: the members that this module does not
know are strangers, and it stands at a rank of its own. -/
def joinedGroup (handle id kind tag gen now : Nat) (live : List Nat) : Group :=
  { handle := handle, groupId := id, kind := kind, jobTag := tag, digest := 0, window := 64, generation := gen,
    state := groupRecompacting, live := live, lost := [], answered := [], heard := [], pauseTicks := [],
    joinTick := now, regroupTick := now, timeoutS := 0, joinSlot := none, early := [], suspended := false, peerReleased := false }

/-- Join a group under its next generation as a rank of its own, when it is not held, and greet the module that has
named it (R303, R310). -/
def State.joinAs (s : State) (p id kind tag gen : Nat) (live : List Nat) (greet : Nat) : State :=
  match (s.plot p).groupById id, s.freeGroup with
  | some g, _ =>
    let s := s.updGroup p g.handle (fun x => { x with
      generation := max x.generation gen, live := if x.state = groupForming then x.live else live, answered := [], regroupTick := s.now })
    (s.setGroupState p g.handle groupRecompacting greet).shakeAll p g.handle
  | none, some h =>
    let g := joinedGroup h id kind tag gen s.now live
    let s := ((s.updPlot p (fun q => { q with groups := q.groups ++ [g] })).survivalEvent p 1 g greet 0).shakeAll p h
    if (g.neighbours s.fabric).contains greet then s else s.shake p g greet
  | none, none => s

/-- The arrived state of an absorbed stage, once its plan is active (R300 phase 5 before phase 6): the records are
rebuilt, and this member joins the stage's reduction group as its last rank. -/
def State.finishAbsorb (s : State) (p plan : Nat) : State :=
  let q := s.plot p
  match q.policies.find plan, q.fillOf plan 1, q.binding with
  | some pol, some x, some b =>
    if !(pol.state == 2 && pol.pendingLoss.isNone && x.whole) then s
    else
      match q.windowRange pol.absorbWindow, q.plans.find pol.activePlan with
      | some w, some pl =>
        let recs := q.incoming b q.adapters.length x.bytes
        let y := recs.foldl (fun (y : State × Nat) r => y.1.rebuild p x.stage b y.2 r) (s, roundUp w.1 poolUnit)
        let src := x.sources.headD 0
        let s := y.1.updPlot p (fun q => { q with fills := q.fills.filter (fun e => !(e.plan == plan && e.use == 1)) })
        let s := (s.planEvent p 7 pl q.lastStep src 0).planEvent p 5 pl q.lastStep src 0
        match x.origin with
        | some g => s.joinAs p g.1 0 (q.fillGroup pl).2 (g.2.1 + 1) ((List.replicate g.2.2.2.1 strangerId).set g.2.2.1 src ++ [s.fabric]) src
        | none => s
      | _, _ => s
  | _, _, _ => s

/-! ### Absorption (R291, R294, R300, R306) -/

/-- Whether this member takes a lost stage over: (j − 1) mod S. -/
def Policy.absorbs (x : Policy) (stage : Nat) : Bool := x.stage == (stage + x.members - 1) % x.members

/-- Ask the tier mover for the mirror's promotion, when the policy names a promoted plan. -/
def State.beginPromotion (s : State) (p : Nat) (pol : Policy) : State :=
  match (s.plot p).windowRange pol.promoteWindow with
  | some w =>
    if pol.promoted = noPlan ∨ pol.mirrorLen = 0 then s
    else s.updMem (fun m => { m with moveQueue := m.moveQueue ++
      [{ plot := p, purpose := .promotion pol.plan, src := pol.mirrorAddr, dst := w.1, len := pol.mirrorLen, discard := false }] })
  | none => s

/-- Activation (phase 5 of Table SRV-6): once no step of the plan runs and its groups are ACTIVE, the standby plan
of the lost stage takes the plan's place. -/
def State.activateLoss (s : State) (p : Nat) (pol : Policy) (stage : Nat) : State :=
  let q := s.plot p
  let still := match q.runOf pol.activePlan with | some st => !(st.stopFor == 3 && st.ended) | none => false
  match q.plans.find pol.activePlan with
  | none => s
  | some pl =>
    if still || !pl.header.groups.all q.groupUp then s
    else
      let lost := match q.planGroup pl with | some g => g.lost.getLastD 0 | none => 0
      let step := match q.runOf pol.activePlan with | some st => st.step | none => q.lastStep
      let s := s.activatePlan p pol (pol.standby.getD stage noPlan) (fun x => { x with
        state := 2, absorbedStage := stage, pendingLoss := none, retired := false })
      if pol.absorbs stage then
        let s := s.beginPromotion p pol
        match (s.plot p).policies.find pol.plan with
        | some x => (s.beginAbsorb p x stage).finishAbsorb p pol.plan
        | none => s
      else s.planEvent p 5 pl step lost 0

/-! ### Redo (R301, R384) -/

/-- A step begun again under a plan: what it had gathered goes, and the plan's first lists stay. -/
def Step.redo (st : Step) (pl : Plan) : Step :=
  { st with
    plan := pl.handle, lists := st.lists.take pl.listsOf, building := none, stopped := false, ended := false, done := 0
    tiles := pl.reduce.map (fun b => (parseReduce b).tile), skipFlags := [], childSkips := [], skipSent := false
    skipSet := none, updated := [], skipped := [], events := [], isVoid := false, redos := st.redos + 1, droppedMbs := []
    keep := false, earlyDue := true, ratios := [], stopFor := 0, skipDown := false, relayed := [], relaysOut := [] }

/-- What waits for a step waits for it under its new plan. -/
def Plot.followStep (q : Plot) (step old new : Nat) : Plot :=
  let sub (l : List (Nat × Nat)) : List (Nat × Nat) := l.map (fun w => if w = (old, step) then (new, step) else w)
  { q with
    mail := { q.mail with held := q.mail.held.map (fun r => if r.phase = .deferred then { r with waits := sub r.waits } else r) }
    adapters := q.adapters.mapVals (fun a => { a with gone := a.gone.map sub }) }

/-- The frames of the attempt before are forgotten: those of the redone step come again under the same names. -/
def State.forgetFrames (s : State) (pl : Plan) : State :=
  { s with ports := s.ports.mapVals (fun t => { t with
      seen := t.seen.filter (fun k => !pl.header.groups.contains (k.headD 0))
      retention := t.retention.filter (fun r => r.frame.vc == 0 || !(pl.header.groups.contains r.frame.groupId)) }) }

/-- A published list whose lane blocks name the places where its records are now: absorption may have rebuilt them (R294),
and a list never names what its records were before. -/
def Plot.relane (q : Plot) (l : WorkList) : WorkList :=
  { l with laneGroups := l.laneGroups.map (fun g => { g with ptrs := q.lanePtrs g.lanes, slotLane := q.slotLanes g.lanes }) }

/-- Write the records of the lists that a redone step keeps. -/
def State.writeKept (s : State) (p : Nat) (pl : Plan) : State :=
  match (s.plot p).runOf pl.handle with
  | some st => st.lists.foldl (fun t l => t.writeRecord p pl l) s
  | none => s

/-- Redo a stopped step that is quiet, once its plan's groups are ACTIVE and no fill of the recovery is left. -/
def State.tryRedo (s : State) (p : Nat) (st : Step) : State :=
  let q := s.plot p
  let plan := match q.policyNaming st.plan with | some pol => pol.activePlan | none => st.plan
  let waits := match q.policyNaming st.plan with
    | some pol => pol.pendingLoss.isSome || (q.fillOf pol.plan 1).isSome || q.groups.any (fun g => g.state == groupRecompacting)
    | none => false
  match q.plans.find plan, q.plans.find st.plan with
  | some pl, some old =>
    if !(st.stopped && st.ended && st.stopFor == 3) || waits || !pl.header.groups.all q.groupUp then s
    else
      let s := s.unlist p { st with lists := st.lists.drop pl.listsOf }
      let s := ((s.rewind p old).rewind p pl).forgetFrames pl
      let s := s.updPlot p (fun q => { (q.followStep st.step st.plan plan) with
        running := q.running.map (fun x => if x.plan = st.plan then { st.redo pl with lists := (st.redo pl).lists.map q.relane } else x)
        histLive := [] })
      let s := s.writeKept p pl
      let s := s.planEvent p 3 pl st.step (match (s.plot p).planGroup pl with | some g => g.lost.getLastD 0 | none => 0) 0
      (s.replayStep p pl).pumpSkip p plan
  | _, _ => s

/-- The records that absorption has rebuilt return to the form of R235: the record and the state go back to their
places in the pools. -/
def State.recordsHome (s : State) (p : Nat) : State :=
  (s.plot p).adapters.foldl (fun t e =>
    match e.2.home, (t.plot p).binding with
    | some h, some b =>
      let t := t.updMem (fun m => ((m.copyRange e.2.resAddr h.1 (roundUp (0x100 + e.2.arrayBytes) 64)).copyRange e.2.stateAddr h.2
        (roundUp (statePlaces (e.2.tensors b)).2 64)).write (h.1 + 0x40) (natLE 8 h.2))
      t.updAdapter p e.1 (fun a => { a with resAddr := h.1, stateAddr := h.2, home := none, absorbed := 255, absorbedFirst := 0, absorbedLast := 0 })
    | _, _ => t) s

/-- The plot ends degraded operation (R310 step 5): the full plan is active again. -/
def State.endDegraded (s : State) (p : Nat) (pol : Policy) (spare : Nat) : State :=
  let s := s.activatePlan p pol pol.plan (fun x => { x with state := 1, absorbedStage := 255, pendingLoss := none, retired := false })
  let s := (s.recordsHome p).updPlot p (fun q => { q with serving := q.serving.filter (fun x => x.use != 3) })
  match (s.plot p).plans.find pol.plan with
  | some pl => s.planEvent p 10 pl (s.plot p).lastStep spare 0
  | none => s

/-- Everything of a plot's recoveries that can go on. -/
def State.tryRecover (s : State) (p : Nat) : State :=
  let s := (s.plot p).policies.foldl (fun t e =>
    match e.2.pendingLoss, (t.plot p).policies.find e.1 with
    | some j, some pol => t.activateLoss p pol j
    | _, _ => t) s
  ((s.plot p).running.foldl (fun t st => t.tryRedo p st) s).pumpServes p |>.pumpImages p

/-! ### A kept step (R305) -/

/-- Whether the backward of a micro-batch has started at this stage: a descriptor of it has been fetched. -/
def State.backwardStarted (s : State) (p : Nat) (pl : Plan) (mb : Nat) : Bool :=
  pl.streams.any (fun e => (List.range ((s.pav (e.1 / 3)).position p pl.handle (e.1 % 3))).any (fun i =>
    Config.backwardOf pl.handle (e.1 / 3) (e.1 % 3) i && Config.microbatchOf pl.handle (e.1 / 3) (e.1 % 3) i == some mb))

/-- Whether the relay inputs of a micro-batch have fully arrived; a stage without relay inputs has them. -/
def Plan.relaysIn (pl : Plan) (s : State) (p : Nat) (st : Step) (mb : Nat) : Bool :=
  (pl.relays.filter (fun b => fieldAt b 0 4 == mb)).all (fun b =>
    let x := pl.viewAt (fieldAt b 8 4)
    let n := (s.viewPlaces { plot := p, pav := 0, lanes := [] } x.2 x.1).length
    (List.range (ceilDiv n 8192)).all (fun i => st.relayed.contains (mb, fieldAt b 4 2, i)))

/-- The micro-batches that a survivor of a degraded replica drops. -/
def State.dropsOf (s : State) (p : Nat) (pl : Plan) (st : Step) : List Nat :=
  (List.range pl.listsOf).filter (fun mb => !(s.backwardStarted p pl mb || pl.relaysIn s p st mb))

/-- Keep the running step of a plan without some micro-batches: their sequences go back, their lists list
nothing, and the step goes on. -/
def State.keepStep (s : State) (p : Nat) (pl : Plan) (st : Step) (fabric : Nat) (awaits : Bool) : State :=
  let drops := s.dropsOf p pl st
  let s := s.unlist p { st with lists := st.lists.filter (fun l => drops.contains l.microbatch), building := none }
  let s := s.updStep p pl.handle (fun x => { x with
    droppedMbs := drops, keep := awaits, earlyDue := true
    building := x.building.filter (fun b => !drops.contains b.microbatch)
    lists := x.lists.map (fun l => if drops.contains l.microbatch then WorkList.blank l.step l.microbatch else l) })
  s.planEvent p 4 pl st.step fabric drops.length

/-! ### The ends of a step -/

/-- The STEP_ABORT of a plan that waits for its step. -/
def Plot.abortFor (q : Plot) (plan : Nat) : Option Req :=
  q.mail.held.find? (fun r => r.opcode == opStepAbort && r.phase == .started && fieldAt r.payload 0 4 == plan)

/-- Finish a stopped step that has come to its command boundaries. One that is to be redone waits; the others
complete, give their sequences back, and, under STEP_ABORT, leave their groups. -/
def State.finishStopped (s : State) (p : Nat) (pl : Plan) (st : Step) : State :=
  let s := s.dropTiles p st.plan
  if st.stopFor = 3 then (s.updStep p st.plan (fun x => { x with ended := true })).tryRecover p
  else
    let s := s.unlist p st
    let s := s.completeStep p st (if st.stopFor = 1 then stAborted else stGroupLost) (st.stoppedResult s.now)
    let s := s.updPlot p (fun q => { q with running := q.running.filter (fun x => x.plan != st.plan) })
    let s := s.dropIdleGrant p
    let s := if st.stopFor = 1 then (s.withdrawPlan p pl).stopLost p else s
    let s := s.stepGone p st.plan st.step
    let s := match (s.plot p).abortFor st.plan with
      | some r => s.ok p r (natLE 4 (r.tally + (if st.stopFor = 1 then 1 else 0)) ++ natLE 4 0)
      | none => s
    s.tryRecover p

/-- A stopped step of a plot that has come to its command boundaries, with its plan. -/
def State.readyStopped (s : State) (p : Nat) : Option (Plan × Step) :=
  (s.plot p).running.findSome? (fun st =>
    if st.stopped && !st.ended then
      match (s.plot p).plans.find st.plan with
      | some pl => if s.pavs.all (fun e => e.2.quiet p pl e.1) then some (pl, st) else none
      | none => none
    else none)

/-- Finish every stopped step of a plot that can finish. -/
def State.settleStopped (s : State) (p : Nat) : State :=
  (List.range (s.plot p).running.length).foldl (fun t _ =>
    match t.readyStopped p with
    | some x => t.finishStopped p x.1 x.2
    | none => t) s

/-- The result of a queued STEP_RUN that is aborted: nothing of it ran. -/
def abortedResult (plan step now : Nat) : Bytes :=
  natLE 8 step ++ natLE 12 0 ++ natLE 4 plan ++ natLE 16 0 ++ natLE 8 now

/-- Complete the queued STEP_RUNs of a plan with ST_ABORTED, in the order taken. -/
def State.abortQueued (s : State) (p plan : Nat) : State :=
  ((s.plot p).queuedFor plan).foldl (fun t r =>
    t.completeWith p r stAborted 0 0 (abortedResult plan (fieldAt r.payload 8 8) t.now)) s

/-- STEP_ABORT (R386). -/
def execStepAbort (plot : Nat) (s : State) : Out :=
  .next (s.serve plot opStepAbort (fun _ => true) (fun r s =>
    let plan := fieldAt r.payload 0 4
    match (s.plot plot).plans.find plan with
    | none => s.refuse plot r stNotPermitted
    | some pl =>
      let n := ((s.plot plot).queuedFor plan).length
      let s := s.abortQueued plot plan
      match (s.plot plot).runOf plan with
      | none => s.ok plot r (natLE 4 n ++ natLE 4 0)
      | some st =>
        if pl.header.workload == 0 && st.skipSet.isSome then s.ok plot r (natLE 4 n ++ natLE 4 0)
        else
          let s := s.updMail plot (fun m => { m with held := m.held.map (fun x =>
            if x.slot = r.slot then { x with phase := .started, tally := n } else x) })
          (s.stopStep plot plan 1).settleStopped plot))

/-! ### STEP_END -/

/-- STEP_END (R272, R336, R385). -/
def execStepEnd (plot plan : Nat) (s : State) : Out :=
  match (s.plot plot).runOf plan, (s.plot plot).plans.find plan with
  | some st, some pl => if s.stepFinished plot pl st then .next ((s.endStep plot pl st).tryRecover plot) else .next s
  | _, _ => .next s

end Sys2Proof.Machine
end

