-- ==== Sys2Proof/Machine/Faults.lean ====
section
/-! DEFINITION. Uncorrectable errors that the module meets (R172, R173, R175, R250, R324): in a line of HBM or the Cold
Frame, and in a line of a Glasshouse. -/

namespace Sys2Proof.Machine

/-- Whether the retirement list of HBM or of the Cold Frame is full. -/
def Mem.listFull (m : Mem) : Bool :=
  decide (1024 ≤ (m.retired.filter (fun x => x.1 != 3)).length) || decide (1024 ≤ (m.retired.filter (fun x => x.1 == 3)).length)

/-- Retire a granule: into the list in configuration flash while it has room, else until the next power-up. -/
def Mem.retire (m : Mem) (g : Nat × Nat) : Mem :=
  if (m.retired.filter (fun x => (x.1 == 3) == (g.1 == 3))).length < 1024 then
    let m := { m with retired := m.retired ++ [g] }
    { m with degraded := m.listFull }
  else { m with retiredVolatile := m.retiredVolatile ++ [g], degraded := true }

/-- Whether a granule lies in a run. -/
def Run.holds (r : Run) (g : Nat × Nat) : Bool := r.tier == g.1 && decide (r.first ≤ g.2) && decide (g.2 < r.first + r.count)

/-- The granule of an address, when it can be granted. -/
def granuleOf (a : Nat) : Option (Nat × Nat) :=
  match regionOf a with
  | .hbm t => some (t, (a - tierBase t) / granuleBytes)
  | .coldFrame => some (3, (a - tierBase 3) / granuleBytes)
  | _ => none

/-- Whether a line lies in a region of Table MEM-1 that holds memory. -/
def isMemory (a : Nat) : Bool :=
  match regionOf a with
  | .registers => false
  | .unmapped => false
  | _ => true

/-- Whether a granule is in use: granted, or being zeroed. -/
def Mem.inUse (m : Mem) (g : Nat × Nat) : Bool :=
  (m.granted ++ m.zeroing.map (·.run)).any (fun r => r.holds g)

/-- A granule that has held an uncorrectable error is retired when it is free, else when it returns to the pool. -/
def Mem.suspect (m : Mem) (g : Nat × Nat) : Mem :=
  if m.inUse g then (if m.suspectGranules.contains g then m else { m with suspectGranules := m.suspectGranules ++ [g] })
  else if m.retired.contains g || m.retiredVolatile.contains g then m
  else m.retire g

/-- Count a corrected line error. -/
def Mem.corrected (m : Mem) (a : Nat) : Mem :=
  if isHbm a then { m with correctedHbm := m.correctedHbm + 1 } else { m with correctedCf := m.correctedCf + 1 }

/-- An uncorrectable error in a line: the line is poisoned and its granule marked (R173, R175). A line of a device
region holds a structure of the firmware, and no read of a plot meets it. -/
def Mem.uncorrectable (m : Mem) (line : Nat) : Mem :=
  let a := line * 64
  let m := { m with err := setFlag m.err (if isHbm a then 0 else 1) }
  match regionOf a with
  | .hbmDevice _ => m.corrected a
  | _ =>
    let m := { (m.poisonLine line) with poisonedLines := m.poisonedLines + 1, lastPoison := a }
    match granuleOf a with
    | some g => m.suspect g
    | none => m

/-- Set a bit in an entry of a page table. -/
def Mem.orEntry (m : Mem) (a bit : Nat) : Mem :=
  let x := m.readNat a 8
  if bitOf x bit then m else m.write a (natLE 8 (x + 2 ^ bit))

/-- Mark the page-table entry of a sealed block or of a leaf table of a plot that holds an address: it held an
uncorrectable error (R278). -/
def State.markPage (s : State) (p a : Nat) : State :=
  let q := s.plot p
  let within (base n : Nat) : Bool := decide (base ≤ a) && decide (a < base + n)
  let slots := ((q.seqs.filter (fun e => e.2.kind == 1 && e.2.state != 0)).map (fun e =>
    ((List.range e.2.sealedPages).filterMap (fun pg =>
      let x := s.mem.pte e.2.ptRoot pg
      if pteValid x && within (pteAddr x) (q.blockBytes e.2.kvFmt) then s.mem.pteSlot e.2.ptRoot pg else none)) ++
    ((List.range 64).filterMap (fun i =>
      let x := s.mem.readNat (e.2.ptRoot + 8 * i) 8
      if pteValid x && within (pteAddr x) tableBytes then some (e.2.ptRoot + 8 * i) else none)))).flatten
  s.updMem (fun m => slots.foldl (fun m x => m.orEntry x 50) m)

/-- Tell the plots in whose windows a poisoned line lies, and mark the page (R278) or the adapter whose record holds it
(R250). -/
def State.tellPoison (s : State) (a : Nat) : State :=
  tenantPlots.foldl (fun t p =>
    if t.inWindows p a 64 && t.isOpen p then
      let t := t.markPage p a
      let t := t.raise p { t.errOf 1 3 (if isHbm a then 0 else 1) 0xFFFF (t.plot p).eventStep with address := validAddress a }
      match ((List.range 64).findSome? (fun i => (t.plot p).recordAt (a + i))) with
      | some h => t.recordPoison p h
      | none => t
    else t) s

/-- An uncorrectable word of a Glasshouse poisons its line (R167, R173, GH_UNCORRECTED of MOD_MEM_ERR). -/
def Mem.ghUncorrectable (m : Mem) (line : Nat) : Mem :=
  { m with err := setFlag m.err 2, poisonedLines := m.poisonedLines + 1
           ghPoison := if m.ghPoison.contains line then m.ghPoison else m.ghPoison ++ [line] }

/-- The plots that hold the MiB unit of a Glasshouse line. -/
def State.ghHolders (s : State) (line : Nat) : List Nat :=
  let u := line * 128 / 1048576
  tenantPlots.filter (fun p => s.isOpen p && (if u < 96 then (s.plot p).gh0Units.contains u else (s.plot p).gh1Units.contains (u - 96)))

/-- What a read meets in a memory: the line is poisoned, and the plot that it concerns is told (Table ERR-2). -/
def State.memoryFault (s : State) : HwFault → State
  | .memory line =>
    if isMemory (line * 64) then (s.updMem (fun m => m.uncorrectable line)).tellPoison (line * 64) else s
  | .glasshouse line =>
    let s := s.updMem (fun m => m.ghUncorrectable line)
    (s.ghHolders line).foldl (fun t p => t.raise p (t.errOf 1 3 2 0xFFFF (t.plot p).eventStep)) s
  | _ => s

end Sys2Proof.Machine
end

