-- ==== Sys2Proof/Machine/Sequencer.lean ====
section
/-! DEFINITION. A Pavilion's sequencer (R91 to R97, R118 to R120, R273 to R275): spans and their iterations, the
fetch of descriptors, semaphores, and retirement. -/

namespace Sys2Proof.Machine

/-- The number of a queue. -/
def queueNum : Queue → Nat
  | .array => 0
  | .rill => 1
  | .move => 2

/-- Entries of a queue (R91). -/
def queueDepth (k : Nat) : Nat := if k = 0 then 64 else 32

/-! ### Span iterations (R274) -/

/-- What an iteration gives its descriptors: the ordinal, FIRST_ROW, ROWS, POS, PAGES, the page, the row of the
sequence and the lane group in the list. -/
structure Iter where
  ordinal : Nat
  firstRow : Nat
  rows : Nat
  pos : Nat
  pages : Nat
  page : Nat
  seqRow : Nat
  lane : Nat
  deriving DecidableEq, Repr

/-- The index of a lane group by its first row. -/
def WorkList.laneIndex (l : WorkList) (firstRow : Nat) : Nat := l.laneGroups.findIdx (fun g => g.firstRow == firstRow)

/-- The tile groups that a span covers. -/
def Span.tiles (x : Span) (l : WorkList) : List TileGroup := l.tileGroups.filter (fun g => bitOf x.forms g.form)

/-- The iterations of a span over a list, in order. -/
def Span.iterations (x : Span) (l : WorkList) : List Iter :=
  let raw : List Iter :=
    if x.kind = 0 then
      (l.laneGroups.filter (fun g => g.width == x.width)).map (fun g =>
        { ordinal := 0, firstRow := g.firstRow, rows := g.rows, pos := 0, pages := 0, page := 0, seqRow := 0,
          lane := l.laneIndex g.firstRow })
    else if x.kind = 1 then
      (x.tiles l).map (fun g =>
        { ordinal := 0, firstRow := g.firstRow, rows := g.rows, pos := 0, pages := 0, page := 0, seqRow := 0, lane := g.laneGroup })
    else
      (((x.tiles l).map (fun g => ((List.range g.seqs).map (fun k => (g.firstSeq + k, g))))).flatten.filter
        (fun r => r.1 % x.parts == x.part)).map (fun r =>
          match l.seqs[r.1]? with
          | none => []
          | some q => (List.range r.2.pagePad).map (fun p =>
              { ordinal := 0, firstRow := q.firstRow, rows := x.gqa * r.2.padLen, pos := q.pos, pages := q.pages, page := p,
                seqRow := r.1, lane := r.2.laneGroup : Iter })) |>.flatten
  ((List.range raw.length).zip raw).map (fun e => { e.2 with ordinal := e.1 })

/-- The published list that a span of a running step, or a STREAM outside spans, takes its rows from. -/
def State.listFor (s : State) (p : Nat) (pl : Plan) (key : Nat) : Option WorkList :=
  match (s.plot p).runOf pl.handle with
  | some st => st.lists[Config.listOf pl.handle key % pl.listsOf]?
  | none => none

/-- The plan of a descriptor. -/
def State.planOf (s : State) (d : QDesc) : Option Plan := (s.plot d.plot).plans.find d.plan

/-- The iteration of a descriptor inside a span, with the span and the list. -/
def State.iterOf (s : State) (pav queue : Nat) (d : QDesc) : Option (Span × WorkList × Iter) :=
  (s.planOf d).bind (fun pl => (pl.spanAt pav queue d.index).bind (fun x => (s.listFor d.plot pl x.1).bind (fun l =>
    ((x.2.iterations l)[d.iter]?).map (fun it => (x.2, l, it)))))

/-- The record that each lane of an iteration names: its pointer and its bytes (R150). -/
def Plot.lanesOf (q : Plot) (l : WorkList) (lane : Nat) : List (Option (Nat × Nat)) :=
  match l.laneGroups[lane]? with
  | none => []
  | some g => (g.lanes.zip g.ptrs).map (fun e => (q.adapters.find e.1).map (fun a =>
      (e.2, if a.absorbed = 255 then 0x100 + a.arrayBytes
            else roundUp (0x100 + a.arrayBytes) 128 +
              (match q.binding with | some b => (arrayPlaces (a.tensors (a.absorbedBinding b))).2 | none => 0))))

/-- The operand context of a descriptor. -/
def State.ctxOf (s : State) (pav queue : Nat) (d : QDesc) : OpCtx :=
  { plot := d.plot, pav := pav
    lanes := match s.iterOf pav queue d with | some x => (s.plot d.plot).lanesOf x.2.1 x.2.2.lane | none => [] }

/-- A view of a descriptor's plan, with the advance of its iteration (R274). -/
def State.viewOf (s : State) (pav queue : Nat) (d : QDesc) (i : Nat) : View × Tensor :=
  match s.planOf d with
  | none => (parseView [], parseTensor [])
  | some pl =>
    let x := pl.viewAt i
    match s.iterOf pav queue d with
    | none => x
    | some (sp, _, it) =>
      let v := ((List.range 4).zip sp.advViews).foldl (fun (v : View) e =>
        if e.2 = i then
          let st := sp.advSteps.getD e.1 0
          let dim := st / 2 ^ 30
          { v with origins := (List.range 4).map (fun k =>
              v.origins.getD k 0 + (if k = dim then ((it.firstRow * (st % 2 ^ 30) : Nat) : Int) else 0)) }
        else v) x.1
      (v, x.2)

/-! ### Fetching (R94, R274) -/

/-- Descriptors that a Terrace's Pavilions hold. -/
def State.slotsHeld (s : State) (terrace : Nat) : Nat :=
  ((s.pavs.filter (fun e => e.1 / 64 == terrace)).map (fun e => e.2.array.length + e.2.rill.length + e.2.move.length)).sum

/-- Whether a stream's next descriptor may be fetched: inside a span only while that span is open, within the
iteration under way. -/
def Pavilion.mayFetch (v : Pavilion) (p : Nat) (pl : Plan) (pav queue : Nat) : Bool :=
  match pl.spanAt pav queue (v.position p pl.handle queue) with
  | none => true
  | some x => (match v.span with
    | some sp => sp.plot == p && sp.plan == pl.handle && sp.span == x.1
    | none => false)

/-- Whether a queue waits at the end of its run for the next iteration of the open span. -/
def Pavilion.atRunEnd (v : Pavilion) (p : Nat) (pl : Plan) (queue : Nat) : Bool :=
  match v.span with
  | none => false
  | some sp =>
    sp.plot == p && sp.plan == pl.handle &&
    (let x := parseSpan (pl.spans.getD sp.span [])
     x.count.getD queue 0 != 0 && v.position p pl.handle queue == x.first.getD queue 0 + x.count.getD queue 0)

/-- Whether a step that stops still fetches: the rest of an ARRAY command under way. -/
def Pavilion.stopFetch (v : Pavilion) (p : Nat) (pl : Plan) (st : Step) (pav queue : Nat) : Bool :=
  !st.stopped || (queue == 0 &&
    (match v.commandEnd p pl pav with | some n => decide (v.position p pl.handle 0 ≤ n) | none => false))

/-- The plan whose stream a queue fetches from next: the first running step of the plot that holds the Pavilion
whose stream goes on. -/
def State.fetchPlan (s : State) (pav queue : Nat) : Option (Nat × Plan) :=
  let v := s.pav pav
  let p := v.context
  (s.plot p).running.findSome? (fun st => match (s.plot p).plans.find st.plan with
    | none => none
    | some pl =>
      if decide (v.position p pl.handle queue < (pl.stream pav queue).length) && v.mayFetch p pl pav queue &&
          !v.atRunEnd p pl queue && v.stopFetch p pl st pav queue then some (p, pl) else none)

/-- Whether a Pavilion is fenced or stopped (R331, Table ERR-2). -/
def State.pavDown (s : State) (pav : Nat) : Bool :=
  (s.pav pav).tripped || bitOf (if pav < 64 then s.mod.fencedPav0.toNat else s.mod.fencedPav1.toNat) (pav % 64)

/-- Whether the copy of a plan holds a poisoned line. -/
def State.copyPoisoned (s : State) (pl : Plan) : Bool :=
  pl.runs.any (fun r => s.mem.poison.any (fun l => decide (r.base ≤ 64 * l) && decide (64 * l < r.base + r.bytes)))

/-- A descriptor that arrives poisoned is not run: DESC_POISON, the plan is damaged and its step void (Table
ERR-2). The stream goes on past it. -/
def State.descPoison (s : State) (pav p : Nat) (pl : Plan) (d : Bytes) : State :=
  let s := (s.updPav pav (fun v => { v with err := setFlag v.err 2 })).updPlot p (fun q => { q with
    plans := q.plans.modify pl pl.handle (fun x => { x with damaged := true }) })
  let e := s.errOf 3 2 2 pav ((s.plot p).stepOf pl.handle)
  (s.raise p { e with descId := dId d }).makeVoid p pl.handle

/-- Fetch the next descriptor of a queue's stream; those of a micro-batch that a kept step drops are passed over (R305). -/
def State.fetchNext (s : State) (pav queue p : Nat) (pl : Plan) : State :=
  let v := s.pav pav
  let i := v.position p pl.handle queue
  let d := (pl.stream pav queue).getD i []
  let it := match pl.spanAt pav queue i, v.span with | some _, some sp => sp.iter | _, _ => 0
  let s := s.updPav pav (fun v => { v with positions := v.positions.set (posKey p pl.handle queue) (i + 1) })
  let dropped := match (s.plot p).runOf pl.handle, Config.microbatchOf pl.handle pav queue i with
    | some st, some mb => st.droppedMbs.contains mb
    | _, _ => false
  if s.copyPoisoned pl && !pl.damaged then s.descPoison pav p pl d
  else if dropped then s
  else
    let x : QDesc :=
      { plot := p, plan := pl.handle, index := i, bytes := d, iter := it, started := false, executed := false,
        startTick := s.now, waited := 0, failed := false }
    s.updPav pav (fun v => v.setQueue queue (v.queue queue ++ [x]))

/-- Whether a plot holds its grant of every Pavilion of a mask (R347). -/
def Plot.holdsNeed (q : Plot) (need : Nat) : Bool := q.sched.grant &&& need == need

/-- DESCRIPTOR_FETCH (R94): while the Terrace has a free slot and the queue has room. A switch that waits lets no
new command in, and a step advances while its plot holds every Pavilion that its plan needs (R347). -/
def execDescriptorFetch (pav : Nat) (queue : Queue) (s : State) : Out :=
  let k := queueNum queue
  let v := s.pav pav
  if s.pavDown pav || decide (2048 ≤ s.slotsHeld (pav / 64)) || decide (queueDepth k ≤ (v.queue k).length) then .next s
  else
    match s.fetchPlan pav k with
    | none => .next s
    | some (p, pl) =>
      let midCommand := k == 0 && !dStart ((pl.stream pav 0).getD (v.position p pl.handle 0) [])
      if v.switchPending && !midCommand then .next s
      else if !v.switchPending && !(s.plot p).holdsNeed pl.header.need then .next s
      else .next (s.fetchNext pav k p pl)

/-! ### Spans (R274, R275) -/

/-- The queues that have a run in a span. -/
def Span.queues (x : Span) : List Nat := [0, 1, 2].filter (fun k => x.count.getD k 0 != 0)

/-- Where a Pavilion's queues stand in a span: before or at the beginning of their runs, at the beginning, or
at the end. -/
def Pavilion.before (v : Pavilion) (p : Nat) (pl : Plan) (x : Span) : Bool :=
  x.queues.all (fun k => decide (v.position p pl.handle k ≤ x.first.getD k 0))
def Pavilion.atFirst (v : Pavilion) (p : Nat) (pl : Plan) (x : Span) (k : Nat) : Bool :=
  v.position p pl.handle k == x.first.getD k 0
def Pavilion.atEnd (v : Pavilion) (p : Nat) (pl : Plan) (x : Span) : Bool :=
  x.queues.all (fun k => v.position p pl.handle k == x.first.getD k 0 + x.count.getD k 0)

/-- Put the positions of a span's queues at the beginning or the end of their runs. -/
def Pavilion.placeAt (v : Pavilion) (p : Nat) (pl : Plan) (x : Span) (atEnd : Bool) : Pavilion :=
  { v with positions := x.queues.foldl (fun m k =>
      m.set (posKey p pl.handle k) (x.first.getD k 0 + (if atEnd then x.count.getD k 0 else 0))) v.positions }

/-- Add 1 to a span's EXIT_SEM. -/
def State.exitSpan (s : State) (p : Nat) (pl : Plan) (x : Span) : State :=
  s.updPlot p (fun q => { q with sems := q.sems.modify 0 (pl.semKey x.exitSem) (· + 1) })

/-- Open the next span that a Pavilion's streams have come to: its list is published. A span without iterations
is skipped once every queue has come to its run. -/
def State.openSpan (s : State) (pav p : Nat) (pl : Plan) : State :=
  let v := s.pav pav
  match ((List.range pl.spans.length).zip (pl.spans.map parseSpan)).find? (fun e =>
      e.2.pav == pav && v.before p pl e.2 && e.2.queues.any (v.atFirst p pl e.2)) with
  | none => s
  | some (i, x) =>
    match s.listFor p pl i with
    | none => s
    | some l =>
      let n := (x.iterations l).length
      if n = 0 then
        if x.queues.all (v.atFirst p pl x) then (s.updPav pav (fun v => v.placeAt p pl x true)).exitSpan p pl x else s
      else s.updPav pav (fun v => { v with span := some { plot := p, plan := pl.handle, span := i, iter := 0, total := n } })

/-- Advance the open span: the next iteration once every queue has fetched its run, or the end once every
descriptor of the last one has retired. -/
def State.advanceSpan (s : State) (pav : Nat) (sp : SpanState) (pl : Plan) : State :=
  let v := s.pav pav
  let x := parseSpan (pl.spans.getD sp.span [])
  if v.atEnd sp.plot pl x = false then s
  else if sp.iter + 1 < sp.total then
    s.updPav pav (fun v => { (v.placeAt sp.plot pl x false) with span := some { sp with iter := sp.iter + 1 } })
  else if [0, 1, 2].any (fun k => (v.queue k).any (fun d => d.plot == sp.plot && d.plan == sp.plan && x.covers pav k d.index)) then s
  else (s.updPav pav (fun v => { v with span := none })).exitSpan sp.plot pl x

/-- SPAN_ITERATION (R274, R275). -/
def execSpanIteration (pav : Nat) (s : State) : Out :=
  let p := (s.pav pav).context
  match (s.pav pav).span with
  | some sp =>
    match (s.plot sp.plot).plans.find sp.plan with
    | some pl => .next (s.advanceSpan pav sp pl)
    | none => .next s
  | none =>
    .next (((s.plot p).running.filter (fun st => !st.stopped)).foldl (fun t st =>
      if (t.pav pav).span.isSome then t
      else match (t.plot p).plans.find st.plan with | some pl => t.openSpan pav p pl | none => t) s)

/-! ### Heads of queues -/

/-- Change the descriptor of a queue at a place. -/
def State.updDesc (s : State) (pav queue i : Nat) (f : QDesc → QDesc) : State :=
  s.updPav pav (fun v => v.setQueue queue (((List.range (v.queue queue).length).zip (v.queue queue)).map (fun e =>
    if e.1 = i then f e.2 else e.2)))

/-- Mark a descriptor executed at the present tick. -/
def State.markDone (s : State) (pav queue i : Nat) : State :=
  s.updDesc pav queue i (fun d => { d with started := true, executed := true, startTick := if d.started then d.startTick else s.now })

/-- The head of a queue when it is of a type and has not run. -/
def State.headOf (s : State) (pav queue t : Nat) : Option QDesc :=
  match (s.pav pav).queue queue with
  | d :: _ => if dType d.bytes = t ∧ d.executed = false ∧ s.pavDown pav = false then some d else none
  | [] => none

/-! ### Checks that fail while a descriptor runs (R89, R123, Table ERR-2) -/

/-- The flag of a failed check: the block of Table ERR-6 (1 Parterre, 2 Pavilion) and the bit of PRT_ERR or PAV_ERR. -/
def faultFlag : HwFault → Option (Nat × Nat)
  | .weightParity => some (1, 0)
  | .colsumParity => some (1, 1)
  | .deskewEcc => some (1, 2)
  | .feedParity => some (1, 3)
  | .lsUncorrected => some (2, 0)
  | .gbufUncorrected => some (2, 1)
  | .rillParity => some (2, 3)
  | .semParity => some (2, 4)
  | .memory _ => none
  | .glasshouse _ => none

/-- Set the flag of a failed check. -/
def Pavilion.flag (v : Pavilion) (f : Nat × Nat) : Pavilion :=
  if f.1 = 1 then { v with par := { v.par with err := setFlag v.par.err f.2 } } else { v with err := setFlag v.err f.2 }

/-- Whether a check of a Pavilion's own fails, so that the descriptor's outputs are poisoned. -/
def unitFault (fs : List HwFault) : Bool := fs.any (fun f => (faultFlag f).isSome)

/-- What the faults of a descriptor leave beside its poisoned outputs: the lines of memories that they poison, their
flags, the descriptor's error, and a FUNCTION record for each. -/
def State.meetFaults (s : State) (pav queue i : Nat) (d : QDesc) (fs : List HwFault) : State :=
  let s := fs.foldl State.memoryFault s
  (fs.filterMap faultFlag).foldl (fun t f =>
    ((t.updPav pav (fun v => v.flag f)).updDesc pav queue i (fun x => { x with failed := true })).raise d.plot
      { t.errOf 2 f.1 f.2 pav ((t.plot d.plot).stepOf d.plan) with descId := dId d.bytes }) s

/-! ### Semaphores (R119, R120, R275) -/

/-- A semaphore of a plot. -/
def Plot.sem (q : Plot) (k : Nat) : W32 := q.sems.get 0 k

/-- Whether a wait is satisfied. -/
def semSatisfied (cond : Nat) (cur value : W32) : Bool :=
  if cond = 0 then decide (0 ≤ (cur - value).toInt) else cur == value

/-- The value that a wait names; inside a span it is multiplied by the iteration's number. -/
def State.waitValue (s : State) (pav queue : Nat) (d : QDesc) : W32 :=
  let v : W32 := BitVec.ofNat 32 (fieldAt d.bytes 0x0C 4)
  match s.iterOf pav queue d with
  | some _ => v * BitVec.ofNat 32 (d.iter + 1)
  | none => v

/-- The waits at the heads of queues that wait on a semaphore of a plot: Pavilion and queue. -/
def State.waitersOn (s : State) (p key : Nat) : List (Nat × Nat) :=
  (((List.range 128).map (fun i => [(i, 0), (i, 1), (i, 2)])).flatten).filter (fun x =>
    match s.headOf x.1 x.2 0x30 with
    | some d => d.plot == p && (match s.planOf d with | some pl => pl.semKey (fieldAt d.bytes 8 2) == key | none => false)
    | none => false)

/-- A parity error in a semaphore (Table ERR-2 SEM_PARITY): it is set to zero, its waiters retire at once, and the step
is void. -/
def State.semParity (s : State) (pav : Nat) (d : QDesc) (key : Nat) : State :=
  let ws := s.waitersOn d.plot key
  let s := (s.updPav pav (fun v => v.flag (2, 4))).updPlot d.plot (fun q => { q with sems := q.sems.set key 0 })
  let s := ws.foldl (fun t x => t.markDone x.1 x.2 0) s
  (s.raise d.plot { s.errOf 3 2 4 pav ((s.plot d.plot).stepOf d.plan) with descId := dId d.bytes }).makeVoid d.plot d.plan

/-- A wait that is not satisfied goes on waiting from the tick of its start (Table ERR-3). -/
def State.beginWait (s : State) (pav queue : Nat) : State :=
  s.updDesc pav queue 0 (fun d => if d.started then d else { d with started := true, startTick := s.now })

/-- SEM_WAIT: a satisfied wait is done. -/
def execSemWait (pav : Nat) (queue : Queue) (faults : List HwFault) (s : State) : Out :=
  let k := queueNum queue
  match s.headOf pav k 0x30 with
  | none => .next s
  | some d =>
    match s.planOf d with
    | none => .next s
    | some pl =>
      let key := pl.semKey (fieldAt d.bytes 8 2)
      if faults.contains .semParity then .next ((s.semParity pav d key).markDone pav k 0)
      else if semSatisfied (fieldAt d.bytes 0x0A 1) ((s.plot d.plot).sem key) (s.waitValue pav k d) then
        .next (s.markDone pav k 0)
      else .next (s.beginWait pav k)

/-- SEM_SIGNAL: ADD or SET, once every earlier descriptor of the queue has retired. A parity error leaves the semaphore at
zero. -/
def execSemSignal (pav : Nat) (queue : Queue) (faults : List HwFault) (s : State) : Out :=
  let k := queueNum queue
  match s.headOf pav k 0x31 with
  | none => .next s
  | some d =>
    match s.planOf d with
    | none => .next s
    | some pl =>
      let key := pl.semKey (fieldAt d.bytes 8 2)
      let v : W32 := BitVec.ofNat 32 (fieldAt d.bytes 0x0C 4)
      if faults.contains .semParity then .next ((s.semParity pav d key).markDone pav k 0)
      else
        .next ((s.updPlot d.plot (fun q => { q with sems := q.sems.modify 0 key (fun c =>
          if fieldAt d.bytes 0x0A 1 = 0 then c + v else v) })).markDone pav k 0)

/-! ### Retirement (R96, R116, R124, R355) -/

/-- Pavilion cycles from a tick to now at clock step n: n × 200 MHz against 100 MHz (R10, R12). -/
def State.cyclesSince (s : State) (pav tick : Nat) : Nat := (s.now - tick) * 2 * s.clockStep pav

/-- A tile of the gradient buffer by its plot, plan and handle. -/
def GTile.isFor (g : GTile) (p plan handle : Nat) : Bool := g.plot == p && g.plan == plan && g.handle == handle

/-- A new tile of +0.0. -/
def GTile.fresh (p plan handle clock : Nat) : GTile :=
  { plot := p, plan := plan, handle := handle, live := true, resident := true, lastAccess := clock, data := [], poison := [],
    cascade := false }

/-- HANDOFF passes a tile to the Cascade; a handle that is not live passes +0.0. -/
def Pavilion.handOff (v : Pavilion) (p plan handle : Nat) : Pavilion :=
  if v.gbuf.any (fun g => g.isFor p plan handle) then
    { v with gbuf := v.gbuf.map (fun g => if g.isFor p plan handle then { g with cascade := true } else g) }
  else { v with gbuf := v.gbuf ++ [{ GTile.fresh p plan handle v.gbufClock with cascade := true }] }

/-- The counters of a retiring descriptor. What its timing costs (bubbles, freezes, bank conflicts) and the ECC errors
corrected on its way are `lost`, free values. -/
def PavCounters.retire (c : PavCounters) (t cycles : Nat) (vprogRan : Bool) (lost : Nat → W64) : PavCounters :=
  { c with
    descRetired := c.descRetired + 1
    bubbles := if t ≤ 3 then c.bubbles + lost 0 else c.bubbles
    freezeFeed := if t ≤ 3 then c.freezeFeed + lost 1 else c.freezeFeed
    freezeDrain := if t ≤ 3 then c.freezeDrain + lost 2 else c.freezeDrain
    lsConflicts := if t < 0x30 then c.lsConflicts + lost 3 else c.lsConflicts
    corrected := if t < 0x30 then c.corrected + lost 4 else c.corrected
    programs := if t = 0x10 ∧ vprogRan = true then c.programs + 1 else c.programs
    scalePasses := if t = 0x11 then c.scalePasses + 1 else c.scalePasses
    rillBusy := if t = 0x10 ∨ t = 0x11 then c.rillBusy + BitVec.ofNat 64 cycles else c.rillBusy }

/-- The end of a pass: its last DRAIN retires, and a clock step that waits for the boundary takes effect (R121). DESIGN
CHOICE: SHAPE, LANES and CLASS of PRT_STATUS keep the last pass's values, since the spec does not say what they read
between passes. -/
def Pavilion.endPass (v : Pavilion) : Pavilion :=
  { v with par := { v.par with busy := false, begun := false, pass := [], bill := [] }, step := v.nextStep }

/-- The adapters of the lanes with VALID set that a descriptor's iteration names. -/
def State.validLanes (s : State) (pav : Nat) (d : QDesc) : List Nat :=
  match s.iterOf pav 0 d with
  | some x =>
    (match x.2.1.laneGroups[x.2.2.lane]? with
     | some g => g.lanes.filter (fun h => ((s.plot d.plot).adapters.find h).isSome)
     | none => [])
  | none => []

/-- The array cycles of a lane pass's descriptor that each adapter is charged (R252): a STREAM's slots to the adapters of
their rows, a weight load and what else the STREAM takes equally to the lanes with VALID set. DESIGN CHOICE: equal shares
are whole cycles, and what is left over is charged to no adapter. -/
def State.laneCharges (s : State) (pav : Nat) (d : QDesc) (cycles : Nat) : NMap Nat :=
  let t := dType d.bytes
  let par := (s.pav pav).par
  let lanes := s.validLanes pav d
  let even (m : NMap Nat) (n : Nat) : NMap Nat := lanes.foldl (fun m h => m.modify 0 h (· + n / lanes.length)) m
  if t = 1 ∧ fieldAt d.bytes 0x0F 1 % 4 ≠ 0 then even [] cycles
  else if t = 2 ∧ ((par.active.find (dBlock d.bytes)).map (·.laneWidth)).getD 0 ≠ 0 then
    let slots := (par.bill.find (dBlock d.bytes)).getD []
    even slots (cycles - (slots.map (·.2)).sum)
  else []

/-- DESCRIPTOR_RETIRE (R95, R96): the head of a queue that has run leaves it. -/
def execDescriptorRetire (pav : Nat) (queue : Queue) (s : State) : Out :=
  let k := queueNum queue
  match (s.pav pav).queue k with
  | [] => .next s
  | d :: rest =>
    if d.executed = false then .next s
    else
      let t := dType d.bytes
      let n := s.cyclesSince pav d.startTick
      let bills := s.laneCharges pav d n
      let s := s.updPav pav (fun v =>
        let v := v.setQueue k rest
        let v := if t = 3 ∧ bitOf (fieldAt d.bytes 0x0D 1) 4 = true then v.handOff d.plot d.plan (fieldAt d.bytes 0x18 2) else v
        let v := if t = 3 ∧ dEnd d.bytes = true then v.endPass else v
        { v with ctr := v.ctr.retire t n true (fun i => BitVec.ofNat 64 (Config.lostCycles i pav s.now)), lastRetire := s.now
                 rillBusy := if k = 1 then false else v.rillBusy, rillHist := if k = 1 then false else v.rillHist
                 rillStoch := if k = 1 then false else v.rillStoch })
      let s := bills.foldl (fun t e => t.updAdapter d.plot e.1 (fun a => { a with arrayCycles := a.arrayCycles + BitVec.ofNat 64 e.2 })) s
      let c := BitVec.ofNat 64 n
      let s := s.charge d.plot (fun a =>
        if t ≤ 3 then { a with arrayCycles := a.arrayCycles + c }
        else if t = 0x10 ∨ t = 0x11 then { a with rillCycles := a.rillCycles + c }
        else if t = 0x20 then { a with moveCycles := a.moveCycles + c } else a)
      .next ((s.beginRelay d.plot d.plan pav k d.index).settleStopped d.plot)

end Sys2Proof.Machine
end

