-- ==== Sys2Proof/Machine/Parterre.lean ====
section
/-! DEFINITION. The Parterre (chapters 02 and 03): WLOAD, STREAM and DRAIN, the Trellis page walk (R280, R281), and
the gradient buffer (R113 to R117). -/

namespace Sys2Proof.Machine

/-! ### The ARRAY command of a descriptor (R92) -/

/-- The descriptors of the command that starts at the head of a list, and what follows it. -/
def takeCommand : List QDesc → List QDesc × List QDesc
  | [] => ([], [])
  | d :: ds =>
    if dEnd d.bytes then ([d], ds)
    else
      let x := takeCommand ds
      (d :: x.1, x.2)

/-- Whether a command stands whole in the queue: its last descriptor ends it. A command whose first descriptors
have retired is still whole. -/
def wholeCommand (c : List QDesc) : Bool := c.any (fun d => dEnd d.bytes)

/-- The command at the head of the ARRAY queue, and the one behind it. -/
def Pavilion.commands (v : Pavilion) : List QDesc × List QDesc :=
  let a := takeCommand v.array
  (a.1, (takeCommand a.2).1)

/-- Whether every descriptor of a type in a command has run. -/
def allRun (c : List QDesc) (t : Nat) : Bool := c.all (fun d => dType d.bytes != t || d.executed)

/-- The first descriptor of a type in a command that has not run, with its place. -/
def firstOpen (c : List QDesc) (t : Nat) : Option (Nat × QDesc) :=
  ((List.range c.length).zip c).find? (fun e => dType e.2.bytes == t && !e.2.executed)

/-- The descriptor of a type and a block in a command. -/
def ofBlock (c : List QDesc) (t block : Nat) : Option QDesc := c.find? (fun d => dType d.bytes == t && dBlock d.bytes == block)

/-! ### The page walk (R280, R281) -/

/-- What a walk load reads: the BF16 code of channel `k` and token `n`, whether the data is poisoned, and the
faults that it met. -/
structure Walk where
  code : Nat → Nat → Nat
  poisoned : Bool
  genFault : Bool
  tierFault : Bool
  pagePoison : Bool

/-- The page as fill. -/
def Walk.fill (poisoned gen tier : Bool) : Walk :=
  { code := fun _ _ => 0, poisoned := poisoned, genFault := gen, tierFault := tier, pagePoison := false }

/-- The row and the page of a walk load: the WLOAD's own, or the iteration's. -/
def walkPlace (d : Bytes) (it : Iter) : Nat × Nat :=
  (if fieldAt d 0x14 4 = 0xFFFFFFFF then it.seqRow else fieldAt d 0x14 4,
   if fieldAt d 0x18 2 = 0xFFFF then it.page else fieldAt d 0x18 2)

/-- The page table entry of a page, or the poison of its tables. -/
def State.walkEntry (s : State) (e : SeqEntry) (page : Nat) : Nat × Bool :=
  let root := s.mem.readNat (e.ptRoot + 8 * (page / 64)) 8
  let bad := s.mem.poisonedIn (e.ptRoot + 8 * (page / 64)) 8 || ptePoison root ||
    (pteValid root && s.mem.poisonedIn (pteAddr root + 8 * (page % 64)) 8)
  (s.mem.pte e.ptRoot page, bad)

/-- Read keys or values of a page at a layer slot and a head; a poisoned line in them is a poisoned page. -/
def State.walkBlock (s : State) (b : Binding) (fmt block slot head kv : Nat) : Walk :=
  let base := block + kvPageAt b fmt slot head + (if kv = 0 then 0 else kvSk fmt b.headDim)
  let size := if kv = 0 then kvSk fmt b.headDim else kvSv fmt b.headDim
  { code := fun k n => if kv = 0 then widenKey fmt b.headDim (fun o => s.mem.read (base + o)) k n
                       else widenValue fmt b.headDim (fun o => s.mem.read (base + o)) k n
    poisoned := s.mem.poisonedIn base size, genFault := false, tierFault := false, pagePoison := s.mem.poisonedIn base size }

/-- The walk load of a WLOAD inside a WALK span. -/
def State.walkPage (s : State) (p : Nat) (b : Binding) (sp : Span) (l : WorkList) (it : Iter) (d : Bytes) : Walk :=
  let place := walkPlace d it
  match l.seqs[place.1]? with
  | none => Walk.fill false false false
  | some r =>
    match (s.plot p).seqOf r.seqId with
    | none => Walk.fill true true false
    | some e =>
      if e.gen ≠ r.gen then Walk.fill true true false
      else if r.pages ≤ place.2 then Walk.fill false false false
      else if place.2 = e.ctx / 64 then s.walkBlock b 1 e.openBlock sp.layerSlot sp.head (fieldAt d 0x1A 1)
      else
        let x := s.walkEntry e place.2
        if x.2 ∨ ptePoison x.1 = true then { Walk.fill true false false with pagePoison := true }
        else if pteValid x.1 = false ∨ pteMoving x.1 = true ∨ isHbm (pteAddr x.1) = false then Walk.fill false false true
        else s.walkBlock b e.kvFmt (pteAddr x.1) sp.layerSlot sp.head (fieldAt d 0x1A 1)

/-- What a walk leaves in the Trellis's registers, and the mark of a poisoned page (R280). -/
def State.walkFaults (s : State) (p plan : Nat) (w : Walk) (e : Option SeqEntry) (page : Nat) : State :=
  let t := s.trellis
  let t := { t with walks := t.walks + 1, genFaults := if w.genFault then t.genFaults + 1 else t.genFaults }
  let t := if w.genFault then { t with err := setFlag t.err 2 } else t
  let t := if w.tierFault then { t with err := setFlag t.err 3 } else t
  let s := { s with trellis := if w.pagePoison then { t with err := setFlag t.err 1 } else t }
  let step := (s.plot p).stepOf plan
  let s := if w.genFault then s.raise p (s.errOf 1 7 2 0xFFFF step) else s
  if w.pagePoison then
    let s := match e with
      | some e => if page < e.ctx / 64 then s.updMem (fun m => m.setPte e.ptRoot page (m.pte e.ptRoot page ||| 2 ^ 50)) else s
      | none => s
    s.raise p (s.errOf 1 7 1 0xFFFF step)
  else s

/-! ### WLOAD (R38, R40, R65 to R70) -/

/-- The column sum W of a column (R40): FP32 addition in logical row order from +0.0. -/
def columnSum (rows : List (List Num)) (n : Nat) : W32 :=
  rows.foldl (fun acc r => ((f32 acc).add (r.getD n (Num.zero false))).toF32) 0

/-- KR or NC of a load (R65): the byte holds it less 1. DESIGN CHOICE: a byte of 128 or more counts modulo 128, and a
count beyond the block's size ends at it; the spec states neither. -/
def loadExtent (m1 size : Nat) : Nat := min (m1 % 128 + 1) size

/-- The weights of a block from a function of (k, n); `fmt` is the format that decides the rate class. -/
def blockWeights (d : Bytes) (fmt : Nat) (weight : Nat → Nat → Num) (colScales : List W32) (poisoned : Bool) (size : Nat) :
    BlockWeights :=
  let kr := loadExtent (fieldAt d 0x0D 1) size
  let nc := loadExtent (fieldAt d 0x0E 1) size
  let rows := (List.range kr).map (fun k => (List.range nc).map (weight k))
  let lane := fieldAt d 0x0F 1 % 4
  { rows := rows, colSums := (List.range nc).map (columnSum rows), kr := kr, nc := nc,
    laneWidth := if lane = 0 then 0 else 4 * 2 ^ lane, rowOrient := bitOf (fieldAt d 0x0F 1) 2, colScales := colScales,
    fmt := fmt, poisoned := poisoned }

/-- The FP32 words of a view's elements, with poison. -/
def State.viewWords (s : State) (cx : OpCtx) (x : View × Tensor) : List (W32 × Bool) :=
  (s.viewElems cx x.2 x.1).map (fun e => (BitVec.ofNat 32 (if x.2.fmt = 1 then e.code * 65536 else e.code), e.poisoned))

/-- The element of a tile of weights for cell (k, n): the element at reduction index i and output j of the source tile is
the element (i, j) of the view, and TRANSPOSE places it in cell (j, i) (R68). -/
def tileElem (v : View) (es : List Elem) (transpose : Bool) (k n : Nat) : Option Elem :=
  let i := if transpose then n else k
  let j := if transpose then k else n
  if i < v.extents.getD 0 0 then es[i + v.extents.getD 0 0 * j]? else none

/-- A number as BF16 holds it (R41, R42). -/
def Num.asBf16 (x : Num) : Num := decodeFloat fmtBf16 (x.toWide fmtBf16 .nearest)

/-- The weight of a cell, +0.0 beyond the box: exact (R38), or an MXFP8 saved activation widened to BF16 (R42). -/
def tileWeight (x : View × Tensor) (es : List Elem) (transpose saved : Bool) (k n : Nat) : Num :=
  match tileElem x.1 es transpose k n with
  | some e => if saved then (e.value x.2.fmt).asBf16 else e.value x.2.fmt
  | none => Num.zero false

/-- Whether a weight is one that the Belvedere counts (Table NUM-9): an element of an MX block whose scale is 0xFF, or an
E4M3 NaN. -/
def nanWeight (fmt : Nat) (e : Elem) : Bool :=
  (isMx fmt && e.scale == 0xFF) || ((fmt == 2 || fmt == 8) && codeValue fmt e.code == .nan)

/-- How many such weights a load puts into its cells. -/
def nanWeights (x : View × Tensor) (es : List Elem) (transpose : Bool) (kr nc : Nat) : Nat :=
  ((List.range kr).map (fun k => ((List.range nc).filter (fun n =>
    match tileElem x.1 es transpose k n with | some e => nanWeight x.2.fmt e | none => false)).length)).sum

/-- Whether a descriptor of a list is another one as the plan's stream gives it. -/
def QDesc.isOf (d : QDesc) (l : List QDesc) : Bool :=
  l.any (fun e => e.plot == d.plot && e.plan == d.plan && e.index == d.index && e.iter == d.iter)

/-- Whether the shadow belongs to the head command's pass: no load of the command behind it is in it (R69, R95). -/
def Pavilion.ownsShadow (v : Pavilion) : Bool := !v.par.shadowLoads.any (fun d => d.isOf v.commands.2)

/-- Put a block's weights into the shadow; `fresh` loads take the place of what stands there. DESIGN CHOICE: the first load
of a command takes the place of a shadow that a pass of no slots has left. -/
def Parterre.load (q : Parterre) (fresh early done : Bool) (d : QDesc) (w : BlockWeights) : Parterre :=
  { q with
    shadow := NMap.set (if fresh then [] else q.shadow) (dBlock d.bytes) w
    shadowLoads := (if fresh then [] else q.shadowLoads) ++ [d], early := early, shadowValid := done, owner := d.plot }

/-- The load of a WLOAD of a command, which stands at the head or behind it. -/
def Pavilion.loadShadow (v : Pavilion) (c : List QDesc) (d : QDesc) (w : BlockWeights) : Pavilion :=
  let loads := c.filter (fun x => dType x.bytes == 1)
  { v with
    par := v.par.load (!loads.any (·.executed)) (!d.isOf v.commands.1) ((loads.filter (fun x => !x.executed)).length == 1) d w
    reload := [] }

/-- The plan's descriptor behind a WLOAD in its stream, the block's STREAM, walks (R100). -/
def State.loadWalks (s : State) (pav : Nat) (d : QDesc) : Bool :=
  match s.planOf d with
  | some pl =>
    let n := (pl.stream pav 0).getD (d.index + 1) []
    dType n == 2 && fieldAt n 0x0D 1 == 2
  | none => false

/-- Whether a tensor of MXFP8 is a saved activation: one that the base manifest does not mark as a base weight (R41,
R179). -/
def State.savedActivation (s : State) (d : QDesc) (view : Nat) : Bool :=
  match s.planOf d with
  | some pl =>
    let v := parseView (pl.views.getD view [])
    let b := pl.tensors.getD v.tensor []
    (fieldAt b 0x11 1 == 8 || fieldAt b 0x11 1 == 9) &&
    !Config.baseWeight (match (s.plot d.plot).binding with | some x => x.manifest | none => []) b
  | none => false

/-- What a load of one block gives: the state after the reads, the weights, how many of them the Belvedere counts, and the
accesses that R108 splits. -/
structure BlockLoad where
  state : State
  weights : BlockWeights
  nans : Nat
  splits : Nat

/-- The load of one block. -/
def State.loadBlock (s : State) (pav : Nat) (d : QDesc) : BlockLoad :=
  let cx := s.ctxOf pav 0 d
  let size := blockSize (dShape d.bytes)
  let fmt := fieldAt d.bytes 0x0C 1
  let sc := fieldAt d.bytes 0x10 4
  let scales := if sc = noView then [] else s.viewWords cx (s.viewOf pav 0 d sc)
  let scSplits := if sc = noView then 0 else s.viewSplits cx (s.viewOf pav 0 d sc)
  let scBad := scales.any (·.2)
  if s.loadWalks pav d then
    match s.iterOf pav 0 d, (s.plot d.plot).binding with
    | some (sp, l, it), some b =>
      let w := s.walkPage d.plot b sp l it d.bytes
      let place := walkPlace d.bytes it
      let e := (l.seqs[place.1]?).bind (fun r => (s.plot d.plot).seqOf r.seqId)
      let kv := fieldAt d.bytes 0x1A 1
      let weight (k n : Nat) : Num := decodeFloat fmtBf16 (if kv = 0 then w.code k n else w.code n k)
      { state := s.walkFaults d.plot d.plan w e place.2
        weights := blockWeights d.bytes 1 weight (scales.map (·.1)) (w.poisoned || scBad) size, nans := 0, splits := scSplits }
    | _, _ =>
      { state := s, weights := blockWeights d.bytes 1 (fun _ _ => Num.zero false) (scales.map (·.1)) scBad size, nans := 0
        splits := scSplits }
  else
    let x := s.viewOf pav 0 d (fieldAt d.bytes 8 4)
    let es := s.viewElems cx x.2 x.1
    let transpose := bitOf (fieldAt d.bytes 0x0F 1) 3
    let saved := s.savedActivation d (fieldAt d.bytes 8 4)
    let w := blockWeights d.bytes (if saved then 1 else fmt) (tileWeight x es transpose saved) (scales.map (·.1))
      (scBad || es.any (·.poisoned)) size
    { state := s, weights := w, nans := nanWeights x es transpose w.kr w.nc, splits := scSplits + s.viewSplits cx x }

/-- Whether a WLOAD's tile is empty: it then loads nothing (R139). -/
def State.loadEmpty (s : State) (pav : Nat) (d : QDesc) : Bool :=
  !s.loadWalks pav d && (s.viewOf pav 0 d (fieldAt d.bytes 8 4)).1.size == 0

/-- The Belvedere's event of loads that met a NaN (R196, R199, Table STP-5 kind 6): one for a member's step, with the count
of all its loads. -/
def State.weightEvent (s : State) (p plan n : Nat) : State :=
  if n = 0 then s
  else
    let ev := belEvent 6 0xFFFF 0xFFFFFFFF 0 0 0 n
    let more (l : List BelEvent) : List BelEvent :=
      if l.any (fun e => e.kind == 6) then l.map (fun e => if e.kind = 6 then { e with nonfinite := e.nonfinite + n } else e)
      else addEvent l ev
    s.updStep p plan (fun st => { st with events := more st.events })

/-- Count split accesses (R108). -/
def State.countSplits (s : State) (pav n : Nat) : State :=
  s.updPav pav (fun v => { v with ctr := { v.ctr with misaligned := v.ctr.misaligned + BitVec.ofNat 64 n } })

/-- Whether a command holds a WLOAD. -/
def hasLoads (c : List QDesc) : Bool := c.any (fun d => dType d.bytes == 1)

/-- The WLOAD that may run, with its command: one of the head command, or one of the command behind a pass once the
shadow is free (R69, R95). -/
def Pavilion.nextLoad (v : Pavilion) : Option (Nat × QDesc × List QDesc) :=
  let c := v.commands
  match (if wholeCommand c.1 then firstOpen c.1 1 else none) with
  | some x => some (x.1, x.2, c.1)
  | none =>
    if c.1.any (fun d => !isSem d.bytes) && allRun c.1 1 && v.reload.isEmpty && (v.par.shadow.isEmpty || !v.ownsShadow) &&
        wholeCommand c.2 then
      (firstOpen c.2 1).map (fun x => (c.1.length + x.1, x.2, c.2))
    else none

/-- The load of a resumed plot that is reissued next (R70): when the pass at the head brings no weights of its own. -/
def Pavilion.nextReload (v : Pavilion) : Option QDesc :=
  let c := v.commands.1
  if wholeCommand c && c.any (fun d => !isSem d.bytes) && !hasLoads c then v.reload.head? else none

/-- Reissue a load; its cycles (R67, R68) are charged to the resumed plot with the last of them (R70). -/
def State.reissue (s : State) (pav : Nat) (d : QDesc) : State :=
  let y := s.loadBlock pav d
  let rest := (s.pav pav).reload.tail
  let cyc := if ((s.pav pav).par.shadowLoads ++ [d]).any (fun x => bitOf (fieldAt x.bytes 0x0F 1) 3) then 144 else 128
  let t := ((y.state.weightEvent d.plot d.plan y.nans).countSplits pav y.splits).updPav pav (fun v =>
    { v with par := v.par.load false false rest.isEmpty d y.weights, reload := rest })
  if rest.isEmpty then t.charge d.plot (fun a => { a with arrayCycles := a.arrayCycles + BitVec.ofNat 64 cyc }) else t

/-- WLOAD. -/
def execWload (pav : Nat) (faults : List HwFault) (s : State) : Out :=
  if s.pavDown pav then .next s
  else
    match (s.pav pav).nextReload with
    | some d => .next (s.reissue pav d)
    | none =>
      match (s.pav pav).nextLoad with
      | none => .next s
      | some (i, d, c) =>
        let s := s.meetFaults pav 0 i d faults
        if s.loadEmpty pav d then .next (s.markDone pav 0 i)
        else
          let y := s.loadBlock pav d
          let w := { y.weights with poisoned := y.weights.poisoned || unitFault faults }
          .next ((((y.state.weightEvent d.plot d.plan y.nans).countSplits pav y.splits).updPav pav (fun v =>
            v.loadShadow c d w)).markDone pav 0 i)

/-! ### The gradient buffer (R113 to R117) -/

/-- Resident tiles of a Pavilion. -/
def Pavilion.resident (v : Pavilion) : List GTile := v.gbuf.filter (·.resident)

/-- The tile of a DRAIN. -/
def Pavilion.tileFor (v : Pavilion) (p plan handle : Nat) : Option GTile := v.gbuf.find? (fun g => g.isFor p plan handle)

/-- The tile that a DRAIN reserves, if it goes to the gradient buffer. -/
def drainTarget (d : QDesc) : Option Nat :=
  if dType d.bytes = 3 ∧ bitOf (fieldAt d.bytes 0x0D 1) 3 = true then some (fieldAt d.bytes 0x18 2) else none

/-- The tiles that the DRAINs of a command reserve: plan and handle. -/
def tilesOf (c : List QDesc) : List (Nat × Nat) :=
  (c.filterMap (fun d => if d.executed then none else (drainTarget d).map (fun h => (d.plan, h)))).eraseDups

/-- The tiles among them that do not stand in the buffer. -/
def Pavilion.missing (v : Pavilion) (p : Nat) (ts : List (Nat × Nat)) : List (Nat × Nat) :=
  ts.filter (fun x => match v.tileFor p x.1 x.2 with | some g => !g.resident | none => true)

/-- The plot of a command. -/
def plotOf (c : List QDesc) : Nat := match c with | d :: _ => d.plot | [] => 0

/-- Whether a command's reservation of tiles holds (R73, R115, R116): none of them belongs to the Cascade, and there is
room for all that do not stand in the buffer. -/
def Pavilion.tilesReady (v : Pavilion) (c : List QDesc) : Bool :=
  let ts := tilesOf c
  ts.all (fun x => match v.tileFor (plotOf c) x.1 x.2 with | some g => !g.cascade | none => true) &&
  decide (v.resident.length + (v.missing (plotOf c) ts).length ≤ 64)

/-- The victim of R115: the oldest access, then the lowest handle, among the resident tiles that the head command has not
reserved. -/
def Pavilion.victim (v : Pavilion) : Option GTile :=
  let c := v.commands.1
  let kept := tilesOf c
  (v.resident.filter (fun g => !(g.plot == plotOf c && kept.contains (g.plan, g.handle)))).foldl (fun b g => match b with
    | none => some g
    | some c => if g.lastAccess < c.lastAccess ∨ (g.lastAccess = c.lastAccess ∧ g.handle < c.handle) then some g else some c) none

/-- The spill slot of a tile. -/
def State.slotOf (s : State) (pav : Nat) (g : GTile) : Nat :=
  match (s.plot g.plot).plans.find g.plan with
  | some pl => pl.spillSlot pav g.handle
  | none => 0

/-- The bytes of a tile. -/
def GTile.bytes (g : GTile) : Bytes := ((List.range tileElements).map (fun j => natLE 4 (g.data.get 0 j).toNat)).flatten

/-- The line writes of a tile to its spill slot, each with the poison of its half of a line (R321), in the name of the plot
that is charged with them (R117). -/
def GTile.lines (g : GTile) (slot payer : Nat) (bad : Bool) : List LineWrite :=
  (lineWrites payer slot g.bytes false).map (fun w => { w with poisoned := bad || g.poison.contains ((w.line * 64 - slot) / 128) })

/-- Write a tile to its spill slot through the controllers' queues. -/
def State.spillTile (s : State) (pav payer : Nat) (bad : Bool) (g : GTile) : State :=
  let ws := g.lines (s.slotOf pav g) payer bad
  (s.updMem (fun m => m.enqueue ws)).updPav pav (fun v => { v with
    gbuf := v.gbuf.map (fun x => if x.isFor g.plot g.plan g.handle then { x with resident := false, data := [], poison := [] } else x)
    ctr := { v.ctr with spills := v.ctr.spills + 1 } })

/-- Whether a tile's fill from its slot meets a poisoned line (Table PAV-19 GBUF_UNCORRECTED). -/
def State.fillPoisoned (s : State) (pav p plan handle : Nat) : Bool :=
  match (s.pav pav).tileFor p plan handle with
  | some g => !g.resident && g.live && !(s.gtileData g (s.slotOf pav g)).2.isEmpty
  | none => false

/-- Make room for one more tile: a pass that is aborted before its reservation held evicts at once. -/
def State.makeTileRoom (s : State) (pav p plan handle : Nat) : State :=
  let v := s.pav pav
  if (v.missing p [(plan, handle)]).isEmpty || decide (v.resident.length < 64) then s
  else match v.victim with
    | some g => s.spillTile pav p false g
    | none => s

/-- Bring a tile into the buffer: from its slot when it is live, else at +0.0. -/
def State.fillTile (s : State) (pav p plan handle : Nat) : State :=
  let s := s.makeTileRoom pav p plan handle
  match (s.pav pav).tileFor p plan handle with
  | none => s.updPav pav (fun v => { v with gbuf := v.gbuf ++ [GTile.fresh p plan handle (v.gbufClock + 1)], gbufClock := v.gbufClock + 1 })
  | some g =>
    if g.resident then
      s.updPav pav (fun v => { v with
        gbuf := v.gbuf.map (fun x => if x.isFor p plan handle then { x with lastAccess := v.gbufClock + 1 } else x)
        gbufClock := v.gbufClock + 1 })
    else
      let a := s.slotOf pav g
      let d := s.gtileData g a
      (s.chargeRead p a 32768).updPav pav (fun v => { v with
        gbuf := v.gbuf.map (fun x => if x.isFor p plan handle then
          { x with resident := true, data := d.1, poison := d.2, lastAccess := v.gbufClock + 1 } else x)
        gbufClock := v.gbufClock + 1
        ctr := { v.ctr with fills := v.ctr.fills + 1 } })

/-- GBUF_SPILL (R115, R117): while the head command's tiles do not all find room, the oldest resident tile is written to
its slot, once the controllers' queues have room for its lines (R17) that no Cascade result waits for (R19); the plot of
the DRAIN is charged. An error in the
buffer's words goes with the tile, poisoned. -/
def execGbufSpill (pav : Nat) (faults : List HwFault) (s : State) : Out :=
  let v := s.pav pav
  let c := v.commands.1
  let need := v.missing (plotOf c) (tilesOf c)
  if s.pavDown pav || need.isEmpty || decide (v.resident.length + need.length ≤ 64) then .next s
  else
    match v.victim with
    | some g =>
      let bad := faults.contains .gbufUncorrected
      if s.mem.room (g.lines (s.slotOf pav g) (plotOf c) bad) && !s.exitWants (g.lines (s.slotOf pav g) (plotOf c) bad) then
        let t := s.spillTile pav (plotOf c) bad g
        .next (if bad then
            (t.updPav pav (fun v => v.flag (2, 1))).raise g.plot (t.errOf 2 2 1 pav ((t.plot g.plot).stepOf g.plan))
          else t)
      else .next s
    | none => .next s

/-! ### STREAM (R37, R74, R79 to R84) -/

/-- The bytes of a row of elements, packed as a memory packs them (Table LAY-3), each with its poison. -/
def packElems (fmt : Nat) : Nat → List Elem → List (Byte × Bool)
  | 0, _ => []
  | _, [] => []
  | fuel + 1, e :: l =>
    let w := formatBits fmt
    let g := if w = 4 then 2 else if w = 6 then 4 else 1
    let c := (e :: l).take g
    let v := ((List.range c.length).zip c).foldl (fun a x => a + x.2.code % 2 ^ w * 2 ^ (w * x.1)) 0
    (natLE (w * g / 8) v).map (fun b => (b, c.any (·.poisoned))) ++ packElems fmt fuel ((e :: l).drop g)

/-- The bytes of a view's rows with their poison; elements out of bounds read as FILL (R135). -/
def State.viewBytes (s : State) (cx : OpCtx) (x : View × Tensor) : List (Byte × Bool) :=
  let e0 := x.1.extents.getD 0 0
  (x.1.rowIndices.map (fun r => packElems x.2.fmt e0 ((List.range e0).map (fun k => s.viewElem cx x.2 x.1 (k :: r))))).flatten

/-- Byte `i` of an operand that may be none, as a number, and its poison. -/
def byteOf (bs : List (Byte × Bool)) (i : Nat) : Nat × Bool :=
  match bs[i]? with
  | some b => (b.1.toNat, b.2)
  | none => (0, false)

/-- The per-row operands of a STREAM. -/
structure RowInputs where
  mask : List (Byte × Bool)
  sel : List (Byte × Bool)
  scale : Option (List (Byte × Bool))
  zp : Option (List (Byte × Bool))

/-- Read them. -/
def State.rowInputs (s : State) (pav : Nat) (cx : OpCtx) (d : QDesc) : RowInputs :=
  let get (off : Nat) : Option (List (Byte × Bool)) :=
    let i := fieldAt d.bytes off 4
    if i = noView then none else some (s.viewBytes cx (s.viewOf pav 0 d i))
  { mask := (get 0x14).getD [], sel := if fieldAt d.bytes 0x0E 1 = 1 then (get 0x18).getD [] else [],
    scale := get 0x1C, zp := get 0x20 }

/-- What a row takes from its list: its list, and the first row and the rows of a token. -/
def State.streamList (s : State) (pav : Nat) (d : QDesc) : Option (WorkList × Nat × Nat) :=
  match s.iterOf pav 0 d with
  | some (sp, l, it) => some (l, it.firstRow, if sp.kind = 2 then max sp.gqa 1 else 1)
  | none => (s.planOf d).bind (fun pl => (s.listFor d.plot pl (4096 + dId d.bytes)).map (fun l => (l, 0, 1)))

/-- The adapter of the sequence of a list's row, or none. -/
def WorkList.adapterOf (l : WorkList) (row : Nat) : Nat :=
  match l.seqs.find? (fun q => decide (q.firstRow ≤ row) && decide (row < q.firstRow + q.rows)) with
  | some q => q.adapter
  | none => noAdapter

/-- How a row is fed and dropped: its mask, its select, NOLANE, whether the select is out of range, and the
adapter of its sequence. -/
structure RowMark where
  masked : Bool
  select : Nat
  noLane : Bool
  adapter : Nat
  poisoned : Bool
  deriving DecidableEq, Repr

/-- The mark of row `r`. -/
def rowMark (d : Bytes) (ri : RowInputs) (list : Option (WorkList × Nat × Nat)) (r : Nat) : RowMark :=
  let mb := byteOf ri.mask (r / 8)
  let sb := byteOf ri.sel (r / 2)
  let adapter := match list with | some (l, first, per) => l.adapterOf (first + r / per) | none => noAdapter
  if fieldAt d 0x0E 1 = 2 then
    let t := match list with | some (l, first, per) => (l.selects.getD (first + r / per) maskedSelect).toNat | none => 0x8F
    { masked := bitOf mb.1 (r % 8) || bitOf t 7, select := t % 16, noLane := bitOf t 4, adapter := adapter, poisoned := mb.2 }
  else
    { masked := bitOf mb.1 (r % 8), select := sb.1 / 16 ^ (r % 2) % 16, noLane := false, adapter := adapter,
      poisoned := mb.2 || sb.2 }

/-- Rows of a STREAM: its ROWS, or the iteration's; none where its box is empty (R139). -/
def State.streamRows (s : State) (pav : Nat) (d : QDesc) : Nat :=
  if (s.viewOf pav 0 d (fieldAt d.bytes 8 4)).1.size = 0 then 0
  else if fieldAt d.bytes 0x10 4 = 0xFFFFFFFF then
    (match s.iterOf pav 0 d with | some x => x.2.2.rows | none => 0)
  else fieldAt d.bytes 0x10 4

/-- The box index that element `k` of row `r` is read from (R133, R83); none where the position lies outside
the input. DESIGN CHOICE: in a convolution, a reduction index at or beyond KH × KW × C reads FILL, since the spec gives
it no position. -/
def streamIndex (d : Bytes) (v : View) (r k : Nat) : Option (List Nat) :=
  let e (i : Nat) : Nat := v.extents.getD i 0
  if fieldAt d 0x0D 1 = 1 then
    let c := parseConv d
    let ch := e 0
    let kk := c.kFirst + k
    if ch = 0 ∨ c.outW = 0 ∨ c.kh * c.kw * ch ≤ kk then none
    else
      let ky := kk / ch / c.kw
      let kx := kk / ch % c.kw
      let iy : Int := (((c.outY0 + r / c.outW) * c.strideY + ky * c.dilY : Nat) : Int) - c.padTop
      let ix : Int := (((c.outX0 + r % c.outW) * c.strideX + kx * c.dilX : Nat) : Int) - c.padLeft
      if 0 ≤ iy ∧ iy < (e 2 : Int) ∧ 0 ≤ ix ∧ ix < (e 1 : Int) then some [kk % ch, ix.toNat, iy.toNat, 0] else none
  else if k < e 0 then some [k, r % e 1, r / e 1 % e 2, r / (e 1 * e 2)]
  else none

/-- The element that row `r` feeds at reduction index `k`: FILL outside the input. -/
def State.streamElem (s : State) (cx : OpCtx) (d : Bytes) (x : View × Tensor) (r k : Nat) : Elem :=
  match streamIndex d x.1 r k with
  | some j => s.viewElem cx x.2 x.1 j
  | none => { code := x.1.fill % 2 ^ formatBits x.2.fmt, scale := 127, poisoned := false }

/-- The sum that leaves column `n` (R37): one rounding in each cell, in logical row order; in ROW orientation
only the rows of the segment form products (R80). -/
def passSum (w : BlockWeights) (row : List Num) (select n : Nat) : W32 :=
  ((List.range w.kr).foldl (fun acc k =>
    if w.rowOrient && w.laneWidth != 0 && k / w.laneWidth != select then acc
    else (((row.getD k (Num.zero false)).mul ((w.rows.getD k []).getD n (Num.zero false))).add (f32 acc)).toF32) 0)

/-- A block that holds no weights: cleared registers (R70). -/
def BlockWeights.clear (size : Nat) : BlockWeights :=
  { rows := [], colSums := List.replicate size 0, kr := size, nc := size, laneWidth := 0, rowOrient := false, colScales := [],
    fmt := 0, poisoned := false }

/-- Segments of a block with lanes. -/
def BlockWeights.segments (w : BlockWeights) (size : Nat) : Nat := if w.laneWidth = 0 then 16 else size / w.laneWidth

/-- One streamed row through a block. -/
def State.passRow (s : State) (cx : OpCtx) (d : Bytes) (x : View × Tensor) (w : BlockWeights) (size : Nat) (ri : RowInputs)
    (m : RowMark) (r : Nat) : PassRow :=
  let es := (List.range w.kr).map (s.streamElem cx d x r)
  let row := es.map (fun e => e.value x.2.fmt)
  let dropped := m.masked || (w.laneWidth != 0 && (m.noLane || decide (w.segments size ≤ m.select)))
  let sc := match ri.scale with | some b => byteOf b r | none => (0, false)
  let zp := ri.zp.map (fun b => byteOf b r)
  { adapter := m.adapter, sums := if dropped then [] else (List.range w.nc).map (passSum w row m.select), dropped := dropped,
    select := m.select, rowScale := signedOf 8 sc.1, zeroPoint := zp.map (fun z => signedOf 8 z.1)
    poisoned := w.poisoned || m.poisoned || sc.2 || (match zp with | some z => z.2 | none => false) || es.any (·.poisoned) }

/-- Rate class of a pass (Table PAR-1). -/
def rateClass (sfmt wfmt : Nat) (walk : Bool) : Nat := if walk ∨ wfmt = 1 then 2 else if sfmt = 1 then 1 else 0

/-- Rows that a STREAM feeds: every group of 16 but those masked whole (R74). DESIGN CHOICE: a last group of fewer than 16
rows is skipped as well when all its rows are masked; and only the mask bits count here, not an out-of-range select or
NOLANE, whose rows the drain drops and which the spec does not name as skipping a slot. -/
def fedRows (marks : List RowMark) : Nat :=
  ((List.range (ceilDiv marks.length 16)).map (fun g =>
    let l := (marks.drop (16 * g)).take 16
    if l.all (·.masked) then 0 else l.length)).sum

/-- The swap of the shadow into the active registers with the first slot of a pass (R69): once for a pass, and only weights
that are its own or that an earlier pass has left. -/
def Parterre.swap (q : Parterre) (slots : Nat) (owns : Bool) : Parterre :=
  if slots = 0 ∨ q.begun = true then q
  else if q.shadow.isEmpty = true ∨ owns = false then { q with begun := true }
  else { q with active := q.shadow, shadow := [], activeLoads := q.shadowLoads, shadowLoads := [], activeValid := true,
                shadowValid := false, early := false, begun := true }

/-- A command that loads no weights sets no lanes (R27): lanes are a field of WLOAD, and no setting carries over. -/
def BlockWeights.lanesOff (w : BlockWeights) : BlockWeights := { w with laneWidth := 0, rowOrient := false }

/-- The active weights as a command takes them. -/
def Parterre.forCommand (q : Parterre) (c : List QDesc) : Parterre :=
  if hasLoads c then q else { q with active := q.active.mapVals BlockWeights.lanesOff }

/-- Orientation flags of Table PAR-11 over the blocks with lanes. -/
def laneFlags (bs : NMap BlockWeights) : Nat :=
  b2n (bs.any (fun e => e.2.laneWidth != 0 && !e.2.rowOrient)) + 2 * b2n (bs.any (fun e => e.2.laneWidth != 0 && e.2.rowOrient))

/-- Whether the weights of a pass count as walked or BF16 for its class: the active blocks' format. -/
def activeFmt (bs : NMap BlockWeights) : Nat := match bs with | e :: _ => e.2.fmt | [] => 0

/-- The STREAM that may run: the first of the head command once its loads, or those reissued for it, and the drains before
it have run, and its tiles are reserved. -/
def Pavilion.nextStream (v : Pavilion) : Option (Nat × QDesc) :=
  let c := v.commands.1
  if wholeCommand c && allRun c 1 && (hasLoads c || v.reload.isEmpty) && v.tilesReady c then
    (firstOpen c 2).filter (fun x => (c.take x.1).all (fun d => dType d.bytes != 3 || d.executed))
  else none

/-- The places that the feeder reads for row `r`. -/
def State.feedPlaces (s : State) (cx : OpCtx) (d : Bytes) (x : View × Tensor) (kr r : Nat) : List Loc :=
  ((List.range kr).map (fun k =>
    match (streamIndex d x.1 r k).bind (x.1.inBounds x.2) with
    | some i =>
      let e := elemPlace x.2.fmt (i.getD 0 0)
      (List.range e.2.1).map (fun b => s.locate cx x.2.mem x.2.lane (x.2.rowAddr i + e.1 + b))
    | none => [.nothing])).flatten

/-- Whether row `r` is fed: its group of 16 is not masked whole. -/
def rowFed (marks : List RowMark) (r : Nat) : Bool := !((marks.drop (r / 16 * 16)).take 16).all (·.masked)

/-- Every second element of a list, from the first. -/
def everySecond {α : Type} : List α → List α
  | [] => []
  | [a] => [a]
  | a :: _ :: l => a :: everySecond l

/-- The slot cycles that the rows of a lane pass give their adapters, from the adapters of the fed rows in order (R252,
Table PAR-1). DESIGN CHOICE: a slot of two rows is charged to the adapter of its first row. -/
def slotBill (cls : Nat) (adapters : List Nat) : NMap Nat :=
  ((if cls = 0 then everySecond adapters else adapters).filter (· != noAdapter)).foldl
    (fun m h => m.modify 0 h (· + (if cls = 2 then 2 else 1))) []

/-- STREAM: the rows of one block pass through the array. A check that fails poisons every row. DESIGN CHOICE: PRT_SLOTS
counts the slots of each block of a command, though the blocks run side by side in the same slot periods. -/
def execStream (pav : Nat) (faults : List HwFault) (s : State) : Out :=
  if s.pavDown pav then .next s
  else
    match (s.pav pav).nextStream with
    | none => .next s
    | some (i, d) =>
      let s := s.meetFaults pav 0 i d faults
      let cx := s.ctxOf pav 0 d
      let x := s.viewOf pav 0 d (fieldAt d.bytes 8 4)
      let ri := s.rowInputs pav cx d
      let list := s.streamList pav d
      let n := s.streamRows pav d
      let marks := (List.range n).map (rowMark d.bytes ri list)
      let fed := fedRows marks
      let size := blockSize (dShape d.bytes)
      let v := s.pav pav
      let par := (v.par.swap fed v.ownsShadow).forCommand v.commands.1
      let w := (par.active.find (dBlock d.bytes)).getD (BlockWeights.clear size)
      let rows := ((List.range n).zip marks).map (fun e =>
        let r := s.passRow cx d.bytes x w size ri e.2 e.1
        { r with poisoned := r.poisoned || unitFault faults })
      let cls := rateClass (fieldAt d.bytes 0x0C 1) (activeFmt par.active) (fieldAt d.bytes 0x0D 1 == 2)
      let faulty := (marks.filter (fun m => !m.masked && !m.noLane && w.laneWidth != 0 && decide (w.segments size ≤ m.select))).length
      let bill := if w.laneWidth = 0 then [] else slotBill cls (((rows.zip (List.range n)).filter (fun e => rowFed marks e.2)).map (·.1.adapter))
      let splits := splitsOf (((List.range n).filter (rowFed marks)).map (s.feedPlaces cx d.bytes x w.kr))
      let s := s.updPav pav (fun v => { v with
        par := { par with busy := true, shape := dShape d.bytes, lanes := laneFlags par.active, cls := cls, owner := d.plot,
                          pass := par.pass.set (dBlock d.bytes) rows, bill := par.bill.set (dBlock d.bytes) bill }
        ctr := { v.ctr with slots := v.ctr.slots + BitVec.ofNat 64 (if cls = 0 then ceilDiv fed 2 else fed)
                            laneFaults := v.ctr.laneFaults + BitVec.ofNat 64 faulty } })
      .next ((s.countSplits pav splits).markDone pav 0 i)

/-! ### DRAIN (R39, R80, R101) -/

/-- A value written by a drain: its position in the destination, the FP32 sum after the scaling steps, and what
its row gives. -/
structure DrainElem where
  pos : Nat
  value : W32
  row : Nat
  adapter : Nat
  poisoned : Bool
  deriving DecidableEq, Repr

/-- Steps 1 to 3 of R39. -/
def drainScale (w : BlockWeights) (r : PassRow) (n : Nat) (v : W32) : W32 :=
  let v := match r.zeroPoint with
    | some z => fsub v (((Num.ofInt z).mul (f32 (w.colSums.getD n 0))).toF32)
    | none => v
  let v := match w.colScales[n]? with | some c => fmul v c | none => v
  if r.rowScale = 0 then v else ((f32 v).scale r.rowScale).toF32

/-- The values that a drain writes of a row: the kept columns, with `width` positions in a row of the box. DESIGN CHOICE:
ZERO_FILL of a block whose NC is below its width writes columns 0 to NC − 1; R80 names the full block width and R65 says
that no column from NC is ever written. -/
def drainRow (w : BlockWeights) (zeroFill : Bool) (width : Nat) (r : Nat) (p : PassRow) : List DrainElem :=
  if p.dropped then []
  else
    ((List.range w.nc).filterMap (fun n =>
      let mine := w.laneWidth == 0 || w.rowOrient || n / w.laneWidth == p.select
      let packed := w.laneWidth != 0 && !w.rowOrient && !zeroFill
      if !mine && packed then none
      else
        let at_ := if packed then n % w.laneWidth else n
        if at_ < width then
          some { pos := r * width + at_, value := if mine then drainScale w p n (p.sums.getD n 0) else 0, row := r,
                 adapter := p.adapter, poisoned := p.poisoned : DrainElem }
        else none))

/-- Every value of a drain. -/
def drainElems (w : BlockWeights) (zeroFill : Bool) (width : Nat) (rows : List PassRow) : List DrainElem :=
  (((List.range rows.length).zip rows).map (fun e => drainRow w zeroFill width e.1 e.2)).flatten

/-- The code that a drain stores (R39, R49). -/
def drainCode (s : State) (d : QDesc) (e : DrainElem) (v : W32) : Nat :=
  if fieldAt d.bytes 0x0C 1 = 0 then v.toNat
  else
    let rd : Rounding :=
      if bitOf (fieldAt d.bytes 0x0D 1) 1 then
        .word (ctrRandom (match s.planOf d with | some pl => pl.seed | none => 0) e.adapter ((s.plot d.plot).stepOf d.plan)
          (fieldAt d.bytes 0x0E 2) 0xFFFF (fieldAt d.bytes 0x10 8 + e.pos)).toNat
      else .nearest
    (f32 v).toWide fmtBf16 rd

/-- A row one of whose values accumulates onto a poisoned line is poisoned whole (R321). -/
def poisonRows (bad : List Nat) (es : List DrainElem) : List DrainElem :=
  es.map (fun e => { e with poisoned := e.poisoned || bad.contains e.row })

/-- Write a drain's values into the local store. -/
def State.drainLocal (s : State) (pav : Nat) (d : QDesc) (es : List DrainElem) : State :=
  let cx := s.ctxOf pav 0 d
  let x := s.viewOf pav 0 d (fieldAt d.bytes 8 4)
  let accum := bitOf (fieldAt d.bytes 0x0D 1) 0
  let old (e : DrainElem) : Elem := s.viewElem cx x.2 x.1 (x.1.index e.pos)
  let es := if accum then poisonRows ((es.filter (fun e => (old e).poisoned)).map (·.row)).eraseDups es else es
  let word (e : DrainElem) : W32 := BitVec.ofNat 32 (if x.2.fmt = 1 then (old e).code * 65536 else (old e).code)
  let g := es.foldl (fun g e =>
    match x.1.inBounds x.2 (x.1.index e.pos) with
    | some i =>
      let v := if accum then fadd e.value (word e) else e.value
      s.stageElem cx x.2 i { code := drainCode s d e v, scale := 127, poisoned := e.poisoned } g
    | none => g) Staged.none
  s.commitStore pav g

/-- The lines of a tile that sound values cover whole: their poison clears (R321). -/
def coveredLines (es : List (Nat × Bool)) : List Nat :=
  (((es.map (fun e => e.1 / 32)).eraseDups).filter (fun l =>
    decide (32 ≤ ((es.filter (fun e => e.1 / 32 == l && !e.2)).map (·.1)).eraseDups.length)))

/-- Write a drain's values into a gradient tile: rows from GROW of 128 elements; ACCUM adds to what stands there, +0.0 in
a tile that was not live (R114). -/
def State.drainTile (s : State) (pav : Nat) (d : QDesc) (es : List DrainElem) : State :=
  let h := fieldAt d.bytes 0x18 2
  let s := s.fillTile pav d.plot d.plan h
  let accum := bitOf (fieldAt d.bytes 0x0D 1) 0
  s.updPav pav (fun v => { v with gbuf := v.gbuf.map (fun g =>
    if g.isFor d.plot d.plan h then
      let place (e : DrainElem) : Nat := (fieldAt d.bytes 0x1A 2) * 128 + e.pos
      let es := es.filter (fun e => decide (place e < tileElements))
      let es := if accum then
          poisonRows ((es.filter (fun e => g.poison.contains (place e / 32))).map (·.row)).eraseDups es else es
      let bad := ((es.filter (·.poisoned)).map (fun e => place e / 32)).eraseDups
      let sound := coveredLines (es.map (fun e => (place e, e.poisoned)))
      { g with
        data := es.foldl (fun m e => m.set (place e) (if accum then fadd e.value (m.get 0 (place e)) else e.value)) g.data
        poison := bad ++ g.poison.filter (fun l => !bad.contains l && !sound.contains l) }
    else g) })

/-- The DRAIN that may run: the first of the head command whose block's STREAM has run. -/
def Pavilion.nextDrain (v : Pavilion) : Option (Nat × QDesc) :=
  let c := v.commands.1
  (firstOpen c 3).filter (fun x => (c.take x.1).all (fun d => dType d.bytes != 2 || d.executed))

/-- DRAIN: a pass of no slots leaves its destination untouched (R69). A check that fails, or a spill slot that reads
poisoned, poisons every value it writes (R89, R123). -/
def execDrain (pav : Nat) (faults : List HwFault) (s : State) : Out :=
  if s.pavDown pav then .next s
  else
    match (s.pav pav).nextDrain with
    | none => .next s
    | some (i, d) =>
      let v := s.pav pav
      let size := blockSize (dShape d.bytes)
      let w := (v.par.active.find (dBlock d.bytes)).getD (BlockWeights.clear size)
      let rows := v.par.pass.get [] (dBlock d.bytes)
      let toTile := bitOf (fieldAt d.bytes 0x0D 1) 3
      let fs := if toTile && s.fillPoisoned pav d.plot d.plan (fieldAt d.bytes 0x18 2) then faults ++ [.gbufUncorrected] else faults
      let x := s.viewOf pav 0 d (fieldAt d.bytes 8 4)
      let es := (drainElems w (bitOf (fieldAt d.bytes 0x0D 1) 2) (if toTile then 128 else x.1.extents.getD 0 0) rows).map (fun e =>
        { e with poisoned := e.poisoned || unitFault fs })
      let splits := if toTile then 0 else (if bitOf (fieldAt d.bytes 0x0D 1) 0 then 2 else 1) * s.viewSplits (s.ctxOf pav 0 d) x
      let s := if rows.isEmpty || !v.par.begun then s
        else
          let s := (s.meetFaults pav 0 i d fs).countSplits pav splits
          if toTile then s.drainTile pav d es else s.drainLocal pav d es
      .next (s.markDone pav 0 i)

end Sys2Proof.Machine
end

