-- ==== Sys2Proof/Machine/Rill.lean ====
section
/-! DEFINITION. The Rill (chapters 02, 04 and 07): Rill programs (R102), and the scale pass, the convert pass and the
key-value seal of a SCALE descriptor (R43 to R48, R103), with the histograms that feed the Belvedere (R196). -/

namespace Sys2Proof.Machine

/-! ### What both descriptors share -/

/-- Stage bytes over the bytes of a view, each with its poison. -/
def Staged.putBytes (g : Staged) (ls : List Loc) (bs : List (Byte × Bool)) : Staged :=
  (ls.zip bs).foldl (fun g e => g.put e.1 e.2.1 e.2.2) g

/-- The seed of a descriptor's plan (Table NUM-8). -/
def State.seedOf (s : State) (d : QDesc) : Nat := match s.planOf d with | some pl => pl.seed | none => 0

/-- The adapter of the sequence of row `r` of a RILL descriptor (Table NUM-8). -/
def State.rillAdapter (s : State) (pav : Nat) (d : QDesc) (r : Nat) : Nat :=
  match s.iterOf pav 1 d with
  | some x => x.2.1.adapterOf (x.2.2.firstRow + r)
  | none =>
    match (s.planOf d).bind (fun pl => s.listFor d.plot pl (4096 + dId d.bytes)) with
    | some l => l.adapterOf r
    | none => noAdapter

/-! ### VPROG (R102) -/

/-- The values of a span's iteration that a program reads (R274). -/
def State.iterationValues (s : State) (pav : Nat) (d : QDesc) : List Nat :=
  match s.iterOf pav 1 d with
  | some (_, _, it) => [it.ordinal, it.firstRow, it.rows, it.pos, it.pages, it.page]
  | none => []

/-- The operands that a VPROG names: their numbers with their views. -/
def State.vprogArgs (s : State) (pav : Nat) (d : QDesc) : List (Nat × View × Tensor) :=
  (List.range 6).filterMap (fun i =>
    let v := fieldAt d.bytes (0x10 + 4 * i) 4
    if v = noView then none else some (i, s.viewOf pav 1 d v))

/-- Apply an operation of one operand (R110, R111). -/
def RillOp1.apply : RillOp1 → W32 → W32
  | .exp2, a => exp2Of a
  | .log2, a => log2Of a
  | .recip, a => recipOf a
  | .rsqrt, a => rsqrtOf a
  | .sin, a => sinOf a
  | .cos, a => cosOf a
  | .abs, a => fabs a
  | .toBf16, a => BitVec.ofNat 32 ((f32 a).toWide fmtBf16 .nearest * 65536)

/-- Apply an operation of two operands; the FP32 ones round once, and minimum and maximum are those of R110. -/
def RillOp2.apply : RillOp2 → W32 → W32 → W32
  | .add, a, b => fadd a b
  | .mul, a, b => fmul a b
  | .min, a, b => ((f32 a).min2 (f32 b)).toF32
  | .max, a, b => ((f32 a).max2 (f32 b)).toF32
  | .less, a, b => if (f32 a).lt (f32 b) then 1 else 0
  | .iadd, a, b => a + b
  | .shl, a, b => a <<< (b.toNat % 32)
  | .shr, a, b => a >>> (b.toNat % 32)
  | .iand, a, b => a &&& b
  | .ior, a, b => a ||| b
  | .ixor, a, b => a ^^^ b

/-- Whether an operation is one of the special functions that RIL_SPECIAL counts. -/
def RillOp1.special : RillOp1 → Bool
  | .abs => false
  | .toBf16 => false
  | _ => true

/-- The element of a value's format as a 32-bit word: floating-point and integer elements alike in FP32. -/
def laneWord (fmt : Nat) (e : Elem) : W32 := if fmt = 0 then BitVec.ofNat 32 e.code else (e.value fmt).toF32

/-- The maximum of a list in a fixed order. -/
def treeMax : List W32 → W32
  | [] => 0
  | a :: l => (l.foldl (fun m b => m.max2 (f32 b)) (f32 a)).toF32

/-- What a program's expression gives in lane `n`: `args` are the operands' words and `iter` the iteration's values. Sums
across lanes add in a fixed pairwise tree, in lane order (R110). -/
def RillExpr.eval (iter : List Nat) (args : NMap (List W32)) : RillExpr → Nat → W32
  | .const b, _ => BitVec.ofNat 32 b
  | .lane, n => BitVec.ofNat 32 n
  | .iteration k, _ => BitVec.ofNat 32 (iter.getD k 0)
  | .elem a mul div off, n => (args.get [] a).getD (n * mul / div + off) 0
  | .op1 o a, n => o.apply (a.eval iter args n)
  | .op2 o a b, n => o.apply (a.eval iter args n) (b.eval iter args n)
  | .fma a b c, n => ffma (a.eval iter args n) (b.eval iter args n) (c.eval iter args n)
  | .fmaBf16 a b c, n =>
    BitVec.ofNat 32 ((((f32 (a.eval iter args n)).mul (f32 (b.eval iter args n))).add (f32 (c.eval iter args n))).toWide fmtBf16
      .nearest * 65536)
  | .laneSum k a, n => treeSum 32 ((List.range k).map (fun i => a.eval iter args (n / k * k + i)))
  | .laneMax k a, n => treeMax ((List.range k).map (fun i => a.eval iter args (n / k * k + i)))

/-- Special-function results that one lane of an expression takes. -/
def RillExpr.specials : RillExpr → Nat
  | .op1 o a => a.specials + (if o.special then 1 else 0)
  | .op2 _ a b => a.specials + b.specials
  | .fma a b c => a.specials + b.specials + c.specials
  | .fmaBf16 a b c => a.specials + b.specials + c.specials
  | .laneSum k a => k * a.specials
  | .laneMax k a => k * a.specials
  | _ => 0

/-- The conversion of a 32-bit result to an operand's format (Table NUM-7): FP32 as it is. -/
def resultCode (fmt : Nat) (rd : Rounding) (w : W32) : Nat :=
  if fmt = 0 then w.toNat
  else if fmt = 1 then (f32 w).toWide fmtBf16 rd
  else if fmt = 2 then (f32 w).toFp8 fmtE4m3 rd
  else if fmt = 3 then
    match rd, f32 w with
    | .word _, .fin _ 0 _ => 0
    | rd, v => v.toFp8 fmtE5m2 rd
  else
    match (f32 w).toInt with
    | some q => (BitVec.ofInt 8 (clampInt q (-128) 127)).toNat
    | none => 0

/-- Whether a program may round an operand stochastically: a gradient goes to BF16 or FP8 E5M2 (R49). -/
def mayDraw (o : RillOut) (fmt : Nat) : Bool := o.stochastic && (fmt == 1 || fmt == 3)

/-- How element `n` of an operand that a program writes rounds (R49, R51): the generator's adapter is that of the
element's row. -/
def State.programRounding (s : State) (pav : Nat) (d : QDesc) (o : RillOut) (x : View × Tensor) (n : Nat) : Rounding :=
  if mayDraw o x.2.fmt then
    .word (ctrRandom (s.seedOf d) (s.rillAdapter pav d (n / x.1.extents.getD 0 0)) ((s.plot d.plot).stepOf d.plan % 2 ^ 32)
      (fieldAt d.bytes 0x28 2) 0xFFFF (fieldAt d.bytes 0x30 8 + n)).toNat
  else .nearest

/-- The outputs of a program that a VPROG gives views for. -/
def programOutputs (outs : List RillOut) (args : List (Nat × View × Tensor)) : List (RillOut × View × Tensor) :=
  outs.filterMap (fun o => (args.find? (fun a => a.1 == o.arg)).map (fun a => (o, a.2)))

/-- Run a program over ELEMS elements: every operand is read first, and the operands that it writes take its results.
Data of a poisoned line marks each whole box (R321). -/
def State.runProgram (s : State) (pav : Nat) (d : QDesc) (program : Bytes) (fault : Bool) : State :=
  let cx := s.ctxOf pav 1 d
  let outs := Config.rillProgram program (fieldAt d.bytes 8 4)
  let args := s.vprogArgs pav d
  let elems := args.map (fun a => (a, s.viewElems cx a.2.2 a.2.1))
  let reads := elems.filter (fun e => !outs.any (fun o => o.arg == e.1.1))
  let bad := fault || reads.any (fun e => e.2.any (·.poisoned))
  let words : NMap (List W32) := elems.foldl (fun m e => m.set e.1.1 (e.2.map (laneWord e.1.2.2.fmt))) []
  let n := fieldAt d.bytes 0x0C 4
  let ws := programOutputs outs args
  let g := ws.foldl (fun g o =>
    let es := (List.range (min n o.2.1.size)).map (fun k =>
      { code := resultCode o.2.2.fmt (s.programRounding pav d o.1 o.2 k) (o.1.value.eval (s.iterationValues pav d) words k)
        scale := 127, poisoned := bad : Elem })
    let rest := (((s.viewElems cx o.2.2 o.2.1).drop n).map (fun e => { e with poisoned := bad || e.poisoned }))
    s.stageBox cx o.2.2 o.2.1 (es ++ rest) g) Staged.none
  let draws := (ws.map (fun o => if mayDraw o.1 o.2.2.fmt then min n o.2.1.size else 0)).sum
  let special := (ws.map (fun o => min n o.2.1.size * o.1.value.specials)).sum
  ((s.commitStore pav g).countSplits pav ((args.map (fun a => s.viewSplits cx a.2)).sum)).updPav pav (fun v => { v with ctr := { v.ctr with
    elements := v.ctr.elements + BitVec.ofNat 64 n
    special := v.ctr.special + BitVec.ofNat 64 special
    srDraws := v.ctr.srDraws + BitVec.ofNat 64 draws } })

/-- VPROG. -/
def execVprog (pav : Nat) (faults : List HwFault) (s : State) : Out :=
  match s.headOf pav 1 0x10 with
  | none => .next s
  | some d =>
    match s.planOf d with
    | none => .next s
    | some pl =>
      let s := s.meetFaults pav 1 0 d faults
      let n := fieldAt d.bytes 0x0C 4
      let outs := programOutputs (Config.rillProgram pl.program (fieldAt d.bytes 8 4)) (s.vprogArgs pav d)
      let t := if n = 0 then s else s.runProgram pav d pl.program (unitFault faults)
      .next ((t.updPav pav (fun v => { v with
        rillBusy := true, rillStoch := n != 0 && outs.any (fun o => mayDraw o.1 o.2.2.fmt) })).markDone pav 1 0)

/-! ### The scale pass (R43 to R46) -/

/-- Elements of a scale block (Table NUM-6). -/
def scaleBlock (fmt : Nat) : Nat := if isMx fmt then 32 else 128

/-- What the exponent of a target lies below that of the amax (Table NUM-6). -/
def scaleShift (fmt : Nat) : Int := if fmt = 2 ∨ fmt = 8 then 8 else if fmt = 3 ∨ fmt = 9 then 15 else 6

/-- A block's statistics. -/
structure BlockStats where
  max : Num
  min : Num
  amax : Num
  x : Int
  z : Int
  nonfinite : Nat
  deriving DecidableEq, Repr

/-- A value counts as finite when its line is not poisoned (R321). -/
def sound (e : W32 × Bool) : Bool := !e.2 && finite32 e.1

/-- X of a symmetric target (R44). -/
def scaleExponent (fmt : Nat) (amax : Num) : Int :=
  match amax with
  | .fin _ m e => if m = 0 then -127 else clampInt (floorLog2 m 1 e - scaleShift fmt) (-127) 127
  | _ => -127

/-- The least X for which 255 × 2^X reaches a range (R45). -/
def zeroPointExponent (range : Num) : Int :=
  match range with
  | .fin _ m e =>
    if m = 0 then -127
    else
      let g := floorLog2 m 255 e
      let sh := e - g
      let exact := if 0 ≤ sh then m * 2 ^ sh.toNat == 255 else m == 255 * 2 ^ (-sh).toNat
      clampInt (if exact then g else g + 1) (-127) 127
  | _ => -127

/-- The statistics of a block (R43, R44, R45). -/
def blockStats (fmt : Nat) (es : List (W32 × Bool)) : BlockStats :=
  let vs := (es.filter sound).map (fun e => f32 e.1)
  let zero : Num := Num.zero false
  let mx := match vs with | [] => zero | v :: l => l.foldl Num.max2 v
  let mn := match vs with | [] => zero | v :: l => l.foldl Num.min2 v
  let am := mx.abs.max2 mn.abs
  let lo := mn.min2 zero
  let hi := mx.max2 zero
  let x := if fmt = 5 then zeroPointExponent (hi.add lo.neg) else scaleExponent fmt am
  let z := if fmt = 5 then (match (lo.neg.scale (-x)).toInt with | some q => -128 + q | none => -128) else 0
  { max := mx, min := mn, amax := am, x := x, z := z, nonfinite := (es.filter (fun e => !sound e)).length }

/-- The statistics record (Table PAV-8). -/
def BlockStats.record (b : BlockStats) : Bytes :=
  natLE 4 b.max.toF32.toNat ++ natLE 4 b.min.toF32.toNat ++ natLE 4 b.amax.toF32.toNat ++
  [BitVec.ofInt 8 b.x, BitVec.ofInt 8 b.z] ++ natLE 2 b.nonfinite

/-- Scale blocks of a row. -/
def blocksOfRow (fmt e0 : Nat) : Nat := ceilDiv e0 (scaleBlock fmt)

/-- The elements of each scale block of a box whose rows hold `e0` elements. -/
def scaleBlocks (fmt e0 : Nat) (es : List (W32 × Bool)) : List (List (W32 × Bool)) :=
  let rows := if e0 = 0 then 0 else es.length / e0
  ((List.range rows).map (fun r => (List.range (blocksOfRow fmt e0)).map (fun j =>
    ((es.drop (e0 * r)).take e0 |>.drop (scaleBlock fmt * j)).take (scaleBlock fmt)))).flatten

/-- The exponent histogram of a tile (R46): BASE, the bins, the zeros and the non-finite elements. -/
structure TileHist where
  base : Int
  bins : NMap Nat
  zero : Nat
  nonfinite : Nat
  deriving DecidableEq, Repr

/-- Build it. -/
def tileHist (es : List (W32 × Bool)) : TileHist :=
  let vs := (es.filter sound).map (·.1)
  let base : Int := ((vs.map expField).foldl max 0 : Nat) - 63
  let live := vs.filter (fun w => w.toNat % 2 ^ 31 != 0)
  { base := base
    bins := live.foldl (fun m w => m.modify 0 (clampInt ((expField w : Int) - base) 0 63).toNat (· + 1)) []
    zero := vs.length - live.length, nonfinite := es.length - vs.length }

/-- The histogram record (Table PAV-9). -/
def TileHist.record (h : TileHist) : Bytes :=
  ((List.range 64).map (fun i => natLE 4 (h.bins.get 0 i))).flatten ++ natLE 4 h.zero ++ natLE 4 h.nonfinite ++
  natLE 4 (BitVec.ofInt 32 h.base).toNat ++ natLE 4 0

/-- Add a tile's histogram to the absolute histogram of its tensor identifier (R196). -/
def AbsHist.add (a : AbsHist) (h : TileHist) (gradient : Bool) : AbsHist :=
  { gradient := a.gradient || gradient
    bins := h.bins.foldl (fun m e => m.modify 0 (h.base + (e.1 : Int)).toNat (· + e.2)) a.bins
    zero := a.zero + h.zero, nonfinite := a.nonfinite + h.nonfinite }

/-- An absolute histogram with every counter zero. -/
def AbsHist.zeroed : AbsHist := { gradient := false, bins := [], zero := 0, nonfinite := 0 }

/-- Bytes with one mark of poison. -/
def markBytes (bad : Bool) (bs : Bytes) : List (Byte × Bool) := bs.map (fun b => (b, bad))

/-- The scale pass of a SCALE descriptor (R43, R46, R103). -/
def State.scalePass (s : State) (pav : Nat) (d : QDesc) (fault : Bool) : State :=
  let cx := s.ctxOf pav 1 d
  let fmt := fieldAt d.bytes 0x18 1
  let src := s.viewOf pav 1 d (fieldAt d.bytes 8 4)
  let es := s.viewWords cx src
  let stats := s.viewOf pav 1 d (fieldAt d.bytes 0x10 4)
  let blocks := (scaleBlocks fmt (src.1.extents.getD 0 0) es).map (blockStats fmt)
  let g := Staged.none.putBytes (s.viewPlaces cx stats.2 stats.1) (markBytes fault ((blocks.map (·.record)).flatten))
  let h := tileHist es
  let wants := bitOf (fieldAt d.bytes 0x19 1) 1
  let g := if wants = true ∧ fieldAt d.bytes 0x14 4 ≠ noView then
      let hv := s.viewOf pav 1 d (fieldAt d.bytes 0x14 4)
      g.putBytes (s.viewPlaces cx hv.2 hv.1) (markBytes fault h.record)
    else g
  let hists := if wants = true ∧ fieldAt d.bytes 0x14 4 ≠ noView then s.viewSplits cx (s.viewOf pav 1 d (fieldAt d.bytes 0x14 4)) else 0
  let splits := s.viewSplits cx src + s.viewSplits cx stats + hists
  let s := ((s.commitStore pav g).countSplits pav splits).updPav pav (fun v => { v with ctr := { v.ctr with
    rillNonfinite := v.ctr.rillNonfinite + BitVec.ofNat 64 (es.filter (fun e => !sound e)).length } })
  if wants then
    s.updPlot d.plot (fun q => { q with
      histLive := q.histLive.modify AbsHist.zeroed (fieldAt d.bytes 0x1A 2) (fun a => a.add h (bitOf (fieldAt d.bytes 0x19 1) 2)) })
  else s

/-! ### The convert pass (R44, R45, R48) -/

/-- The code of an element in a target (Table NUM-7), with the X and z of its block. -/
def convertCode (fmt : Nat) (rd : Rounding) (x z : Int) (v : Num) : Nat :=
  let y := v.scale (-x)
  if fmt = 2 ∨ fmt = 8 then y.toFp8 fmtE4m3 rd
  else if fmt = 3 ∨ fmt = 9 then
    match rd, y with
    | .word _, .fin _ 0 _ => 0
    | rd, y => y.toFp8 fmtE5m2 rd
  else
    match y.toInt with
    | some q => (BitVec.ofInt 8 (clampInt (q + z) (-128) 127)).toNat
    | none => (BitVec.ofInt 8 z).toNat

/-- The statistics record of a block as it stands at STATS_VIEW: X, z and its poison. -/
def statsAt (bs : List (Byte × Bool)) (block : Nat) : Int × Int × Bool :=
  let r := (bs.drop (16 * block)).take 16
  (signedOf 8 (byteOf r 12).1, signedOf 8 (byteOf r 13).1, r.any (·.2))

/-- How element `n` of a convert pass rounds (R49): stochastically to E5M2 for GRADIENT. -/
def State.convertRounding (s : State) (pav : Nat) (d : QDesc) (e0 n : Nat) : Rounding :=
  if bitOf (fieldAt d.bytes 0x19 1) 2 = true ∧ fieldAt d.bytes 0x18 1 = 3 then
    .word (ctrRandom (s.seedOf d) (s.rillAdapter pav d (n / e0)) ((s.plot d.plot).stepOf d.plan % 2 ^ 32)
      (fieldAt d.bytes 0x1A 2) 0xFFFF (fieldAt d.bytes 0x20 8 + n)).toNat
  else .nearest

/-- The convert pass of a SCALE descriptor. -/
def State.convertPass (s : State) (pav : Nat) (d : QDesc) (fault : Bool) : State :=
  let cx := s.ctxOf pav 1 d
  let fmt := fieldAt d.bytes 0x18 1
  let src := s.viewOf pav 1 d (fieldAt d.bytes 8 4)
  let dst := s.viewOf pav 1 d (fieldAt d.bytes 0x0C 4)
  let sv := s.viewOf pav 1 d (fieldAt d.bytes 0x10 4)
  let stats := s.viewBytes cx sv
  let e0 := src.1.extents.getD 0 0
  let es := s.viewWords cx src
  let out := ((List.range es.length).zip es).map (fun e =>
    let st := statsAt stats (e.1 / e0 * blocksOfRow fmt e0 + e.1 % e0 / scaleBlock fmt)
    { code := convertCode fmt (s.convertRounding pav d e0 e.1) st.1 st.2.1 (f32 e.2.1)
      scale := if isMx fmt then (st.1 + 127).toNat else 127, poisoned := fault || e.2.2 || st.2.2 : Elem })
  let draws := if bitOf (fieldAt d.bytes 0x19 1) 2 = true ∧ fmt = 3 then es.length else 0
  let splits := s.viewSplits cx src + s.viewSplits cx sv + s.viewSplits cx dst
  ((s.commitStore pav (s.stageBox cx dst.2 dst.1 out Staged.none)).countSplits pav splits).updPav pav (fun v =>
    { v with ctr := { v.ctr with srDraws := v.ctr.srDraws + BitVec.ofNat 64 draws } })

/-! ### The key-value seal of a descriptor (R47, R103) -/

/-- The group of a seal that the element at a box index belongs to: keys stand token first, 32 channels and every
token to a group; values stand channel first, 32 channels of one token to a group. -/
def sealGroup (fmt : Nat) (e : List Nat) (j : List Nat) : Nat :=
  let outer := j.getD 2 0 + e.getD 2 0 * j.getD 3 0
  if fmt = 0x10 ∨ fmt = 0x12 then j.getD 1 0 / 32 + ceilDiv (e.getD 1 0) 32 * outer
  else j.getD 0 0 / 32 + ceilDiv (e.getD 0 0) 32 * (j.getD 1 0 + e.getD 1 0 * outer)

/-- Groups of a seal. -/
def sealGroups (fmt : Nat) (e : List Nat) : Nat :=
  let outer := e.getD 2 0 * e.getD 3 0
  if fmt = 0x10 ∨ fmt = 0x12 then ceilDiv (e.getD 1 0) 32 * outer else ceilDiv (e.getD 0 0) 32 * (e.getD 1 0 * outer)

/-- The seal of a SCALE descriptor: the codes go to DST_VIEW and the BF16 scales to STATS_VIEW. -/
def State.sealPass (s : State) (pav : Nat) (d : QDesc) (fault : Bool) : State :=
  let cx := s.ctxOf pav 1 d
  let fmt := fieldAt d.bytes 0x18 1
  let src := s.viewOf pav 1 d (fieldAt d.bytes 8 4)
  let dst := s.viewOf pav 1 d (fieldAt d.bytes 0x0C 4)
  let stats := s.viewOf pav 1 d (fieldAt d.bytes 0x10 4)
  let es := (s.viewWords cx src).map (fun e =>
    (if e.2 then quietNan fmtBf16 else (f32 e.1).toWide fmtBf16 .nearest, e.2))
  let group (n : Nat) : Nat := sealGroup fmt src.1.extents (src.1.index n)
  let placed := (List.range es.length).zip es
  let scales := (List.range (sealGroups fmt src.1.extents)).map (fun k =>
    sealScale (kvLevels fmt) ((placed.filter (fun e => group e.1 == k)).map (fun e => e.2.1)))
  let out := placed.map (fun e =>
    { code := (BitVec.ofInt 8 (sealCode (kvLevels fmt) (scales.getD (group e.1) 0) e.2.1)).toNat % 2 ^ formatBits dst.2.fmt
      scale := 127, poisoned := fault || e.2.2 : Elem })
  let g := (s.stageBox cx dst.2 dst.1 out Staged.none).putBytes (s.viewPlaces cx stats.2 stats.1)
    (markBytes fault ((scales.map (natLE 2)).flatten))
  let splits := s.viewSplits cx src + s.viewSplits cx dst + s.viewSplits cx stats
  ((s.commitStore pav g).countSplits pav splits).updPav pav (fun v => { v with ctr := { v.ctr with
    rillNonfinite := v.ctr.rillNonfinite + BitVec.ofNat 64 (nonfiniteOf (es.map (·.1))) } })

/-- SCALE (R103). -/
def execScale (pav : Nat) (faults : List HwFault) (s : State) : Out :=
  match s.headOf pav 1 0x11 with
  | none => .next s
  | some d =>
    let s := s.meetFaults pav 1 0 d faults
    let bad := unitFault faults
    let mode := fieldAt d.bytes 0x19 1
    let convert := bitOf mode 0
    let page := isPage (fieldAt d.bytes 0x18 1)
    let n := (s.viewOf pav 1 d (fieldAt d.bytes 8 4)).1.size
    let t := if n = 0 then s
      else if page then s.sealPass pav d bad
      else if convert then s.convertPass pav d bad
      else s.scalePass pav d bad
    .next ((t.updPav pav (fun v => { v with
      rillBusy := true, rillHist := bitOf mode 1 && !convert && !page
      rillStoch := convert && bitOf mode 2 && !page
      ctr := { v.ctr with elements := v.ctr.elements + BitVec.ofNat 64 n } })).markDone pav 1 0)

end Sys2Proof.Machine
end

