-- ==== Sys2Proof/Machine/Moves.lean ====
section
/-! DEFINITION. The retirement of tier moves (R168), and COPY (R104, R140 to R145): a box moves from one view to another,
or a view is filled. -/

namespace Sys2Proof.Machine

/-! ### Tier moves (R168, R245, R250) -/

/-- Switch a page's entry to its new copy and free the source; POISON stays, and a copy of a poisoned line sets it. -/
def State.switchPage (s : State) (p i page : Nat) (mv : Move) : State :=
  match (s.plot p).seqs.find i with
  | none => s.kvDrop p mv.dst
  | some e =>
    let bad := ptePoison (s.mem.pte e.ptRoot page) || s.mem.poisonedIn mv.dst mv.len
    let s := (s.updMem (fun m => m.setPte e.ptRoot page (pteOf mv.dst + 2 ^ 50 * b2n bad))).kvDrop p mv.src
    s.updSeq p i (fun e =>
      if isHbm mv.dst then { e with hbmBlocks := e.hbmBlocks + 1, cfBlocks := e.cfBlocks - 1, spilled := e.cfBlocks - 1 != 0 }
      else { e with hbmBlocks := e.hbmBlocks - 1, cfBlocks := e.cfBlocks + 1, spilled := true })

/-- The bytes of a move are charged to its plot, read from one tier and written to the other. -/
def State.chargeMove (s : State) (mv : Move) : State :=
  (s.chargeRead mv.plot mv.src mv.len).chargeWrite mv.plot mv.dst mv.len

/-- What the mover's reads meet: uncorrectable errors, and a poisoned line of the record that it moves (R250). An adapter
that leaves ADMITTED so discards the copy. -/
def State.moveReads (s : State) (mv : Move) (faults : List HwFault) : State :=
  let s := faults.foldl State.memoryFault s
  match mv.purpose with
  | .orangeryPrefetch h =>
    if s.mem.poisonedIn mv.src mv.len && ((s.plot mv.plot).adapters.find h).map (·.catAddr) == some mv.src then
      s.recordPoison mv.plot h
    else s
  | _ => s

/-- Bytes moved for an adapter: ORG_MOVED_BYTES and its account, kept copy or discarded (R252, R254). -/
def State.chargeRecord (s : State) (mv : Move) (h : Nat) : State :=
  let s := { s with orangery := { s.orangery with movedBytes := s.orangery.movedBytes + BitVec.ofNat 64 mv.len } }
  s.updAdapter mv.plot h (fun a =>
    if a.catAddr = mv.src then { a with movedBytes := a.movedBytes + BitVec.ofNat 64 mv.len } else a)

/-- The end of a record's move: the copy is RESIDENT, or a discarded one is zeroed and freed. -/
def State.endPrefetch (s : State) (mv : Move) (h : Nat) : State :=
  let s := s.chargeRecord mv h
  if mv.discard then s.poolDrop mv.plot mv.dst (roundUp mv.len poolUnit)
  else
    let s := { s with orangery := { s.orangery with prefetches := s.orangery.prefetches + 1 } }
    (s.updAdapter mv.plot h (fun a => { a with
      residency := .resident, residentSince := s.now, prefetches := a.prefetches + 1 })).settleAdmits mv.plot h

/-- MOVE_RETIRE (R168): the oldest started move's copy is complete; the requester switches its pointer and
then frees the source. A discarded copy is zeroed and freed. While a stack of the move has stopped it waits (R160). -/
def execMoveRetire (faults : List HwFault) (s : State) : Out :=
  match s.mem.moving with
  | [] => .next s
  | mv0 :: _ =>
    if (s.mem.stopped mv0.src mv0.len || s.mem.stopped mv0.dst mv0.len) = true then .next s
    else
      let s := s.moveReads mv0 faults
      match s.mem.moving with
      | [] => .next s
      | mv :: rest =>
        let s := s.updMem (fun m => { (m.copyRange mv.src mv.dst mv.len) with moving := rest })
        let s := s.chargeMove mv
        let t := match mv.purpose with
          | .trellisPrefetch i page =>
            { s with trellis := { s.trellis with prefetches := s.trellis.prefetches + 1 } }.switchPage mv.plot i page mv
          | .spill i page =>
            ({ s with trellis := { s.trellis with spills := s.trellis.spills + 1 } }.switchPage mv.plot i page mv).retryFetch mv.plot
          | .orangeryPrefetch h => s.endPrefetch mv h
          | .promotion plan =>
            s.updPlot mv.plot (fun q => { q with policies := q.policies.mapVals (fun pol =>
              if pol.plan = plan then { pol with retired := true } else pol) })
        .next (t.settleUnmap mv.plot)

/-! ### COPY -/

/-- The source index of a destination index under PERM (R104). -/
def permuted (perm : Nat) (j : List Nat) : List Nat :=
  (List.range 4).map (fun k => (((List.range 4).zip j).foldl (fun acc e =>
    if perm / 4 ^ e.1 % 4 = k then e.2 else acc) 0))

/-- What a COPY writes, in row-major order of the destination box. The whole source is read first (R142). -/
def State.copyElems (s : State) (cx : OpCtx) (fill : Bool) (perm : Nat) (src dst : View × Tensor) : List Elem :=
  (List.range dst.1.size).map (fun n =>
    if fill then { code := dst.1.fill % 2 ^ formatBits dst.2.fmt, scale := 127, poisoned := false }
    else s.viewElem cx src.2 src.1 (permuted perm (dst.1.index n)))

/-- Write a COPY's stage to its destination; none while the controllers have no room for it (R17), or while a Cascade result
waits for the same credits (R19; DESIGN CHOICE: a copy, to which R19 gives no place, goes after them). -/
def State.commitCopy (s : State) (pav p : Nat) (mem : Nat) (g : Staged) : Option State :=
  if mem = 3 then some (s.commitStore pav g)
  else if mem = 1 ∨ mem = 2 then
    some ((s.commitGh g).charge p (fun c => { c with ghBytes := c.ghBytes + BitVec.ofNat 64 g.bytes.length }))
  else if s.mem.room (g.lines p) && !s.exitWants (g.lines p) then some (s.updMem (fun m => m.enqueue (g.lines p)))
  else none

/-- The adapters whose records have a poisoned line among places that are read (R250). -/
def State.badRecords (s : State) (p : Nat) (places : List Loc) : List Nat :=
  ((places.filterMap (fun l => match l with
    | .dev a => if s.mem.linePoisoned (a / 64) then (s.plot p).recordAt a else none
    | _ => none)).eraseDups)

/-- Whether a view of device memory lies on a stack whose controller has stopped (R160). -/
def State.viewStopped (s : State) (cx : OpCtx) (x : View × Tensor) : Bool :=
  (x.2.mem == 0 || x.2.mem == 4) && !s.mem.stackTripped.isEmpty &&
  (s.viewPlaces cx x.2 x.1).any (fun l => match l with | .dev a => s.mem.stopped a 1 | _ => false)

/-- COPY (R104): a device destination takes its write credits before the copy starts; the lines retire by
MEMORY_WRITE_RETIRE. A source on a stopped stack is not read (R160), and a poisoned line of a record that is read makes its
adapter POISONED (R250). -/
def execCopy (pav : Nat) (faults : List HwFault) (s : State) : Out :=
  match s.headOf pav 2 0x20 with
  | none => .next s
  | some d =>
    let met := s.meetFaults pav 2 0 d faults
    let before := s
    let s := met
    let cx := s.ctxOf pav 2 d
    let fill := bitOf (fieldAt d.bytes 0x11 1) 0
    let dst := s.viewOf pav 2 d (fieldAt d.bytes 0x0C 4)
    let src := if fill then dst else s.viewOf pav 2 d (fieldAt d.bytes 8 4)
    if (!fill && s.viewStopped cx src) = true then .next before
    else
      let es := (s.copyElems cx fill (fieldAt d.bytes 0x10 1) src dst).map (fun e => { e with poisoned := e.poisoned || unitFault faults })
      let g := s.stageBox cx dst.2 dst.1 es Staged.none
      match s.commitCopy pav d.plot dst.2.mem g with
      | none => .next before
      | some t =>
        let t := t.countSplits pav (s.viewSplits cx dst + (if fill then 0 else s.viewSplits cx src))
        let t := if fill then t else t.chargeViewRead cx d.plot src
        let bad := if fill then [] else s.badRecords d.plot (s.viewPlaces cx src.2 src.1)
        .next ((bad.foldl (fun t h => t.recordPoison d.plot h) t).markDone pav 2 0)

end Sys2Proof.Machine
end

