-- ==== Sys2Proof/Machine/Groups.lean ====
section
/-! DEFINITION. Group messages and the states of a group (R200 to R208, R218 to R221): joining and the handshake,
loss, recompaction and what a plan's survival policy makes of it (R290, R299), leaving. -/

namespace Sys2Proof.Machine

/-! ### GROUP_JOIN (R202, R205, R206) -/

/-- The shape of a rank that a completion reports: the parent and the children, all ones for none. -/
def rankOrNone : Option Nat → Nat
  | some r => r
  | none => 0xFFFFFFFF

/-- The GROUP_JOIN result (Table CSC-3). -/
def Group.joinResult (g : Group) (own : Nat) : Bytes :=
  let cs := g.children own
  natLE 2 g.handle ++ natLE 1 g.state ++ natLE 1 (headroom g.size) ++ natLE 4 g.generation ++ natLE 4 (rankOrNone (g.parent own)) ++
  natLE 4 (rankOrNone cs[0]?) ++ natLE 4 (rankOrNone cs[1]?) ++ natLE 2 g.window ++ natLE 2 0

/-- The roster of a request. -/
def State.rosterAt (s : State) (a m : Nat) : List Nat := (List.range m).map (fun i => s.mem.readNat (a + 8 * i) 8)

/-- Whether a roster holds every module once, and this module at a rank. -/
def rosterHolds (roster : List Nat) (rank own : Nat) : Bool :=
  roster.eraseDups.length == roster.length && roster[rank]? == some own

/-- Whether a plot's receive buffers hold one whole tile on the narrowest route (Table CSC-4). -/
def Plot.tileRoom (q : Plot) (kind : Nat) (routes : List (List Nat)) : Bool :=
  match leastOf (routes.map List.length) with
  | none => true
  | some n =>
    let need := ceilDiv 16 n
    if kind = 0 then decide (need ≤ q.cfg.rxVc1) && decide (need ≤ q.cfg.rxVc2)
    else decide (need ≤ q.cfg.rxVc3) && decide (1 ≤ q.cfg.rxVc1) && decide (1 ≤ q.cfg.rxVc2)

/-- The group of a request, before its checks. -/
def State.newGroup (s : State) (r : Req) : Group :=
  let m := fieldAt r.payload 8 4
  let roster := s.rosterAt (fieldAt r.payload 0x18 8) m
  { handle := 0, groupId := fieldAt r.payload 0 4, kind := fieldAt r.payload 4 1, jobTag := fieldAt r.payload 0x10 8,
    digest := leNat ((shaBytes ((roster.map (natLE 8)).flatten)).take 8), window := fieldAt r.payload 6 2, generation := 1,
    state := groupForming, live := roster, lost := [], answered := [], heard := [], pauseTicks := [], joinTick := s.now, regroupTick := s.now,
    timeoutS := if fieldAt r.payload 5 1 = 0 then 60 else fieldAt r.payload 5 1, joinSlot := some r.slot, early := [],
    suspended := false, peerReleased := false }

/-- The status that refuses a GROUP_JOIN (Table CSC-4). -/
def State.joinStatus (s : State) (p : Nat) (r : Req) : Option Nat :=
  let id := fieldAt r.payload 0 4
  let kind := fieldAt r.payload 4 1
  let w := fieldAt r.payload 6 2
  let m := fieldAt r.payload 8 4
  let rank := fieldAt r.payload 0x0C 4
  let a := fieldAt r.payload 0x18 8
  let q := s.plot p
  if id = 0 ∨ (q.groupById id).isSome = true ∨ 1 < kind ∨ m = 0 ∨ 65536 < m ∨ (kind = 1 ∧ 64 < m) ∨ m ≤ rank ∨ w = 0 ∨ 64 < w then
    some stNotPermitted
  else if s.inWindows p a (8 * m) = false ∨ s.mem.poisonedIn a (8 * m) = true ∨
      rosterHolds (s.rosterAt a m) rank s.fabric = false then some stNotPermitted
  else
    let g := s.newGroup r
    let routes := (g.neighbours s.fabric).map (s.route p)
    if s.mod.hall = true ∧ routes.any (fun l => !s.portKeys l) = true then some stAttestRequired
    else if routes.any List.isEmpty then some stRouteUnreachable
    else if q.cfg.groups ≤ q.groups.length ∨ q.tileRoom kind routes = false ∨ q.cfg.retainMib * 1048576 < w * 131072 then some stNoMemory
    else none

/-- A group that a GROUP_JOIN waits for fails: it goes, and the request completes with a status. -/
def State.failJoin (s : State) (p handle status : Nat) : State :=
  match (s.plot p).groupOf handle with
  | none => s
  | some g =>
    let s := s.updPlot p (fun q => { q with groups := q.groups.filter (fun x => x.handle != handle) })
    match g.joinSlot.bind (s.heldIn p) with
    | some r => s.refuse p r status
    | none => s

/-- Whether every neighbour of a group has answered, with pair keys in hall mode. -/
def State.allMet (s : State) (g : Group) : Bool :=
  (g.neighbours s.fabric).all (fun f => g.answered.contains f && s.paired f)

/-! ### What a group's return to ACTIVE lets go on (R300) -/

/-- A kept step falls back to a redo when a survivor has released a tile (R299). -/
def State.fallBack (s : State) (p : Nat) (g : Group) : State :=
  let q := s.plot p
  if !(q.released g || g.peerReleased) then s
  else
    let plans := (q.plansNaming g.groupId).filter (fun h => q.modeOfPlan h == 2 &&
      (match q.runOf h with | some st => !st.stopped && st.skipSet.isNone | none => false))
    plans.foldl (fun t h => t.stopStep p h 3) s

/-- The group is ACTIVE: waiting recoveries, tiles and exchanges go on. -/
def State.flows (s : State) (p : Nat) : State :=
  let s := (s.settleStopped p).tryRecover p
  (s.plot p).running.foldl (fun t st => (t.pump p st.plan).pumpSkip p st.plan) s

/-- A group whose neighbours have all answered becomes ACTIVE. -/
def State.settleGroup (s : State) (p handle : Nat) : State :=
  match (s.plot p).groupOf handle with
  | none => s
  | some g =>
    if s.allMet g = false then s
    else if g.state = groupForming ∨ g.state = groupRecompacting then
      let s := (s.setGroupState p handle groupActive 0).updGroup p handle (fun x => { x with joinSlot := none })
      let s := match g.joinSlot.bind (s.heldIn p) with
        | some r => s.ok p r ({ g with state := groupActive }.joinResult s.fabric)
        | none => s
      if g.state = groupRecompacting then (s.fallBack p g).flows p else s
    else s

/-- GROUP_JOIN: the accepted group is FORMING, which is posted (R207), and its neighbours are greeted. -/
def execGroupJoin (p : Nat) (s : State) : Out :=
  .next (s.serve p opGroupJoin (fun _ => true) (fun r s =>
    match s.joinStatus p r with
    | some st => s.refuse p r st
    | none =>
      match s.freeGroup with
      | none => s.refuse p r stNoMemory
      | some h =>
        let g := { s.newGroup r with handle := h }
        let s := (s.setPhase p r.slot .started).hold (fun t => t.updPlot p (fun q => { q with groups := q.groups ++ [g] }))
        ((s.survivalEvent p 1 g s.fabric 0).shakeAll p h).settleGroup p h))

/-- GROUP_JOIN_TIMEOUT: the handshake of a join has not ended within TIMEOUT_S. -/
def execGroupJoinTimeout (plot group : Nat) (s : State) : Out :=
  match (s.plot plot).groupOf group with
  | none => .next s
  | some g =>
    if g.joinSlot.isSome = true ∧ g.joinTick + g.timeoutS * 100000000 ≤ s.now then .next (s.failJoin plot group stTimeout)
    else .next s

/-! ### Loss and recompaction (R219, R220) -/

/-- Reclaim what a plot holds for a lost end of a group (R208): retention copies, frames of VC0 that wait for it, and the
receive buffers that hold what it has sent. -/
def State.reclaimEdge (s : State) (p : Nat) (g : Group) (fabric : Nat) : State :=
  let rank := g.rankOf fabric
  let mine (r : Retained) : Bool := (r.plot == p || r.frame.vc == 0) && r.frame.groupId == g.groupId && r.dest == fabric
  let s := { s with ports := s.ports.mapVals (fun t => { t with
      retention := t.retention.filter (fun r => !mine r), waiting := t.waiting.filter (fun r => !mine r) }) }
  s.updPlot p (fun q => { q with
    groups := q.groups.map (fun x => if x.handle = g.handle then { x with early := x.early.filter (fun e => e.2.src != fabric) } else x)
    running := q.running.map (fun st => match q.plans.find st.plan with
      | some pl =>
        if pl.header.rgroup = g.groupId then
          { st with tiles := st.tiles.map (fun t => { t with
              childFrames := t.childFrames.filter (fun c => c.1 != rank), childWaves := t.childWaves.filter (fun c => c.1 != rank) }) }
        else st
      | none => st) })

/-- Every tile of the old generation is abandoned (Table CSC-5): it begins again with its scan while it has not been
released to entry conversion; after that nothing of it is left to begin again, and the step is redone (R299). -/
def Tile.abandon (t : Tile) : Tile :=
  { t with
    phase := if t.phase < 2 ∨ t.phase = 7 then t.phase else if t.phase ≤ 3 then 1 else 8
    routes := [], childWaves := [], sentWave := false, final := if 3 < t.phase then t.final else none, finalSent := []
    childFrames := [], retries := [], upSent := false, downHeld := [], downSent := [], failed := none
    total := if t.phase = 7 then t.total else [], totalResidues := [], exitLines := [] }

/-- Abandon the tiles of a group's running step. -/
def State.abandonTiles (s : State) (p : Nat) (g : Group) : State :=
  s.updPlot p (fun q => { q with running := q.running.map (fun st =>
    match q.plans.find st.plan with
    | some pl => if pl.header.rgroup = g.groupId then { st with tiles := st.tiles.map Tile.abandon } else st
    | none => st) })

/-- A group takes new members, a new lost set and a new generation, and greets its neighbours (R220). -/
def State.regroup (s : State) (p handle : Nat) (live lost : List Nat) (gen : Nat) (met : List Nat) (cause : Nat) : State :=
  match (s.plot p).groupOf handle with
  | none => s
  | some g =>
    let s := (s.abandonFrames p g).abandonTiles p g
    let s := s.updGroup p handle (fun x => { x with
      live := live, lost := lost, generation := gen, answered := met, regroupTick := s.now, early := [], peerReleased := x.peerReleased,
      heard := ({ x with live := live }.neighbours s.fabric).foldl (fun m f => NMap.set m f s.now) []
      pauseTicks := [] })
    ((s.setGroupState p handle groupRecompacting cause).shakeAll p handle).settleGroup p handle

/-- Remember a LOSS notice; one that is known is not forwarded again. -/
def State.noteLoss (s : State) (p : Nat) (key : Nat × Nat × Nat) : State :=
  s.updPlot p (fun q => { q with notices := q.notices ++ [key] })

/-- Forward a LOSS notice to the neighbours of a group, but for those named. -/
def State.sendLoss (s : State) (g : Group) (key : Nat × Nat × Nat) (but : List Nat) : State :=
  ((g.neighbours s.fabric).filter (fun f => !but.contains f)).foldl
    (fun t f => t.sendControl f (g.frame t.fabric 1 0 0) (.loss key.1 key.2.1 key.2.2)) s

/-- Forward a LOSS notice into every other group of every plan that names a group (R299). -/
def State.spreadLoss (s : State) (p : Nat) (g : Group) (key : Nat × Nat × Nat) (but : List Nat) : State :=
  let q := s.plot p
  let ids := (((q.plansNaming g.groupId).filterMap (fun h => (q.plans.find h).map (fun pl => pl.header.groups))).flatten).eraseDups
  (ids.filter (· != g.groupId)).foldl (fun t id => match (t.plot p).groupById id with
    | some x => if x.state = groupDissolved then t else t.sendLoss x key but
    | none => t) s

/-- STOP (R299): every group of the plan becomes DISSOLVED, and its running step ends with ST_GROUP_LOST. -/
def State.stopPlan (s : State) (p : Nat) (pl : Plan) (fabric : Nat) : State :=
  let s := pl.header.groups.foldl (fun t id => match (t.plot p).groupById id with
    | some g => t.dissolveGroup p g.handle fabric
    | none => t) s
  (s.stopLost p).settleStopped p

/-- The running step of a plan under REDO, or under KEEP when it cannot be kept, is stopped for a redo; one that
holds its skip set completes (R386). -/
def State.redoPlan (s : State) (p plan : Nat) : State :=
  match (s.plot p).runOf plan with
  | some st => if st.skipSet.isSome then s else (s.stopStep p plan 3).settleStopped p
  | none => s

/-- What a loss in the plan's own Bower means for its policy (R290, Table SRV-7): a standby plan covers it, or the
replica dissolves. -/
def Policy.covers (x : Policy) (q : Plot) (stage : Nat) : Bool :=
  x.state == 1 && x.pendingLoss.isNone && (q.plans.find (x.standby.getD stage noPlan)).isSome &&
  (!x.absorbs stage || x.sources.any (fun f => !q.knownLost.contains f))

/-- A loss in a group of an active plan, acted on by the plan's STEP_MODE (R299). -/
def State.actOnLoss (s : State) (p plan : Nat) (g : Group) (fabric rank : Nat) : State :=
  let q := s.plot p
  match q.plans.find plan with
  | none => s
  | some pl =>
    let mode := q.modeOfPlan plan
    if pl.standby then s
    else if mode = 0 then s.stopPlan p pl fabric
    else
      let own := g.groupId == pl.header.bgroup
      match q.policyNaming plan with
      | none => s.stopPlan p pl fabric
      | some pol =>
        if own && !pol.covers q rank then (s.dissolve p pl).settleStopped p
        else
          let s := if own then s.updPolicy p pol.plan (fun x => { x with pendingLoss := some rank }) else s
          if mode = 1 ∨ (g.groupId = pl.header.rgroup ∧ q.released g = true) then s.redoPlan p plan
          else
            match q.runOf plan with
            | none => s
            | some st =>
              if own && st.skipSet.isNone && !st.stopped then
                let s := s.keepStep p pl st fabric (pol.absorbs rank)
                if pol.absorbs rank then s.beginAbsorb p { pol with pendingLoss := some rank } rank else s
              else s

/-- A loss is declared (R208, R219): it is posted and spread, what was held for the lost end is reclaimed, and the
group recompacts, whatever its state, as its plans' policies permit. -/
def State.declareLoss (s : State) (p handle fabric : Nat) (src : Option Nat) : State :=
  match (s.plot p).groupOf handle with
  | none => s
  | some g =>
    if g.state = groupDissolved ∨ g.live.contains fabric = false ∨ fabric = s.fabric then s
    else
      let rank := g.rankOf fabric
      let key := (g.groupId, g.generation, rank)
      let but := fabric :: (match src with | some f => [f] | none => [])
      let g' := { g with live := g.live.filter (· != fabric), lost := g.lost ++ [fabric] }
      let s := (s.survivalEvent p 2 g' fabric 0).reclaimEdge p g fabric
      let s := ((s.sendLoss g key but).spreadLoss p g key but).noteLoss p key
      let s := s.updGroup p handle (fun x => { x with live := g'.live, lost := g'.lost })
      let s := ((s.plot p).plansNaming g.groupId).foldl (fun t h => t.actOnLoss p h g fabric rank) s
      match (s.plot p).groupOf handle with
      | none => s
      | some x =>
        if x.state = groupDissolved then s
        else (s.regroup p handle x.live x.lost (x.generation + 1) [] fabric).tryRecover p

/-- A LOSS notice of a group that the plot has not joined: the job loses a member elsewhere (R299). -/
def State.jobLoss (s : State) (p : Nat) (key : Nat × Nat × Nat) (src : Nat) : State :=
  let q := s.plot p
  if q.notices.contains key then s
  else
    let gs := q.groups.filter (fun g => g.state != groupDissolved && g.state != groupForming && (g.neighbours s.fabric).contains src)
    if gs.isEmpty then s
    else
      let s := s.noteLoss p key
      gs.foldl (fun t g =>
        let t := (t.sendLoss g key [src]).spreadLoss p g key [src]
        ((t.plot p).plansNaming g.groupId).foldl (fun u h =>
          match (u.plot p).plans.find h with
          | none => u
          | some pl =>
            if pl.standby then u
            else if (u.plot p).modeOfPlan h = 0 then u.stopPlan p pl src
            else if (u.plot p).modeOfPlan h = 1 then (u.redoPlan p h).tryRecover p
            else u) t) s

/-- A notice of a group: worked when it names the group's generation, counted as stale when it names an older one (R220). -/
def State.takeNotice (s : State) (port generation : Nat) (g : Group) (work : State → State) : State :=
  if g.generation = generation then work s else if generation < g.generation then s.stale port else s

/-- LOSS (R219, R299). -/
def execLoss (l : Link) (groupId generation lostRank : Nat) (s : State) : Out :=
  .next (s.hearControl l false true (fun s => tenantPlots.foldl (fun t p =>
    match (t.plot p).groupById groupId with
    | some g =>
      (t.renew p g l.src).takeNotice l.port generation g (fun u => u.declareLoss p g.handle (g.at lostRank) (some l.src))
    | none => t.jobLoss p (groupId, generation, lostRank) l.src) s))

/-- The replica that a spare was to join dissolves: its REINSTATE ends (Table SRV-12). -/
def State.releaseSpare (s : State) (p groupId : Nat) : State :=
  (s.plot p).fills.foldl (fun t x =>
    if x.use = 2 ∧ (match (t.plot p).plans.find x.plan with | some pl => pl.header.groups.contains groupId | none => false) = true then
      t.endFill p x stGroupLost
    else t) s

/-- LEAVE (R218): its sender is lost at once. -/
def execLeave (l : Link) (groupId generation rank : Nat) (s : State) : Out :=
  .next (s.hearControl l false true (fun s => tenantPlots.foldl (fun t p =>
    match (t.plot p).groupById groupId with
    | some g => t.takeNotice l.port generation g (fun u => u.declareLoss p g.handle (g.at rank) none)
    | none => t.releaseSpare p groupId) s))

/-- RECOMPACTION_TIMEOUT (R220 step 6). -/
def execRecompactionTimeout (plot group rank : Nat) (s : State) : Out :=
  match (s.plot plot).groupOf group with
  | none => .next s
  | some g =>
    if g.state = groupRecompacting ∧ (g.neighbourRanks s.fabric).contains rank = true ∧ g.answered.contains (g.at rank) = false ∧
        g.regroupTick + leaseTicks ≤ s.now then
      .next (s.declareLoss plot group (g.at rank) none)
    else .next s

/-- NEIGHBOUR_SILENT (R207). -/
def execNeighbourSilent (plot group fabricId : Nat) (s : State) : Out :=
  match (s.plot plot).groupOf group with
  | none => .next s
  | some g =>
    if g.state = groupActive ∧ (g.neighbours s.fabric).contains fabricId = true ∧
        g.heard.get g.joinTick fabricId + suspectTicks + g.pauseTicks.get 0 fabricId ≤ s.now then
      .next (s.setGroupState plot group groupSuspect fabricId)
    else .next s

/-! ### GROUP_HANDSHAKE (R205, R220, R303, R310) -/

/-- A neighbour has answered with equal values. -/
def State.met (s : State) (p : Nat) (g : Group) (h : Handshake) : State :=
  let first := !g.answered.contains h.src
  let s := s.updGroup p g.handle (fun x => { x with
    answered := if first then x.answered ++ [h.src] else x.answered, heard := x.heard.set h.src s.now
    peerReleased := x.peerReleased || h.released })
  let s := if first then s.shake p g h.src else s
  let s := s.settleGroup p g.handle
  if h.released && !g.peerReleased && g.state == groupActive then
    match (s.plot p).groupOf g.handle with
    | some x => ((s.shakeAll p g.handle).fallBack p x).flows p
    | none => s
  else s

/-- The full plans of a replica are active again once its Bower is whole (R310). -/
def State.bowerWhole (s : State) (p handle spare : Nat) : State :=
  match (s.plot p).groupOf handle with
  | none => s
  | some g =>
    ((s.plot p).policies.filter (fun e => e.2.state == 2 || e.2.state == 3)).foldl (fun t e =>
      match (t.plot p).plans.find e.2.plan with
      | some pl => if pl.header.bgroup = g.groupId ∧ g.size = e.2.members then t.endDegraded p e.2 spare else t
      | none => t) s

/-- A module that is no member takes a rank under the next generation: an absorbing member the last rank (R303), a
spare the rank that it fills (R310). One that was named lost may so join again (R298). -/
def State.admitMember (s : State) (p : Nat) (g : Group) (h : Handshake) : State :=
  let lost := g.lost.filter (· != h.src)
  if h.jobTag ≠ g.jobTag ∨ h.kind ≠ g.kind ∨ h.generation ≤ g.generation then s
  else if h.members = g.size + 1 ∧ h.rank ≤ g.size then
    (s.regroup p g.handle (insertAt g.live h.rank h.src) lost h.generation [h.src] h.src).bowerWhole p g.handle h.src
  else if h.members = g.size ∧ h.rank < g.size ∧ g.at h.rank ≠ s.fabric then
    s.regroup p g.handle (g.live.set h.rank h.src) lost h.generation [h.src] h.src
  else s

/-- A handshake of a newer generation. A rank that the group has not met is taken by a stranger; one that lacks a loss of
this member's lost set is answered under a newer generation still, unless it is the next generation of a group that a lost
module has joined again (R298; DESIGN CHOICE: a handshake does not tell the two apart otherwise). -/
def State.takeNewer (s : State) (p : Nat) (g : Group) (h : Handshake) : State :=
  let more := g.lost.filter (fun f => !h.lost.contains f)
  let grows := h.members == g.size + 1
  if more.isEmpty = false ∧ ¬(grows = true ∧ h.generation = g.generation + 1) then
    s.regroup p g.handle g.live g.lost (h.generation + 1) [] h.src
  else
    let live := if grows then (if g.rankOf h.src < h.rank then strangerId :: g.live else g.live ++ [strangerId]) else g.live
    (s.regroup p g.handle live (g.lost.filter h.lost.contains) h.generation [h.src] h.src).bowerWhole p g.handle strangerId

/-- The handshake of a group that has formed. One of an older generation is counted as stale (R220). -/
def State.takeFormed (s : State) (port p : Nat) (g : Group) (h : Handshake) : State :=
  if h.generation < g.generation then s.stale port
  else if g.live.contains h.src = false then
    (if h.jobTag = g.jobTag ∧ h.generation = g.generation ∧ h.members = g.size ∧ h.rank < g.size ∧ g.at h.rank = strangerId then
       let s := s.updGroup p g.handle (fun x => { x with live := x.live.set h.rank h.src, lost := x.lost.filter (· != h.src) })
       match (s.plot p).groupOf g.handle with
       | some x => if (x.neighbours s.fabric).contains h.src = true then s.met p x h else s
       | none => s
     else s.admitMember p g h)
  else
    let more := (h.lost.filter (fun f => g.live.contains f && f != s.fabric))
    if more.isEmpty = false then
      let s := more.foldl (fun t f => t.declareLoss p g.handle f (some h.src)) s
      match (s.plot p).groupOf g.handle with
      | some x =>
        if x.state = groupDissolved then s
        else if x.generation < h.generation then s.regroup p g.handle x.live x.lost h.generation [h.src] h.src
        else s
      | none => s
    else if g.generation < h.generation then s.takeNewer p g h
    else if g.lost.any (fun f => !h.lost.contains f) = true then s.shake p g h.src
    else if (g.neighbours s.fabric).contains h.src = true then s.met p g h
    else s

/-- The handshake of a group that forms. -/
def State.takeForming (s : State) (p : Nat) (g : Group) (h : Handshake) : State :=
  if (g.neighbours s.fabric).contains h.src = false then s
  else if h.kind ≠ g.kind ∨ h.members ≠ g.size ∨ h.jobTag ≠ g.jobTag ∨ h.digest ≠ g.digest then
    (s.shake p g h.src).failJoin p g.handle stGroupMismatch
  else if h.rank ≠ g.rankOf h.src ∨ h.generation ≠ g.generation then s
  else s.met p g h

/-- GROUP_HANDSHAKE: it renews the lease of its sender, and meets the group that forms or has formed. -/
def execGroupHandshake (l : Link) (h : Handshake) (s : State) : Out :=
  .next (s.hearControl l false true (fun s => tenantPlots.foldl (fun t p =>
    match (t.plot p).groupById h.groupId with
    | none => t
    | some g =>
      if g.state = groupDissolved ∨ g.suspended = true then t
      else
        let t := t.renew p g h.src
        match (t.plot p).groupOf g.handle with
        | none => t
        | some g => if g.state = groupForming ∧ h.generation ≤ g.generation then t.takeForming p g h else t.takeFormed l.port p g h) s))

/-! ### GROUP_LEAVE (R218, R221) -/

/-- GROUP_LEAVE: LEAVE goes to the neighbours, and the group is CLOSED. A group that still forms is left too, and its
GROUP_JOIN ends with ST_GROUP_LOST (DESIGN CHOICE: the spec names no status for it); one that is DISSOLVED has left
(Table CSC-5). -/
def execGroupLeave (p : Nat) (s : State) : Out :=
  .next (s.serve p opGroupLeave (fun _ => true) (fun r s =>
    match (s.plot p).groupOf (fieldAt r.payload 0 2) with
    | none => s.refuse p r stNotPermitted
    | some g =>
      if g.state = groupDissolved then s.refuse p r stGroupLost
      else if ((s.plot p).plansNaming g.groupId).isEmpty = false then s.refuse p r stGroupBusy
      else
        let s := ((s.sendLeave p g).abandonFrames p g).setGroupState p g.handle groupClosed 0
        let s := s.updPlot p (fun q => { q with groups := q.groups.filter (fun x => x.handle != g.handle) })
        let s := match g.joinSlot.bind (s.heldIn p) with
          | some j => s.refuse p j stGroupLost
          | none => s
        s.ok p r []))

end Sys2Proof.Machine
end

