-- ==== Sys2Proof/Machine/Checks.lean ====
section
/-! DEFINITION. The checks of the Cascade and what their failure makes of a member (R214 to R218, Table ERR-2): conversion
and the arrival of values with the faults that their transfers meet, and frames that are repeated from retention. -/

namespace Sys2Proof.Machine

/-- The Pavilions of a Terrace. -/
def terraceMask (t : Nat) : Nat := (2 ^ 64 - 1) * 2 ^ (64 * t)

/-- Withdraw a plot from groups; the steps of their plans stop (R218, R308). -/
def State.withdrawAll (s : State) (p : Nat) (handles : List Nat) : State :=
  if handles.isEmpty then s else ((handles.foldl (fun t h => t.withdraw p h) s).stopLost p).settleStopped p

/-- The groups of a plot that a Cascade engine serves: a Terrace's engine those of the plans that need the Terrace, a
port's engine those with a neighbour routed over the port. -/
def State.servedBy (s : State) (p engine : Nat) : List Nat :=
  let q := s.plot p
  (q.groups.filter (fun g =>
    if engine < 2 then
      (q.plansNaming g.groupId).any (fun h => match q.plans.find h with
        | some pl => pl.header.need &&& terraceMask engine != 0 | none => false)
    else (g.neighbours s.fabric).any (fun f => (s.route p f).contains (engine - 2)))).map (·.handle)

/-- Every member of the groups that an engine serves withdraws. -/
def State.engineDown (s : State) (i block cause : Nat) : State :=
  tenantPlots.foldl (fun t p =>
    let hs := t.servedBy p i
    if hs.isEmpty then t else (t.raise p (t.errOf 2 block cause i (t.plot p).eventStep)).withdrawAll p hs) s

/-! ### Failed checks (R215, R217, R218) -/

/-- The groups that a withdrawal after a failed check reaches: those given, and every group named by a loaded plan that
names one of them (R218). -/
def Plot.reach (q : Plot) (handles : List Nat) : List Nat :=
  let ids := (q.groups.filter (fun g => handles.contains g.handle)).map (·.groupId)
  let more := ((q.plans.filter (fun e => e.2.header.groups.any ids.contains)).map (fun e => e.2.header.groups)).flatten
  (handles ++ (more.filterMap q.groupById).map (·.handle)).eraseDups

/-- A check has failed its three retries: the engine sets its flag and is withdrawn, and its members leave the groups that
it serves and those that their plans name besides. -/
def State.checkFails (s : State) (engine flag : Nat) : State :=
  let s := s.updEngine engine (fun e => { e with err := setFlag e.err flag, fenced := true })
  tenantPlots.foldl (fun t p =>
    let hs := t.servedBy p engine
    if hs.isEmpty then t
    else (t.raise p (t.errOf 2 4 flag engine (t.plot p).eventStep)).withdrawAll p ((t.plot p).reach hs)) s

/-- The checks that have failed for a tile of a step. -/
def State.settleFailed (s : State) (p plan : Nat) : State :=
  match (s.tilesOf p plan).findSome? (·.failed) with
  | some x => s.checkFails x.1 x.2
  | none => s

/-! ### TILE_CONVERT, UP and DOWN -/

/-- TILE_CONVERT: a tile that holds the final wave entry is converted to RX64 with E and h, and its contribution and what
follows are checked. -/
def execTileConvert (plot plan seq : Nat) (faults : TileFaults) (s : State) : Out :=
  match s.flowOf plot plan, (s.tilesOf plot plan).find? (fun t => t.seq == seq && t.phase == 3 && t.failed.isNone) with
  | some fl, some t => .next ((s.convertTile { fl with faults := faults } t).settleFailed plot plan)
  | _, _ => .next s

/-- UP (R216): the lines are checked and held as the child's; once every child's frames and the rank's own
contribution are present the sum goes to the parent with the carried residues. -/
def execUp (port : Nat) (f : Frame) (faults : TileFaults) (s : State) : Out :=
  .next (s.arriving port f 3 (fun p g s => s.forStep port p g f (fun st s =>
    (s.takeValues port p g st f false faults).settleFailed p st.plan)))

/-- DOWN (R212): the total's lines are checked and held; the whole total goes to the children and to
memory. -/
def execDown (port : Nat) (f : Frame) (faults : TileFaults) (s : State) : Out :=
  .next (s.arriving port f 4 (fun p g s => s.forStep port p g f (fun st s =>
    (s.takeValues port p g st f false faults).settleFailed p st.plan)))

/-! ### Frames repeated from retention (R217, R227) -/

/-- Repeat a frame, or, where the retention store cannot give it back, drop it: RETENTION_ECC withdraws the members from the
groups of the engine (Table ERR-2). -/
def State.repeatOrLose (s : State) (port : Nat) (r : Retained) (bad : Bool) : State :=
  if bad then
    let s := s.updPort port (fun t => { t with retention := t.retention.filter (· != r) })
    (s.updEngine (portEngine port) (fun e => { e with err := setFlag e.err 4 })).engineDown (portEngine port) 4 4
  else s.repeatFrame port r

/-- RESEND (R217): the frame that the receiver names is repeated from retention. The request renews its sender's lease. -/
def execResend (l : Link) (seq frameIdx groupId : Nat) (retentionBad : Bool) (s : State) : Out :=
  .next (s.hearControl l false true (fun s =>
    let s := s.renewById groupId l.src
    match (s.port l.port).retention.find? (fun r =>
        r.frame.seq == seq && r.frame.frameIdx == frameIdx && r.frame.groupId == groupId && r.dest == l.src &&
        (r.frame.kind == 3 || r.frame.kind == 4)) with
    | none => s
    | some r => s.repeatOrLose l.port r retentionBad))

/-- FRAME_RETRANSMIT (R227): the oldest frame that has not been acknowledged within 20 µs is repeated; one
given up after eight attempts takes its port out of the route (R225). -/
def execFrameRetransmit (port : Nat) (retentionBad : Bool) (s : State) : Out :=
  match s.dueFrame port with
  | none => .next s
  | some r => if maxAttempts ≤ r.attempts then .next (s.giveUp port r) else .next (s.repeatOrLose port r retentionBad)

end Sys2Proof.Machine
end

