-- ==== Sys2Proof/Machine/Snapshot.lean ====
section
/-! DEFINITION. Snapshot partnerships (R311 to R316), the frames of an image, and RESTORE (R317). -/

namespace Sys2Proof.Machine

/-! ### Partnerships (R311) -/

/-- Change a partnership of a plot. -/
def State.updPartner (s : State) (p h : Nat) (f : Partner → Partner) : State :=
  s.updPlot p (fun q => { q with partners := q.partners.map (fun e => if e.1 = h then (e.1, f e.2) else e) })

/-- Remove a partnership. -/
def State.dropPartner (s : State) (p h : Nat) : State :=
  s.updPlot p (fun q => { q with partners := q.partners.erase h })

/-- The lowest free partnership handle, 0 to 15. -/
def Plot.freePartner (q : Plot) : Option Nat := (List.range 16).find? (fun h => (q.partners.find h).isNone)

/-- An offered partnership. -/
def partnerOf (r : Req) (h now imageBytes : Nat) : Partner :=
  { handle := h, role := fieldAt r.payload 0 1, formed := false, slot := some r.slot, startTick := now,
    interval := fieldAt r.payload 2 2, lossBound := fieldAt r.payload 4 4, plan := fieldAt r.payload 8 4,
    peer := fieldAt r.payload 0x10 8, addr := fieldAt r.payload 0x18 8, len := fieldAt r.payload 0x20 8,
    jobTag := fieldAt r.payload 0x28 8, state := partnerIdle, images := [none, none], newest := 0, streamStep := none,
    streamCursor := 0, streamBytes := 0, owed := none, imageBytes := imageBytes, image := [], kept := [], got := [], heard := now }

/-- Whether a module can be reached under the plot's keys: in hall mode every port of its route holds a key. -/
def State.keysTo (s : State) (p fabric : Nat) : Bool := !s.mod.hall || s.portKeys (s.route p fabric)

/-- Offer a partnership and wait for the peer's request. -/
def State.offerPartner (s : State) (p : Nat) (r : Req) (imageBytes : Nat) : State :=
  match (s.plot p).freePartner with
  | none => s.refuse p r stNoMemory
  | some h =>
    let x := partnerOf r h s.now imageBytes
    let s := (s.setPhase p r.slot .started).hold (fun t => t.updPlot p (fun q => { q with partners := q.partners.set h x }))
    (s.pairUp x.peer).sendControl x.peer (blankFrame s.fabric) (.snapshotOffer x.jobTag x.role)

/-- SNAPSHOT_BEGIN, ROLE SOURCE. A lost partnership of the plan ends (R316). -/
def execSnapshotBeginSource (p : Nat) (s : State) : Out :=
  .next (s.serve p opSnapshotBegin (fun pl => fieldAt pl 0 1 == 0) (fun r s =>
    let q := s.plot p
    let plan := fieldAt r.payload 8 4
    let interval := fieldAt r.payload 2 2
    let bound := fieldAt r.payload 4 4
    let a := fieldAt r.payload 0x18 8
    let n := fieldAt r.payload 0x20 8
    match q.plans.find plan, q.binding with
    | some pl, some b =>
      if (q.runOf plan).isSome = true ∨ interval = 0 ∨ (bound ≠ 0 ∧ bound < interval) ∨ s.inHbmWindows p a n = false then
        s.refuse p r stNotPermitted
      else if s.keysTo p (fieldAt r.payload 0x10 8) = false then s.refuse p r stAttestRequired
      else if n < q.imageBytes b pl then s.refuse p r stNoMemory
      else
        let s := s.updPlot p (fun q => { q with partners := q.partners.filter (fun e =>
          !(e.2.role == 0 && e.2.plan == plan && e.2.state == partnerLost)) })
        s.offerPartner p r (q.imageBytes b pl)
    | _, _ => s.refuse p r stNotPermitted))

/-- Whether `n` bytes from an address lie in a plot's Cold Frame windows. -/
def State.inColdWindows (s : State) (p a n : Nat) : Bool :=
  coveredBy ((s.plot p).windowRuns.filter (fun r => r.tier == 3)) ((s.plot p).windowRuns.length + 1) a n

/-- SNAPSHOT_BEGIN, ROLE KEEPER. -/
def execSnapshotBeginKeeper (p : Nat) (s : State) : Out :=
  .next (s.serve p opSnapshotBegin (fun pl => fieldAt pl 0 1 == 1) (fun r s =>
    if s.inColdWindows p (fieldAt r.payload 0x18 8) (fieldAt r.payload 0x20 8) = false then s.refuse p r stNotPermitted
    else if s.keysTo p (fieldAt r.payload 0x10 8) = false then s.refuse p r stAttestRequired
    else s.offerPartner p r 0))

/-- The SNAPSHOT_BEGIN result. -/
def Partner.result (x : Partner) : Bytes := natLE 8 x.imageBytes ++ natLE 2 x.handle ++ natLE 6 0

/-- SNAPSHOT_BEGIN, ROLE END: the partnership with the peer under the job tag ends. -/
def execSnapshotBeginEnd (p : Nat) (s : State) : Out :=
  .next (s.serve p opSnapshotBegin (fun pl => fieldAt pl 0 1 == 2) (fun r s =>
    match (s.plot p).partners.find? (fun e =>
        e.2.formed && e.2.peer == fieldAt r.payload 0x10 8 && e.2.jobTag == fieldAt r.payload 0x28 8) with
    | none => s.refuse p r stNotPermitted
    | some e => ((s.dropPartner p e.1).sendControl e.2.peer (blankFrame s.fabric) (.snapshotOffer e.2.jobTag 2)).ok p r e.2.result))

/-- The request that a partnership waits for completes with a status, and the partnership goes. -/
def State.failPartner (s : State) (p : Nat) (x : Partner) (status : Nat) : State :=
  let s := s.dropPartner p x.handle
  match x.slot.bind (s.heldIn p) with
  | some r => s.refuse p r status
  | none => s

/-- PARTNERSHIP_FORMED (R311): the peer's request names a module, a job and its role. In hall mode a partnership forms
once the pair keys are there (R412). -/
def execPartnershipFormed (plot partnership named jobTag role image : Nat) (s : State) : Out :=
  match (s.plot plot).partners.find partnership with
  | none => .next s
  | some x =>
    if x.formed = true then
      .next (if role = 2 ∧ named = s.fabric ∧ jobTag = x.jobTag then s.dropPartner plot partnership else s)
    else if named ≠ s.fabric ∨ jobTag ≠ x.jobTag ∨ role = x.role ∨ 1 < role then .next (s.failPartner plot x stPartnerRefused)
    else if s.paired x.peer = false then .next s
    else if x.role = 1 ∧ x.len < 2 * image then .next (s.failPartner plot x stNoMemory)
    else
      let y := { x with formed := true, slot := none, heard := s.now, imageBytes := if x.role = 1 then image else x.imageBytes }
      let s := s.updPartner plot partnership (fun _ => y)
      .next (match x.slot.bind (s.heldIn plot) with
        | some r => s.ok plot r y.result
        | none => s)

/-- PARTNER_NO_ANSWER (R319). -/
def execPartnerNoAnswer (plot partnership : Nat) (s : State) : Out :=
  match (s.plot plot).partners.find partnership with
  | none => .next s
  | some x =>
    if x.formed = false ∧ x.startTick + leaseTicks ≤ s.now then .next (s.failPartner plot x stPartnerRefused) else .next s

/-! ### SNAPSHOT_QUERY (R315) -/

/-- The step, or all ones, of an image. -/
def imageStep (im : Option (Nat × Nat)) : Nat := match im with | some x => x.1 | none => 0xFFFFFFFFFFFFFFFF
def imageCursor (im : Option (Nat × Nat)) : Nat := match im with | some x => x.2 | none => 0xFFFFFFFFFFFFFFFF

/-- The result of SNAPSHOT_QUERY. -/
def Partner.query (x : Partner) : Bytes :=
  natLE 1 x.state ++ natLE 7 0 ++ natLE 8 (imageStep x.newestImage) ++ natLE 8 (imageCursor x.newestImage) ++
  natLE 8 (match x.streamStep with | some n => n | none => 0xFFFFFFFFFFFFFFFF) ++ natLE 8 x.streamBytes ++
  natLE 8 (imageStep (x.images.getD (1 - x.newest) none))

/-- SNAPSHOT_QUERY. -/
def execSnapshotQuery (p : Nat) (s : State) : Out :=
  .next (s.serve p opSnapshotQuery (fun _ => true) (fun r s =>
    match (s.plot p).partners.find (fieldAt r.payload 0 2) with
    | none => s.refuse p r stNotPermitted
    | some x => s.ok p r x.query))

/-! ### Images on a keeper (R312) -/

/-- Where a slot of a keeper starts: the area's halves. -/
def Partner.slotAt (x : Partner) (slot : Nat) : Nat := x.addr + slot * (x.len / 2 / 64 * 64)

/-- The slot that does not hold the newest complete image. -/
def Partner.spareSlot (x : Partner) : Nat := if x.newestImage.isNone then x.newest else 1 - x.newest

/-- What every frame without a group is checked for: link, FCS, hall epoch and tag (R228), repetition (R227). -/
def State.arriveBare (s : State) (i : Nat) (f : Frame) : Option State × State :=
  if !(s.port i).linkUp then (none, s)
  else
    match s.badLink (linkOf f i) false with
    | some flag => (none, s.dropFrame i flag)
    | none =>
      let s := s.hearEnds f.src
      if f.resent && s.seenBefore f then
        (none, s.updPort i (fun t => { t with toAck := t.toAck ++ [(f.src, f.linkSeq)] }))
      else
        (some (s.updPort i (fun t => { t with
          rxFrames := t.rxFrames + 1, toAck := t.toAck ++ [(f.src, f.linkSeq)]
          seen := t.seen.filter (· != frameKey f) ++ [frameKey f] })), s)

/-- Write a frame of an image into its slot; the frame that completes it makes it the newest complete image. -/
def State.keepFrame (s : State) (p : Nat) (x : Partner) (f : Frame) : State :=
  let x := if x.streamStep = some f.step then x
    else { x with streamStep := some f.step, streamBytes := 0, got := [], state := partnerStreaming,
                  images := x.images.set x.spareSlot none }
  let slot := x.spareSlot
  let a := x.slotAt slot + 8192 * f.tile
  if x.got.contains f.tile ∨ x.slotAt slot + x.len / 2 < a + f.payload.length then s
  else
    let s := (s.updMem (fun m => m.write a f.payload)).chargeWrite p a f.payload.length
    let got := x.got ++ [f.tile]
    let x := { x with got := got, streamBytes := x.streamBytes + f.payload.length, heard := s.now }
    let x :=
      if got.length < f.c then x
      else
        { x with images := x.images.set slot (some (s.mem.readNat (x.slotAt slot + 8) 8, s.mem.readNat (x.slotAt slot + 0x10) 8)),
                 newest := slot, streamStep := none, streamBytes := 0, got := [], state := partnerIdle }
    s.updPartner p x.handle (fun _ => x)

/-- SNAPSHOT: a frame of an image reaches its keeper. -/
def execSnapshot (port : Nat) (f : Frame) (s : State) : Out :=
  if f.kind ≠ 9 then .next s
  else
    match s.arriveBare port f with
    | (none, s) => .next s
    | (some s, before) =>
      match tenantPlots.findSome? (fun p => ((s.plot p).partners.find? (fun e =>
          e.2.formed && e.2.role == 1 && e.2.state != partnerOrphaned && e.2.peer == f.src && e.2.jobTag % 2 ^ 32 == f.seq)).map
          (fun e => (p, e.2))) with
      | none => .next before
      | some (p, x) =>
        .next ((s.charge p (fun c => { c with avenueRx := c.avenueRx + BitVec.ofNat 64 (frameWire f s.mod.hall) })).keepFrame p x f)

/-- SNAPSHOT_DONE (R312): the source's image is complete; the image that waited begins. -/
def execSnapshotDone (plot partnership : Nat) (s : State) : Out :=
  match (s.plot plot).partners.find partnership with
  | none => .next s
  | some x =>
    match x.streamStep, (s.plot plot).plans.find x.plan with
    | some n, some pl =>
      if x.role ≠ 0 ∨ x.streamBytes < x.image.length ∨ x.formed = false then .next s
      else
        let slot := x.spareSlot
        let y := { x with images := x.images.set slot (some (n, x.streamCursor)), newest := slot, streamStep := none,
                          streamBytes := 0, image := [], kept := [], state := partnerIdle, owed := none }
        let y := match x.owed, (s.plot plot).binding with
          | some o, some b => y.begin o.1 o.2 (s.imageOf plot pl b x.jobTag o.1 o.2)
          | _, _ => y
        .next (((s.updPartner plot partnership (fun _ => y)).planEvent plot 11 pl n x.peer 0).pumpImages plot)
    | _, _ => .next s

/-! ### The lapse of a partner (R316) -/

/-- The other end of a partnership is lost: a source abandons its image, a keeper its incomplete slot. -/
def State.lapsePartner (s : State) (p : Nat) (x : Partner) : State :=
  if x.formed = false then s
  else
    let s := s.updPartner p x.handle (fun y => { y with
      state := if y.role = 0 then partnerLost else partnerOrphaned, streamStep := none, streamBytes := 0, image := [],
      kept := [], owed := none, got := [] })
    match (s.plot p).plans.find x.plan with
    | some pl => s.planEvent p 12 pl (s.plot p).lastStep x.peer 0
    | none =>
      s.unsolicited p srcSurvival
        (Survival.body { kind := 12, group := 0xFFFF, state := 0xFF, mode := 0, step := (s.plot p).lastStep, fabric := x.peer,
                         generation := 0, members := 1, rank := 0, dropped := 0 } s.now)

/-! ### RESTORE (R317) -/

/-- Whether an image holds together: the trailer's step, cursor and digest (Table SRV-9). -/
def imageSound (im : Bytes) : Bool :=
  let n := im.length - 64
  fieldAt im 8 8 == fieldAt im n 8 && fieldAt im 0x10 8 == fieldAt im (n + 8) 8 &&
  (im.drop (n + 0x10)).take 32 == shaBytes (im.take n)

/-- Whether an image fits the records of a plan. -/
def Plot.imageFits (q : Plot) (b : Binding) (pl : Plan) (im : Bytes) : Bool :=
  let as := q.imaged pl
  fieldAt im 0 4 == 0x31504E53 && fieldAt im 4 4 == as.length && as.length == pl.adapters.length && as.all (·.train) &&
  fieldAt im 0x20 32 == b.fp && fieldAt im 0x40 2 == b.firstLayer && fieldAt im 0x42 2 == b.lastLayer &&
  im.length == q.imageBytes b pl && (im.drop 128).take (64 * as.length) == imageDirectory b (128 + 64 * as.length) as

/-- The status that refuses an image (R317). -/
def Plot.imageStatus (q : Plot) (b : Binding) (pl : Plan) (r : Req) (im : Bytes) (poisoned : Bool) : Option Nat :=
  let wrong := fieldAt im 8 8 != fieldAt r.payload 0x10 8 || fieldAt im 0x10 8 != fieldAt r.payload 0x18 8
  if poisoned || !imageSound im || (bitOf (fieldAt r.payload 1 1) 0 && wrong) then some stSnapshotMismatch
  else if !q.imageFits b pl im then some stNotPermitted
  else none

/-- Write the ranges of an image from an offset of it. -/
def State.writeRanges (s : State) (p : Nat) (im : Bytes) : Nat → List (Nat × Nat) → State
  | _, [] => s
  | off, r :: rs =>
    State.writeRanges ((s.updMem (fun m => m.write r.1 ((im.drop off).take r.2))).chargeWrite p r.1 r.2) p im (off + r.2) rs

/-- The plans of a plot that name an adapter of a list. -/
def Plot.plansOfAdapters (q : Plot) (hs : List Nat) : List Plan :=
  (q.plans.map (·.2)).filter (fun pl => pl.adapters.any (fun h => hs.contains h))

/-- The next step of the plans that an image restores is fixed. -/
def Plot.fixNext (q : Plot) (hs : List Nat) (step : Nat) : Plot :=
  (q.plansOfAdapters hs).foldl (fun q pl =>
    if pl.header.rgroup = 0 then { q with plans := q.plans.modify pl pl.handle (fun x => { x with nextStep := some step }) }
    else { q with groupNext := q.groupNext.set pl.header.rgroup step }) q

/-- Restore a plan's records from an image, or refuse it. -/
def State.restoreImage (s : State) (p : Nat) (r : Req) (b : Binding) (pl : Plan) (im : Bytes) (poisoned : Bool) : State :=
  let q := s.plot p
  match q.imageStatus b pl r im poisoned with
  | some st => s.refuse p r st
  | none =>
    let as := q.imaged pl
    let s := s.writeRanges p im (128 + 64 * as.length) ((as.map (fun a => a.imageRanges b)).flatten)
    let s := s.updPlot p (fun q => { (q.fixNext pl.adapters (fieldAt im 8 8 + 1)) with
      adapters := q.adapters.mapVals (fun a => if pl.adapters.contains a.handle then { a with stall := [] } else a) })
    s.ok p r (natLE 8 (fieldAt im 8 8) ++ natLE 8 (fieldAt im 0x10 8) ++ natLE 4 as.length ++ natLE 4 0)

/-- Ask a keeper for an image; the frames that carry it make a fill of use 3. -/
def State.askImage (s : State) (p : Nat) (r : Req) (pl : Plan) : State :=
  let peer := fieldAt r.payload 8 8
  let tag := match (s.plot p).planGroup pl with | some g => g.jobTag | none => 0
  let x : FillState :=
    { plan := pl.handle, use := 3, stage := pl.header.stage, dst := 0, len := 0, parts := [], frames := none, bad := false, sources := [peer],
      ports := 12, slot := some r.slot, heard := s.now, origin := none }
  let s := (s.setPhase p r.slot .started).hold (fun t => t.updPlot p (fun q => { q with fills := q.fills ++ [x] }))
  if s.paired peer then s.sendControl peer (blankFrame s.fabric) (.restoreAsk tag (fieldAt r.payload 2 1)) else s.sendOffer peer

/-- RESTORE. -/
def execRestore (p : Nat) (s : State) : Out :=
  .next (s.serve p opRestore (fun _ => true) (fun r s =>
    let q := s.plot p
    let src := fieldAt r.payload 0 1
    let slot := fieldAt r.payload 2 1
    match q.plans.find (fieldAt r.payload 4 4), q.binding with
    | some pl, some b =>
      if 1 < src ∨ (1 < slot ∧ slot ≠ 0xFF) ∨ q.running.any (fun st => ((q.plansOfAdapters pl.adapters).map (·.handle)).contains st.plan) = true ∨
          (q.fillOf pl.handle 3).isSome = true then s.refuse p r stNotPermitted
      else if src = 0 then s.askImage p r pl
      else
        let a := fieldAt r.payload 8 8
        if s.inWindows p a 128 = false then s.refuse p r stNotPermitted
        else
          let n := s.mem.readNat (a + 0x48) 8
          if n < 192 ∨ s.inWindows p a n = false then s.refuse p r stNotPermitted
          else (s.chargeRead p a n).restoreImage p r b pl (s.mem.readBytes a n) (s.mem.poisonedIn a n)
    | _, _ => s.refuse p r stNotPermitted))

/-- PARTNER_RESTORE_REQUEST (R317): a keeper sends the complete image of the slot asked for, or says that there is
none. -/
def execPartnerRestoreRequest (l : Link) (jobTag slot : Nat) (s : State) : Out :=
  .next (s.hearControl l false true (fun s =>
    match tenantPlots.findSome? (fun p => ((s.plot p).partners.find? (fun e =>
        e.2.formed && e.2.role == 1 && e.2.peer == l.src && e.2.jobTag == jobTag)).map (fun e => (p, e.2))) with
    | none => s
    | some (p, x) =>
      let k := if slot = 0xFF then x.newest else slot
      match x.images.getD k none with
      | none =>
        s.sendFrames p l.src (s.route p l.src)
          [{ (soloGroup s.fabric).frame s.fabric 10 3 0 with tensor := 4, c := 0 }]
      | some _ =>
        let a := x.slotAt k
        let n := s.mem.readNat (a + 0x48) 8
        let y : FillServe :=
          { dest := l.src, group := 0, stage := 0, use := 2, next := 0, addr := 0, len := n, bytes := some (s.mem.readBytes a n)
            bad := (List.range (ceilDiv n 8192)).filter (fun i => s.mem.poisonedIn (a + 8192 * i) (min 8192 (n - 8192 * i)))
            ports := 12, flags := false, heard := s.now }
        let s := (s.chargeRead p a n).updPlot p (fun q => { q with serving := q.serving ++ [y] })
        let s := if x.state = partnerOrphaned then s.dropPartner p x.handle else s
        s.pumpServes p))

end Sys2Proof.Machine
end

