-- ==== Sys2Proof/Machine/Survival.lean ====
section
/-! DEFINITION. Survival messages (chapter 11): SURVIVE_POLICY, the frames of a fill, requests for copies, mirror
promotion, reinstatement, MEMBER_LOST, and the lapse of a lease. -/

namespace Sys2Proof.Machine

/-! ### SURVIVE_POLICY ARM (R295, Tables SRV-2, SRV-3, SRV-12) -/

/-- The policy that an ARM body describes. -/
def policyAt (pl : Bytes) : Policy :=
  { plan := fieldAt pl 4 4, mode := fieldAt pl 0x10 1, members := fieldAt pl 0x11 1, stage := fieldAt pl 0x12 1,
    fillPorts := fieldAt pl 0x13 1, sources := (List.range (fieldAt pl 0x14 1)).map (fun i => fieldAt pl (0x20 + 8 * i) 8),
    absorbWindow := fieldAt pl 0x18 2, promoteWindow := fieldAt pl 0x1A 2, promoted := fieldAt pl 0x1C 4,
    standby := (List.range 64).map (fun j => fieldAt pl (0x60 + 4 * j) 4), baseAddr := fieldAt pl 0x160 8,
    baseLen := fieldAt pl 0x168 8, mirrorAddr := fieldAt pl 0x170 8, mirrorLen := fieldAt pl 0x178 8, state := 1,
    absorbedStage := 255, activePlan := fieldAt pl 4 4, pendingLoss := none, retired := false }

/-- Whether a window of a plot lies in HBM. -/
def Plot.hbmWindow (q : Plot) (w : Nat) : Bool := match q.windows.find w with | some r => r.tier != 3 | none => false

/-- Whether the fields of a policy are in range (Table SRV-3). -/
def Policy.inRange (x : Policy) : Bool :=
  decide (x.mode ≤ 2) && decide (1 ≤ x.members) && decide (x.members ≤ 64) && decide (x.stage < x.members) &&
  decide (1 ≤ x.fillPorts) && decide (x.fillPorts ≤ 12) && decide (x.sources.length ≤ 8) && x.baseLen % 4096 == 0 &&
  x.mirrorLen % 4096 == 0

/-- Whether the areas and windows of a policy are the plot's, in their tiers. -/
def State.policyPlaces (s : State) (p : Nat) (x : Policy) : Bool :=
  (s.plot p).hbmWindow x.absorbWindow && (s.plot p).hbmWindow x.promoteWindow &&
  (x.baseLen == 0 || s.inWindows p x.baseAddr x.baseLen) && (x.mirrorLen == 0 || s.inColdWindows p x.mirrorAddr x.mirrorLen)

/-- The adapters of the plot's KEEP plans. -/
def Plot.keepAdapters (q : Plot) (x : Policy) : List Nat :=
  let plans := x.plan :: (q.policies.filter (fun e => e.2.mode == 2 && e.1 != x.plan)).map (·.1)
  ((plans.filterMap (fun h => q.plans.find h)).map (·.adapters)).flatten.eraseDups

/-- Whether KEEP is accepted (R295). -/
def Plot.keepHolds (q : Plot) (x : Policy) (pl : Plan) : Bool :=
  x.mode != 2 || (decide (pl.adapters.length ≤ 256) && decide ((q.keepAdapters x).length ≤ 256))

/-- Whether a standby or promoted plan is loaded and names PLAN's groups and adapters. -/
def Plot.agrees (q : Plot) (pl : Plan) (h : Nat) : Bool :=
  match q.plans.find h with
  | some x => x.header.rgroup == pl.header.rgroup && x.header.bgroup == pl.header.bgroup && x.adapters == pl.adapters
  | none => false

/-- Whether this member absorbs some stage that the policy covers. -/
def Policy.absorber (x : Policy) : Bool :=
  (List.range x.members).any (fun j => j != x.stage && x.standby.getD j noPlan != noPlan && x.absorbs j)

/-- Bytes of a window. -/
def Plot.windowBytes (q : Plot) (w : Nat) : Nat := match q.windowRange w with | some r => r.2 - r.1 | none => 0

/-- Bytes of the plot's TRAIN records and their states: a rebuilt copy holds them at least. -/
def Plot.trainBytes (q : Plot) : Nat :=
  match q.binding with
  | none => 0
  | some b => ((q.adapters.map (·.2)).filter (·.train)).foldl (fun n a => n + a.recordBytes + a.stateBytes b) 0

/-- The status that refuses an ARM. -/
def State.armStatus (s : State) (p : Nat) (x : Policy) : Option Nat :=
  let q := s.plot p
  match q.plans.find x.plan with
  | none => some stNotPermitted
  | some pl =>
    if !x.inRange || (q.runOf x.plan).isSome || !s.policyPlaces p x || !q.keepHolds x pl then some stNotPermitted
    else if !(x.named.filter (fun h => h != noPlan)).all (q.agrees pl) then some stNoStandby
    else if q.windowBytes x.promoteWindow < x.mirrorLen ∨ (x.absorber = true ∧ q.windowBytes x.absorbWindow < q.trainBytes) then
      some stNoMemory
    else none

/-- SURVIVE_POLICY ARM. -/
def execSurvivePolicyArm (p : Nat) (s : State) : Out :=
  .next (s.serve p opSurvivePolicy (fun pl => fieldAt pl 0 1 == 0) (fun r s =>
    let x := policyAt r.payload
    match s.armStatus p x with
    | some st => s.refuse p r st
    | none => ((s.updPlot p (fun q => { q with policies := q.policies.set x.plan x })).refreshStandby p).ok p r (natLE 16 0)))

/-! ### DISARM and QUERY (R296) -/

/-- SURVIVE_POLICY DISARM. -/
def execSurvivePolicyDisarm (p : Nat) (s : State) : Out :=
  .next (s.serve p opSurvivePolicy (fun pl => fieldAt pl 0 1 == 1) (fun r s =>
    let plan := fieldAt r.payload 4 4
    if ((s.plot p).plans.find plan).isNone = true then s.refuse p r stNotPermitted
    else ((s.updPlot p (fun q => { q with policies := q.policies.erase plan })).refreshStandby p).ok p r (natLE 16 0)))

/-- The QUERY result of a plan. -/
def Plot.policyQuery (q : Plot) (plan : Nat) : Bytes :=
  let fill := [2, 1, 0].findSome? (fun u => q.fillOf plan u)
  let st := match fill with
    | some x => if x.use = 2 then 5 else 4
    | none => match q.policies.find plan with | some x => x.state | none => 0
  let stage := match q.policies.find plan with | some x => x.absorbedStage | none => 255
  natLE 1 st ++ natLE 1 stage ++ natLE 2 0 ++ natLE 8 (match fill with | some x => x.done | none => 0) ++ natLE 4 0

/-- SURVIVE_POLICY QUERY. -/
def execSurvivePolicyQuery (p : Nat) (s : State) : Out :=
  .next (s.serve p opSurvivePolicy (fun pl => fieldAt pl 0 1 == 2) (fun r s =>
    let plan := fieldAt r.payload 4 4
    if ((s.plot p).plans.find plan).isNone = true then s.refuse p r stNotPermitted
    else s.ok p r ((s.plot p).policyQuery plan)))

/-! ### FILL and REINSTATE (R309, R310, Table SRV-4) -/

/-- The fill that a body describes. -/
def fillAt (r : Req) (use now : Nat) : FillState :=
  let pl := r.payload
  let src := (List.range (fieldAt pl 0x11 1)).map (fun i => fieldAt pl (0x28 + 8 * i) 8)
  let id := fieldAt pl 0x20 8
  { plan := fieldAt pl 4 4, use := use, stage := fieldAt pl 0x10 1, dst := if use = 0 then fieldAt pl 0x18 8 else id,
    len := if use = 0 then id else 0, parts := [], frames := none, bad := false, sources := if use = 0 then src else id :: src,
    ports := fieldAt pl 0x12 1, slot := some r.slot, heard := now, origin := none }

/-- Whether the body of FILL or REINSTATE is in range. -/
def State.fillHolds (s : State) (p : Nat) (x : FillState) : Bool :=
  ((s.plot p).plans.find x.plan).isSome && decide (x.stage < 64) && decide (1 ≤ x.ports) && decide (x.ports ≤ 12) &&
  ((s.plot p).fillOf x.plan x.use).isNone &&
  (if x.use = 0 then decide (1 ≤ x.sources.length) && decide (x.sources.length ≤ 8) && x.len % 4096 == 0 && s.inWindows p x.dst x.len
   else decide (x.sources.length ≤ 9))

/-- Begin a fill that a request waits for. -/
def State.beginFill (s : State) (p : Nat) (r : Req) (x : FillState) : State :=
  (s.setPhase p r.slot .started).hold (fun t => t.updPlot p (fun q => { q with fills := q.fills ++ [x] }))

/-- SURVIVE_POLICY FILL. -/
def execSurvivePolicyFill (p : Nat) (s : State) : Out :=
  .next (s.serve p opSurvivePolicy (fun pl => fieldAt pl 0 1 == 3) (fun r s =>
    let x := fillAt r 0 s.now
    if s.fillHolds p x = false then s.refuse p r stNotPermitted
    else if x.sources.all (s.keysTo p) = false then s.refuse p r stAttestRequired
    else if x.len = 0 then s.ok p r (natLE 16 0)
    else (s.beginFill p r x).askFill p x))

/-- SURVIVE_POLICY REINSTATE: the hand-over request goes to the absorbing member. -/
def execSurvivePolicyReinstate (p : Nat) (s : State) : Out :=
  .next (s.serve p opSurvivePolicy (fun pl => fieldAt pl 0 1 == 4) (fun r s =>
    let x := fillAt r 2 s.now
    match s.fillHolds p x, (s.plot p).plans.find x.plan with
    | true, some pl =>
      if x.sources.all (s.keysTo p) = false then s.refuse p r stAttestRequired
      else
        let g := (s.plot p).fillGroup pl
        let s := s.beginFill p r x
        if s.paired x.dst then s.sendControl x.dst (blankFrame s.fabric) (.handoverAsk g.1 g.2 x.ports) else s.sendOffer x.dst
    | _, _ => s.refuse p r stNotPermitted))

/-! ### The progress of a fill (R302, R307, R309) -/

/-- The source of a fill is lost or refuses: the next source goes on at the offset reached; with none left the fill
ends as its use says (Table SRV-7). -/
def State.switchFill (s : State) (p : Nat) (x : FillState) : State :=
  match x.sources.tail.filter (fun f => !(s.plot p).knownLost.contains f) with
  | [] =>
    if x.use = 1 then
      let s := s.endFill p x stNoSource
      match (s.plot p).policies.find x.plan with
      | some pol =>
        match (s.plot p).plans.find pol.activePlan with
        | some pl => (s.dissolve p pl).settleStopped p
        | none => s
      | none => s
    else s.endFill p x (if x.use = 3 then stNoImage else stNoSource)
  | f :: fs =>
    let y := { x with sources := f :: fs, heard := s.now, origin := none }
    let s := (s.updFill p x.plan x.use (fun _ => y)).askFill p y
    match (s.plot p).plans.find x.plan with
    | some pl => s.planEvent p 6 pl (s.plot p).lastStep f 0
    | none => s

/-- Write a record that a stage hands over: the array section, PARAMS and the state (R310). -/
def State.overwriteRecord (s : State) (p : Nat) (x : Incoming) : State :=
  match (s.plot p).adapters.find x.handle with
  | none => s
  | some a =>
    let s := s.updMem (fun m => ((m.write (a.resAddr + 0x80) ((x.record.drop 0x80).take 64)).write (a.resAddr + 0x100)
      ((x.record.drop 0x100).take a.arrayBytes)).write a.stateAddr x.state)
    s.chargeWrite p a.stateAddr x.state.length

/-- The spare holds the stage's state: its groups re-form with it, and REINSTATE completes (R310). -/
def State.takeOver (s : State) (p : Nat) (x : FillState) : State :=
  let q := s.plot p
  match q.binding, q.plans.find x.plan, x.origin with
  | some b, some pl, some (_, gen, rank, m, bgen) =>
    let recs := (q.incoming b q.adapters.length x.bytes).filter (fun r => r.first == b.firstLayer && r.last == b.lastLayer)
    let s := recs.foldl (fun t r => t.overwriteRecord p r) s
    let src := x.sources.headD 0
    let own := s.fabric
    let hand := src == x.dst
    let tag := (q.fillGroup pl).2
    let live := if hand then (List.replicate m strangerId).set rank own else (List.replicate m strangerId).set rank src ++ [own]
    let s := if pl.header.rgroup = 0 then s else s.joinAs p pl.header.rgroup 0 tag (gen + 1) live src
    let chain := (List.replicate pl.header.members strangerId).set x.stage own
    let chain := if hand && decide (1 < pl.header.members) then chain.set ((x.stage + pl.header.members - 1) % pl.header.members) src else chain
    let s := if pl.header.bgroup = 0 then s else s.joinAs p pl.header.bgroup 1 tag (bgen + 1) chain src
    let s := s.planEvent p 10 pl q.lastStep own 0
    let s := s.updPlot p (fun q => { q with fills := q.fills.filter (fun e => !(e.plan == x.plan && e.use == 2)) })
    match x.slot.bind (s.heldIn p) with
    | some r => s.ok p r (natLE 16 0)
    | none => s
  | _, _, _ => s

/-- A base area that has arrived whole: FILL completes. -/
def State.baseFilled (s : State) (p : Nat) (x : FillState) : State :=
  let s := s.updPlot p (fun q => { q with fills := q.fills.filter (fun e => !(e.plan == x.plan && e.use == 0)) })
  let s := match (s.plot p).plans.find x.plan with
    | some pl => s.planEvent p 7 pl (s.plot p).lastStep (x.sources.headD 0) 0
    | none => s
  match x.slot.bind (s.heldIn p) with
  | some r => s.ok p r (natLE 16 0)
  | none => s

/-- An image that has arrived whole is restored. -/
def State.imageFilled (s : State) (p : Nat) (x : FillState) : State :=
  let s := s.updPlot p (fun q => { q with fills := q.fills.filter (fun e => !(e.plan == x.plan && e.use == 3)) })
  match x.slot.bind (s.heldIn p), (s.plot p).binding, (s.plot p).plans.find x.plan with
  | some r, some b, some pl =>
    if ((s.plot p).plansOfAdapters pl.adapters).any (fun y => ((s.plot p).runOf y.handle).isSome) = true then s.refuse p r stNotPermitted
    else s.restoreImage p r b pl x.bytes x.bad
  | some r, _, _ => s.refuse p r stNotPermitted
  | none, _, _ => s

/-- What a fill that has gathered everything does. -/
def State.fillDone (s : State) (p plan use : Nat) : State :=
  match (s.plot p).fillOf plan use with
  | none => s
  | some x =>
    if use = 0 then (if x.len ≤ x.done then s.baseFilled p x else s)
    else if !x.whole then s
    else if use = 1 then (s.finishAbsorb p plan).tryRecover p
    else if use = 2 then s.takeOver p x
    else s.imageFilled p x

/-- The stage flags of a source (R305): they join the member's own in the exchange. -/
def State.takeFlags (s : State) (p : Nat) (x : FillState) (flags : Option Bytes) : State :=
  let q := s.plot p
  match q.policies.find x.plan with
  | none => s
  | some pol =>
    match q.runOf pol.activePlan, q.plans.find pol.activePlan with
    | some st, some pl =>
      if st.keep then
        (s.updStep p st.plan (fun y => { y with
          keep := false, skipFlags := (match flags with | some b => (y.skipFlags ++ pl.skipHandles b).eraseDups | none => y.skipFlags) })).pumpSkip
          p st.plan
      else s
    | _, _ => s

/-- Whether a fill takes a frame: its source, its stage, and what it carries. -/
def FillState.accepts (x : FillState) (f : Frame) : Bool :=
  x.sources.head? == some f.src && (x.use == 3 || x.stage == f.seq) &&
  (if x.use = 0 then f.tensor == 0 else if x.use = 1 then f.tensor == 1 || f.tensor == 2
   else if x.use = 2 then f.tensor == 1 || f.tensor == 3 else f.tensor == 4)

/-- Work a frame of a fill. What a base area no longer has in the plot's windows is dropped with an address fault
(R163). -/
def State.takeFill (s : State) (p : Nat) (x : FillState) (f : Frame) : State :=
  let s := s.charge p (fun c => { c with avenueRx := c.avenueRx + BitVec.ofNat 64 (frameWire f s.mod.hall) })
  if f.c = 0 then s.switchFill p x
  else if f.tensor = 2 then
    (s.updFill p x.plan x.use (fun y => { y with heard := s.now })).takeFlags p x (some f.payload)
  else
    let base := x.use == 0
    let room := x.len - 8192 * f.tile
    let s := if base && 8192 * f.tile < x.len then
        let dst := x.dst + 8192 * f.tile
        let bs := f.payload.take room
        if s.inWindows p dst bs.length then
          (s.updMem (fun m => if f.poison then m.postBad p dst bs else m.post p dst bs)).chargeWrite p dst bs.length
        else s.addressFault p dst
      else s
    let s := s.updFill p x.plan x.use (fun y => { y with
      heard := s.now, frames := some f.c, bad := y.bad || f.poison, parts := y.parts.set f.tile (if base then [] else f.payload)
      origin := some (f.groupId, f.generation, f.senderRank, f.mM1 + 1, f.dropped) })
    (if x.use = 1 then s.takeFlags p x none else s).fillDone p x.plan x.use

/-- FILL: a frame of a copy that this module has asked for. -/
def execFill (port : Nat) (f : Frame) (s : State) : Out :=
  if f.kind ≠ 10 then .next s
  else
    match s.arriveBare port f with
    | (none, s) => .next s
    | (some s, before) =>
      match tenantPlots.findSome? (fun p => ((s.plot p).fills.find? (fun x => x.accepts f)).map (fun x => (p, x))) with
      | none => .next before
      | some (p, x) => .next (s.takeFill p x f)

/-! ### Requests for copies (R302, R309, R310) -/

/-- The plot whose joined group a request names. -/
def State.askedGroup (s : State) (groupId jobTag : Nat) : Option (Nat × Group) :=
  tenantPlots.findSome? (fun p => ((s.plot p).groups.find? (fun g =>
    g.groupId == groupId && g.jobTag == jobTag && g.state != groupForming && g.state != groupDissolved)).map (fun g => (p, g)))

/-- The base area or mirror of a stage that a plot's policies name. -/
def Plot.baseArea (q : Plot) (stage : Nat) : Option (Nat × Nat) :=
  q.policies.findSome? (fun e =>
    let x := e.2
    if x.stage = stage ∧ x.baseLen ≠ 0 then some (x.baseAddr, x.baseLen)
    else if (x.stage + 1) % x.members = stage ∧ x.mirrorLen ≠ 0 then some (x.mirrorAddr, x.mirrorLen)
    else none)

/-- Whether a plot holds the state of a stage: its plans' own, or the absorbed one. -/
def Plot.holdsStage (q : Plot) (stage : Nat) : Bool :=
  q.absorbedStage == some stage || q.plans.any (fun e => e.2.header.stage == stage)

/-- Refuse a request for a copy: one frame that announces no frames. -/
def State.refuseCopy (s : State) (p : Nat) (g : Group) (dest stage code : Nat) : State :=
  let route := s.route p dest
  if route.isEmpty then s
  else s.sendFrames p dest route [{ g.frame s.fabric 10 3 0 with seq := stage, tensor := code, c := 0 }]

/-- Begin to send a copy; one to the same module of the same kind is replaced. -/
def State.beginServe (s : State) (p : Nat) (x : FillServe) : State :=
  (s.updPlot p (fun q => { q with serving := q.serving.filter (fun y => !(y.dest == x.dest && y.use == x.use)) ++ [x] })).pumpServes p

/-- FILL_REQUEST. -/
def execFillRequest (l : Link) (groupId jobTag : Nat) (base : Bool) (stage offset fingerprint ports : Nat) (s : State) : Out :=
  .next (s.hearControl l false true (fun s =>
    match s.askedGroup groupId jobTag with
    | none => s
    | some (p, g) =>
      let q := s.plot p
      let same := match q.binding with | some b => b.fp == fingerprint | none => false
      let no := s.refuseCopy p g l.src stage (if base then 0 else 1)
      if same = false ∨ s.keysTo p l.src = false ∨ s.paired l.src = false then no
      else if base then
        match q.baseArea stage with
        | none => no
        | some a =>
          s.beginServe p { dest := l.src, group := groupId, stage := stage, use := 0, next := offset / 8192, addr := a.1,
                           len := a.2, bytes := none, bad := [], ports := ports, flags := false, heard := s.now }
      else if q.holdsStage stage = false then no
      else
        s.beginServe p { dest := l.src, group := groupId, stage := stage, use := 1, next := offset / 8192, addr := 0, len := 0,
                         bytes := none, bad := [], ports := ports, flags := false, heard := s.now }))

/-- REINSTATE_HANDOVER (R310): at the next step boundary the absorbing member sends its absorbed records, and holds
its next step until the spare has joined. -/
def execReinstateHandover (l : Link) (groupId jobTag ports : Nat) (s : State) : Out :=
  .next (s.hearControl l false true (fun s =>
    match s.askedGroup groupId jobTag with
    | none => s
    | some (p, g) =>
      match (s.plot p).absorbedStage with
      | none => s.refuseCopy p g l.src 0 3
      | some stage =>
        if s.keysTo p l.src = false ∨ s.paired l.src = false then s.refuseCopy p g l.src stage 3
        else
          s.beginServe p { dest := l.src, group := groupId, stage := stage, use := 3, next := 0, addr := 0, len := 0,
                           bytes := none, bad := [], ports := ports, flags := false, heard := s.now }))

/-! ### Mirror promotion (R306) -/

/-- MIRROR_PROMOTION: at the step boundary after the promotion has retired, the promoted plan becomes active. -/
def execMirrorPromotion (plot plan : Nat) (s : State) : Out :=
  match (s.plot plot).policies.find plan with
  | none => .next s
  | some pol =>
    if pol.state = 2 ∧ pol.retired = true ∧ pol.promoted ≠ noPlan ∧ ((s.plot plot).runOf pol.activePlan).isNone = true then
      let s := s.activatePlan plot pol pol.promoted (fun x => { x with state := 3 })
      match (s.plot plot).plans.find pol.promoted with
      | some pl => .next (s.planEvent plot 9 pl (s.plot plot).lastStep s.fabric 0)
      | none => .next s
    else .next s

/-! ### Leases (R208, R297, R298, R316) -/

/-- The groups in which a plot holds an edge with a module. -/
def State.edgesWith (s : State) (p fabric : Nat) : List Group :=
  (s.plot p).groups.filter (fun g => g.state != groupDissolved && (g.neighbours s.fabric).contains fabric)

/-- The edge of a group lapses: a join that still waits has failed (Table CSC-4), and a suspended group dissolves. -/
def State.lapseEdge (s : State) (p : Nat) (g : Group) (fabric : Nat) : State :=
  if g.joinSlot.isSome then s.failJoin p g.handle stGroupLost
  else if g.suspended then ((s.dissolveGroup p g.handle fabric).stopLost p).settleStopped p
  else s.declareLoss p g.handle fabric none

/-- The other leases with a module lapse: those that a test picks by the tick at which the module was last heard. -/
def State.lapseOthers (s : State) (p fabric : Nat) (due : Nat → Bool) : State :=
  let q := s.plot p
  let s := (q.fills.filter (fun x => x.sources.head? == some fabric && due x.heard)).foldl (fun t x => t.switchFill p x) s
  let s := s.updPlot p (fun q => { q with serving := q.serving.filter (fun x => !(x.dest == fabric && due x.heard)) })
  ((s.plot p).partners.filter (fun e => e.2.formed && decide (e.2.state < 2) && e.2.peer == fabric && due e.2.heard)).foldl
    (fun t e => t.lapsePartner p e.2) s

/-- The leases that a plot holds with a module. -/
def State.holdings (s : State) (p fabric : Nat) : Nat :=
  let q := s.plot p
  (s.edgesWith p fabric).length + (q.fills.filter (fun x => x.sources.head? == some fabric)).length +
  (q.serving.filter (fun x => x.dest == fabric)).length +
  (q.partners.filter (fun e => e.2.formed && decide (e.2.state < 2) && e.2.peer == fabric)).length

/-- MEMBER_LOST (R298). -/
def execMemberLost (p : Nat) (s : State) : Out :=
  .next (s.serve p opMemberLost (fun _ => true) (fun r s =>
    let f := fieldAt r.payload 0 8
    let n := s.holdings p f
    let s := (s.edgesWith p f).foldl (fun t g => t.lapseEdge p g f) s
    (s.lapseOthers p f (fun _ => true)).ok p r (natLE 4 n ++ natLE 4 0)))

/-- LEASE_LAPSE (R208, R297): after 250 ms of silence, a PAUSE notice's time on top. A GROUP above 63 stands for the
leases that belong to no group. -/
def execLeaseLapse (plot group fabricId : Nat) (s : State) : Out :=
  if 63 < group then .next (s.lapseOthers plot fabricId (fun heard => decide (heard + leaseTicks ≤ s.now)))
  else
    match (s.plot plot).groupOf group with
    | none => .next s
    | some g =>
      match g.heard.find fabricId with
      | none => .next s
      | some t =>
        if g.state ≠ groupDissolved ∧ (g.neighbours s.fabric).contains fabricId = true ∧
            t + leaseTicks + g.pauseTicks.get 0 fabricId ≤ s.now then
          .next (s.lapseEdge plot g fabricId)
        else .next s

end Sys2Proof.Machine
end

