-- ==== Sys2Proof/Machine/Traffic.lean ====
section
/-! DEFINITION. What lets waiting transfers go on (R17): acknowledgements, heartbeats, and a memory controller's
writes. -/

namespace Sys2Proof.Machine

/-- Everything that waits for buffers of the Avenue goes on, as far as it finds them: tiles, relays, skip sets,
lists, copies. -/
def State.pumpTraffic (s : State) : State := s.pumpAll.pumpAllRelays.pumpSkips.pumpLists.pumpFills

/-- CONTROL (R227): acknowledged frames leave retention, which frees their buffers for what waits. -/
def execControl (l : Link) (acks : List Nat) (s : State) : Out :=
  .next (s.hearControl l false false (fun s => (s.acknowledge l.port acks).pumpTraffic))

/-- HEARTBEAT_RECEIVE (R208, R297): the heartbeat renews every lease that a plot holds with the sender; a group
that returns to ACTIVE resends its waiting frames, and what waited goes on. -/
def execHeartbeatReceive (l : Link) (s : State) : Out :=
  .next (s.hearControl l false true (fun s =>
    (tenantPlots.foldl (fun t p => (t.plot p).groups.foldl (fun u g => u.renew p g l.src) t) s).pumpTraffic))

/-- MEMORY_WRITE_RETIRE (R159): the controller issues its oldest queued write to the device, which frees
the credit that a waiting exit takes. A stack that has reached 105 °C receives no commands (R160). -/
def execMemoryWriteRetire (controller : Nat) (s : State) : Out :=
  match s.mem.queues.get [] controller with
  | [] => .next s
  | w :: ws =>
    if s.mem.stackTripped.contains controller then .next s
    else
      let s := s.updMem (fun m => { (m.issue w) with queues := m.queues.set controller ws })
      .next ((s.chargeWrite w.plot (w.line * 64) w.bytes.length).settleUnmap w.plot).pumpAll

end Sys2Proof.Machine
end

