-- ==== Sys2Proof/Machine/Plots.lean ====
section
/-! DEFINITION. Opening and closing a plot (R342 to R346), the zeroing of released granules (R166, R175), the resets
of the host port (R333, R458), and ACCOUNT_READ (R354). -/

namespace Sys2Proof.Machine

/-! ### PLOT_OPEN (R342 to R344, Tables PLT-2, PLT-10) -/

/-- The reservations that a payload asks for. -/
def configAt (pl : Bytes) : PlotConfig :=
  { driver := fieldAt pl 1 1, scrubMode := fieldAt pl 2 1, weight := fieldAt pl 3 1, hbm0 := fieldAt pl 4 4, hbm1 := fieldAt pl 8 4,
    cf := fieldAt pl 0x0C 4, kvHbm := fieldAt pl 0x10 4, kvCf := fieldAt pl 0x14 4, kvTerrace := fieldAt pl 0x18 1,
    hbmSlots := fieldAt pl 0x19 1, cfSlots := fieldAt pl 0x1A 1, groups := fieldAt pl 0x1B 1, gh0 := fieldAt pl 0x1C 1,
    gh1 := fieldAt pl 0x1D 1, residentQuota := fieldAt pl 0x1E 2, seqQuota := fieldAt pl 0x20 4, retainMib := fieldAt pl 0x24 2,
    rxVc1 := fieldAt pl 0x26 2, rxVc2 := fieldAt pl 0x28 2, rxVc3 := fieldAt pl 0x2A 2 }

/-- Granules of a context area (R344). -/
def contextGranules : Nat := 384

/-- Whether a slot count is allowed: 0 with partitioning off, 1 to 240 with it on. -/
def slotsOk (partition : Bool) (n : Nat) : Bool := if partition then decide (1 ≤ n) && decide (n ≤ 240) else n == 0

/-- Whether the fields of a request lie in the ranges of Table PLT-2. -/
def PlotConfig.inRange (c : PlotConfig) (partition : Bool) : Bool :=
  decide (c.driver ≤ 2) && decide (c.scrubMode ≤ 1) && decide (1 ≤ c.weight) && decide (c.kvTerrace ≤ 1) &&
  slotsOk partition c.hbmSlots && slotsOk partition c.cfSlots && decide (c.groups ≤ 64) && decide (c.gh0 ≤ 96) && decide (c.gh1 ≤ 96) &&
  decide (c.residentQuota ≤ 8192) && decide (c.seqQuota ≤ 1048576) && decide (c.retainMib ≤ 128)

/-- Whether the quotas cover the context areas, window 0 and the key-value pools (R343). -/
def PlotConfig.covers (c : PlotConfig) : Bool :=
  decide (contextGranules + 1 + (if c.kvTerrace = 0 then c.kvHbm else 0) ≤ c.hbm0) &&
  decide (contextGranules + (if c.kvTerrace = 1 then c.kvHbm else 0) ≤ c.hbm1) && decide (c.kvCf ≤ c.cf)

/-- Whether a plot's virtual function stands as its driver needs: enabled by the host, and CONFIG_LOCKED for an
attached-confidential plot (R359, Table GTH-10). -/
def State.functionReady (s : State) (p driver : Nat) : Bool :=
  let v := s.host.vfs.get Vf.init p
  driver == 0 || (v.enabled && (driver == 1 || v.tdi == 1))

/-- The lowest free Glasshouse units of a Terrace. -/
def State.freeUnits (s : State) (terrace n : Nat) : List Nat :=
  let used := (tenantPlots.map (fun p => if terrace = 0 then (s.plot p).gh0Units else (s.plot p).gh1Units)).flatten
  ((List.range 96).filter (fun u => !used.contains u && !s.mem.ghFenced.contains (96 * terrace + u))).take n

/-- Whether the sums of R343 other than the slots' stay within their limits. -/
def State.sumsHold (s : State) (c : PlotConfig) : Bool :=
  decide (s.reserved (·.hbm0) + c.hbm0 ≤ s.mem.grantable 0) && decide (s.reserved (·.hbm1) + c.hbm1 ≤ s.mem.grantable 1) &&
  decide (s.reserved (·.cf) + c.cf ≤ s.mem.grantable 3) && decide (s.reserved (·.groups) + c.groups ≤ 64) &&
  decide (s.reserved (·.gh0) + c.gh0 ≤ 96) && decide (s.reserved (·.gh1) + c.gh1 ≤ 96) &&
  (s.freeUnits 0 c.gh0).length == c.gh0 && (s.freeUnits 1 c.gh1).length == c.gh1 &&
  decide (s.reserved (·.residentQuota) + c.residentQuota ≤ 8192) && decide (s.reserved (·.seqQuota) + c.seqQuota ≤ 1048576) &&
  decide (s.reserved (·.retainMib) + c.retainMib ≤ 128) &&
  decide (s.reserved (fun x => x.rxVc1 + x.rxVc2 + x.rxVc3) + c.rxVc1 + c.rxVc2 + c.rxVc3 ≤ 480)

/-- The runs that an opening grants, in its order: the two context areas, window 0, and the pools. -/
def PlotConfig.wants (c : PlotConfig) : List (Nat × Nat) :=
  [(0, contextGranules), (1, contextGranules), (0, 1), (c.kvTerrace, c.kvHbm), (3, c.kvCf)]

/-- Grant runs in order, the lowest free run for each; a run of no granules is left out. -/
def Mem.grantRuns : Mem → List (Nat × Nat) → Option (Mem × List Run)
  | m, [] => some (m, [])
  | m, (tier, n) :: ws =>
    if n = 0 then (Mem.grantRuns m ws).map (fun x => (x.1, { tier := tier, first := 0, count := 0 } :: x.2))
    else
      match m.lowestRun tier n with
      | none => none
      | some f =>
        let r : Run := { tier := tier, first := f, count := n }
        (Mem.grantRuns (m.grant r) ws).map (fun x => (x.1, r :: x.2))

/-- The key under which a Glasshouse unit stands among those that an EXTMEM close has left; 192 stands for the
retention store and the receive buffers. -/
def residueKey (terrace unit : Nat) : Nat := 96 * terrace + unit

/-- The status that refuses a PLOT_OPEN, before its runs are looked for (R343). -/
def State.openStatus (s : State) (p : Nat) (c : PlotConfig) : Option Nat :=
  if p = 0 ∨ 16 < p ∨ (s.plot p).state ≠ 0 ∨ c.inRange s.mod.partition = false ∨ c.covers = false ∨
      s.functionReady p c.driver = false then some stNotPermitted
  else if s.sumsHold c = false then some stNoMemory
  else none

/-- Whether the slot totals of both tiers stay within 240 (R171). -/
def State.slotsFit (s : State) (c : PlotConfig) : Bool :=
  decide (s.reserved (·.hbmSlots) + c.hbmSlots ≤ 240) && decide (s.reserved (·.cfSlots) + c.cfSlots ≤ 240)

/-- The plot that an accepted PLOT_OPEN makes. -/
def State.openedPlot (s : State) (c : PlotConfig) (runs : List Run) : Plot :=
  let u0 := s.freeUnits 0 c.gh0
  let u1 := s.freeUnits 1 c.gh1
  let keys := u0.map (residueKey 0) ++ u1.map (residueKey 1) ++
    (if c.retainMib + c.rxVc1 + c.rxVc2 + c.rxVc3 = 0 then [] else [192])
  { Plot.init with
    state := 1, cfg := c, openTick := s.mod.tick, contextRuns := runs.take 2
    windows := ([0, 1, 2].zip (runs.drop 2)).filter (fun w => w.2.count != 0)
    gh0Units := u0, gh1Units := u1
    extmemNeighbour := tenantPlots.any (fun q => (s.plot q).state != 0 && (s.plot q).cfg.scrubMode == 1)
    extmemResidue := keys.any (fun k => s.mem.ghResidue.contains k)
    sched := { vtimeNum := 0, vtimeDen := 1, wasReady := false, grant := 0 } }

/-- The base of a window, or 0. -/
def Plot.windowBase (q : Plot) (w : Nat) : Nat := match q.windows.find w with | some r => r.base | none => 0

/-- Open a plot (R344). -/
def State.openPlot (s : State) (p : Nat) (c : PlotConfig) (m : Mem) (runs : List Run) : State :=
  let q := s.openedPlot c runs
  let s := if c.scrubMode = 1 then
      { s with plots := s.plots.mapVals (fun x => if x.state = 0 then x else { x with extmemNeighbour := true }) }
    else s
  let s := { s with mem := m, plots := s.plots.set p q }
  if c.driver = 0 then s
  else { s with host := { s.host with vfs := s.host.vfs.modify Vf.init p (fun v => { v with attached := true }) } }

/-- PLOT_OPEN: a request of plot 0's area. -/
def execPlotOpen (s : State) : Out :=
  .next (s.serve 0 opPlotOpen (fun _ => true) (fun r s =>
    let p := fieldAt r.payload 0 1
    let c := configAt r.payload
    match s.openStatus p c with
    | some st => s.refuse 0 r st
    | none =>
      match s.mem.grantRuns c.wants with
      | none => s.refuse 0 r stNoMemory
      | some (m, runs) =>
        if s.slotsFit c = false then s.refuse 0 r stShareExceeded
        else
          let s := s.openPlot p c m runs
          let q := s.plot p
          s.ok 0 r (natLE 8 (q.windowBase 0) ++ natLE 8 (q.windowBase 1) ++ natLE 8 (q.windowBase 2) ++ natLE 8 0)))

/-! ### PLOT_CLOSE (R345, R346) -/

/-- A Pavilion without anything of a plot (R345 step 2, Table PLT-3): its descriptors, span, positions, saved context
and tiles go, its weights are cleared, and under FULL its local store is zeroed. -/
def Pavilion.forget (v : Pavilion) (p : Nat) (full : Bool) : Pavilion :=
  let keep (l : List QDesc) : List QDesc := l.filter (fun d => d.plot != p)
  let here := v.context == p
  { v with
    array := keep v.array, rill := keep v.rill, move := keep v.move
    positions := v.positions.filter (fun e => e.1 % 32 != p), span := v.span.filter (fun x => x.plot != p)
    saved := v.saved.erase p, gbuf := v.gbuf.filter (fun g => g.plot != p)
    par := if v.par.owner = p then { Parterre.init with err := v.par.err } else v.par
    store := if here && full then [] else v.store, storePoison := if here && full then [] else v.storePoison
    context := if here then 0 else v.context
    switchPending := if v.granted = p then false else v.switchPending
    granted := if v.granted = p then 0 else v.granted }

/-- The byte ranges of a plot's Glasshouse units, by offset. -/
def Plot.ghPlaces (q : Plot) : List Nat := q.gh0Units.map (· * 1048576) ++ q.gh1Units.map (fun u => ghBytes + u * 1048576)

/-- Scrub the Glasshouse share (Table PLT-3): FULL zeroes it, EXTMEM leaves it and marks the units. -/
def Mem.scrubShare (m : Mem) (q : Plot) : Mem :=
  let keys := q.gh0Units.map (residueKey 0) ++ q.gh1Units.map (residueKey 1)
  if q.cfg.scrubMode = 0 then
    let inside (a : Nat) : Bool := q.ghPlaces.any (fun b => decide (b ≤ a) && decide (a < b + 1048576))
    { m with gh := m.gh.filter (fun e => !inside e.1), ghPoison := m.ghPoison.filter (fun l => !inside (128 * l))
             ghResidue := m.ghResidue.filter (fun k => !keys.contains k) }
  else
    let store := if q.cfg.retainMib + q.cfg.rxVc1 + q.cfg.rxVc2 + q.cfg.rxVc3 = 0 then [] else [192]
    { m with ghResidue := (m.ghResidue ++ keys ++ store).eraseDups }

/-- Every granule run that a plot holds: windows, context areas and plan copies. -/
def Plot.allRuns (q : Plot) : List Run := q.windowRuns ++ q.contextRuns ++ (q.plans.map (fun e => e.2.runs)).flatten

/-- What a plot that closes keeps until it is CLOSED: what PLOT_QUERY reports of it, and its places. -/
def Plot.closing (q : Plot) (tick : W64) : Plot :=
  { Plot.init with
    state := 2, cfg := q.cfg, openTick := q.openTick, closeTick := tick, windows := q.windows, contextRuns := q.contextRuns
    gh0Units := q.gh0Units, gh1Units := q.gh1Units
    mail := { Mailbox.init with slots := q.mail.slots, tail := q.mail.tail, head := q.mail.head, lost := q.mail.lost }
    account := q.account }

/-- Leave every group and end every other lease of a plot (R345 step 3). -/
def State.leaveAll (s : State) (p : Nat) : State :=
  let q := s.plot p
  let s := q.groups.foldl (fun t g =>
    if g.state = groupDissolved then t else t.sendLeave p g) s
  (q.partners.filter (fun e => e.2.formed)).foldl
    (fun t e => t.sendControl e.2.peer (blankFrame s.fabric) (.snapshotOffer e.2.jobTag 2)) s

/-- PLOT_CLOSE steps 1 to 7 (R345): everything of the plot goes but its zeroing, which finishes the close. -/
def State.startClose (s : State) (p : Nat) : State :=
  if !s.isOpen p then s
  else
    let s := (s.leaveAll p).dropGrant p
    let q := s.plot p
    let s := { s with
      plots := s.plots.set p (q.closing s.mod.tick)
      pavs := s.pavs.mapVals (fun v => v.forget p (q.cfg.scrubMode == 0))
      ports := s.ports.mapVals (fun t => { t with retention := t.retention.filter (fun r => r.plot != p) })
      trellis := { s.trellis with appending := s.trellis.appending.filter (fun j => j.plot != p) } }
    let s := if (s.host.vfs.find p).isSome then
        { s with host := { s.host with vfs := s.host.vfs.modify Vf.init p (fun v => { v with tdi := 0, attached := false }) } }
      else s
    s.updMem (fun m =>
      ({ m with moveQueue := m.moveQueue.filter (fun x => x.plot != p), moving := m.moving.filter (fun x => x.plot != p) }.scrubShare q).release
        p true q.allRuns)

/-- The requests of plot 0 that wait for a plot's close. -/
def State.closers (s : State) (p : Nat) : List Req :=
  (s.plot 0).mail.held.filter (fun r => r.opcode == opPlotClose && r.phase == .started && fieldAt r.payload 0 1 == p)

/-! ### Activations that wait for closes (R433) -/

/-- The firmware classes of Table MGT-5. -/
def fwClasses : List Nat := [1, 2, 3, 4]

/-- A class of the firmware store. -/
def State.fwClass (s : State) (c : Nat) : FwClass := s.mgmt.classes.get FwClass.init c

/-- Change a class. -/
def State.updClass (s : State) (c : Nat) (f : FwClass → FwClass) : State :=
  { s with mgmt := { s.mgmt with classes := s.mgmt.classes.modify FwClass.init c f } }

/-- Start a module warm reset for a cause: 0 a Bothy pair's lock-step, 1 the Gatehouse watchdog, 2 a memory
controller, 3 a memory thermal trip, 4 FW_ACTIVATE, 5 Manager.Reset, 6 a device region that cannot be mended, 7 a parity error
in the key store. WARM_RESET carries it out; none starts
while the Gatehouse is halted. -/
def State.startWarm (s : State) (cause : Nat) : State :=
  if s.gatehouse.halted || s.mod.warmPending then s
  else
    { (s.updMod (fun m => { m with warmPending := true })) with
      mgmt := { s.mgmt with warmResets := s.mgmt.warmResets.modify 0 cause (· + 1) } }

/-- Commit a warm-reset activation of a class: the staged bank boots at the reset (R433). -/
def State.commitActivate (s : State) (r : Req) : State :=
  ((s.updClass (fieldAt r.payload 1 1) (fun x => { x with switchWaits := true })).ok 0 r (natLE 16 0)).startWarm 4

/-- An FW_ACTIVATE with CLOSE_PLOTS goes on once no tenant plot is left. -/
def State.settleActivate (s : State) : State :=
  match (s.plot 0).mail.held.find? (fun r => r.opcode == opFwActivate && r.phase == .started && s.bothy.takeOver != some r.slot) with
  | some r => if s.tenantOpen then s else s.commitActivate r
  | none => s

/-- PLOT_CLOSE step 8: once every run of the plot is zeroed, the plot is CLOSED, and the requests complete. -/
def State.finishClose (s : State) (p : Nat) : State :=
  let q := s.plot p
  if q.state ≠ 2 ∨ s.mem.zeroing.any (fun z => z.plot == p && z.closing) = true then s
  else
    let body := natLE 1 q.cfg.scrubMode ++ natLE 3 0 ++ natLE 4 q.granulesZeroed ++ natLE 8 (s.now - q.closeTick.toNat)
    let rs := s.closers p
    State.settleActivate (rs.foldl (fun t r => t.ok 0 r body) { s with plots := s.plots.erase p })

/-! ### Zeroing (R166, R175) -/

/-- Zero a run and return it to the free pool; its granules that have held an uncorrectable error are retired, and so is
that of a line that cannot be zeroed, which is poisoned (R332). -/
def Mem.finishZero (m : Mem) (i : Nat) (r : Run) (badLines : List Nat) : Mem :=
  let lines := badLines.filter (fun l => decide (r.base ≤ l * 64) && decide (l * 64 < r.base + r.bytes))
  let bad := (m.suspectGranules.filter r.holds ++ lines.filterMap (fun l => granuleOf (l * 64))).eraseDups
  let m := { (m.zeroRun r) with
    zeroing := m.zeroing.eraseIdx i, suspectGranules := m.suspectGranules.filter (fun g => !r.holds g) }
  bad.foldl Mem.retire (lines.foldl Mem.poisonLine m)

/-- GRANULE_ZEROING_DONE: one of the runs that the firmware zeroes is done, but for lines that cannot be zeroed. A run on a
stopped stack waits (R160). -/
def execGranuleZeroingDone (run : Nat) (badLines : List Nat) (s : State) : Out :=
  match s.mem.zeroing[run]? with
  | none => .next s
  | some z =>
    if s.mem.stopped z.run.base z.run.bytes = true then .next s else
    let s := s.updMem (fun m => m.finishZero run z.run badLines)
    let s := if z.closing then s.updPlot z.plot (fun q => { q with granulesZeroed := q.granulesZeroed + z.run.count }) else s
    .next (if z.closing then s.finishClose z.plot else s)

/-! ### Resets of the host port (R333, R458) -/

/-- Close every attached plot. -/
def State.closeAttached (s : State) : State :=
  (tenantPlots.filter (fun p => (s.plot p).cfg.driver != 0)).foldl (fun t p => (t.startClose p).finishClose p) s

/-- FUNCTION_LEVEL_RESET: function 0 stands for the physical function, a hot reset or a link-down; a virtual
function without a plot does nothing. -/
def execFunctionLevelReset (fn : Nat) (s : State) : Out :=
  if fn = 0 then .next s.closeAttached
  else if (s.plot fn).cfg.driver ≠ 0 then .next ((s.startClose fn).finishClose fn)
  else .next s

/-- PCIE_PERST_N_FALL. -/
def execPciePerstNFall (s : State) : Out :=
  if s.host.perstHigh = true then
    let s := s.closeAttached
    .next { s with host := { s.host with perstHigh := false, linkTraining := false, vfs := s.host.vfs.mapVals (fun _ => Vf.init) } }
  else .next s

/-- The port leaves reset once PCIE_PERST_N is high and the Gatehouse has booted; the host then enables the virtual
functions. -/
def State.startPort (s : State) : State :=
  if s.host.perstHigh && s.gatehouse.bootOk && !s.host.linkTraining then
    { s with host := { s.host with
        linkTraining := true
        vfs := tenantPlots.foldl (fun m p => m.modify Vf.init p (fun v => { v with enabled := true })) s.host.vfs } }
  else s

/-- PCIE_PERST_N_RISE. -/
def execPciePerstNRise (s : State) : Out :=
  .next ({ s with host := { s.host with perstHigh := true } }).startPort

/-! ### ACCOUNT_READ (R252, R354) -/

/-- The ticks for which the limiter has been asserted since a plot was opened and since its last release. -/
def State.throttledNow (s : State) (q : Plot) : W64 :=
  if s.mod.limiter then BitVec.ofNat 64 (s.now - max s.mod.limiterTick q.openTick.toNat) else 0

/-- The account record of a plot (Table PLT-4). -/
def State.plotAccount (s : State) (p : Nat) : Bytes :=
  let q := s.plot p
  let a := q.account
  let flags := b2n s.mod.steady + 2 * b2n s.mod.partition + 4 * b2n q.extmemNeighbour
  bytesAt (natLE 1 p ++ natLE 1 q.cfg.driver ++ natLE 1 q.cfg.scrubMode ++ natLE 1 flags ++ natLE 4 0 ++ natLE 8 s.now ++
    natLE 8 q.openTick.toNat ++
    ([a.heldTicks, a.arrayCycles, a.rillCycles, a.moveCycles, a.overrunCycles, a.switchCycles, a.hbmRead, a.hbmWrite, a.cfRead,
      a.cfWrite, a.ghBytes, a.avenueTx, a.avenueRx, a.hostBytes].map (fun w => natLE 8 w.toNat)).flatten ++
    ([a.energyAttrib, a.energyShare, a.steps, a.voidSteps, a.throttleEvents, a.throttleTicks + s.throttledNow q].map (fun w => natLE 8 w.toNat)).flatten) 0 192

/-- The account record of an adapter (Table ORG-10). -/
def State.adapterAccount (s : State) (a : Adapter) : Bytes :=
  let code := match a.state with | .registered => 0 | .admitted => 1 | .revoking => 2 | .poisoned => 3 | .stale => 4
  let resident := a.residentTicks.toNat + (if a.residency = .resident then s.now - a.residentSince else 0)
  let updates := if a.train && a.state != .stale && a.state != .poisoned then s.paramNat a 0 else 0
  natLE 4 a.handle ++ natLE 1 code ++ natLE 3 0 ++ natLE 8 a.rowsFwd.toNat ++ natLE 8 a.rowsBwd.toNat ++ natLE 8 a.arrayCycles.toNat ++
  natLE 8 a.movedBytes.toNat ++ natLE 8 resident ++ natLE 4 updates ++ natLE 4 a.skipped ++ natLE 4 a.prefetches ++ natLE 4 a.evictions

/-- Write account records to the plot's windows. -/
def State.writeAccount (s : State) (p dst : Nat) (bs : Bytes) : State :=
  (s.updMem (fun m => m.write dst bs)).chargeWrite p dst bs.length

/-- ACCOUNT_READ, class PLOT. -/
def execAccountReadPlot (plot : Nat) (s : State) : Out :=
  .next (s.serve plot opAccountRead (fun pl => fieldAt pl 0 1 == 0) (fun r s =>
    let dst := fieldAt r.payload 0x10 8
    if fieldAt r.payload 8 4 = 0 ∨ s.inWindows plot dst 192 = false then s.refuse plot r stNotPermitted
    else (s.writeAccount plot dst (s.plotAccount plot)).ok plot r (natLE 4 1 ++ natLE 4 0xFFFFFFFF)))

/-- ACCOUNT_READ, class ADAPTER. -/
def execAccountReadAdapter (plot : Nat) (s : State) : Out :=
  .next (s.serve plot opAccountRead (fun pl => fieldAt pl 0 1 == 1) (fun r s =>
    let first := fieldAt r.payload 4 4
    let n := fieldAt r.payload 8 4
    let dst := fieldAt r.payload 0x10 8
    let as := ((s.plot plot).adapters.map (·.2)).filter (fun a => decide (first ≤ a.handle))
    let out := as.take n
    if n = 0 ∨ s.inWindows plot dst (64 * out.length) = false then s.refuse plot r stNotPermitted
    else
      let next := match as.drop n with | a :: _ => a.handle | [] => 0xFFFFFFFF
      (s.writeAccount plot dst ((out.map s.adapterAccount).flatten)).ok plot r (natLE 4 out.length ++ natLE 4 next)))

end Sys2Proof.Machine
end

