-- ==== Sys2Proof/Machine/Sched.lean ====
section
/-! DEFINITION. Time slices (R347 to R352): the grants of Pavilions at boundaries and between them, and the switch of
a Pavilion from one plot to another, with its charges. -/

namespace Sys2Proof.Machine

/-! ### Charges and the order of plots (R347) -/

/-- Charge every Pavilion that its plot holds, up to now (R350). -/
def State.chargeAll (s : State) : State :=
  pavilions.foldl (fun t i => if (t.pav i).granted = (t.pav i).context then t.chargePav i t.now else t) s

/-- The least virtual time of the plots that were ready at the last boundary. -/
def State.leastVtime (s : State) : Option Sched :=
  ((tenantPlots.filter (fun p => (s.plot p).sched.wasReady)).map (fun p => (s.plot p).sched)).foldl
    (fun m x => match m with | none => some x | some y => if x.before y then some x else some y) none

/-- The catch-up of a plot that was not ready at the last boundary. -/
def State.catchUp (s : State) (p : Nat) (least : Option Sched) : State :=
  match least with
  | none => s
  | some y => if (s.plot p).sched.wasReady then s else s.updPlot p (fun q => { q with sched := q.sched.catchUp y })

/-! ### Grants -/

/-- Whether a plot's context lies on every Pavilion of its need (R348). -/
def State.atHome (s : State) (p : Nat) : Bool :=
  pavilions.all (fun i => !bitOf (s.plot p).need i || (s.pav i).context == p)

/-- The order of R347: ascending virtual time, then the plots at home, then ascending plot number. -/
def State.goesFirst (s : State) (a b : Nat) : Bool :=
  let x := (s.plot a).sched
  let y := (s.plot b).sched
  if x.before y then true
  else if y.before x then false
  else if s.atHome a != s.atHome b then s.atHome a
  else decide (a < b)

/-- Grant whole needs in order: each that shares no Pavilion with what is granted. -/
def State.grantsOf (s : State) : Nat → List Nat → List (Nat × Nat)
  | _, [] => []
  | taken, p :: ps =>
    let n := (s.plot p).need
    if n &&& taken = 0 then (p, n) :: State.grantsOf s (taken ||| n) ps else State.grantsOf s taken ps

/-! ### Boundaries (R347, R352, R358) -/

/-- Ticks of a slice. -/
def Mod.sliceTicks (m : Mod) : Nat := m.sliceUs * 100

/-- A slice boundary. -/
def State.boundary (s : State) : State :=
  let s := s.chargeAll
  let least := s.leastVtime
  let ready := tenantPlots.filter (fun p => (s.plot p).ready)
  let s := ready.foldl (fun t p => t.catchUp p least) s
  let gs := s.grantsOf 0 (sortBy s.goesFirst ready)
  let s := s.applyGrants gs (fun _ => true)
  { s with plots := s.plots.map (fun e => (e.1, { e.2 with sched := { e.2.sched with wasReady := ready.contains e.1 } })) }

/-- SLICE_BOUNDARY: the next multiple of SLICE_US on the tick counter has come; a new SLICE_US is in force from
here. -/
def execSliceBoundary (s : State) : Out :=
  let t := s.mod.sliceTicks
  if t = 0 ∨ s.now < (s.mod.lastBoundary / t + 1) * t then .next s
  else .next (s.boundary.updMod (fun m => { m with lastBoundary := s.now / t * t, sliceUs := m.sliceNext }))

/-- PLOT_READY: between boundaries a plot that becomes ready, or whose need grows, is granted its need when no
Pavilion that it does not hold stands granted to another plot. -/
def execPlotReady (plot : Nat) (s : State) : Out :=
  let s := tenantPlots.foldl State.dropIdleGrant s
  let q := s.plot plot
  let n := q.need
  let others := (s.standing.filter (fun g => g.1 != plot)).foldl (fun m g => m ||| g.2) 0
  if n = 0 ∨ q.holdsNeed n = true ∨ n &&& others ≠ 0 then .next s
  else
    let s := if q.sched.grant = 0 then s.catchUp plot s.leastVtime else s
    .next (s.applyGrants ((plot, n ||| q.sched.grant) :: s.standing.filter (fun g => g.1 != plot)) (fun i => bitOf n i))

/-- EARLY_BOUNDARY (R352): a redo, or a kept step that resumes, puts its plot first on the Pavilions of its need; a
plot that loses one of them loses its grant. -/
def execEarlyBoundary (plot : Nat) (s : State) : Out :=
  let q := s.plot plot
  let n := q.need
  if q.running.any (·.earlyDue) = false ∨ n = 0 then .next s
  else
    let s := s.updPlot plot (fun q => { q with running := q.running.map (fun st => { st with earlyDue := false }) })
    let s := s.chargeAll
    let lost := (s.standing.filter (fun g => g.1 != plot && g.2 &&& n != 0))
    let rest := s.standing.filter (fun g => g.1 != plot && g.2 &&& n == 0)
    let touched := lost.foldl (fun m g => m ||| g.2) n
    .next ((s.applyGrants ((plot, n ||| q.sched.grant) :: rest) (fun i => bitOf touched i || bitOf q.sched.grant i)).updMod
      (fun m => { m with earlyBoundaries := m.earlyBoundaries + 1 }))

/-! ### The switch of a Pavilion (R349 to R351) -/

/-- Whether a descriptor keeps a Pavilion from its switch: it has started, and is neither a wait nor a weight load of the
command behind a pass, whose early weights the switch drops (R70, R97). -/
def Pavilion.holdsSwitch (v : Pavilion) (d : QDesc) : Bool :=
  d.started && dType d.bytes != 0x30 && !(v.par.early && dType d.bytes == 1)

/-- Whether the plot that a Pavilion leaves stands at command boundaries on its three queues: nothing but waits and early
loads has started, and no ARRAY command is under way. -/
def State.atBoundary (s : State) (i : Nat) : Bool :=
  let v := s.pav i
  let p := v.context
  (v.array ++ v.rill ++ v.move).all (fun d => !v.holdsSwitch d) &&
  (s.plot p).plans.all (fun e => (v.commandEnd p e.2 i).isNone)

/-- The loads that bring back the weights that a plot leaves behind (R70): those of the shadow, when the command of the
head has loaded it, else those of the active weights. -/
def Pavilion.reloads (v : Pavilion) : List QDesc :=
  if v.reload ≠ [] then v.reload
  else if v.par.shadowLoads ≠ [] ∧ v.par.early = false then v.par.shadowLoads
  else v.par.activeLoads

/-- The context that a Pavilion saves: early loads run again after the switch, and a wait keeps what it has waited
(R351). -/
def Pavilion.save (v : Pavilion) (now : Nat) : PavContext :=
  let back (l : List QDesc) : List QDesc := l.map (fun d =>
    { d with
      started := false, waited := if d.started && dType d.bytes == 0x30 then d.waited + (now - d.startTick) else d.waited
      executed := if v.par.early && dType d.bytes == 1 then false else d.executed })
  { array := back v.array, rill := back v.rill, move := back v.move, span := v.span, reload := v.reloads,
    store := v.store, storePoison := v.storePoison }

/-- A context of zeros: a plot's first on a Pavilion. -/
def PavContext.zero : PavContext :=
  { array := [], rill := [], move := [], span := none, reload := [], store := [], storePoison := [] }

/-- Restore a plot's context: the Parterre is cleared, and the sequencer reissues the plot's weight loads (R70). -/
def Pavilion.restore (v : Pavilion) (p : Nat) : Pavilion :=
  let c := (v.saved.find p).getD PavContext.zero
  { v with
    array := c.array, rill := c.rill, move := c.move, span := c.span, store := c.store, storePoison := c.storePoison
    reload := c.reload, par := { Parterre.init with owner := p, err := v.par.err }
    saved := v.saved.erase p, context := p, switchPending := false }

/-- Cycles of a number of ticks at a Pavilion's clock step: 2 × n to a tick (R10, R12). -/
def State.cyclesOf (s : State) (pav ticks : Nat) : W64 := BitVec.ofNat 64 (ticks * 2 * s.clockStep pav)

/-- Bytes of a context: 10 MiB and 64 KiB (R349). -/
def contextBytes : Nat := 10551296

/-- PLOT_SWITCH: the overrun and the save are charged to the plot that leaves, the restore to the one that comes, whose
first, of zeros, reads no memory (DESIGN CHOICE: Table PLT-4 counts what is read);
`switchTicks` is what a save and a restore each take. -/
def execPlotSwitch (pav overrunTicks switchTicks : Nat) (s : State) : Out :=
  let v := s.pav pav
  if v.switchPending = false ∨ s.atBoundary pav = false then .next s
  else
    let a := v.context
    let b := v.granted
    let cut := s.now - switchTicks
    let cyc := s.cyclesOf pav
    let s := if a = 0 then s else
      ((s.chargeHeld a (cut - v.since)).charge a (fun c => { c with
        overrunCycles := c.overrunCycles + cyc overrunTicks, switchCycles := c.switchCycles + cyc switchTicks
        hbmWrite := c.hbmWrite + BitVec.ofNat 64 contextBytes })).updMod
        (fun m => { m with switches := m.switches + 1 })
    let back := if (v.saved.find b).isSome then contextBytes else 0
    let s := s.charge b (fun c => { c with
      switchCycles := c.switchCycles + cyc switchTicks, hbmRead := c.hbmRead + BitVec.ofNat 64 back })
    .next (s.updPav pav (fun v =>
      let v := if a = 0 then v else { v with saved := v.saved.set a (v.save s.now) }
      { v.restore b with since := cut }))

end Sys2Proof.Machine
end

