-- ==== Sys2Proof/Machine/Errors.lean ====
section
/-! DEFINITION. The timeout ladder and wedged units (chapter 12): the watchdogs of commands and waits, the resets of
units and their fencing, address faults, patrol scrub, and the causes of a module warm reset. -/

namespace Sys2Proof.Machine

/-! ### Module state and its events (Table MGT-4) -/

/-- The events that the management service sends by itself: PlatformEventMessage to the tray BMC once it has named a
receiver, and the same to the subscribers of Redfish. SMB_ALERT_N is low while a message waits (Table HWM-2). -/
def State.event (s : State) (sensor value : Nat) : State :=
  let s := s.notify sensor value
  if s.mgmt.eventReceiver.isSome then
    { s with mgmt := { s.mgmt with events := s.mgmt.events ++ [(sensor, value)] }, mod := { s.mod with alertLow := true } }
  else s

/-- ModuleState 6, fault. -/
def stateFault : Nat := 6

/-- Set the module's state. MOD_FAULT_N is low in the fault state, and while a protective shutdown is latched. -/
def State.setModState (s : State) (n : Nat) : State :=
  if s.mod.state = n then s
  else (s.updMod (fun m => { m with state := n, faultLow := n == stateFault || m.latched })).event 6 n

/-- The class and the block that the field record gives a cause of the whole module, which Table ERR-6 has no code
for. -/
def fieldModule : Nat := 7
def fieldPower : Nat := 9
def fieldGatehouse : Nat := 10

/-- Write a cause to the field record (R338). -/
def State.fieldNote (s : State) (block cause unit : Nat) : State :=
  let fl := s.mgmt.fieldLog ++ [{ cls := fieldModule, block := block, cause := cause, unit := unit, step := 0xFFFFFFFFFFFFFFFF, tick := s.mod.tick }]
  { s with mgmt := { s.mgmt with fieldLog := fl.drop (fl.length - 1024) } }

/-- Add 1 to a saturating field of 16 bits (Table ERR-8). -/
def satInc (n : Nat) : Nat := if n < 65535 then n + 1 else n

/-! ### Rung 1 (R123, R326, R327) -/

/-- Stage the box of a view as it stands, every line of it marked poisoned. -/
def State.poisonBox (s : State) (pav queue : Nat) (d : QDesc) (view : Nat) (g : Staged) : Staged :=
  let cx := s.ctxOf pav queue d
  let x := s.viewOf pav queue d view
  s.stageBox cx x.2 x.1 ((s.viewElems cx x.2 x.1).map (fun e => { e with poisoned := true })) g

/-- The views that a RILL descriptor writes. -/
def State.rillOutputs (s : State) (d : QDesc) : List Nat :=
  let at_ (o : Nat) : Nat := fieldAt d.bytes o 4
  let outs := if dType d.bytes = 0x10 then
      (match s.planOf d with
       | none => []
       | some pl => ((Config.rillProgram pl.program (at_ 8)).filter (fun o => decide (o.arg < 6))).map (fun o => at_ (0x10 + 4 * o.arg)))
    else if isPage (fieldAt d.bytes 0x18 1) then [at_ 0x0C, at_ 0x10]
    else if bitOf (fieldAt d.bytes 0x19 1) 0 then [at_ 0x0C]
    else at_ 0x10 :: (if bitOf (fieldAt d.bytes 0x19 1) 1 then [at_ 0x14] else [])
  outs.filter (· != noView)

/-- The rows that a DRAIN of an aborted pass writes, every one poisoned: those that have streamed, else the rows that
its block's STREAM would feed. -/
def State.abortRows (s : State) (pav : Nat) (c : List QDesc) (d : QDesc) : List PassRow :=
  let rows := (s.pav pav).par.pass.get [] (dBlock d.bytes)
  let blank : PassRow :=
    { adapter := noAdapter, sums := [], dropped := false, select := 0, rowScale := 0, zeroPoint := none, poisoned := true }
  if rows.isEmpty then
    (match ofBlock c 2 (dBlock d.bytes) with | some x => List.replicate (s.streamRows pav x) blank | none => [])
  else rows.map (fun r => { r with poisoned := true })

/-- A DRAIN of an aborted pass. -/
def State.abortDrain (s : State) (pav : Nat) (c : List QDesc) (d : QDesc) : State :=
  let w := ((s.pav pav).par.active.find (dBlock d.bytes)).getD (BlockWeights.clear (blockSize (dShape d.bytes)))
  let toTile := bitOf (fieldAt d.bytes 0x0D 1) 3
  let width := if toTile then 128 else (s.viewOf pav 0 d (fieldAt d.bytes 8 4)).1.extents.getD 0 0
  let es := (drainElems w (bitOf (fieldAt d.bytes 0x0D 1) 2) width (s.abortRows pav c d)).map (fun e => { e with poisoned := true })
  if toTile then s.drainTile pav d es else s.drainLocal pav d es

/-- Write the outputs of a descriptor poisoned. -/
def State.poisonOutputs (s : State) (pav queue : Nat) (c : List QDesc) (d : QDesc) : State :=
  if queue = 0 then (if dType d.bytes = 3 then s.abortDrain pav c d else s)
  else if queue = 1 then s.commitStore pav ((s.rillOutputs d).foldl (fun g v => s.poisonBox pav 1 d v g) Staged.none)
  else
    let v := fieldAt d.bytes 0x0C 4
    let g := s.poisonBox pav 2 d v Staged.none
    let mem := (s.viewOf pav 2 d v).2.mem
    if mem = 3 then s.commitStore pav g
    else if mem = 1 ∨ mem = 2 then s.commitGh g
    else s.updMem (fun m => m.enqueue (g.lines d.plot))

/-- The descriptors of the command that a queue runs: the head command of the ARRAY queue, the head of another. -/
def Pavilion.running (v : Pavilion) (queue : Nat) : List QDesc :=
  if queue = 0 then v.commands.1 else (v.queue queue).take 1

/-- Ticks of 2 ms. -/
def commandTicks : Nat := 200000

/-- Whether a queue's command has run for 2 ms. -/
def State.commandLate (s : State) (pav queue : Nat) : Bool :=
  let c := (s.pav pav).running queue
  c.any (fun d => !isSem d.bytes && !d.executed) && c.all (fun d => isSem d.bytes || decide (d.startTick + commandTicks ≤ s.now))

/-- Abort a queue's command: its outputs are written poisoned, and its descriptors retire with an error. -/
def State.abortCommand (s : State) (pav queue : Nat) : State :=
  let c := (s.pav pav).running queue
  let late (d : QDesc) : Bool := !isSem d.bytes && !d.executed
  let s := (c.filter late).foldl (fun t d => t.poisonOutputs pav queue c d) s
  let done := ((List.range c.length).zip c).filter (fun e => late e.2)
  done.foldl (fun t e => (t.updDesc pav queue e.1 (fun d => { d with failed := true })).markDone pav queue e.1) s

/-- COMMAND_WATCHDOG (R326): a FUNCTION error of the ladder's cause 0. -/
def execCommandWatchdog (pav : Nat) (queue : Queue) (s : State) : Out :=
  let k := queueNum queue
  if s.pavDown pav || !s.commandLate pav k then .next s
  else
    match ((s.pav pav).running k).find? (fun d => !isSem d.bytes && !d.executed) with
    | none => .next s
    | some d =>
      let s := (s.abortCommand pav k).updMod (fun m => { m with ladderCmd := m.ladderCmd + 1 })
      .next (s.raise d.plot { s.errOf 2 8 0 pav ((s.plot d.plot).stepOf d.plan) with descId := dId d.bytes })

/-- WAIT_LIMIT in ticks: 0 stands for 4 s (R327). -/
def PlanHeader.waitTicks (h : PlanHeader) : Nat := (if h.waitLimit = 0 then 4000 else h.waitLimit) * 100000

/-- WAIT_LIMIT (R326, R327), counted from the wait's start: the wait retires and the step is void. The clock counts only while the plot holds the
Pavilion (R351). -/
def execWaitLimit (pav : Nat) (queue : Queue) (s : State) : Out :=
  let k := queueNum queue
  match s.headOf pav k 0x30 with
  | none => .next s
  | some d =>
    match s.planOf d with
    | none => .next s
    | some pl =>
      if (s.pav pav).context ≠ d.plot ∨ d.started = false ∨ s.now + d.waited < d.startTick + pl.header.waitTicks then .next s
      else
        let s := (s.markDone pav k 0).updMod (fun m => { m with ladderWait := m.ladderWait + 1 })
        .next ((s.raise d.plot { s.errOf 3 8 1 pav ((s.plot d.plot).stepOf d.plan) with descId := dId d.bytes }).makeVoid d.plot d.plan)

/-! ### Wedged units (R331, R332, Table ERR-5) -/

/-- The key under which a unit's last reset is kept. -/
def unitKey : HwUnit → Nat
  | .pavilion p => p
  | .terraceSequencer t => 128 + t
  | .cascade i => 130 + i
  | .portEngine i => 144 + i
  | .trellis => 156
  | .orangery => 157
  | .tierMover => 158
  | .memoryController i => 160 + i
  | .bothyPair i => 200 + i
  | .gatehouse => 204

/-- The number that a record names a unit by. -/
def unitNumber : HwUnit → Nat
  | .pavilion p => p
  | .cascade i => i
  | .portEngine i => i
  | _ => 0xFFFF

/-- The plans of a plot that run a step and need a Pavilion of a mask. -/
def Plot.stepsOn (q : Plot) (mask : Nat) : List Nat :=
  (q.running.filter (fun st => match q.plans.find st.plan with | some pl => pl.header.need &&& mask != 0 | none => false)).map (·.plan)

/-- Make steps of a plot void, each with a VOID record. -/
def State.voidSteps (s : State) (p : Nat) (plans : List Nat) (block cause unit : Nat) : State :=
  plans.foldl (fun t h => (t.raise p (t.errOf 3 block cause unit ((t.plot p).stepOf h))).makeVoid p h) s

/-- Reset a Pavilion: its queues, Parterre registers, local store and gradient buffer are cleared, and the descriptors
that had not retired are fetched again, but for signals that have acted. The plot's weights reload on its next command
(R70). A switch that waits completes, and the incoming plot's first command finds the Parterre cleared (R332). -/
def Pavilion.reset (v : Pavilion) (now : Nat) : Pavilion :=
  let again (l : List QDesc) : List QDesc :=
    (l.filter (fun d => !(d.executed && isSem d.bytes))).map (fun d =>
      { d with started := false, executed := false, startTick := now, failed := false })
  let v : Pavilion := { v with
    array := again v.array, rill := again v.rill, move := again v.move, reload := v.reloads
    par := { Parterre.init with err := v.par.err, owner := v.context }
    store := [], storePoison := [], rillBusy := false, rillHist := false, rillStoch := false
    gbuf := v.gbuf.map (fun (g : GTile) => if g.resident then { g with data := [], poison := [] } else g)
    tripped := false, lastRetire := now, lastReset := some now }
  if v.switchPending then
    let v := if v.context = 0 then v else { v with saved := v.saved.set v.context (v.save now) }
    { v.restore v.granted with since := now }
  else v

/-- The plots on whose steps the reset of a Pavilion falls: the one that owns it. -/
def State.resetPavilion (s : State) (pav block cause : Nat) : State :=
  let p := (s.pav pav).context
  let s := s.updPav pav (fun v => v.reset s.now)
  if p = 0 then s else s.voidSteps p ((s.plot p).stepsOn (2 ^ pav)) block cause pav

/-- Take an Avenue port down: it leaves its routes (R225). -/
def State.portDown (s : State) (i : Nat) : State :=
  if (s.port i).linkUp then
    (s.updPort i (fun t => { t with linkUp := false, lanesUp := 0, peerValid := false, err := setFlag t.err 0 })).routesChanged i 0
  else s

/-- The plots that a module-wide unit serves at the moment. -/
def State.servedPlots (s : State) (u : HwUnit) : List Nat :=
  tenantPlots.filter (fun p => s.isOpen p &&
    (match u with
     | .trellis => !(s.plot p).buildings.isEmpty
     | .orangery => s.mem.moving.any (fun m => m.plot == p && m.purpose.cls == 2)
     | .tierMover => s.mem.moving.any (fun m => m.plot == p)
     | _ => false))

/-- Reset a unit (Table ERR-5): `block` and `cause` stand in the records of the plots that it touches. -/
def State.resetUnit (s : State) (u : HwUnit) (block cause : Nat) : State :=
  let told := (s.servedPlots u).foldl (fun t p => t.raise p (t.errOf 2 block cause (unitNumber u) (t.plot p).eventStep)) s
  match u with
  | .pavilion i => s.resetPavilion i block cause
  | .terraceSequencer t => ((List.range 64).map (· + 64 * t)).foldl (fun x i => x.resetPavilion i block cause) s
  | .cascade i => s.engineDown i block cause
  | .portEngine i => s.portDown i
  | .trellis =>
    { told with plots := told.plots.mapVals (fun q => { q with 
      running := q.running.map (fun st => { st with building := none }), ahead := [] }) }
  | .orangery =>
    told.updMem (fun m => { m with
      moveQueue := m.moving.filter (fun x => x.purpose.cls == 2) ++ m.moveQueue, moving := m.moving.filter (fun x => x.purpose.cls != 2) })
  | .tierMover => told.updMem (fun m => { m with moveQueue := m.moving ++ m.moveQueue, moving := [] })
  | .memoryController _ => s.startWarm 2
  | .bothyPair _ => s.startWarm 0
  | .gatehouse => s

/-- A FENCED record for every plot of a list; the plot sees no cause (R335). -/
def State.tellFenced (s : State) (ps : List Nat) (block cause unit : Nat) : State :=
  ps.foldl (fun t p => t.raise p (t.errOf 4 block cause unit (t.plot p).eventStep)) s

/-- The OPEN tenant plots. -/
def State.openPlots (s : State) : List Nat := tenantPlots.filter s.isOpen

/-- Fence a Pavilion: it stays out of service until the next warm reset, and the step of its plot is void. -/
def State.fencePavilion (s : State) (i block cause : Nat) : State :=
  let p := (s.pav i).context
  let s := s.updMod (fun m => { m with fences := m.fences.set i (block, cause) })
  let s := s.updMod (fun m =>
    if i < 64 then { m with fencedPav0 := setFlag m.fencedPav0 i } else { m with fencedPav1 := setFlag m.fencedPav1 (i - 64) })
  if p = 0 then s
  else
    let plans := (s.plot p).stepsOn (2 ^ i)
    (s.tellFenced [p] block cause i).voidSteps p plans 0 0 0xFFFF

/-- The bit of a unit in MOD_FENCED_UNITS (Table ERR-7). -/
def unitFenceBit : HwUnit → Option Nat
  | .terraceSequencer t => some t
  | .cascade i => some (2 + i)
  | .portEngine i => some (16 + i)
  | .trellis => some 28
  | .orangery => some 29
  | .tierMover => some 30
  | _ => none

/-- Fence a unit. -/
def State.fenceUnit (s : State) (u : HwUnit) (block cause : Nat) : State :=
  match u with
  | .pavilion i => s.fencePavilion i block cause
  | _ =>
    match (unitFenceBit u) with
    | none => s
    | some b =>
      let s := s.updMod (fun m => { m with fencedUnits := setFlag m.fencedUnits b, fences := m.fences.set (unitKey u) (block, cause) })
      match u with
      | .terraceSequencer t => ((List.range 64).map (· + 64 * t)).foldl (fun x i => x.fencePavilion i block cause) s
      | .cascade i =>
        let s := (s.updEngine i (fun e => { e with fenced := true })).tellFenced s.openPlots block cause i
        tenantPlots.foldl (fun t p => t.withdrawAll p (t.servedBy p i)) s
      | .portEngine i => (s.portDown i).updPort i (fun t => { t with faulty := true })
      | _ => s.tellFenced s.openPlots block cause 0xFFFF

/-- Whether a unit stands fenced. -/
def State.isFenced (s : State) (u : HwUnit) : Bool :=
  match u with
  | .pavilion i => bitOf (if i < 64 then s.mod.fencedPav0.toNat else s.mod.fencedPav1.toNat) (i % 64)
  | _ => match (unitFenceBit u) with | some b => s.unitFenced b | none => false

/-- Ticks of 10 minutes (R331). -/
def fenceTicks : Nat := 60000000000

/-- The reset of a wedged unit, noted for its next; a Pavilion that fails the self-test after it is fenced (R331,
Table ERR-5). -/
def State.resetAndTest (s : State) (u : HwUnit) (block cause : Nat) : State :=
  let t := (s.resetUnit u block cause).updMod (fun m => { m with unitResets := m.unitResets.set (unitKey u) s.now })
  match u with
  | .pavilion i => if Config.selfTestHolds i s.now then t else t.fenceUnit u block cause
  | _ => t

/-- A wedged unit is reset, or fenced when its last reset lies less than 10 minutes back; one whose reset is due while
a warm reset starts is not reset separately (R332). -/
def State.wedge (s : State) (u : HwUnit) (block cause : Nat) : State :=
  if s.mod.warmPending || s.isFenced u then s
  else if (unitFenceBit u).isNone && !(match u with | .pavilion _ => true | _ => false) then s.resetUnit u block cause
  else
    match s.mod.unitResets.find (unitKey u) with
    | some t => if s.now < t + fenceTicks then s.fenceUnit u block cause
                else s.resetAndTest u block cause
    | none => s.resetAndTest u block cause

/-! ### PLOT_CLOSE and the check of what a scrub zeroed (R345, R416) -/

/-- The lines of a bank that failed the zero check are poisoned, and it is fenced: a Pavilion with its bank, and a
Glasshouse unit by being granted to none (R416). The field record names it. -/
def State.failBank (s : State) : SramBank → State
  | .store pav bank =>
    let lines := (List.range 2560).map (fun k => 32 * k + bank)
    ((s.updPav pav (fun v => { v with storePoison := (v.storePoison ++ lines).eraseDups })).fenceUnit (.pavilion pav) fieldGatehouse
      4).fieldNote fieldGatehouse 4 pav
  | .glasshouse terrace unit =>
    let lines := (List.range 8192).map (fun k => (ghBytes * terrace + 1048576 * unit) / 128 + k)
    (s.updMem (fun m => { m with
      ghPoison := (m.ghPoison ++ lines).eraseDups, ghFenced := (m.ghFenced ++ [residueKey terrace unit]).eraseDups })).fieldNote
        fieldGatehouse 4 (256 + residueKey terrace unit)

/-- What the zero check of R416 reports: a bank that fails sets SCRUB_VERIFY, and what zeroes goes on. -/
def State.scrubVerify (s : State) (failed : List SramBank) : State :=
  if failed.isEmpty then s
  else failed.foldl State.failBank { s with gatehouse := { s.gatehouse with err := setFlag s.gatehouse.err 4 } }

/-- PLOT_CLOSE. -/
def execPlotClose (failed : List SramBank) (s : State) : Out :=
  .next (s.serve 0 opPlotClose (fun _ => true) (fun r s =>
    let p := fieldAt r.payload 0 1
    if p = 0 ∨ 16 < p ∨ (s.plot p).state = 0 then s.refuse 0 r stNotPermitted
    else (((s.setPhase 0 r.slot .started).startClose p).scrubVerify failed).finishClose p))

/-! ### Rungs 2 to 4 and the lock-step checks -/

/-- Ticks of 12 s. -/
def terraceTicks : Nat := 1200000000

/-- TERRACE_TIMEOUT (rung 2). -/
def execTerraceTimeout (pav : Nat) (s : State) : Out :=
  let v := s.pav pav
  if s.pavDown pav || decide (s.now < v.lastRetire + terraceTicks) ||
      (v.array ++ v.rill ++ v.move).all (fun d => decide (s.now < d.startTick + terraceTicks)) then .next s
  else .next ((s.updMod (fun m => { m with ladderTerrace := satInc m.ladderTerrace })).wedge (.pavilion pav) 8 2)

/-- Whether the Bothy heartbeat watches a unit (Table ERR-3). -/
def unitBeats : HwUnit → Bool
  | .pavilion _ => false
  | .bothyPair _ => false
  | .gatehouse => false
  | _ => true

/-- HEARTBEAT_TIMEOUT (rung 3). -/
def execHeartbeatTimeout (unit : HwUnit) (s : State) : Out :=
  if s.bothy.ready = false ∨ unitBeats unit = false ∨ s.isFenced unit = true then .next s
  else .next ((s.updMod (fun m => { m with ladderHeartbeat := satInc m.ladderHeartbeat })).wedge unit 8 3)

/-- GATEHOUSE_WATCHDOG (rung 4). -/
def execGatehouseWatchdog (pair : Nat) (s : State) : Out :=
  if s.gatehouse.halted = true ∨ bitOf s.bothy.pairsUp pair = false then .next s
  else .next (((s.updMod (fun m => { m with ladderGatehouse := satInc m.ladderGatehouse })).fieldNote fieldGatehouse 0 pair).startWarm 1)

/-- Every tenant plot goes at once, as a reset of the module takes it. -/
def State.endPlots (s : State) : State :=
  { s with plots := [(0, { Plot.init with state := 1 })], pavs := s.pavs.mapVals (fun v =>
      { Pavilion.init with par := { Parterre.init with err := v.par.err }, err := v.err, ctr := v.ctr, hotspot := v.hotspot }) }

/-- LOCK_STEP_MISMATCH: a Bothy pair's starts a warm reset at once; the Gatehouse's halts it, and it holds every block
in reset and raises the module's alert. No other unit runs in lock-step. -/
def execLockStepMismatch (unit : HwUnit) (s : State) : Out :=
  match unit with
  | .bothyPair i => .next ((s.fieldNote fieldGatehouse 1 i).startWarm 0)
  | .gatehouse =>
    let s := (s.fieldNote fieldGatehouse 2 0xFFFF).endPlots
    let t := { s with
      gatehouse := { s.gatehouse with halted := true }
      bothy := { s.bothy with ready := false, paused := false, pairsUp := 0, takeOver := none }
      host := { s.host with linkTraining := false, vfs := [] }
      ports := s.ports.mapVals (fun q => { q with linkUp := false, lanesUp := 0, peerValid := false, retention := [], waiting := [], toAck := [] }) }
    .next ((t.setModState stateFault).updMod (fun m => { m with alertLow := true, warmPending := false }))
  | _ => .next s

/-- TRNG_HEALTH_FAIL (R418): no key is made and no evidence signed until a reset's tests pass. -/
def execTrngHealthFail (s : State) : Out :=
  .next { s with gatehouse := { s.gatehouse with trngOk := false, err := setFlag s.gatehouse.err 0 } }

/-! ### ADDRESS_FAULT (R153, R157, R163) -/

/-- The mailbox area of a plot (Table MEM-2). -/
def mailboxBase (p : Nat) : Nat := 0xF00001000000 + p * 0x10000

/-- Whether an address lies in the mailbox area of a plot. -/
def inMailbox (p a : Nat) : Bool := decide (mailboxBase p ≤ a) && decide (a < mailboxBase p + 0x10000)

/-- Whether an address lies in the Lodge's interrupt files, which only its own cores reach (R157). -/
def inImsic (a : Nat) : Bool := decide (0xF00050000000 ≤ a) && decide (a < 0xF00050120000)

/-- ADDRESS_FAULT: an access of the host without the T bit is dropped, or is answered with Unsupported Request, while
the function is in RUN (R410); an access of a plot's agent to what it does not reach. The Lodge itself belongs to no plot: its
fault outside every plot it drives is told to management alone; the module's own agents reach every block, and a
fault of theirs is at an unmapped address or in the Lodge's carve-out (R161). -/
def execAddressFault (agent : Agent) (addr : Nat) (write hostDma : Bool) (s : State) : Out :=
  let s' := if hostDma && !write then s.emit (.hostUr addr) else s
  match agent with
  | .plot p =>
    if s.inWindows p addr 1 = true ∨ inMailbox p addr = true then .next s else .next (s'.addressFault p addr)
  | .hostPlain p =>
    if s.confidentialRun p then .next (if write then s else s.emit (.hostUr addr))
    else if inMailbox p addr = true then .next s
    else .next (s'.addressFault p addr)
  | .lodge =>
    if regionOf addr = .lodge ∨ inImsic addr = true then .next s
    else
      let s := s'.updMem (fun m => { m with err := setFlag m.err 3 })
      .next (s.logError 0 { s.errOf 5 3 3 0xFFFF 0xFFFFFFFFFFFFFFFF with address := validAddress addr })
  | .device =>
    if regionOf addr = .unmapped ∨ regionOf addr = .lodge then
      let s := s'.updMem (fun m => { m with err := setFlag m.err 3 })
      .next (s.logError 0 { s.errOf 5 3 3 0xFFFF 0xFFFFFFFFFFFFFFFF with address := validAddress addr })
    else .next s

/-! ### PATROL_SCRUB (R172 to R175) -/

/-- An uncorrectable error in a structure that a device region holds: the flags of the Trellis and the Orangery (Tables
TRL-19, ORG-14). -/
def State.structureFlag (s : State) : DeviceItem → State
  | .sequence _ _ => { s with trellis := { s.trellis with err := setFlag s.trellis.err 0 } }
  | .adapter _ _ => { s with orangery := { s.orangery with err := setFlag s.orangery.err 1 } }
  | _ => s

/-- An item that both copies of a line have lost (R325). -/
def State.loseItem (s : State) : DeviceItem → State
  | .sequence p id => (s.endSeq p (seqIndex id) seqTerminated 6 (s.plot p).eventStep).nextOrder p
  | .adapter p h => s.recordPoison p h
  | .group p h =>
    match (s.plot p).groups.find? (fun g => g.handle == h) with
    | some g =>
      if g.state = groupDissolved then s
      else ((s.dissolveGroup p h 0).stopLost p).settleStopped p
    | none => s
  | .unknown => (s.fieldNote fieldModule 6 0xFFFF).startWarm 6

/-- An uncorrectable error in a device region: the other Terrace's copy repairs it, or the items are lost. -/
def State.structureFault (s : State) (f : PatrolFind) : State :=
  let s := f.holds.foldl State.structureFlag s
  if f.bothFail then f.holds.foldl State.loseItem s else s.updMem (fun m => m.corrected (f.line * 64))

/-- What a sweep found at one line; it reads no line of a stopped stack (R160). -/
def State.patrolLine (s : State) (f : PatrolFind) : State :=
  let a := f.line * 64
  if !isMemory a || s.mem.stopped a 64 then s
  else if f.uncorrectable then
    match regionOf a with
    | .hbmDevice _ => (s.updMem (fun m => { m with err := setFlag m.err 0 })).structureFault f
    | _ => (s.updMem (fun m => m.uncorrectable f.line)).tellPoison a
  else s.updMem (fun m => m.corrected a)

/-- PATROL_SCRUB: one sweep of both tiers, with what it found. -/
def execPatrolScrub (finds : List PatrolFind) (s : State) : Out :=
  if s.mem.patrolEnable = true ∧ s.mem.ready = true then
    .next ((finds.foldl State.patrolLine s).updMem (fun m => { m with patrolPasses := m.patrolPasses + 1 }))
  else .next s

end Sys2Proof.Machine
end

