-- ==== Sys2Proof/Machine/Power.lean ====
section
/-! DEFINITION. Boots and resets (R176, R177, R390 to R394, R434, R438, R450 to R458), clocks and temperatures
(R121, R160, R460), and the input and its limiter (R451 to R454). -/

namespace Sys2Proof.Machine

/-! ### What a reset leaves -/

/-- The module's registers after a module reset: the pins, the board's sensors and what the configuration flash holds
stay (R29, R456, Table ERR-8). -/
def Mod.cleared (m : Mod) : Mod :=
  { Mod.init with
    hall := m.hall, steady := m.steady, partition := m.partition, fabricId := m.fabricId, anchor := m.anchor
    ladderGatehouse := m.ladderGatehouse, rails := m.rails, pwrgd := m.pwrgd, refclk := m.refclk, resetHigh := m.resetHigh
    thermtripLow := m.thermtripLow, latched := m.latched, faultLow := m.latched, smbAddr := m.smbAddr, junction := m.junction
    inputWatts := m.inputWatts, inputMv := m.inputMv }

/-- Management after a module reset: what stands in the configuration flash stays. The tick counter starts again, so a
lock of an account keeps what is left of it, and trial reverts count from here; a trial of a pushed bank stays in force
(R456). -/
def Mgmt.cleared (g : Mgmt) (now : Nat) : Mgmt :=
  { Mgmt.init with
    accounts := g.accounts.map (fun a => { a with lockedUntil := a.lockedUntil - now })
    certificate := g.certificate, network := g.network, classes := g.classes, fuseGatehouse := g.fuseGatehouse
    fuseBothy := g.fuseBothy, fieldLog := g.fieldLog, powerOns := g.powerOns, warmResets := g.warmResets
    poweredTicks := g.poweredTicks + now, trainLog := g.trainLog, peaks := g.peaks, limiterTrips := g.limiterTrips
    droopTrips := g.droopTrips
    recovery := { Mgmt.init.recovery with
      requested := g.recovery.requested, pushed := g.recovery.pushed.filter (fun c => (g.classes.get FwClass.init c).trial)
      revertTicks := g.recovery.revertTicks.map (fun _ => 0) } }

/-- Module reset: everything that a power cycle clears is cleared (R456). Every granule returns to the pool, and those that
have held an uncorrectable error are retired (R175). -/
def State.moduleReset (s : State) : State :=
  { State.reset with
    pending := s.pending, free := s.free, sent := s.sent, mod := s.mod.cleared
    mem := s.mem.suspectGranules.foldl (fun m g => if m.retired.contains g then m else m.retire g) { Mem.init with retired := s.mem.retired }
    host := { HostPort.init with perstHigh := s.host.perstHigh }, mgmt := { s.mgmt.cleared s.now with
      droopTrips := s.mgmt.droopTrips + (s.pavs.map (fun e => e.2.ctr.droops.toNat)).sum } }

/-- The memory tiers after a warm reset: every line is zero, and what counts from module reset or is kept until the next
power-up stays (R175, R177, R178). Granules that have held an uncorrectable error are free now, and retired. -/
def Mem.warm (m : Mem) : Mem :=
  let k : Mem :=
    { Mem.init with
      retired := m.retired, retiredVolatile := m.retiredVolatile, degraded := m.degraded, trainHbmMs := m.trainHbmMs
      trainLpddrMs := m.trainLpddrMs, patrolHours := m.patrolHours, patrolEnable := m.patrolEnable, patrolPasses := m.patrolPasses
      correctedHbm := m.correctedHbm, correctedCf := m.correctedCf, poisonedLines := m.poisonedLines, lastPoison := m.lastPoison
      err := m.err, stackTemp := m.stackTemp, refresh2x := m.refresh2x }
  m.suspectGranules.foldl (fun m g => if m.retired.contains g then m else m.retire g) k

/-- An Avenue port after a warm reset: its link has dropped and its keys are gone; its counters stay. -/
def Port.warm (t : Port) : Port :=
  { Port.init with
    txFrames := t.txFrames, rxFrames := t.rxFrames, rxDropped := t.rxDropped, retransmits := t.retransmits
    creditWait := t.creditWait, fecCorrected := t.fecCorrected, err := if t.linkUp then setFlag t.err 0 else t.err }

/-- Management after a warm reset: what lies in the management service's own memory goes; the log, the endpoint's
identifiers and the subscriptions stay. -/
def Mgmt.warm (g : Mgmt) : Mgmt :=
  { g with
    sessions := [], pushBuffer := [], tasks := []
    pldm := Mgmt.init.pldm, recovery := { g.recovery with active := false, session := none } }

/-- The blocks stop and restart (Table HWM-8, phases 1 to 3): plots end, links drop, and the key store and every SRAM
are zeroed (R390, R392, R393). -/
def State.warmCleared (s : State) : State :=
  let s := s.endPlots
  { s with
    mem := s.mem.warm, ports := s.ports.mapVals Port.warm, engines := s.engines.mapVals (fun e => { e with fenced := false })
    trellis := { s.trellis with appending := [] }
    bothy := { s.bothy with ready := false, paused := false, pairsUp := 0, takeOver := none }
    gatehouse := { s.gatehouse with bootOk := false, lodgeReg := 0, measures := [], peers := [], conns := [], sessions := [] }
    host := { s.host with linkTraining := false, vfs := [] }
    mgmt := s.mgmt.warm
    mod := { s.mod with warmPending := false, modesApplied := false, fencedPav0 := 0, fencedPav1 := 0, fencedUnits := 0, unitResets := [], fences := [] } }

/-! ### The boot (R393, R394, R434, R438) -/

/-- A bank of a class, 0 A and 1 B. -/
def FwClass.bank (x : FwClass) (i : Nat) : Bank := if i = 0 then x.bankA else x.bankB

/-- Put something into a bank. -/
def FwClass.setBank (x : FwClass) (i : Nat) (b : Bank) : FwClass := if i = 0 then { x with bankA := b } else { x with bankB := b }

/-- The bank that does not run. -/
def FwClass.other (x : FwClass) : Nat := 1 - x.running

/-- Mark a bank invalid. -/
def Bank.spoil : Bank → Bank
  | .image i => .invalid i
  | b => b

/-- Whether a bank's image passes its boot checks. -/
def bankHolds (b : BootReport) (c bank : Nat) : Bool := bitOf b.banksOk (2 * (c - 1) + bank)

/-- The result codes of FW_QUERY (R436). -/
def resultActivated : Nat := 1
def resultReverted : Nat := 2
def resultRecovered : Nat := 3

/-- A class goes back to its other bank: the one that ran is marked invalid. -/
def FwClass.fallBack (x : FwClass) : FwClass :=
  { x.setBank x.running (x.bank x.running).spoil with running := x.other, trial := false }

/-- An activation that waits for a reset takes effect, on trial (R433, R434). -/
def FwClass.switchNow (x : FwClass) : FwClass :=
  if x.switchWaits then { x with running := x.other, trial := true, switchWaits := false } else x

/-- Why a trial boot fails: a bank on trial that does not verify, or READY not reached in 25 s. -/
def State.trialFails (s : State) (b : BootReport) : Bool :=
  fwClasses.any (fun c => (s.fwClass c).trial && (!bankHolds b c (s.fwClass c).running || !b.inTime))

/-- A class that is not on trial and whose bank does not verify falls back to its other bank. -/
def State.fallBacks (s : State) (b : BootReport) : State :=
  fwClasses.foldl (fun t c =>
    let x := t.fwClass c
    if bankHolds b c x.running || !bankHolds b c x.other then t else t.updClass c FwClass.fallBack) s

/-- Whether both banks of some class fail. -/
def State.banksFail (s : State) (b : BootReport) : Bool :=
  fwClasses.any (fun c => !bankHolds b c (s.fwClass c).running)

/-- Recovery mode (R438): the ROM alone runs, and no tenant plot exists. -/
def State.enterRecovery (s : State) (reason : Nat) : State :=
  ({ s with mgmt := { s.mgmt with recovery := { s.mgmt.recovery with
      active := true, requested := false, reason := reason, session := none } } }).setModState 5

/-- The digest of what a class runs. -/
def State.fwDigest (s : State) (c : Nat) : Nat :=
  match (s.fwClass c).runningImage with
  | some i => i.digest
  | none => Config.factoryImage c 3

/-- The Gatehouse after stages 1 to 3: what it has measured (R393, R396, Table GTH-4). -/
def State.gatehouseUp (s : State) (b : BootReport) (warm : Bool) : State :=
  { s with gatehouse := { s.gatehouse with
      bootOk := true, udsLocked := true, debugUnlocked := warm && Config.engineeringSample && b.debugToken, signer := b.signer
      trngOk := true, measures := (1, Config.romDigest) :: fwClasses.map (fun c => (c + 1, s.fwDigest c)) } }

/-- Memory after bring-up: a failed stack or channel keeps the module out of service (R177). -/
def Mem.trained (m : Mem) (b : BootReport) : Mem :=
  { m with
    hbmFailed := b.hbmFailed % 2 ^ 12, cfFailed := b.cfFailed % 2 ^ 24, ready := b.hbmFailed % 2 ^ 12 == 0 && b.cfFailed % 2 ^ 24 == 0
    trainHbmMs := b.hbmMs, trainLpddrMs := b.lpddrMs, degraded := m.degraded || m.listFull }

/-- The units that failed their self-test are fenced (R331). -/
def State.selfTest (s : State) (b : BootReport) : State :=
  let s := b.badPavilions.foldl (fun t i => t.fenceUnit (.pavilion i) 2 0) s
  { s.updMod (fun m => { m with fencedUnits := m.fencedUnits ||| BitVec.ofNat 64 (b.badUnits % 2 ^ 31) }) with
    engines := (List.range 14).foldl (fun m i =>
      if bitOf b.badUnits (2 + i) then NMap.modify Engine.init m i (fun e => { e with fenced := true }) else m) s.engines }

/-- Trials end when the module reads READY (R434, R441); subscribers hear of firmware results as of sensor 8, the class
and the result. -/
def State.endTrials (s : State) : State :=
  let pushed := s.mgmt.recovery.pushed
  let s := fwClasses.foldl (fun t c =>
    if (t.fwClass c).trial then
      let res := if pushed.contains c then resultRecovered else resultActivated
      (t.updClass c (fun x => { x with trial := false, lastResult := res })).notify 8 (c * 16 + res)
    else t) s
  { s with mgmt := { s.mgmt with recovery := { s.mgmt.recovery with pushed := [] } } }

/-- The clock step of the policy with no other condition of Table PAV-14. -/
def Mod.policyStep (m : Mod) : Nat := if m.steady then 10 else 12

/-- Put the clock policy of the modes in force on every Pavilion. -/
def State.setClocks (s : State) : State :=
  (List.range 128).foldl (fun t i => t.updPav i (fun v => { v with step := s.mod.policyStep, nextStep := s.mod.policyStep })) s

/-- The boot's last phases: the modes of R29 are applied before READY. -/
def State.bringUp (s : State) (b : BootReport) (warm : Bool) : State :=
  let s := ((s.gatehouseUp b warm).updMem (fun m => m.trained b)).selfTest b
  let log := s.mgmt.trainLog ++ [(s.mem.hbmFailed, s.mem.cfFailed, b.hbmMs, b.lpddrMs)]
  let s := if warm then s else { s with mgmt := { s.mgmt with trainLog := log.drop (log.length - 8) } }
  let s := { s with bothy := { s.bothy with pairsUp := 15 } }
  if s.mem.ready = false then s.setModState stateFault
  else if b.inTime = false then s.setModState 2
  else
    let s := (s.updMod (fun m => { m with modesApplied := true })).updMem (fun m => { m with partitionInForce := s.mod.partition })
    let s := { s.setClocks with bothy := { s.bothy with ready := true } }
    (s.endTrials.setModState 3).startPort

/-- A boot, from the release of a reset. -/
def State.boot (s : State) (b : BootReport) (warm : Bool) : State :=
  let s := fwClasses.foldl (fun t c => t.updClass c FwClass.switchNow) s
  if s.mgmt.recovery.requested then s.enterRecovery 2
  else if b.katOk = false ∨ b.trngOk = false then
    let err := s.gatehouse.err
    let err := if b.katOk then err else setFlag err 1
    let err := if b.trngOk then err else setFlag err 0
    ({ s with gatehouse := { s.gatehouse with err := err, trngOk := false } }).enterRecovery 1
  else if s.trialFails b then s.setModState 1
  else
    let s := s.fallBacks b
    if s.banksFail b then s.enterRecovery 1 else s.bringUp b warm

/-- The boot of a warm reset (Table HWM-8), with the zero check of what it zeroes (R416). -/
def State.warmBoot (s : State) (b : BootReport) : State := (((s.setModState 4).warmCleared).boot b true).scrubVerify b.failedBanks

/-- A parity error in the key store: its flag, and the warm reset that the Gatehouse starts (Table GTH-14). -/
def State.keyParity (s : State) : State :=
  { s with gatehouse := { s.gatehouse with err := setFlag s.gatehouse.err 2 } }.startWarm 7

/-- WARM_RESET (R457): once the Gatehouse, FW_ACTIVATE or management has started it; a parity error in the key store
starts it itself. -/
def execWarmReset (boot : BootReport) (s : State) : Out :=
  let s := if boot.keyParity && s.gatehouse.bootOk then s.keyParity else s
  if s.mod.warmPending = true ∧ s.mod.rails = true ∧ s.mod.resetHigh = true ∧ s.gatehouse.halted = false then .next (s.warmBoot boot)
  else .next s

/-- MOD_RESET_N_FALL (R456): shorter pulses than 1 ms are ignored. -/
def execModResetNFall (micros : Nat) (s : State) : Out :=
  if s.mod.resetHigh = true ∧ 1000 ≤ micros then .next (s.moduleReset.updMod (fun m => { m with resetHigh := false })) else .next s

/-- Phases 3 to 7 of Table HWM-7, when power, the reference and the pin allow them. -/
def State.coldBoot (s : State) (b : BootReport) : State :=
  if s.mod.rails && s.mod.refclk && s.mod.resetHigh then s.boot b false else s

/-- MOD_RESET_N_RISE (R455, R456): the tick counter starts (R12), and the module boots. -/
def execModResetNRise (boot : BootReport) (s : State) : Out :=
  if s.mod.resetHigh = false ∧ s.mod.rails = true then .next ((s.updMod (fun m => { m with resetHigh := true })).coldBoot boot) else .next s

/-- REFCLK_LOSS (R450): out of range for more than 10 µs while the module is powered. -/
def execRefclkLoss (micros : Nat) (s : State) : Out :=
  if s.mod.refclk = true ∧ s.mod.rails = true ∧ 10 < micros then
    .next (((s.fieldNote fieldPower 0 0xFFFF).moduleReset).updMod (fun m => { m with refclk := false, faultLow := true }))
  else .next s

/-- REFCLK_RESTORED (R450): the cold sequence starts from phase 3, and MOD_FAULT_N is released. -/
def execRefclkRestored (boot : BootReport) (s : State) : Out :=
  if s.mod.refclk = false ∧ s.mod.rails = true then
    .next ((s.updMod (fun m => { m with refclk := true, faultLow := m.latched })).coldBoot boot)
  else .next s

/-! ### Trials that fail (R434) -/

/-- Ticks of an hour. -/
def hourTicks : Nat := 360000000000

/-- Revert the trials that fail: those whose bank does not verify, else every one. -/
def State.revertTrials (s : State) (b : BootReport) : State :=
  let on := fwClasses.filter (fun c => (s.fwClass c).trial)
  let bad := on.filter (fun c => !bankHolds b c (s.fwClass c).running)
  let cs := if bad.isEmpty then on else bad
  let s := cs.foldl (fun t c => ((t.updClass c (fun x => { x.fallBack with lastResult := resultReverted })).fieldNote fieldGatehouse 3 c).notify 8 (c * 16 + resultReverted)) s
  { s with mgmt := { s.mgmt with recovery := { s.mgmt.recovery with
      pushed := s.mgmt.recovery.pushed.filter (fun c => !cs.contains c)
      revertTicks := (s.mgmt.recovery.revertTicks ++ [s.now]).filter (fun t => decide (s.now < t + hourTicks)) } } }

/-- After a revert the other bank boots through a warm reset, unless it is the third within one hour (R438). -/
def State.bootReverted (s : State) (b : BootReport) : State :=
  let s := (s.setModState 4).warmCleared
  if 3 ≤ s.mgmt.recovery.revertTicks.length then
    ({ s with mgmt := { s.mgmt with recovery := { s.mgmt.recovery with revertTicks := [] } } }).enterRecovery 3
  else s.boot b true

/-- TRIAL_REVERT (R434): a trial boot has not read READY. -/
def execTrialRevert (boot : BootReport) (s : State) : Out :=
  if (s.mod.state = 1 ∨ s.mod.state = 2) ∧ s.mod.rails = true ∧ s.mod.resetHigh = true ∧ s.mod.refclk = true ∧
      fwClasses.any (fun c => (s.fwClass c).trial) = true then
    .next ((s.revertTrials boot).bootReverted boot)
  else .next s

/-! ### Temperatures and clocks (R121, R160, R460, Table PAV-14) -/

/-- DROOP_TRIP: steady-clock mode disables the detector. -/
def execDroopTrip (pav : Nat) (s : State) : Out :=
  if s.steadyNow = true ∨ (s.pav pav).droop = true then .next s
  else .next (s.updPav pav (fun v => { v with droop := true, ctr := { v.ctr with droops := v.ctr.droops + 1 } }))

/-- DROOP_RECOVERY: after 256 cycles the policy step is restored. -/
def execDroopRecovery (pav : Nat) (s : State) : Out := .next (s.updPav pav (fun v => { v with droop := false }))

/-- Keep the highest temperature of a Pavilion, or from 128 of a stack, for the field record (Table ERR-9). -/
def State.peak (s : State) (key celsius : Nat) : State :=
  { s with mgmt := { s.mgmt with peaks := s.mgmt.peaks.modify 0 key (max celsius) } }

/-- A Pavilion's hotspot as its sensor reads it. -/
def State.readHotspot (s : State) (pav celsius : Nat) : State :=
  (s.updPav pav (fun v => { v with hotspot := celsius })).peak pav celsius

/-- A step of the thermal policy takes effect at the next command boundary of the ARRAY queue: at once when no pass is
open (R121). -/
def Pavilion.askStep (v : Pavilion) (n now : Nat) : Pavilion :=
  { v with nextStep := n, step := if v.par.busy then v.step else n, lastThermal := now }

/-- Whether the thermal policy acts on a Pavilion: in normal mode, once bring-up has applied the modes (Table PAV-14). -/
def State.thermalPolicy (s : State) : Bool := s.mod.modesApplied && !s.mod.steady

/-- THERMAL_STEP_DOWN: one step every 10 µs at 100 °C or above, to no lower than 6. -/
def execThermalStepDown (pav celsius : Nat) (s : State) : Out :=
  let s := s.readHotspot pav celsius
  let v := s.pav pav
  if s.thermalPolicy = true ∧ 100 ≤ celsius ∧ 6 < v.nextStep ∧ (v.lastThermal = 0 ∨ v.lastThermal + 1000 ≤ s.now) then
    .next (s.updPav pav (fun v => { (v.askStep (v.nextStep - 1) s.now) with ctr := { v.ctr with thermalSteps := v.ctr.thermalSteps + 1 } }))
  else .next s

/-- THERMAL_STEP_UP: one step every 100 µs below 95 °C, up to 12. -/
def execThermalStepUp (pav celsius : Nat) (s : State) : Out :=
  let s := s.readHotspot pav celsius
  let v := s.pav pav
  if s.thermalPolicy = true ∧ celsius < 95 ∧ v.nextStep < 12 ∧ v.lastThermal + 10000 ≤ s.now then
    .next (s.updPav pav (fun v => v.askStep (v.nextStep + 1) s.now))
  else .next s

/-- THERMAL_TRIP: at 115 °C the Pavilion stops; the step of its plot is void, and the plot sees FENCED without cause
(Table ERR-2). -/
def execThermalTrip (pav celsius : Nat) (s : State) : Out :=
  let s := s.readHotspot pav celsius
  if 115 ≤ celsius ∧ (s.pav pav).tripped = false then
    let p := (s.pav pav).context
    let s := (s.updPav pav (fun v => { v with tripped := true, err := setFlag v.err 5 })).event 3 celsius
    if p = 0 then .next s
    else .next ((s.tellFenced [p] 2 5 pav).voidSteps p ((s.plot p).stepsOn (2 ^ pav)) 0 0 0xFFFF)
  else .next s

/-- PAVILION_COOLED: below 95 °C a tripped Pavilion is reset as a wedged unit. -/
def execPavilionCooled (pav celsius : Nat) (s : State) : Out :=
  let s := s.readHotspot pav celsius
  if celsius < 95 ∧ (s.pav pav).tripped = true then .next (s.wedge (.pavilion pav) 2 5) else .next s

/-- The refresh rate of a stack (R160): doubled from 85 °C, normal again below 80 °C. -/
def Mem.refresh (m : Mem) (stack celsius : Nat) : Mem :=
  if 85 ≤ celsius ∧ m.refresh2x.contains stack = false then { m with refresh2x := m.refresh2x ++ [stack] }
  else if celsius < 80 then { m with refresh2x := m.refresh2x.filter (· != stack) }
  else m

/-- A stack's temperature as its sensor reads it; a module whose stack has tripped restarts once the stack is below
85 °C (Table ERR-2). -/
def State.readStack (s : State) (stack celsius : Nat) : State :=
  let s := (s.updMem (fun m => { (m.refresh stack celsius) with stackTemp := m.stackTemp.set stack celsius })).peak (128 + stack) celsius
  if s.mem.stackTripped.contains stack = true ∧ celsius < 85 then s.startWarm 3 else s

/-- REFRESH_2X (R160): a controller reads its stack's temperature. -/
def execRefresh2x (stack celsius : Nat) (s : State) : Out := .next (s.readStack stack celsius)

/-- MEMORY_THERMAL_TRIP (R160): the controller stops; every running step is void, and every plot sees FENCED. -/
def execMemoryThermalTrip (stack celsius : Nat) (s : State) : Out :=
  let s := s.readStack stack celsius
  if 105 ≤ celsius ∧ s.mem.stackTripped.contains stack = false then
    let s := s.updMem (fun m => { m with stackTripped := m.stackTripped ++ [stack], err := setFlag m.err 4 })
    let s := (s.event 4 celsius).tellFenced s.openPlots 3 4 0xFFFF
    .next (tenantPlots.foldl (fun t p => t.makeVoidAll p) s)
  else .next s

/-! ### The input and its limiter (R451 to R454) -/

/-- Every rail goes off: nothing volatile is kept (R452). -/
def State.railsOff (s : State) : State := s.moduleReset.updMod (fun m => { m with rails := false, pwrgd := false })

/-- A protective shutdown: the rails go off, MOD_FAULT_N is latched low, and the cause stands in the field record. -/
def State.shutDown (s : State) (cause : Nat) : State :=
  ((s.fieldNote fieldPower cause 0xFFFF).railsOff).updMod (fun m => { m with latched := true, faultLow := true })

/-- LIMITER_ASSERT (R453): the 1 ms average exceeds 3,400 W. -/
def execLimiterAssert (watts : Nat) (s : State) : Out :=
  let s := s.updMod (fun m => { m with inputWatts := watts })
  if s.mod.rails = true ∧ s.mod.limiter = false ∧ 3400 < watts then
    let s := s.updMod (fun m => { m with limiter := true, limiterTick := s.now })
    let s := { s with mgmt := { s.mgmt with limiterTrips := s.mgmt.limiterTrips + 1 } }
    .next (s.openPlots.foldl (fun t p => t.charge p (fun c => { c with throttleEvents := c.throttleEvents + 1 })) s |>.event 7 2)
  else .next s

/-- The limiter's release is a step change like any other: a Pavilion with an open pass keeps n until its boundary
(R121). -/
def Pavilion.unlimit (v : Pavilion) : Pavilion := if v.par.busy then { v with step := min 6 v.step } else v

/-- LIMITER_RELEASE (R453): at least 10 ms after it asserted, with the average below 3,000 W. -/
def execLimiterRelease (watts : Nat) (s : State) : Out :=
  let s := s.updMod (fun m => { m with inputWatts := watts })
  if s.mod.limiter = true ∧ s.mod.limiterTick + 1000000 ≤ s.now ∧ watts < 3000 then
    let s := s.openPlots.foldl (fun t p =>
      t.charge p (fun c => { c with throttleTicks := c.throttleTicks + s.throttledNow (s.plot p) })) s
    let s := s.updMod (fun m => { m with limiter := false })
    .next ({ s with pavs := s.pavs.mapVals Pavilion.unlimit }.event 7 1)
  else .next s

/-- OVERPOWER_SHUTDOWN (R454). -/
def execOverpowerShutdown (watts : Nat) (s : State) : Out :=
  let s := s.updMod (fun m => { m with inputWatts := watts })
  if s.mod.rails = true ∧ s.mod.limiter = true ∧ 3800 < watts then .next (s.shutDown 1) else .next s

/-- JUNCTION_THERMAL_TRIP (R460). -/
def execJunctionThermalTrip (celsius : Nat) (s : State) : Out :=
  let s := s.updMod (fun m => { m with junction := celsius })
  if s.mod.rails = true ∧ 125 ≤ celsius then .next ((s.shutDown 2).updMod (fun m => { m with thermtripLow := true })) else .next s

/-- UNDERVOLTAGE (Table HWM-5): below 38 V for more than 10 ms, or below 36 V at any time. -/
def execUndervoltage (millivolts micros : Nat) (s : State) : Out :=
  let s := s.updMod (fun m => { m with inputMv := millivolts })
  if s.mod.rails = true ∧ (millivolts < 36000 ∨ (millivolts < 38000 ∧ 10000 < micros)) then .next s.railsOff else .next s

/-- OVERVOLTAGE (Table HWM-5): above 66 V, or above 63 V for more than 10 ms. -/
def execOvervoltage (millivolts micros : Nat) (s : State) : Out :=
  let s := s.updMod (fun m => { m with inputMv := millivolts })
  if s.mod.rails = true ∧ (66000 < millivolts ∨ (63000 < millivolts ∧ 10000 < micros)) then .next (s.shutDown 3) else .next s

/-- INPUT_APPLIED (R454, R455, Table HWM-5): with the rails off, an input of 40 V or more brings them up; MOD_RESET_N
is low, as the tray holds it, and a latched shutdown is cleared. -/
def execInputApplied (millivolts : Nat) (s : State) : Out :=
  let s := s.updMod (fun m => { m with inputMv := millivolts })
  if s.mod.rails = false ∧ 40000 ≤ millivolts then
    let s := s.moduleReset.updMod (fun m => { m with
      rails := true, pwrgd := true, resetHigh := false, latched := false, faultLow := false, thermtripLow := false })
    .next { s with mgmt := { s.mgmt with powerOns := s.mgmt.powerOns + 1 } }
  else .next s

end Sys2Proof.Machine
end

