-- ==== Sys2Proof/Machine/Gatehouse.lean ====
section
/-! DEFINITION. The Gatehouse (chapter 15): evidence, sealed bundles and keys, SPDM, TDISP and IDE on the host port,
and the keys of hall mode. -/

namespace Sys2Proof.Machine

/-! ### Measurement blocks (R398) -/

/-- The bytes of an ASCII label. -/
def ascii (t : String) : Bytes := t.toList.map (fun c => BitVec.ofNat 8 c.toNat)

/-- The Alias key of this boot (Table GTH-2). -/
def State.aliasNow (s : State) : Nat :=
  Config.aliasKey (s.gatehouse.measures.get 0 1) (s.gatehouse.measures.get 0 2) s.svnGatehouse s.gatehouse.debugUnlocked

/-- HFLAGS of measurement block 7. -/
def State.hflags (s : State) : Nat := b2n Config.engineeringSample + 2 * b2n s.gatehouse.debugUnlocked

/-- Measurement blocks 1 to 9 (Table GTH-4): index, DMTF type and value. -/
def State.measurements (s : State) : List (Nat × Nat × Bytes) :=
  let m (i : Nat) : Bytes := natLE 32 (s.gatehouse.measures.get 0 i)
  [(1, 0, m 1), (2, 1, m 2), (3, 1, m 3), (4, 1, m 4), (5, 1, m 5),
   (6, 7, natLE 4 (s.svn 1) ++ natLE 4 (s.svn 2)),
   (7, 2, natLE 1 Config.stepping ++ natLE 1 s.hflags ++ natLE 1 s.gatehouse.signer ++ natLE 5 0 ++ natLE 8 Config.fuseDigest),
   (8, 5, natLE 1 s.mod.modeBits ++ natLE 7 0 ++ natLE 8 s.mod.anchorDigest),
   (9, 1, natLE 32 s.gatehouse.lodgeReg)]

/-- The TDI_STATE that evidence shows of a plot: none for a self-hosted one. -/
def State.tdiShown (s : State) (p : Nat) : Nat :=
  if (s.plot p).cfg.driver = 0 then 0 else (s.host.vfs.get Vf.init p).tdi + 1

/-- The plot block (Table GTH-6). -/
def State.plotBlock (s : State) (p : Nat) : Bytes :=
  let q := s.plot p
  natLE 1 p ++ natLE 1 q.cfg.driver ++ natLE 1 q.cfg.scrubMode ++
  natLE 1 (b2n q.extmemNeighbour + 2 * b2n q.extmemResidue + 4 * b2n q.binding.isSome) ++
  natLE 1 (s.tdiShown p) ++ natLE 1 q.keys.length ++ natLE 2 0 ++ natLE 8 q.openTick.toNat ++
  natLE 32 (match q.binding with | some b => b.fp | none => 0) ++ natLE 8 q.attestSeq ++ natLE 8 0

/-- A block of evidence. -/
def blockBytes (b : Nat × Nat × Bytes) : Bytes := natLE 1 b.1 ++ natLE 1 b.2.1 ++ natLE 2 b.2.2.length ++ b.2.2

/-! ### ATTEST_GET (R399) -/

/-- The blocks of evidence for an area. -/
def State.evidenceBlocks (s : State) (p : Nat) : List (Nat × Nat × Bytes) :=
  s.measurements ++ (if p = 0 then [] else [(0x10, 3, s.plotBlock p)])

/-- The session key's encapsulation key as evidence carries it. -/
def State.evidenceEk (s : State) (p : Nat) : Bytes :=
  if p = 0 then [] else match (s.plot p).session with | some k => bytesAt k.ek 0 1184 | none => []

/-- Evidence but for its signature (Table GTH-5). -/
def State.evidenceBody (s : State) (p : Nat) (nonce : Bytes) : Bytes :=
  let bs := ((s.evidenceBlocks p).map blockBytes).flatten
  let certs := Config.deviceCert ++ Config.aliasCert s.aliasNow
  let ek := s.evidenceEk p
  natLE 4 0x31564547 ++ natLE 2 1 ++ natLE 1 p ++ natLE 1 (s.evidenceBlocks p).length ++ natLE 4 bs.length ++ natLE 4 certs.length ++
  bytesAt nonce 0 32 ++ natLE 8 s.mod.tick.toNat ++ natLE 2 ek.length ++ natLE 6 0 ++ bs ++ ek ++ certs

/-- Sign a message with the Alias key. -/
def State.signed (s : State) (label : String) (message : Bytes) : Bytes × State :=
  let (random, s) := s.draw 256
  (bytesAt (Config.sign s.aliasNow (ascii label) message random) 0 2420, s)

/-- The session key that an ATTEST_GET leaves: a new one, or the one kept. -/
def State.sessionKey (s : State) (p : Nat) (keep : Bool) (nonce : Bytes) : State :=
  if p = 0 ∨ (keep = true ∧ (s.plot p).session.isSome = true) then s
  else
    let (seed, s) := s.draw 512
    let kp := Config.kemKeyGen seed
    s.updPlot p (fun q => { q with session := some { ek := kp.1, priv := kp.2, nonce := nonce } })

/-- ATTEST_GET. -/
def execAttestGet (plot : Nat) (s : State) : Out :=
  .next (s.serve plot opAttestGet (fun _ => true) (fun r s =>
    let dst := fieldAt r.payload 8 8
    let nonce := bytesAt r.payload 0x10 32
    if (if plot = 0 then dst != 0 else !s.inWindows plot dst 16384) || !s.gatehouse.trngOk then s.refuse plot r stNotPermitted
    else
      let s := s.sessionKey plot (bitOf (fieldAt r.payload 0 1) 0) nonce
      let s := s.updPlot plot (fun q => { q with attestSeq := q.attestSeq + 1 })
      let body := s.evidenceBody plot nonce
      let blocks := (s.evidenceBlocks plot).length
      let (sig, s) := s.signed "YB3-EV" body
      let ev := body ++ sig
      let s := { s with gatehouse := { s.gatehouse with attests := s.gatehouse.attests + 1 } }
      let s := if plot = 0 then s.emit (.mgmtData ev) else (s.updMem (fun m => m.write dst ev)).chargeWrite plot dst ev.length
      s.ok plot r (natLE 4 ev.length ++ natLE 1 blocks ++ natLE 3 0)))

/-! ### KEY_INSTALL (R402 to R407) -/

/-- Count a rejected key or bundle (Table GTH-12) and refuse. -/
def State.rejectKey (s : State) (p : Nat) (r : Req) (status : Nat) : State :=
  { s with gatehouse := { s.gatehouse with unwrapFails := s.gatehouse.unwrapFails + 1 } }.refuse p r status

/-- Whether a wrapped key blob is well formed (Table GTH-8). -/
def blobHolds (b : Bytes) (len : Nat) : Bool :=
  fieldAt b 0 4 == 0x31424B57 && fieldAt b 4 2 == 1 && decide (fieldAt b 6 1 ≤ 1) && zeroAt b 7 1 && zeroAt b 0x3A 2 &&
  (if fieldAt b 6 1 = 0 then fieldAt b 0x38 2 == 1
   else zeroAt b 0x18 32 && decide (1 ≤ fieldAt b 0x38 2) && decide (fieldAt b 0x38 2 ≤ 4096)) &&
  len == 64 + 1180 * fieldAt b 0x38 2

/-- Entry `i` of a blob. -/
def blobEntry (b : Bytes) (i : Nat) : Bytes := bytesAt b (0x40 + 1180 * i) 1180

/-- Unwrap an entry (R403). -/
def unwrapKey (b e : Bytes) (priv plotByte : Nat) : Option Bytes :=
  let ss := Config.kemDecaps priv (bytesAt e 32 1088)
  let kek := Config.shake256 (ascii "YB3-KEK" ++ natLE 32 ss ++ bytesAt b 0 64 ++ natLE 1 plotByte) 32
  Config.gcmOpen kek (fieldAt e 1120 12) (bytesAt b 0 64 ++ bytesAt e 0 32) (bytesAt e 1132 32) (fieldAt e 1164 16)

/-- Place a key in a slot. -/
def State.placeKey (s : State) (p : Nat) (r : Req) (b key : Bytes) : State :=
  let s := s.updPlot p (fun q => { q with
    keys := q.keys.set (fieldAt r.payload 1 1) { keyId := fieldAt b 8 16, key := leNat key } })
  ({ s with gatehouse := { s.gatehouse with keysInstalled := s.gatehouse.keysInstalled + 1 } }).ok p r (bytesAt b 8 16)

/-- INSTALL of a well-formed blob in attested mode. -/
def State.installAttested (s : State) (p : Nat) (r : Req) (b : Bytes) : State :=
  match (s.plot p).session with
  | none => s.refuse p r stAttestRequired
  | some k =>
    let e := blobEntry b 0
    if s.svnGatehouse < fieldAt b 0x3C 4 then s.refuse p r stSvnTooLow
    else if fieldAt e 0 32 ≠ Config.sha3 (bytesAt k.ek 0 1184) ∨ bytesAt b 0x18 32 ≠ k.nonce then s.rejectKey p r stKeyRejected
    else
      match unwrapKey b e k.priv p with
      | none => s.rejectKey p r stKeyRejected
      | some key => s.placeKey p r b key

/-- INSTALL of a well-formed blob in device-set mode (R407). -/
def State.installDeviceSet (s : State) (p : Nat) (r : Req) (b : Bytes) : State :=
  if s.svnGatehouse < fieldAt b 0x3C 4 then s.refuse p r stSvnTooLow
  else
    match ((List.range (fieldAt b 0x38 2)).map (blobEntry b)).find? (fun e => fieldAt e 0 32 == Config.deviceId) with
    | none => s.refuse p r stNotInSet
    | some e =>
      match unwrapKey b e Config.deviceSetKey 0 with
      | none => s.rejectKey p r stKeyRejected
      | some key => s.placeKey p r b key

/-- Serve an operation of KEY_INSTALL; every one needs a slot in range and a sound random source (Table GTH-11). -/
def State.serveKey (s : State) (p op : Nat) (work : Req → State → State) : State :=
  s.serve p opKeyInstall (fun pl => fieldAt pl 0 1 == op) (fun r s =>
    if 63 < fieldAt r.payload 1 1 ∨ s.gatehouse.trngOk = false then s.refuse p r stNotPermitted else work r s)

/-- KEY_INSTALL, OP INSTALL. -/
def execKeyInstall (plot : Nat) (s : State) : Out :=
  .next (s.serveKey plot 0 (fun r s =>
    let a := fieldAt r.payload 8 8
    let n := fieldAt r.payload 0x10 8
    if s.inWindows plot a n = false then s.refuse plot r stNotPermitted
    else if n < 64 ∨ 64 + 1180 * 4096 < n ∨ s.mem.poisonedIn a n = true then s.rejectKey plot r stKeyRejected
    else
      let b := s.mem.readBytes a n
      let s := s.chargeRead plot a n
      if blobHolds b n = false then s.rejectKey plot r stKeyRejected
      else if fieldAt b 6 1 = 0 then s.installAttested plot r b
      else s.installDeviceSet plot r b))

/-- KEY_INSTALL, OP DELETE. -/
def execKeyDelete (plot : Nat) (s : State) : Out :=
  .next (s.serveKey plot 1 (fun r s =>
    (s.updPlot plot (fun q => { q with keys := q.keys.erase (fieldAt r.payload 1 1) })).ok plot r (natLE 16 0)))

/-- Whether two ranges intersect. -/
def overlap (a n b m : Nat) : Bool := decide (a < b + m) && decide (b < a + n)

/-- KEY_INSTALL, OP UNSEAL (R406). -/
def execKeyUnseal (plot : Nat) (s : State) : Out :=
  .next (s.serveKey plot 2 (fun r s =>
    let a := fieldAt r.payload 8 8
    let n := fieldAt r.payload 0x10 8
    let d := fieldAt r.payload 0x18 8
    let hdr := s.mem.readBytes a 64
    let len := fieldAt hdr 0x28 8
    let kind := fieldAt hdr 6 1
    if s.inWindows plot a (max n 64) = false then s.refuse plot r stNotPermitted
    else if s.mem.poisonedIn a 64 = true then s.rejectKey plot r stBadBundle
    else if s.inWindows plot d len = false ∨ overlap a n d len = true ∨ kind = 0 ∨ 2 < kind then s.refuse plot r stNotPermitted
    else
      match (s.plot plot).keys.find (fieldAt r.payload 1 1) with
      | none => s.refuse plot r stAttestRequired
      | some k =>
        if s.svnGatehouse < fieldAt hdr 0x30 4 then s.refuse plot r stSvnTooLow
        else if bundleHolds hdr n 1 2 = false ∨ fieldAt hdr 8 16 ≠ k.keyId then s.rejectKey plot r stBadBundle
        else
          let s := s.chargeRead plot a n
          match s.openBundle k.key a with
          | none => (s.updMem (fun m => m.zero d len)).rejectKey plot r stBadBundle
          | some pt => ((s.updMem (fun m => m.write d (bytesAt pt 0 len))).chargeWrite plot d len).ok plot r (natLE 8 len ++ natLE 8 0)))

/-- The anchor that a buffer holds (R411). -/
def anchorFrom (buffer : Bytes) : Anchor :=
  let x := Config.anchorOf buffer
  { digest := Config.sha3 buffer, issuers := x.1.take 64, minGatehouse := x.2.1, minBothy := x.2.2.1, acceptEs := x.2.2.2 }

/-- KEY_INSTALL, OP HALL_ANCHOR: from the management service's buffer, while no tenant plot is open. -/
def execHallAnchor (buffer : Bytes) (s : State) : Out :=
  .next (s.serveKey 0 3 (fun r s =>
    if fieldAt r.payload 8 8 ≠ 0 ∨ fieldAt r.payload 0x18 8 ≠ 0 ∨ s.tenantOpen = true then s.refuse 0 r stNotPermitted
    else
      let a := anchorFrom buffer
      (s.updMod (fun m => { m with anchor := some a })).ok 0 r ((natLE 32 a.digest).take 16)))

/-! ### SPDM (R397, Table GTH-3). Message codes and error codes are those of DMTF SPDM 1.3. -/

def errInvalidRequest : Nat := 0x01
def errInvalidSession : Nat := 0x02
def errUnexpectedRequest : Nat := 0x04
def errUnspecified : Nat := 0x05
def errDecrypt : Nat := 0x06
def errUnsupportedRequest : Nat := 0x07
def errSessionLimit : Nat := 0x0A
def errLargeResponse : Nat := 0x0F
def errVersionMismatch : Nat := 0x41

/-- A connection on which nothing has been negotiated. -/
def SpdmConn.init : SpdmConn :=
  { versionAsked := false, version := 0, negotiated := false, chunkHandle := 0, chunkNext := 0, chunk := [], responseHandle := 0, response := [] }

/-- The state of a connection. -/
def State.conn (s : State) (c : Nat) : SpdmConn := s.gatehouse.conns.get SpdmConn.init c

/-- Change a connection. -/
def State.updConn (s : State) (c : Nat) (f : SpdmConn → SpdmConn) : State :=
  { s with gatehouse := { s.gatehouse with conns := s.gatehouse.conns.modify SpdmConn.init c f } }

/-- Whether the Gatehouse answers on a connection; the DOE needs the host port's link. -/
def State.spdmUp (s : State) (c : Nat) : Bool := s.gatehouse.bootOk && !s.gatehouse.halted && (c != 0 || s.host.linkTraining)

/-- An ERROR response. -/
def State.spdmError (s : State) (c code : Nat) : State := s.emit (.spdm c 0x7F (natLE 1 code))

/-- A response; one larger than a transfer is kept for CHUNK_GET. -/
def State.spdmSend (s : State) (c code : Nat) (payload : Bytes) : State :=
  if Config.spdmTransfer < payload.length then
    let h := ((s.conn c).responseHandle + 1) % 256
    (s.updConn c (fun x => { x with responseHandle := h, response := natLE 1 code ++ payload })).emit
      (.spdm c 0x7F (natLE 1 errLargeResponse ++ natLE 1 h))
  else s.emit (.spdm c code payload)

/-- Answer a request; while the Gatehouse does not answer, nothing happens. -/
def State.spdm (s : State) (c : Nat) (work : State → State) : Out := if s.spdmUp c then .next (work s) else .next s

/-- Answer a request that needs the negotiation behind it. -/
def State.spdmReady (s : State) (c : Nat) (work : State → State) : Out :=
  s.spdm c (fun s => if (s.conn c).negotiated then work s else s.spdmError c errUnexpectedRequest)

/-- GET_VERSION: the connection starts anew; versions 1.2 and 1.3. -/
def execGetVersion (conn : Nat) (s : State) : Out :=
  s.spdm conn (fun s =>
    (s.updConn conn (fun _ => { SpdmConn.init with versionAsked := true })).spdmSend conn 0x04 (natLE 1 0 ++ natLE 1 2 ++ natLE 2 0x1200 ++ natLE 2 0x1300))

/-- The capability flags of Table GTH-3 in their SPDM places: CERT, CHAL, MEAS with signature, MEAS_FRESH, ENCRYPT, MAC,
KEY_EX, HBEAT, KEY_UPD, ALIAS_CERT and CHUNK. -/
def spdmCaps : Nat := 2 ^ 1 + 2 ^ 2 + 2 * 2 ^ 3 + 2 ^ 5 + 2 ^ 6 + 2 ^ 7 + 2 ^ 9 + 2 ^ 13 + 2 ^ 14 + 2 ^ 16 + 2 ^ 17

/-- GET_CAPABILITIES. -/
def execGetCapabilities (conn version : Nat) (s : State) : Out :=
  s.spdm conn (fun s =>
    if (s.conn conn).versionAsked = false then s.spdmError conn errUnexpectedRequest
    else if version ≠ 0x12 ∧ version ≠ 0x13 then s.spdmError conn errVersionMismatch
    else (s.updConn conn (fun x => { x with version := version })).spdmSend conn 0x61 (natLE 4 spdmCaps ++ natLE 4 Config.spdmTransfer))

/-- NEGOTIATE_ALGORITHMS: `supported` is whether the request offers every algorithm of Table GTH-3. -/
def execNegotiateAlgorithms (conn : Nat) (supported : Bool) (s : State) : Out :=
  s.spdm conn (fun s =>
    if (s.conn conn).version = 0 then s.spdmError conn errUnexpectedRequest
    else if supported = false then s.spdmError conn errInvalidRequest
    else (s.updConn conn (fun x => { x with negotiated := true })).spdmSend conn 0x63 (natLE 2 1 ++ natLE 2 2))

/-- The certificate chain of slot 0 (Table GTH-3), in the protocol's own form: its length, the root's digest, and the
certificates. -/
def State.certChain (s : State) : Bytes :=
  let certs := Config.rootCerts ++ Config.deviceCert ++ Config.aliasCert s.aliasNow
  natLE 4 (36 + certs.length) ++ shaBytes Config.rootCerts ++ certs

/-- GET_DIGESTS: slot 0 alone is provisioned. -/
def execGetDigests (conn : Nat) (s : State) : Out :=
  s.spdmReady conn (fun s => s.spdmSend conn 0x01 (natLE 1 1 ++ shaBytes s.certChain))

/-- GET_CERTIFICATE: a portion of the chain and how much remains. -/
def execGetCertificate (conn slot offset length : Nat) (s : State) : Out :=
  s.spdmReady conn (fun s =>
    if slot ≠ 0 ∨ s.certChain.length ≤ offset then s.spdmError conn errInvalidRequest
    else
      let part := (s.certChain.drop offset).take length
      s.spdmSend conn 0x02 (natLE 2 part.length ++ natLE 2 (s.certChain.length - offset - part.length) ++ part))

/-- CHALLENGE: a signature of the Alias key over both nonces and the chain's digest. -/
def execChallenge (conn slot : Nat) (nonce : Bytes) (s : State) : Out :=
  s.spdmReady conn (fun s =>
    if slot ≠ 0 then s.spdmError conn errInvalidRequest
    else if s.gatehouse.trngOk = false then s.spdmError conn errUnspecified
    else
      let (own, s) := s.drawBytes 32
      let body := shaBytes s.certChain ++ own
      let (sig, s) := s.signed "spdm-challenge" (nonce ++ body)
      s.spdmSend conn 0x03 (body ++ sig))

/-- The blocks that an index of GET_MEASUREMENTS asks for (R398). -/
def State.measuredAt (s : State) (index : Nat) : List (Nat × Nat × Bytes) :=
  s.measurements.filter (fun b => index == 0xFF || b.1 == index)

/-- GET_MEASUREMENTS: index 0 asks how many there are; 1 to 9 one; 0xFF all. -/
def execGetMeasurements (conn index : Nat) (signed : Bool) (nonce : Bytes) (s : State) : Out :=
  s.spdmReady conn (fun s =>
    if 9 < index ∧ index ≠ 0xFF then s.spdmError conn errInvalidRequest
    else if signed = true ∧ s.gatehouse.trngOk = false then s.spdmError conn errUnspecified
    else
      let bs := s.measuredAt index
      let body := (if index = 0 then natLE 1 9 else natLE 1 bs.length) ++ (bs.map blockBytes).flatten
      if signed = true then
        let (own, s) := s.drawBytes 32
        let (sig, s) := s.signed "spdm-measurements" (nonce ++ body ++ own)
        s.spdmSend conn 0x60 (body ++ own ++ sig)
      else s.spdmSend conn 0x60 body)

/-! ### Secure sessions -/

/-- The session of an identifier. -/
def State.session (s : State) (id : Nat) : Option SpdmSession := s.gatehouse.sessions.find? (fun x => x.id == id)

/-- Change the sessions. -/
def State.updSessions (s : State) (f : List SpdmSession → List SpdmSession) : State :=
  { s with gatehouse := { s.gatehouse with sessions := f s.gatehouse.sessions } }

/-- KEY_EXCHANGE: up to four sessions at once, on the DOE only. -/
def execKeyExchange (conn : Nat) (ek : Bytes) (s : State) : Out :=
  s.spdmReady conn (fun s =>
    if conn ≠ 0 then s.spdmError conn errUnsupportedRequest
    else if s.gatehouse.trngOk = false then s.spdmError conn errUnspecified
    else
      match (List.range 4).find? (fun i => (s.session (i + 1)).isNone) with
      | none => s.spdmError conn errSessionLimit
      | some i =>
        let (seed, s) := s.draw 256
        let e := Config.kemEncaps ek seed
        let (own, s) := s.drawBytes 32
        let s := s.updSessions (fun l => l ++ [{ id := i + 1, finished := false, secret := e.2, keyGen := 0, lastBeat := s.now }])
        let body := natLE 2 (i + 1) ++ own ++ e.1
        let (sig, s) := s.signed "spdm-key-exchange" (ek ++ body)
        s.spdmSend conn 0x64 (body ++ sig))

/-- Answer a request that runs inside a finished session. -/
def State.inSession (s : State) (conn id : Nat) (work : SpdmSession → State → State) : Out :=
  s.spdmReady conn (fun s =>
    match s.session id with
    | none => s.spdmError conn errInvalidSession
    | some x => if conn ≠ 0 ∨ x.finished = false then s.spdmError conn errUnexpectedRequest else work x s)

/-- FINISH: the session stands when the requester's record verifies, and goes when it does not. -/
def execFinish (conn session : Nat) (verifyOk : Bool) (s : State) : Out :=
  s.spdmReady conn (fun s =>
    match s.session session with
    | none => s.spdmError conn errInvalidSession
    | some x =>
      if conn ≠ 0 ∨ x.finished = true then s.spdmError conn errUnexpectedRequest
      else if verifyOk = true then
        (s.updSessions (fun l => l.map (fun y => if y.id = session then { y with finished := true, lastBeat := s.now } else y))).spdmSend
          conn 0x65 []
      else (s.updSessions (fun l => l.filter (fun y => y.id != session))).spdmError conn errDecrypt)

/-- HEARTBEAT. -/
def execSpdmHeartbeat (conn session : Nat) (s : State) : Out :=
  s.inSession conn session (fun _ s =>
    (s.updSessions (fun l => l.map (fun y => if y.id = session then { y with lastBeat := s.now } else y))).spdmSend conn 0x68 [])

/-- KEY_UPDATE. -/
def execKeyUpdate (conn session : Nat) (s : State) : Out :=
  s.inSession conn session (fun _ s =>
    (s.updSessions (fun l => l.map (fun y => if y.id = session then { y with keyGen := y.keyGen + 1 } else y))).spdmSend conn 0x69 [])

/-- END_SESSION. -/
def execEndSession (conn session : Nat) (s : State) : Out :=
  s.inSession conn session (fun _ s => (s.updSessions (fun l => l.filter (fun y => y.id != session))).spdmSend conn 0x6C [])

/-- Change a virtual function. -/
def State.updVf (s : State) (fn : Nat) (f : Vf → Vf) : State := { s with host := { s.host with vfs := s.host.vfs.modify Vf.init fn f } }

/-- Whether an IDE stream may serve a virtual function (R408): up to 16 streams, each of one function. -/
def State.streamFree (s : State) (fn stream : Nat) : Bool :=
  decide (1 ≤ fn) && (s.host.vfs.get Vf.init fn).enabled && decide (stream < 16) &&
  s.host.vfs.all (fun e => e.1 == fn || e.2.stream != some stream)

/-- IDE_KM (R408): program a key set of a selective stream; another stream's key sets go. -/
def execIdeKm (session fn stream keySet key : Nat) (s : State) : Out :=
  s.inSession 0 session (fun _ s =>
    if s.streamFree fn stream = false ∨ 1 < keySet then s.spdmError 0 errInvalidRequest
    else
      (s.updVf fn (fun v => { v with
        stream := some stream, ideKeys := NMap.set (if v.stream = some stream then v.ideKeys else []) keySet key })).spdmSend 0 0x7E
          (natLE 1 stream ++ natLE 1 keySet))

/-- CHUNK_SEND: the chunks of a request in order; chunk 0 starts one. -/
def execChunkSend (conn handle seqNo : Nat) (last : Bool) (data : Bytes) (s : State) : Out :=
  s.spdmReady conn (fun s =>
    let x := s.conn conn
    if seqNo = 0 ∨ (handle = x.chunkHandle ∧ seqNo = x.chunkNext ∧ x.chunkNext ≠ 0) then
      (s.updConn conn (fun y => { y with
        chunkHandle := handle, chunkNext := if last then 0 else seqNo + 1, chunk := (if seqNo = 0 then [] else y.chunk) ++ data })).spdmSend
          conn 0x05 (natLE 1 handle ++ natLE 2 seqNo)
    else (s.updConn conn (fun y => { y with chunkNext := 0, chunk := [] })).spdmError conn errInvalidRequest)

/-- CHUNK_GET: a chunk of the large response; the last one ends it. -/
def execChunkGet (conn handle seqNo : Nat) (s : State) : Out :=
  s.spdmReady conn (fun s =>
    let x := s.conn conn
    let from_ := seqNo * Config.spdmTransfer
    if x.response.isEmpty ∨ handle ≠ x.responseHandle ∨ x.response.length ≤ from_ then s.spdmError conn errInvalidRequest
    else
      let last := decide (x.response.length ≤ from_ + Config.spdmTransfer)
      (if last then s.updConn conn (fun y => { y with response := [] }) else s).emit
        (.spdm conn 0x06 (natLE 1 handle ++ natLE 2 seqNo ++ natLE 1 (b2n last) ++ (x.response.drop from_).take Config.spdmTransfer)))

/-! ### TDISP (R409, R410, Table GTH-10). Message codes are those of PCIe TDISP. -/

/-- TDISP states. -/
def tdiUnlocked : Nat := 0
def tdiLocked : Nat := 1
def tdiError : Nat := 3

/-- A TDISP error response. -/
def State.tdispError (s : State) (fn : Nat) : State := s.emit (.tdisp fn 0x7F [])

/-- Answer a TDISP request of an enabled virtual function inside a secure session. -/
def State.tdisp (s : State) (fn : Nat) (work : Vf → State → State) : Out :=
  if s.spdmUp 0 then
    let v := s.host.vfs.get Vf.init fn
    if fn = 0 ∨ v.enabled = false ∨ s.gatehouse.sessions.any (·.finished) = false then .next (s.tdispError fn) else .next (work v s)
  else .next s

/-- GET_TDISP_VERSION: version 1.0. -/
def execGetTdispVersion (fn : Nat) (s : State) : Out := s.tdisp fn (fun _ s => s.emit (.tdisp fn 1 (natLE 1 1 ++ natLE 1 0x10)))

/-- GET_TDISP_CAPABILITIES: the requests supported, one bit for each message code 1 to 7. -/
def execGetTdispCapabilities (fn : Nat) (s : State) : Out := s.tdisp fn (fun _ s => s.emit (.tdisp fn 2 (natLE 16 0xFE)))

/-- LOCK_INTERFACE_REQUEST: from CONFIG_UNLOCKED, with an IDE stream. -/
def execLockInterfaceRequest (fn : Nat) (s : State) : Out :=
  s.tdisp fn (fun v s =>
    if v.tdi = tdiUnlocked ∧ v.stream.isSome = true then (s.updVf fn (fun v => { v with tdi := tdiLocked })).emit (.tdisp fn 3 [])
    else s.tdispError fn)

/-- The interface report (R409): one MMIO range, BAR0 of 64 KiB in 4 KiB pages, protected; no ATS. -/
def tdispReport : Bytes := natLE 2 0 ++ natLE 4 1 ++ natLE 8 0 ++ natLE 4 16 ++ natLE 4 0

/-- GET_DEVICE_INTERFACE_REPORT: in CONFIG_LOCKED and RUN. -/
def execGetDeviceInterfaceReport (fn : Nat) (s : State) : Out :=
  s.tdisp fn (fun v s => if v.tdi = tdiLocked ∨ v.tdi = tdiRun then s.emit (.tdisp fn 4 tdispReport) else s.tdispError fn)

/-- GET_DEVICE_INTERFACE_STATE. -/
def execGetDeviceInterfaceState (fn : Nat) (s : State) : Out := s.tdisp fn (fun v s => s.emit (.tdisp fn 5 (natLE 1 v.tdi)))

/-- START_INTERFACE_REQUEST: only while the plot is OPEN with DRIVER 2. -/
def execStartInterfaceRequest (fn : Nat) (s : State) : Out :=
  s.tdisp fn (fun v s =>
    if v.tdi = tdiLocked ∧ s.isOpen fn = true ∧ (s.plot fn).cfg.driver = 2 then
      (s.updVf fn (fun v => { v with tdi := tdiRun })).emit (.tdisp fn 6 [])
    else s.tdispError fn)

/-- Close the plot of a function as a function-level reset does (R333), and leave the function in a state. -/
def State.endTdi (s : State) (fn state : Nat) : State :=
  let s := if (s.plot fn).cfg.driver ≠ 0 then (s.startClose fn).finishClose fn else s
  s.updVf fn (fun v => { v with tdi := state })

/-- STOP_INTERFACE_REQUEST. -/
def execStopInterfaceRequest (fn : Nat) (s : State) : Out :=
  s.tdisp fn (fun v s => (if v.tdi = tdiUnlocked then s else s.endTdi fn tdiUnlocked).emit (.tdisp fn 7 []))

/-- IDE_INTEGRITY_FAILURE, or a change of BAR or MSI-X configuration while the function is locked. -/
def execIdeIntegrityFailure (fn : Nat) (s : State) : Out :=
  let t := (s.host.vfs.get Vf.init fn).tdi
  if t = tdiLocked ∨ t = tdiRun then .next (s.endTdi fn tdiError) else .next s

/-! ### The pair exchange (R412) -/

/-- The entry of a peer. -/
def State.peer (s : State) (fabric : Nat) : Option Peer := s.gatehouse.peers.find? (fun e => e.fabricId == fabric)

/-- Remove the entry of a peer. -/
def State.dropPeer (s : State) (fabric : Nat) : State :=
  { s with gatehouse := { s.gatehouse with peers := s.gatehouse.peers.filter (fun e => e.fabricId != fabric) } }

/-- Whether a peer's OFFER passes the anchor's checks. -/
def Anchor.accepts (a : Anchor) (k : Keyx) : Bool :=
  k.anchorDigest == a.digest && k.chainOk && a.issuers.contains k.issuer && decide (a.minGatehouse ≤ k.svnGatehouse) &&
  decide (a.minBothy ≤ k.svnBothy) && !k.debugUnlocked && (!k.engineeringSample || a.acceptEs)

/-- A KEYX frame of this module. -/
def State.keyxFrame (s : State) (form : KeyxForm) : Keyx :=
  { form := form, anchorDigest := s.mod.anchorDigest, fabricId := s.fabric, issuer := Config.issuer, chainOk := true, svnGatehouse := s.svn 1,
    svnBothy := s.svn 2, debugUnlocked := s.gatehouse.debugUnlocked, engineeringSample := Config.engineeringSample, ek := [], nonce := [],
    ct := [], sigOk := true, portKeys := [], acks := [] }

/-- What waits for a peer's pair keys fails with ST_ATTEST_REQUIRED: joins, partnerships and copies. -/
def State.failWaiting (s : State) (fabric : Nat) : State :=
  tenantPlots.foldl (fun t p =>
    let joins := ((t.plot p).groups.filter (fun g => g.state == groupForming && g.joinSlot.isSome &&
      (g.neighbours t.fabric).contains fabric)).map (·.handle)
    let t := joins.foldl (fun u h => u.failJoin p h stAttestRequired) t
    let parts := ((t.plot p).partners.filter (fun e => !e.2.formed && e.2.peer == fabric)).map (·.2)
    let t := parts.foldl (fun u x => u.failPartner p x stAttestRequired) t
    let fills := (t.plot p).fills.filter (fun x => x.sources.head? == some fabric)
    fills.foldl (fun u x => if x.slot.isSome then u.endFill p x stAttestRequired else u.switchFill p x) t) s

/-- A failed check ends the exchange and sets PAIR_FAIL. -/
def State.pairFails (s : State) (fabric : Nat) : State :=
  ({ s with gatehouse := { s.gatehouse with err := setFlag s.gatehouse.err 3 } }.dropPeer fabric).failWaiting fabric

/-- What waits for a peer's pair keys goes on: joins and recompactions settle, and copies are asked for. -/
def State.goOn (s : State) (fabric : Nat) : State :=
  tenantPlots.foldl (fun t p =>
    let gs := ((t.plot p).groups.filter (fun g => (g.neighbours t.fabric).contains fabric)).map (·.handle)
    let t := gs.foldl (fun u h => u.settleGroup p h) t
    let fills := (t.plot p).fills.filter (fun x => x.sources.head? == some fabric && x.frames.isNone)
    fills.foldl (fun u x =>
      match (u.plot p).plans.find x.plan with
      | none => u
      | some pl =>
        let g := (u.plot p).fillGroup pl
        if x.use < 2 then u.askFill p x
        else if x.use = 2 then u.sendControl fabric (blankFrame u.fabric) (.handoverAsk g.1 g.2 x.ports)
        else
          u.sendControl fabric (blankFrame u.fabric)
            (.restoreAsk g.2 (match x.slot.bind (u.heldIn p) with | some r => fieldAt r.payload 2 1 | none => 0xFF))) t) s

/-- Step 2: the peer's OFFER. One that passes is answered by an ACCEPT, after this side's own OFFER. -/
def State.takeOffer (s : State) (port : Nat) (k : Keyx) : State :=
  let ok := match s.mod.anchor with | some a => a.accepts k | none => false
  if !ok then s.pairFails k.fabricId
  else
    let old := (s.peer k.fabricId).getD (Peer.fresh k.fabricId)
    let s := if old.done then (s.dropPeer k.fabricId).updPeer { Peer.fresh k.fabricId with used := old.used } else s
    let s := s.sendOffer k.fabricId
    match s.peer k.fabricId with
    | none => s
    | some e =>
      let (seed, s) := s.draw 256
      let c := Config.kemEncaps k.ek seed
      (s.updPeer { e with peerOffer := offerBytes k.anchorDigest k.fabricId k.ek k.nonce, ssOwn := c.2 }).sendOn port k.fabricId (blankFrame s.fabric)
        (.keyx { s.keyxFrame .accept with ct := c.1 })

/-- The pair key (R412): the secrets in the order of the FABRIC_IDs, and the digest of the transcript. -/
def pairKeyOf (low high : Nat) (transcript : Bytes) : Nat :=
  Config.shake256 (ascii "YB3-HALL" ++ natLE 32 low ++ natLE 32 high ++ shaBytes transcript) 32

/-- The twelve current port keys: port, epoch, key and salt. -/
def State.currentKeys (s : State) : List (Nat × Nat × Nat × Nat) :=
  (List.range 12).filterMap (fun i => (s.port i).txKey.map (fun k => (i, k.2.2, k.1, k.2.1)))

/-- Step 3: the peer's ACCEPT. -/
def State.takeAccept (s : State) (port : Nat) (k : Keyx) : State :=
  match s.peer k.fabricId with
  | none => s
  | some e =>
    if e.done || !e.offered || e.peerOffer.isEmpty then s
    else if !k.sigOk then s.pairFails k.fabricId
    else
      let ss := Config.kemDecaps e.ownSecret k.ct
      let mine := decide (s.fabric < k.fabricId)
      let transcript := if mine then e.ownOffer ++ e.peerOffer else e.peerOffer ++ e.ownOffer
      let key := if mine then pairKeyOf e.ssOwn ss transcript else pairKeyOf ss e.ssOwn transcript
      let s := (s.updPeer { e with done := true, pairKey := key }).renewPeers
      (s.sendOn port k.fabricId (blankFrame s.fabric) (.keyx { s.keyxFrame .keys with portKeys := s.currentKeys })).goOn k.fabricId

/-! ### Rekeying (R413) -/

/-- Keep a peer's port key: a receiver keeps the newest epoch of each port and the one before it. -/
def keepKey (l : List (Nat × Nat × Nat × Nat)) (k : Nat × Nat × Nat × Nat) : List (Nat × Nat × Nat × Nat) :=
  let same := l.filter (fun x => x.1 == k.1 && x.2.1 != k.2.1)
  l.filter (fun x => x.1 != k.1) ++ same.drop (same.length - 1) ++ [k]

/-- Switch a port to its new key once no peer is left to acknowledge it. -/
def State.switchKey (s : State) (port : Nat) : State :=
  let t := s.port port
  if t.newKey.isSome && t.rekeyWaits.isEmpty then
    s.updPort port (fun t => { t with txKey := t.newKey, newKey := none, keyFrames := 0, keyTick := s.now })
  else s

/-- Port keys from a peer are kept and acknowledged; a peer's acknowledgements let this module's ports switch. -/
def State.takeKeys (s : State) (port : Nat) (k : Keyx) : State :=
  match s.peer k.fabricId with
  | none => s
  | some e =>
    if !e.done then s
    else
      let s := s.updPeer { e with portKeys := k.portKeys.foldl keepKey e.portKeys }
      let s := if k.portKeys.isEmpty then s
        else s.sendOn port k.fabricId (blankFrame s.fabric) (.keyx { s.keyxFrame .keys with acks := k.portKeys.map (fun x => (x.1, x.2.1)) })
      k.acks.foldl (fun t a =>
        match (t.port a.1).newKey with
        | some n =>
          if n.2.2 = a.2 then (t.updPort a.1 (fun q => { q with rekeyWaits := q.rekeyWaits.filter (· != k.fabricId) })).switchKey a.1
          else t
        | none => t) s

/-- KEYX: a frame of a pair exchange, in hall mode. -/
def execKeyx (l : Link) (k : Keyx) (s : State) : Out :=
  if s.mod.hall = false ∨ s.gatehouse.halted = true ∨ s.gatehouse.trngOk = false ∨ k.fabricId = s.fabric then .next s
  else
    .next (s.hearControl l true true (fun s =>
      let s := s.renewPeers
      match k.form with
      | .offer => s.takeOffer l.port k
      | .accept => s.takeAccept l.port k
      | .keys => s.takeKeys l.port k))

/-- Ticks of 3,600 s. -/
def rekeyTicks : Nat := 360000000000

/-- The next KEY_EPOCH: it skips 0 after 255. -/
def nextEpoch (e : Nat) : Nat := if 255 ≤ e then 1 else e + 1

/-- Send a new key of a port to a peer. -/
def State.sendKey (s : State) (port fabric : Nat) (k : Nat × Nat × Nat) : State :=
  s.sendControl fabric (blankFrame s.fabric) (.keyx { s.keyxFrame .keys with portKeys := [(port, k.2.2, k.1, k.2.1)] })

/-- REKEY: after 2^36 frames or 3,600 s. -/
def execRekey (port : Nat) (s : State) : Out :=
  let t := s.port port
  match t.txKey with
  | none => .next s
  | some old =>
    if s.mod.hall = true ∧ t.linkUp = true ∧ t.newKey = none ∧ s.gatehouse.trngOk = true ∧ s.gatehouse.halted = false ∧
        (2 ^ 36 ≤ t.keyFrames ∨ t.keyTick + rekeyTicks ≤ s.now) then
      let s := s.renewPeers
      let (key, s) := s.draw 256
      let (salt, s) := s.draw 32
      let n := (key, salt, nextEpoch old.2.2)
      let ps := (s.gatehouse.peers.filter (·.done)).map (·.fabricId)
      let s := s.updPort port (fun t => { t with newKey := some n, rekeyWaits := ps, rekeyTick := s.now })
      .next ((ps.foldl (fun u f => u.sendKey port f n) s).switchKey port)
    else .next s

/-- REKEY_TIMEOUT: a peer that has not acknowledged within 250 ms loses its copy of the keys and must exchange again. -/
def execRekeyTimeout (port fabricId : Nat) (s : State) : Out :=
  let t := s.port port
  if t.newKey.isSome = true ∧ t.rekeyWaits.contains fabricId = true ∧ t.rekeyTick + leaseTicks ≤ s.now then
    .next (((s.updPort port (fun t => { t with rekeyWaits := t.rekeyWaits.filter (· != fabricId) })).dropPeer fabricId).switchKey port)
  else .next s

end Sys2Proof.Machine
end

