-- ==== Sys2Proof/Machine/RegMap.lean ====
section
/-! DEFINITION. The register space (R157, Table MEM-2): what every register of the module reads as, at its address. -/

namespace Sys2Proof.Machine

/-! ### Fused values (R86, R87, R90) -/

/-- The least values of a list, each once, rising, at most a number of them. -/
def leastFew (n bound : Nat) (l : List Nat) : List Nat :=
  (sortBy (fun a b => decide (a < b)) ((l.filter (fun x => decide (x < bound))).eraseDups)).take n

/-- The bypassed physical rows and columns of a Pavilion: at most 4 of 132, and 2 of 130. -/
def bypassedRows (pav : Nat) : List Nat := leastFew 4 132 (Config.fusedRows pav)
def bypassedColumns (pav : Nat) : List Nat := leastFew 2 130 (Config.fusedColumns pav)

/-- The extra cycles that bypassed rows or columns, rising, cost a logical index: ρ and γ of Table PAR-2. -/
def extraOf : List Nat → Nat → Nat
  | [], _ => 0
  | b :: l, i => if b ≤ i then 1 + extraOf l (i + 1) else 0

/-- PRT_SPARE_MAP (Table PAR-10). -/
def spareMap (pav : Nat) : Nat :=
  let r := bypassedRows pav
  let c := bypassedColumns pav
  leNat ((List.range 4).map (fun i => BitVec.ofNat 8 (r.getD i 0xFF)) ++ (List.range 2).map (fun i => BitVec.ofNat 8 (c.getD i 0xFF))) +
  2 ^ 48 * extraOf r 127 + 2 ^ 52 * extraOf c 127

/-- PRT_LATENCY: the fill of a whole-array pass with c = 1 (R87). -/
def passFill (pav : Nat) : Nat := 256 + extraOf (bypassedRows pav) 127 + extraOf (bypassedColumns pav) 127

/-- The two disabled sites of a Terrace, the lower first. -/
def disabledSites (terrace : Nat) : Nat × Nat :=
  let a := Config.fusedSite terrace 0 % 65
  (a, a + 1 + Config.fusedSite terrace 1 % (65 - a))

/-- PAV_ID (Table PAV-16): logical Pavilions take the sites that are not disabled in ascending order. -/
def pavId (pav : Nat) : Nat :=
  let t := pav / 64
  let d := disabledSites t
  let site := pav % 64 + extraOf [d.1, d.2] (pav % 64)
  pav + 2 ^ 7 * t + 2 ^ 8 * site + 2 ^ 16 * d.1 + 2 ^ 24 * d.2

/-! ### Status words -/

/-- PRT_STATUS (Table PAR-11). -/
def State.prtStatus (s : State) (pav : Nat) : Nat :=
  let q := (s.pav pav).par
  b2n q.busy + 2 * b2n (q.busy && Config.frozenNow pav s.now) + 4 * b2n q.shadowValid + 8 * b2n q.activeValid + 2 ^ 4 * (q.shape % 4) +
  2 ^ 6 * (q.lanes % 4) + 2 ^ 8 * (q.cls % 4) + 2 ^ 16 * (q.owner % 32)

/-- Whether a Pavilion is idle: its queues are empty and its units gated. DEDUCED: PAV_STATUS reads 0 until bring-up has
applied the modes, as Table PAV-15 gives its reset value. -/
def State.pavIdle (s : State) (pav : Nat) : Bool :=
  let v := s.pav pav
  s.mod.modesApplied && v.array.isEmpty && v.rill.isEmpty && v.move.isEmpty && !v.par.busy && !v.rillBusy

/-- PAV_STATUS (Table PAV-17). -/
def State.pavStatus (s : State) (pav : Nat) : Nat :=
  let v := s.pav pav
  v.array.length % 2 ^ 7 + 2 ^ 7 * (v.rill.length % 2 ^ 6) + 2 ^ 13 * (v.move.length % 2 ^ 6) + 2 ^ 19 * b2n v.switchPending +
  2 ^ 20 * b2n (s.pavIdle pav) + 2 ^ 21 * (v.context % 32)

/-- PAV_CLOCK (Table PAV-18). -/
def State.pavClock (s : State) (i : Nat) : Nat :=
  let v := s.pav i
  s.clockStep i + 16 * b2n s.steadyNow + 32 * b2n v.droop + 64 * b2n s.mod.limiter + 2 ^ 16 * (v.hotspot % 256)

/-- RIL_STATUS (Table PAV-21). -/
def State.rilStatus (s : State) (pav : Nat) : Nat :=
  let v := s.pav pav
  b2n v.rillBusy + 2 * b2n v.rillHist + 4 * b2n v.rillStoch +
  2 ^ 16 * (if v.rillBusy then (match v.rill with | d :: _ => d.plot % 32 | [] => 0) else 0)

/-- The tiles between phases 1 and 7 over the groups that an engine serves: a Terrace's engine those of its Pavilions, a
port's engine those of groups with a neighbour routed over the port (Table CSC-12). -/
def State.inFlight (s : State) (engine : Nat) : Nat :=
  (tenantPlots.map (fun p =>
    let q := s.plot p
    let serves (st : Step) : Bool := match q.plans.find st.plan with
      | some pl => pl.header.groups.any (fun id => (s.servedBy p engine).any (fun h => q.groups.any (fun g => g.handle == h && g.groupId == id)))
      | none => false
    ((q.running.filter serves).map (fun st => (st.tiles.filter (fun t =>
      decide (1 ≤ t.phase) && decide (t.phase < 7) && (decide (2 ≤ engine) || t.pav / 64 == engine))).length)).sum)).sum

/-- CSC_STATUS (Table CSC-12). -/
def State.cscStatus (s : State) (engine : Nat) : Nat :=
  s.inFlight engine % 2 ^ 11 + 2 ^ 11 * b2n (s.engine engine).fenced +
  2 ^ 12 * ((tenantPlots.map (fun p => (s.servedBy p engine).length)).sum % 2 ^ 7)

/-- AVN_LINK (Table CSC-15). -/
def State.avnLink (s : State) (port : Nat) : Nat :=
  let t := s.port port
  b2n t.linkUp + 2 * b2n (s.mod.hall && s.mod.modesApplied) + 4 * b2n t.peerValid + 8 * b2n t.faulty + 16 * (t.lanesUp % 16)

/-- ORG_STATUS (Table ORG-13). -/
def State.orgStatus (s : State) : Nat :=
  let count (f : Plot → Adapter → Bool) : Nat :=
    (tenantPlots.map (fun p => ((s.plot p).adapters.filter (fun e => f (s.plot p) e.2)).length)).sum
  count (fun _ a => a.residency == .resident) % 2 ^ 14 + 2 ^ 14 * (count (fun q a => q.locked a.handle) % 2 ^ 14) +
  2 ^ 28 * ((tenantPlots.filter (fun p => (s.plot p).binding.isSome)).length % 32) + 2 ^ 33 * b2n s.orangery.fpValid

/-- Word `k` of ORG_BASE_FP0 to ORG_BASE_FP3. -/
def State.orgFp (s : State) (k : Nat) : Nat := s.orangery.fp / 2 ^ (64 * k) % 2 ^ 64

/-- TRL_STATUS (Table TRL-18). -/
def State.trlStatus (s : State) : Nat :=
  (tenantPlots.map (fun p => ((s.plot p).seqs.filter (fun e => e.2.state != 0)).length)).sum % 2 ^ 21 +
  2 ^ 21 * b2n (tenantPlots.any (fun p => !(s.plot p).buildings.isEmpty)) +
  2 ^ 22 * b2n (!s.trellis.appending.isEmpty)

/-- BTH_STATUS (Table BTH-19). -/
def State.bthStatus (s : State) : Nat := b2n s.bothy.ready + 2 * b2n s.bothy.paused + 4 * (s.bothy.pairsUp % 16)

/-- GTH_STATUS (Table GTH-13). -/
def State.gthStatus (s : State) : Nat :=
  let g := s.gatehouse
  b2n g.bootOk + 2 * b2n g.udsLocked + 4 * b2n Config.engineeringSample + 8 * b2n g.debugUnlocked + 16 * (g.signer % 4) +
  64 * b2n g.trngOk + 128 * b2n s.mod.anchor.isSome

/-- GTH_SVN. -/
def State.gthSvn (s : State) : Nat := s.mgmt.fuseGatehouse % 2 ^ 32 + 2 ^ 32 * (s.mgmt.fuseBothy % 2 ^ 32)

/-- GTH_PEERS (Table GTH-12). -/
def State.gthPeers (s : State) : Nat :=
  (s.gatehouse.peers.filter (fun e => e.done && (!e.used || s.holdsWith e.fabricId))).length

/-- MOD_ID (Table ARC-8). -/
def modId : Nat := Config.stepping % 256 + 256 * b2n Config.engineeringSample

/-- MOD_LADDER_UPPER (Table ERR-8). -/
def Mod.ladderUpper (m : Mod) : Nat := m.ladderTerrace + 2 ^ 16 * m.ladderHeartbeat + 2 ^ 32 * m.ladderGatehouse

/-- MOD_RETIRED (Table MEM-9). -/
def Mem.retiredWord (m : Mem) : Nat :=
  let l := m.retired ++ m.retiredVolatile
  (l.filter (fun g => g.1 != 3)).length + 2 ^ 32 * (l.filter (fun g => g.1 == 3)).length

/-- MOD_PATROL_CFG (Table MEM-11). -/
def Mem.patrolWord (m : Mem) : Nat := m.patrolHours % 256 + 2 ^ 16 * b2n m.patrolEnable

/-- MOD_HBM_TEMP_s (Table MEM-9). -/
def Mem.tempWord (m : Mem) (stack : Nat) : Nat := m.stackTemp.get 0 stack % 256 + 256 * b2n (m.refresh2x.contains stack)

/-- BTH_MB_STATUS (Table BTH-4). -/
def State.mbStatus (s : State) (p : Nat) : Nat :=
  let q := s.plot p
  q.state % 4 + 4 * b2n q.mail.stepHeld + 8 * b2n q.mail.ringFault + 16 * b2n q.mail.msiTarget

/-! ### Blocks -/

/-- Word `i` of a list of registers that stand one after another. -/
def wordOf (l : List Nat) (off : Nat) : Nat := if off % 8 = 0 then l.getD (off / 8) 0 else 0

/-- The PRT_, PAV_ and RIL_ registers of a Pavilion (Tables PAR-9, PAV-15, PAV-20), in offset order. -/
def State.prtRegs (s : State) (i : Nat) : List Nat :=
  let v := s.pav i
  [spareMap i, passFill i, s.prtStatus i, v.ctr.slots.toNat, v.ctr.bubbles.toNat, v.ctr.freezeFeed.toNat, v.ctr.freezeDrain.toNat,
   v.ctr.laneFaults.toNat, v.par.err.toNat]
def State.pavRegs (s : State) (i : Nat) : List Nat :=
  let v := s.pav i
  [pavId i, s.pavStatus i, s.pavClock i, v.ctr.descRetired.toNat, v.ctr.lsConflicts.toNat, v.ctr.misaligned.toNat, v.ctr.spills.toNat,
   v.ctr.fills.toNat, v.ctr.droops.toNat, v.ctr.thermalSteps.toNat, v.err.toNat, v.ctr.corrected.toNat]
def State.rilRegs (s : State) (i : Nat) : List Nat :=
  let c := (s.pav i).ctr
  [s.rilStatus i, c.programs.toNat, c.scalePasses.toNat, c.elements.toNat, c.srDraws.toNat, c.special.toNat, c.rillNonfinite.toNat,
   c.rillBusy.toNat]

/-- The registers of a Cascade engine and of an Avenue port (Tables CSC-11, CSC-14). -/
def State.cscRegs (s : State) (i : Nat) : List Nat :=
  let e := s.engine i
  s.cscStatus i :: [e.tilesIn, e.tilesOut, e.flushed, e.nonfinite, e.crcRetries, e.residueRetries, e.stale, e.err].map (·.toNat)
def State.avnRegs (s : State) (i : Nat) : List Nat :=
  let t := s.port i
  [s.avnLink i, t.peerId % 2 ^ 36] ++
    [t.txFrames, t.rxFrames, t.rxDropped, t.retransmits, t.creditWait, t.fecCorrected, t.err].map (·.toNat)

/-- The registers of the Orangery and of the Trellis (Tables ORG-12, TRL-17). -/
def State.orgRegs (s : State) : List Nat :=
  let o := s.orangery
  [s.orgStatus, s.orgFp 0, s.orgFp 1, s.orgFp 2, s.orgFp 3] ++
    [o.prefetches, o.movedBytes, o.evictions, o.deferrals, o.slotConflicts, o.err].map (·.toNat)
def State.trlRegs (s : State) : List Nat :=
  let t := s.trellis
  s.trlStatus :: [t.lists, t.rows, t.padRows, t.deferred, t.spills, t.prefetches, t.seals, t.walks, t.genFaults, t.err].map (·.toNat)

/-- The registers of the Bothy and of the Gatehouse (Tables BTH-18, GTH-12). -/
def State.bthRegs (s : State) : List Nat :=
  s.bthStatus :: [s.bothy.scans, s.bothy.taken, s.bothy.refused, s.bothy.lostRecords, s.bothy.err].map (·.toNat)
def State.gthRegs (s : State) : List Nat :=
  let g := s.gatehouse
  [s.gthStatus, s.gthSvn, g.attests.toNat, g.keysInstalled.toNat, g.unwrapFails.toNat, s.gthPeers % 2 ^ 11, g.err.toNat]

/-- The module, memory, ladder and scheduling registers of the MOD_ block (Tables ARC-7, MEM-9, ERR-7, PLT-7). -/
def State.modRegs (s : State) : List Nat := [modId, s.mod.modeBits, s.now, s.mod.fabricId % 2 ^ 36, s.mod.state]
def State.memRegs (s : State) : List Nat :=
  let m := s.mem
  [m.status, m.trainHbmMs % 2 ^ 32 + 2 ^ 32 * (m.trainLpddrMs % 2 ^ 32), m.patrolWord, m.patrolPasses.toNat, m.correctedHbm.toNat,
   m.correctedCf.toNat, m.poisonedLines.toNat, m.retiredWord, m.lastPoison % 2 ^ 48, m.err.toNat]
def State.ladderRegs (s : State) : List Nat :=
  let m := s.mod
  [m.ladderCmd.toNat, m.ladderWait.toNat, m.ladderUpper, m.fencedPav0.toNat, m.fencedPav1.toNat, m.fencedUnits.toNat, m.voidSteps.toNat]
def State.schedRegs (s : State) : List Nat :=
  [s.mod.sliceNext, s.modPlots, s.mod.switches.toNat, s.mod.earlyBoundaries.toNat]

/-- The control words of a plot's mailbox area (Table BTH-4): those below, then a delivery address and datum for each
vector. -/
def State.mailWord (s : State) (p off : Nat) : Nat :=
  let m := (s.plot p).mail
  if off < 0x8000 then m.field (off / 8 * 8) 8
  else if off < 0x8100 then
    wordOf [m.tail.toNat, m.head.toNat, m.backlog.length % 2 ^ 32 + 2 ^ 32 * (m.lost % 2 ^ 32), m.vecMask.toNat, m.vecPending.toNat, s.mbStatus p]
      (off - 0x8000)
  else if off < 0x8500 then
    (if off % 16 = 0 then (m.msiAddr.get 0 ((off - 0x8100) / 16)).toNat else (m.msiData.get 0 ((off - 0x8100) / 16)).toNat)
  else m.field (off / 8 * 8) 8

/-! ### The map (Table MEM-2) -/

/-- A block of the register space. -/
inductive RegBlock where
  | module
  | memory
  | ladder
  | sched
  | bothy
  | gatehouse
  | mailbox (plot : Nat)
  | pavilion (i : Nat)
  | parterre (i : Nat)
  | rill (i : Nat)
  | cascade (engine : Nat)
  | orangery
  | trellis
  | avenue (port : Nat)
  deriving DecidableEq, Repr

/-- The block that an address lies in, with the offset in it. -/
def regBlock (a : Nat) : Option (RegBlock × Nat) :=
  let o := a - 0xF00000000000
  let inBlock (base stride n : Nat) : Option (Nat × Nat) :=
    if base ≤ o ∧ o < base + stride * n then some ((o - base) / stride, (o - base) % stride) else none
  if a < 0xF00000000000 then none
  else if o < 0x4000 then some (.module, o)
  else if o < 0x5000 then some (.memory, o - 0x4000)
  else if o < 0x6000 then some (.ladder, o - 0x5000)
  else if o < 0x10000 then some (.sched, o - 0x6000)
  else if o < 0x20000 then some (.bothy, o - 0x10000)
  else if o < 0x30000 then some (.gatehouse, o - 0x20000)
  else
    match inBlock 0x1000000 0x10000 17, inBlock 0x10000000 0x10000 128, inBlock 0x20000000 0x10000 2, inBlock 0x20100000 0x10000 12,
        inBlock 0x40000000 0x10000 12 with
    | some (p, x), _, _, _, _ => some (.mailbox p, x)
    | _, some (i, x), _, _, _ =>
      if x < 0x1000 then some (.pavilion i, x) else if x < 0x2000 then some (.parterre i, x - 0x1000) else some (.rill i, x - 0x2000)
    | _, _, some (t, x), _, _ => some (.cascade t, x)
    | _, _, _, some (i, x), _ => some (.cascade (2 + i), x)
    | _, _, _, _, some (i, x) => some (.avenue i, x)
    | _, _, _, _, _ =>
      if 0x30000000 ≤ o ∧ o < 0x30010000 then some (.orangery, o - 0x30000000)
      else if 0x31000000 ≤ o ∧ o < 0x31010000 then some (.trellis, o - 0x31000000)
      else none

/-- The 64-bit word that a block shows at an offset; an offset without a register reads zero. -/
def State.blockWord (s : State) (b : RegBlock) (off : Nat) : Nat :=
  match b with
  | .module => wordOf s.modRegs off
  | .memory => if 0x100 ≤ off ∧ off < 0x160 ∧ off % 8 = 0 then s.mem.tempWord ((off - 0x100) / 8) else wordOf s.memRegs off
  | .ladder => wordOf s.ladderRegs off
  | .sched => wordOf s.schedRegs off
  | .bothy => wordOf s.bthRegs off
  | .gatehouse => wordOf s.gthRegs off
  | .mailbox p => s.mailWord p off
  | .pavilion i => wordOf (s.pavRegs i) off
  | .parterre i => wordOf (s.prtRegs i) off
  | .rill i => wordOf (s.rilRegs i) off
  | .cascade e => wordOf (s.cscRegs e) off
  | .orangery => wordOf s.orgRegs off
  | .trellis => wordOf s.trlRegs off
  | .avenue i => wordOf (s.avnRegs i) off

/-- The 64-bit word at an address of the register space. -/
def State.readRegister (s : State) (a : Nat) : Nat :=
  match regBlock a with
  | some x => s.blockWord x.1 x.2
  | none => 0

end Sys2Proof.Machine
end

