-- ==== Sys2Proof/Machine/Registers.lean ====
section
/-! DEFINITION. Register writes (R29, R178, R358, R361 to R364): the module's settings and the mailbox areas. -/

namespace Sys2Proof.Machine

/-! ### Settings -/

/-- The axes that a value of MOD_MODE sets; from READY onward they are in force at once (R29). -/
def State.setModes (s : State) (value : Nat) : State :=
  let s := s.updMod (fun m => { m with hall := bitOf value 0, steady := bitOf value 1, partition := bitOf value 2 })
  if s.mod.modesApplied then s.setClocks.updMem (fun m => { m with partitionInForce := s.mod.partition }) else s

/-- MOD_MODE write: ignored while a tenant plot is open. -/
def execModModeWrite (value : Nat) (s : State) : Out := if s.tenantOpen then .next s else .next (s.setModes value)

/-- MOD_FABRIC_ID write: ignored while a tenant plot is open. -/
def execModFabricIdWrite (value : Nat) (s : State) : Out :=
  if s.tenantOpen then .next s else .next (s.updMod (fun m => { m with fabricId := value % 2 ^ 36 }))

/-- The patrol settings that a value gives: a period out of 4 to 168 hours is ignored (Table MEM-11). -/
def State.setPatrol (s : State) (value : Nat) : State :=
  let h := bitsOf value 0 8
  s.updMem (fun m => { m with
    patrolHours := if 4 ≤ h ∧ h ≤ 168 then h else m.patrolHours, patrolEnable := bitOf value 16 })

/-- MOD_PATROL_CFG write. -/
def execModPatrolCfgWrite (value : Nat) (s : State) : Out := .next (s.setPatrol value)

/-- The slice that a value gives, from the next boundary on; one out of 1,000 to 100,000 µs is ignored (Table PLT-8). -/
def State.setSlice (s : State) (value : Nat) : State :=
  let v := bitsOf value 0 17
  if 1000 ≤ v ∧ v ≤ 100000 then s.updMod (fun m => { m with sliceNext := v }) else s

/-- MOD_SCHED_CFG write. -/
def execModSchedCfgWrite (value : Nat) (s : State) : Out := .next (s.setSlice value)

/-! ### Mailbox areas -/

/-- The bytes of an 8-byte word after a write of some bytes at an offset of the area. -/
def mergeWord (word old off : Nat) (data : Bytes) : Nat :=
  leNat ((List.range 8).map (fun i =>
    if off ≤ word + i ∧ word + i < off + data.length then data.getD (word + i - off) 0 else (natLE 8 old).getD i 0))

/-- Whether a write touches an 8-byte word of the area. -/
def touches (word off : Nat) (data : Bytes) : Bool := decide (off < word + 8) && decide (word < off + data.length)

/-- The delivery words of the vectors after a write (Table BTH-4). -/
def Mailbox.writeVectors (m : Mailbox) (off : Nat) (data : Bytes) : Mailbox :=
  (List.range 64).foldl (fun (m : Mailbox) (v : Nat) =>
    let a := 0x8100 + 0x10 * v
    let m := if touches a off data then
        { m with msiAddr := m.msiAddr.set v (BitVec.ofNat 64 (mergeWord a (m.msiAddr.get 0 v).toNat off data)) } else m
    if touches (a + 8) off data then
      { m with msiData := m.msiData.set v (BitVec.ofNat 32 (mergeWord (a + 8) (m.msiData.get 0 v).toNat off data)) } else m) m

/-- A write into the mailbox area of a plot: the slots hold what is written; RING_TAIL and VEC_MASK act as their own
rules say; read-only and reserved words drop it. While the plot is CLOSED the write is dropped (R361). -/
def State.writeArea (s : State) (p off : Nat) (data : Bytes) : State :=
  if (s.plot p).state = 0 then s
  else
    let m := (s.plot p).mail
    let s := s.updMail p (fun m => { (m.writeVectors off data) with slots := cellPutAll m.slots off (data.take (0x8000 - off)) })
    let s := if touches 0x8000 off data then
        (match execBthMbRingTailWrite p (mergeWord 0x8000 m.tail.toNat off data) s with | .next t => t | _ => s) else s
    if touches 0x8018 off data then
      (match execBthMbVecMaskWrite p (mergeWord 0x8018 m.vecMask.toNat off data) s with | .next t => t | _ => s)
    else s

/-- The plot whose mailbox area an address lies in. -/
def areaOf (a : Nat) : Option Nat := (List.range 17).find? (fun p => inMailbox p a)

/-- The first of `n` addresses that an agent does not reach; the first of all where it reaches each but not in one
piece. -/
def firstBad (reaches : Nat → Bool) (addr n : Nat) : Nat :=
  addr + ((List.range n).find? (fun i => !reaches (addr + i))).getD 0

/-- Charge what a virtual function moves for its plot (Table PLT-4); a self-hosted plot has none. -/
def State.chargeHost (s : State) (p n : Nat) : State :=
  if (s.plot p).cfg.driver = 0 then s else s.charge p (fun c => { c with hostBytes := c.hostBytes + BitVec.ofNat 64 n })

/-- What a write of some bytes at an offset of a block does to an 8-byte register at `word`: the bytes outside it keep what
they read as, or, in a register whose flags a 1 clears, are zeros. -/
def writtenWord (word old off : Nat) (data : Bytes) (clears : Bool) : Nat := mergeWord word (if clears then 0 else old) off data

/-- Go on with a meaning that always answers a next state. -/
def andThen (s : State) (f : State → Out) : State :=
  match f s with
  | .next t => t
  | .fault _ => s
  | .refused _ => s

/-- The writable registers of a block: offset, whether a 1 clears, and what a written value does. Every other register is
read-only and drops the write. -/
def writableRegs : RegBlock → List (Nat × Bool × (Nat → State → Out))
  | .module => [(0x008, false, execModModeWrite), (0x018, false, execModFabricIdWrite)]
  | .memory => [(0x010, false, execModPatrolCfgWrite), (0x048, true, execModMemErrWrite)]
  | .sched => [(0x000, false, execModSchedCfgWrite)]
  | .bothy => [(0x028, true, execBthErrWrite)]
  | .gatehouse => [(0x030, true, execGthErrWrite)]
  | .pavilion i => [(0x050, true, execPavErrWrite i)]
  | .parterre i => [(0x040, true, execPrtErrWrite i)]
  | .cascade e => [(0x040, true, execCscErrWrite e)]
  | .orangery => [(0x050, true, execOrgErrWrite)]
  | .trellis => [(0x050, true, execTrlErrWrite)]
  | .avenue i => [(0x040, true, execAvnErrWrite i)]
  | _ => []

/-- A write into a register block. -/
def State.writeBlock (s : State) (b : RegBlock) (off : Nat) (data : Bytes) : State :=
  match b with
  | .mailbox p => s.writeArea p off data
  | _ => (writableRegs b).foldl (fun t r =>
      if touches r.1 off data then andThen t (r.2.2 (writtenWord r.1 (t.blockWord b r.1) off data r.2.1)) else t) s

/-- Memory that the module's own agents reach: all of it but the Lodge's carve-out (R161). -/
def deviceReaches (a : Nat) : Bool := isMemory a && regionOf a != .lodge

/-- What the Lodge reaches for itself: its carve-out and its interrupt files. -/
def lodgeReaches (a : Nat) : Bool := regionOf a == .lodge || inImsic a

/-- REGISTER_WRITE: the function of an attached-confidential plot issues no DMA outside RUN, and the host's MMIO without
the T bit is dropped in RUN (R410); a plot's agent reaches its own mailbox area and its windows, the Lodge its own carve-out
and its interrupt files, the module's own agents every register block and all memory but the carve-out; anything else is an
address fault (R157, R161, R163). -/
def execRegisterWrite (agent : Agent) (addr : Nat) (data : Bytes) (s : State) : Out :=
  let n := data.length
  let last := addr + n - 1
  if n = 0 then .next s else
  match agent with
  | .plot p =>
    if inMailbox p addr && inMailbox p last then .next (s.writeArea p (addr - mailboxBase p) data)
    else if s.inWindows p addr n then
      if (s.plot p).cfg.driver = 2 ∧ s.confidentialRun p = false then .next s
      else .next (((s.updMem (fun m => m.post p addr data)).chargeWrite p addr n).chargeHost p n)
    else execAddressFault (.plot p) (firstBad (fun a => s.inWindows p a 1 || inMailbox p a) addr n) true false s
  | .hostPlain p =>
    if s.confidentialRun p then .next s
    else if inMailbox p addr && inMailbox p last then .next (s.writeArea p (addr - mailboxBase p) data)
    else execAddressFault (.hostPlain p) (firstBad (fun a => inMailbox p a) addr n) true false s
  | .lodge =>
    if regionOf addr = .lodge ∧ regionOf last = .lodge then .next (s.updMem (fun m => m.post 0 addr data))
    else if inImsic addr && inImsic last then .next s
    else execAddressFault .lodge (firstBad lodgeReaches addr n) true false s
  | .device =>
    match regBlock addr, regBlock last with
    | some x, some y =>
      if x.1 = y.1 then .next (s.writeBlock x.1 x.2 data)
      else execAddressFault .device (firstBad (fun a => (regBlock a).isSome) addr n) true false s
    | _, _ =>
      if deviceReaches addr && deviceReaches last then .next (s.updMem (fun m => m.post 0 addr data))
      else if inImsic addr && inImsic last then .next s
      else execAddressFault .device (firstBad deviceReaches addr n) true false s

/-! ### What a read answers (R153, R157, R161, R163, R173, R410) -/

/-- The answer to a read: data, zero for what is not reached, Unsupported Request or a poisoned completion to the host, or
a precise load access fault in a Lodge core. -/
inductive ReadAnswer where
  | data (bs : Bytes)
  | zero
  | unsupported
  | poisonedTlp
  | accessFault
  deriving DecidableEq, Repr

/-- The bytes of `n` addresses of the register space. -/
def State.readSpace (s : State) (a n : Nat) : Bytes :=
  (List.range n).map (fun i => (natLE 8 (s.readRegister ((a + i) / 8 * 8))).getD ((a + i) % 8) 0)

/-- What a read of device memory answers: a Lodge core meets poison as a load access fault, a virtual function's read as a
poisoned TLP. -/
def State.readMemory (s : State) (lodge : Bool) (a n : Nat) : ReadAnswer :=
  if s.mem.poisonedIn a n then (if lodge then .accessFault else .poisonedTlp) else .data (s.mem.readBytes a n)

/-- What an agent reads. No row of the table is a read, and a read changes no state but the fault that ADDRESS_FAULT
records; this is what the agent is answered. -/
def State.agentRead (s : State) (agent : Agent) (a n : Nat) : ReadAnswer :=
  let last := a + n - 1
  match agent with
  | .plot p =>
    let lodge := (s.plot p).cfg.driver == 0
    if inMailbox p a && inMailbox p last then .data (s.readSpace a n)
    else if (s.plot p).cfg.driver = 2 ∧ s.confidentialRun p = false then .unsupported
    else if s.inWindows p a n then s.readMemory lodge a n
    else if lodge then .zero else .unsupported
  | .hostPlain p =>
    if s.confidentialRun p then .unsupported
    else if inMailbox p a && inMailbox p last then .data (s.readSpace a n)
    else .unsupported
  | .lodge => if regionOf a = .lodge ∧ regionOf last = .lodge then s.readMemory true a n else .zero
  | .device =>
    match regBlock a, regBlock last with
    | some _, some _ => .data (s.readSpace a n)
    | _, _ => if deviceReaches a && deviceReaches last then .data (s.mem.readBytes a n) else .zero

end Sys2Proof.Machine
end

