-- ==== Sys2Proof/Machine/Telemetry.lean ====
section
/-! DEFINITION. Management's telemetry (R338, R426, R427): the field record, the error log, counters, sensors and
accounts. -/

namespace Sys2Proof.Machine

/-- Serve a TELEMETRY_READ of a class that is read in plot 0's area alone; PLOT must be 0 (R427). -/
def State.serveMgmt (s : State) (cls : Nat) (work : Req → State → State) : State :=
  s.serve 0 opTelemetryRead (fun pl => fieldAt pl 0 1 == cls) (fun r s =>
    if fieldAt r.payload 2 1 ≠ 0 then s.refuse 0 r stNotPermitted else work r s)

/-! ### Registers as management reads them -/

/-- Every word of class COUNTERS (Table MGT-3): the tables in its order, each unit of a table in turn, registers in
offset order; of a block's registers those come that count or hold errors. -/
def State.counterWords (s : State) : List Nat :=
  let pavs := List.range 128
  s.modRegs ++
  (pavs.map (fun i => (s.prtRegs i).drop 3)).flatten ++ (pavs.map (fun i => (s.pavRegs i).drop 3)).flatten ++
  (pavs.map (fun i => (s.rilRegs i).drop 1)).flatten ++
  [s.mem.patrolPasses.toNat, s.mem.correctedHbm.toNat, s.mem.correctedCf.toNat, s.mem.poisonedLines.toNat, s.mem.retiredWord, s.mem.err.toNat] ++
  ((List.range 14).map (fun i => (s.cscRegs i).drop 1)).flatten ++ ((List.range 12).map (fun i => (s.avnRegs i).drop 2)).flatten ++
  s.orgRegs.drop 5 ++ s.trlRegs.drop 1 ++
  [s.mod.ladderCmd.toNat, s.mod.ladderWait.toNat, s.mod.ladderUpper, s.mod.voidSteps.toNat] ++ s.bthRegs.drop 1 ++ s.gthRegs.drop 2

/-- COUNTERS: one record of 8 bytes for each register. -/
def execCounters (s : State) : Out :=
  .next (s.serveMgmt 3 (fun r s => s.telemetry 0 r (s.counterWords.map (natLE 8)) (fun _ t => t)))

/-! ### Sensors (Table MGT-4) -/

/-- The highest of a list. -/
def highest (l : List Nat) : Nat := l.foldl max 0

/-- The value of a sensor. -/
def State.sensorValue (s : State) (id : Nat) : Nat :=
  match id with
  | 1 => s.mod.inputWatts
  | 2 => s.mod.inputMv / 1000
  | 3 => highest (s.pavs.map (fun e => e.2.hotspot))
  | 4 => highest (s.mem.stackTemp.map (·.2))
  | 5 => s.now / 100000000
  | 6 => s.mod.state
  | _ => if s.mod.limiter then 2 else 1

/-- SENSORS: one record of 8 bytes for each value. -/
def execSensors (s : State) : Out :=
  .next (s.serveMgmt 4 (fun r s =>
    let vs := (List.range 7).map (fun i => s.sensorValue (i + 1)) ++ (List.range 128).map s.pavClock ++ (List.range 12).map s.mem.tempWord
    s.telemetry 0 r (vs.map (natLE 8)) (fun _ t => t)))

/-- ACCOUNTS: one record for each open plot that the mask names. -/
def execAccounts (s : State) : Out :=
  .next (s.serveMgmt 5 (fun r s =>
    let ps := (List.range 17).filter (fun p => bitOf (fieldAt r.payload 4 4) p && s.isOpen p)
    s.telemetry 0 r (ps.map s.plotAccount) (fun _ t => t)))

/-! ### The error log and the field record -/

/-- Whether a plot mask names a plot; 0 names all. -/
def maskNames (sel p : Nat) : Bool := sel == 0 || bitOf sel p

/-- Remove the first `n` entries that a mask names. -/
def dropNamed (sel : Nat) : Nat → List (ErrRec × Nat) → List (ErrRec × Nat)
  | 0, l => l
  | _ + 1, [] => []
  | n + 1, e :: l => if maskNames sel e.2 then dropNamed sel n l else e :: dropNamed sel (n + 1) l

/-- A record of the error log: Table ERR-6, with the cause in full, and the plot. -/
def logRecord (e : ErrRec × Nat) : Bytes := bytesAt e.1.body 0 48 ++ natLE 1 e.2 ++ natLE 15 0

/-- ERROR_LOG: with CONSUME, the records that the read returns leave the log. -/
def execErrorLog (s : State) : Out :=
  .next (s.serveMgmt 2 (fun r s =>
    let sel := fieldAt r.payload 4 4
    s.telemetry 0 r ((s.mgmt.errorLog.filter (fun e => maskNames sel e.2)).map logRecord) (fun n t =>
      if bitOf (fieldAt r.payload 1 1) 0 then { t with mgmt := { t.mgmt with errorLog := dropNamed sel n t.mgmt.errorLog } } else t)))

/-- The version that stands staged in a class, or 0. -/
def FwClass.stagedVersion (x : FwClass) : Nat := match x.bank x.other with | .image i => i.version | _ => 0

/-- An entry of the field record's error log: ADDRESS, DESC_ID and TAG are cleared. -/
def FieldEntry.body (e : FieldEntry) : Bytes :=
  ErrRec.body { cls := e.cls, block := e.block, cause := e.cause, unit := e.unit, descId := 0, tag := 0, step := e.step, address := 0,
                count := 1, tick := e.tick }

/-- The sections of the field record (Table ERR-9). -/
def State.fieldSections (s : State) : List Bytes :=
  let words (l : List Nat) : Bytes := (l.map (natLE 8)).flatten
  [bytesAt Config.partNumber 0 16 ++ bytesAt Config.serial 0 16 ++ words [Config.stepping, b2n Config.engineeringSample, s.mod.fabricId],
   words ((List.range 128).map spareMap ++ (List.range 128).map pavId ++ [s.mgmt.fuseGatehouse, s.mgmt.fuseBothy]),
   words ((fwClasses.map (fun c => [s.fwVersion c, (s.fwClass c).stagedVersion])).flatten),
   words ([s.mgmt.powerOns, (s.mgmt.poweredTicks + s.now) / 360000000000] ++ (List.range 8).map (fun c => s.mgmt.warmResets.get 0 c)),
   (s.mgmt.fieldLog.map FieldEntry.body).flatten,
   words s.counterWords,
   words ((s.mgmt.trainLog.map (fun t => [t.1, t.2.1, t.2.2.1, t.2.2.2])).flatten ++ ((s.mem.retired ++ s.mem.retiredVolatile).map (fun g =>
     [g.1, g.2])).flatten ++ [s.mem.status]),
   words ((List.range 140).map (fun k => s.mgmt.peaks.get 0 k) ++
     [s.mgmt.limiterTrips, s.mgmt.droopTrips + (s.pavs.map (fun e => e.2.ctr.droops.toNat)).sum]),
   words ([s.mod.fencedPav0.toNat, s.mod.fencedPav1.toNat, s.mod.fencedUnits.toNat] ++
     (s.mod.fences.map (fun e => [e.1, e.2.1, e.2.2])).flatten)]

/-- The signed field record, at most 512 KiB (R338). -/
def State.fieldBytes (s : State) : Bytes × State :=
  let body := (Config.fieldLayout s.fieldSections).take (524288 - 2420)
  let (sig, s) := s.signed "YB3-FR" body
  (body ++ sig, s)

/-- FIELD_RECORD: one record. -/
def execFieldRecord (s : State) : Out :=
  .next (s.serveMgmt 1 (fun r s =>
    let x := s.fieldBytes
    x.2.telemetry 0 r [x.1] (fun _ t => t)))

end Sys2Proof.Machine
end

