-- ==== Sys2Proof/Machine/Firmware.lean ====
section
/-! DEFINITION. Firmware images, staging, activation and commit (R428 to R437), and ROM recovery (R438 to R441). -/

namespace Sys2Proof.Machine

/-! ### Images (Table MGT-5, R394) -/

/-- Bytes of an image around its body. -/
def imageOverhead : Nat := 64 + 1312 + 2420

/-- The digest of a public key, and whether the module accepts it: a production module digests 0 and 1, an engineering
sample 2 and 3 too, each while its revocation fuse is intact. -/
def signerAccepted (key : Bytes) : Bool :=
  (List.range (if Config.engineeringSample then 4 else 2)).any (fun i => Config.fusedKeyDigest i == Config.sha3 key && !Config.keyRevoked i)

/-- Whether an image's digest and length are as announced. -/
def digestHolds (im : Bytes) (len digest : Nat) : Bool := im.length == len && Config.sha3 im == digest

/-- Whether MAGIC, CLASS, STEPPING and ES_ONLY hold. -/
def headerHolds (im : Bytes) (cls : Nat) : Bool :=
  fieldAt im 0 4 == 0x31465759 && fieldAt im 6 1 == cls && fieldAt im 0x14 1 == Config.stepping &&
  (!bitOf (fieldAt im 7 1) 0 || Config.engineeringSample)

/-- Whether the signer and the signature hold; the body must leave room for them. -/
def signatureHolds (im : Bytes) : Bool :=
  let n := fieldAt im 0x18 8
  im.length == n + imageOverhead && signerAccepted (bytesAt im (64 + n) 1312) &&
  Config.verifies (bytesAt im (64 + n) 1312) (ascii "YB3-FW") (im.take (64 + n + 1312)) (bytesAt im (64 + n + 1312) 2420)

/-- The image that the bytes hold. -/
def imageOf (im : Bytes) (cls : Nat) : Image :=
  { cls := cls, version := fieldAt im 8 8, svn := fieldAt im 0x10 4, stateVersion := fieldAt im 0x20 2, stateMin := fieldAt im 0x22 2,
    digest := Config.sha3 im, bytes := im }

/-- Put something into the bank of a class that does not run; an activation of what stood there is off. -/
def State.setStaged (s : State) (cls : Nat) (b : Bank) : State :=
  s.updClass cls (fun x => { x.setBank x.other b with switchWaits := false })

/-! ### FW_STAGE (R430) -/

/-- Whether the completion record of a plot-0 request stands in the ring: its status and its record. -/
def State.postedRecord (s : State) (tag : Nat) : Option (Nat × Bytes) :=
  let q := s.plot 0
  (List.range (min 4096 q.mail.head.toNat)).findSome? (fun i =>
    let a := q.ringBase 0 + 64 * ((q.mail.head.toNat - 1 - i) % 4096)
    let b := s.mem.readBytes a 64
    if fieldAt b 8 4 = tag ∧ fieldAt b 1 1 ≠ 0xFF then some (fieldAt b 4 2, b) else none)

/-- Whether a Redfish staging or activation is in progress (R425). -/
def State.redfishUpdating (s : State) : Bool :=
  s.mgmt.tasks.any (fun t => (t.opcode == opFwStage || t.opcode == opFwActivate) && (s.postedRecord t.tag).isNone)

/-- Whether a firmware message is turned away with ST_FW_BUSY (R425, R431): another is in progress, or a Redfish request
meets an open PLDM update. -/
def State.fwBusy (s : State) (r : Req) : Bool :=
  s.bothy.takeOver.isSome || s.mod.warmPending ||
  (s.plot 0).mail.held.any (fun x => x.opcode == opFwActivate && x.phase == .started && x.slot != r.slot) ||
  (s.mgmt.pldm.active && s.mgmt.tasks.any (fun t => t.tag == r.tag))

/-- The bytes of a source: the Redfish push buffer or the PLDM transfer. -/
def State.imageSource (s : State) (source : Nat) : Bytes := if source = 0 then s.mgmt.pushBuffer else s.mgmt.pldm.received

/-- The status that R430's checks give. -/
def State.stageStatus (s : State) (r : Req) : Option Nat :=
  let cls := fieldAt r.payload 1 1
  let im := s.imageSource (fieldAt r.payload 0 1)
  if digestHolds im (fieldAt r.payload 8 8) (fieldAt r.payload 0x10 32) = false ∨ headerHolds im cls = false ∨ signatureHolds im = false then
    some stFwBadImage
  else if fieldAt im 0x10 4 < s.fusedSvn cls then some stRollbackRefused
  else none

/-- FW_STAGE. A failed stage leaves the bank empty. -/
def execFwStage (s : State) : Out :=
  .next (s.serve 0 opFwStage (fun _ => true) (fun r s =>
    let cls := fieldAt r.payload 1 1
    if 1 < fieldAt r.payload 0 1 ∨ cls = 0 ∨ 4 < cls then s.refuse 0 r stNotPermitted
    else if s.fwBusy r = true then s.refuse 0 r stFwBusy
    else
      match s.stageStatus r with
      | some st => (s.setStaged cls .empty).refuse 0 r st
      | none =>
        let i := imageOf (s.imageSource (fieldAt r.payload 0 1)) cls
        (s.setStaged cls (.image i)).ok 0 r (natLE 8 i.version ++ natLE 4 i.svn ++ natLE 1 (s.fwClass cls).other ++ natLE 3 0)))

/-! ### FW_ACTIVATE (R431 to R433) -/

/-- What is staged in a class. -/
def State.staged (s : State) (cls : Nat) : Option Image :=
  match (s.fwClass cls).bank (s.fwClass cls).other with | .image i => some i | _ => none

/-- STATE_VERSION of the running Bothy firmware. -/
def State.stateVersion (s : State) : Nat :=
  match (s.fwClass 2).runningImage with | some i => i.stateVersion | none => Config.factoryImage 2 2

/-- A warm-reset activation: refused while a tenant plot is OPEN, unless CLOSE_PLOTS closes them first. -/
def State.activateByReset (s : State) (r : Req) : State :=
  let s' := s.setPhase 0 r.slot .started
  if s.openPlots.isEmpty then s'.settleActivate
  else if bitOf (fieldAt r.payload 2 1) 1 then
    (s.openPlots.foldl (fun t p => (t.startClose p).finishClose p) s').settleActivate
  else s.refuse 0 r stNotPermitted

/-- FW_ACTIVATE, OP ACTIVATE. -/
def execFwActivate (s : State) : Out :=
  .next (s.serve 0 opFwActivate (fun pl => fieldAt pl 0 1 == 0) (fun r s =>
    let cls := fieldAt r.payload 1 1
    if cls = 0 ∨ 4 < cls then s.refuse 0 r stNotPermitted
    else if s.fwBusy r = true then s.refuse 0 r stFwBusy
    else
      match s.staged cls with
      | none => s.refuse 0 r stFwNotStaged
      | some i =>
        if cls = 4 then (s.updClass 4 (fun x => { x with switchWaits := true })).ok 0 r (natLE 16 0)
        else if cls ≠ 2 then s.activateByReset r
        else if i.stateMin ≤ s.stateVersion ∧ s.stateVersion ≤ i.stateVersion then
          { s.setPhase 0 r.slot .started with bothy := { s.bothy with takeOver := some r.slot } }
        else if bitOf (fieldAt r.payload 2 1) 0 then s.activateByReset r
        else s.refuse 0 r stFwIncompatible))

/-- The classes of the SVN group of a class (R429). -/
def groupOf (cls : Nat) : List Nat := if cls % 2 = 1 then [1, 3] else [2, 4]

/-- Raise the fused version of a group: staged images below it are marked invalid (R435). -/
def State.raiseFuse (s : State) (cls svn : Nat) : State :=
  let s := { s with mgmt := if cls % 2 = 1 then { s.mgmt with fuseGatehouse := svn } else { s.mgmt with fuseBothy := svn } }
  (groupOf cls).foldl (fun t c =>
    match t.staged c with
    | some i => if i.svn < svn then t.setStaged c (.invalid i) else t
    | none => t) s

/-- FW_ACTIVATE, OP COMMIT. -/
def execFwCommit (s : State) : Out :=
  .next (s.serve 0 opFwActivate (fun pl => fieldAt pl 0 1 == 1) (fun r s =>
    let cls := fieldAt r.payload 1 1
    if cls = 0 ∨ 4 < cls then s.refuse 0 r stNotPermitted
    else if s.fwBusy r = true then s.refuse 0 r stFwBusy
    else if s.mod.state ≠ 3 ∨ (groupOf cls).any (fun c => (s.fwClass c).trial) = true ∨ (groupOf cls).any (fun c => decide (s.svn c < s.svn cls)) = true then
      s.refuse 0 r stNotPermitted
    else if s.svn cls ≤ s.fusedSvn cls then s.ok 0 r (natLE 16 0)
    else (s.raiseFuse cls (s.svn cls)).ok 0 r (natLE 16 0)))

/-- FW_QUERY (R436). -/
def execFwQuery (s : State) : Out :=
  .next (s.serve 0 opFwQuery (fun _ => true) (fun r s =>
    let cls := fieldAt r.payload 0 1
    if cls = 0 ∨ 4 < cls then s.refuse 0 r stNotPermitted
    else
      let x := s.fwClass cls
      let bad := match x.bank x.other with | .invalid _ => true | _ => false
      s.ok 0 r (natLE 8 (s.fwVersion cls) ++ natLE 4 (s.svn cls) ++ natLE 1 x.running ++
        natLE 1 (b2n x.trial + 2 * b2n (s.staged cls).isSome + 4 * b2n bad) ++ natLE 2 x.lastResult ++ natLE 8 x.stagedVersion ++
        natLE 4 (match s.staged cls with | some i => i.svn | none => 0) ++ natLE 4 (s.fusedSvn cls) ++ natLE 16 0)))

/-! ### The take-over (R432, R434) -/

/-- Whether a PLOT_OPEN or PLOT_CLOSE is in progress. -/
def State.plotMoving (s : State) : Bool := tenantPlots.any s.isClosing

/-- PAUSE notices on every Avenue edge, naming 2,000 ms. -/
def State.pauseAll (s : State) : State :=
  let tos := ((tenantPlots.map (fun p => ((s.plot p).groups.map (fun g => g.neighbours s.fabric)).flatten)).flatten).eraseDups
  tos.foldl (fun t f => t.sendControl f (blankFrame s.fabric) (.pause 2000)) s

/-- The longest pause: 1.5 s. -/
def maxPause : Nat := 1500000

/-- BOTHY_TAKE_OVER, once no step runs and no plot opens or closes: the notices go out, the staged firmware takes over
what it finds, measurement 3 follows it, and the completion reports the pause. A pause that outlasts 1.5 s is left to
TAKE_OVER_REVERT. -/
def execBothyTakeOver (pauseUs : Nat) (s : State) : Out :=
  match s.bothy.takeOver, s.staged 2 with
  | some slot, some i =>
    if s.bothy.paused = true ∨ tenantPlots.any (fun p => !(s.plot p).running.isEmpty) = true ∨ s.plotMoving = true then .next s
    else
      let s := s.pauseAll
      if maxPause < pauseUs then .next { s with bothy := { s.bothy with paused := true } }
      else
        let s := (s.updClass 2 (fun x => { x with running := x.other, lastResult := resultActivated })).notify 8 (2 * 16 + resultActivated)
        let s := { s with gatehouse := { s.gatehouse with measures := s.gatehouse.measures.set 3 i.digest }, bothy := { s.bothy with takeOver := none } }
        .next (match s.heldIn 0 slot with
          | some r => s.ok 0 r (natLE 4 pauseUs ++ natLE 12 0)
          | none => s)
  | _, _ => .next s

/-- TAKE_OVER_REVERT: the staged bank is marked invalid, and the other boots through a warm reset. -/
def execTakeOverRevert (boot : BootReport) (s : State) : Out :=
  if s.bothy.takeOver.isSome = true ∧ s.bothy.paused = true then
    let s := ((s.updClass 2 (fun x => { x.setBank x.other (x.bank x.other).spoil with lastResult := resultReverted })).fieldNote
      fieldGatehouse 3 2).notify 8 (2 * 16 + resultReverted)
    let s := { s with mgmt := { s.mgmt with recovery := { s.mgmt.recovery with
      revertTicks := (s.mgmt.recovery.revertTicks ++ [s.now]).filter (fun t => decide (s.now < t + hourTicks)) } } }
    .next (s.bootReverted boot)
  else .next s

/-! ### ROM recovery (R438 to R441) -/

/-- Change recovery mode. -/
def State.updRec (s : State) (f : Recovery → Recovery) : State := { s with mgmt := { s.mgmt with recovery := f s.mgmt.recovery } }

/-- A RESULT packet. -/
def State.recResult (s : State) (session code : Nat) : State := s.emit (.recovery 0x07 session (natLE 1 code ++ natLE 7 0))

/-- RECOVERY_HELLO. -/
def execRecoveryHello (s : State) : Out :=
  let x := s.mgmt.recovery
  if x.active = true ∧ x.session = none then
    .next (s.emit (.recovery 0x01 0 (natLE 32 Config.deviceId ++ natLE 8 Config.romVersion ++ natLE 4 s.mgmt.fuseGatehouse ++
      natLE 4 s.mgmt.fuseBothy ++ natLE 1 x.reason ++ natLE 1 (b2n Config.engineeringSample) ++ natLE 2 0)))
  else .next s

/-- RECOVERY_BEGIN: the data will replace what the non-running bank holds. -/
def execRecoveryBegin (cls length digest : Nat) (s : State) : Out :=
  let x := s.mgmt.recovery
  if x.active = false then .next s
  else
    match x.session with
    | some o => .next (s.recResult o.id 6)
    | none =>
      if cls = 0 ∨ 4 < cls then .next (s.recResult 0 4)
      else
        let n := x.nextSession
        let s := (s.setStaged cls .empty).updRec (fun y => { y with
          nextSession := n + 1, pushed := y.pushed.filter (· != cls)
          session := some { id := n, cls := cls, len := length, digest := digest, next := 0, data := [], lastTick := s.now, packets := 0 } })
        .next (s.emit (.recovery 0x03 n (natLE 2 64 ++ natLE 6 0)))

/-- RECOVERY_DATA: bytes at NEXT are written; an ACK after every 16 packets and at the last byte, and for every packet
out of order. -/
def execRecoveryData (session offset : Nat) (data : Bytes) (s : State) : Out :=
  match s.mgmt.recovery.active, s.mgmt.recovery.session with
  | true, some x =>
    if x.id ≠ session then .next s
    else
      let ok := decide (offset = x.next) && decide (1 ≤ data.length) && decide (data.length ≤ 1024) && decide (x.next + data.length ≤ x.len)
      let y : RecSession := if ok then
          { x with next := x.next + data.length, data := x.data ++ data, packets := x.packets + 1, lastTick := s.now }
        else { x with lastTick := s.now }
      let s := s.updRec (fun z => { z with session := some y })
      .next (if !ok || y.packets % 16 == 0 || y.next == y.len then s.emit (.recovery 0x05 session (natLE 8 y.next)) else s)
  | _, _ => .next s

/-- The code of RESULT for an image that a session has pushed. -/
def State.pushCode (s : State) (x : RecSession) : Nat :=
  if digestHolds x.data x.len x.digest = false then 1
  else if headerHolds x.data x.cls = false then 4
  else if signatureHolds x.data = false then 2
  else if fieldAt x.data 0x10 4 < s.fusedSvn x.cls then 3
  else 0

/-- RECOVERY_COMMIT: RESULT, and the bank is erased on any failure. -/
def execRecoveryCommit (session : Nat) (s : State) : Out :=
  match s.mgmt.recovery.active, s.mgmt.recovery.session with
  | true, some x =>
    if x.id ≠ session then .next s
    else
      let code := s.pushCode x
      let s' := if code = 0 then
          (s.setStaged x.cls (.image (imageOf x.data x.cls))).updRec (fun y => { y with pushed := y.pushed ++ [x.cls] })
        else s
      .next ((s'.updRec (fun y => { y with session := none })).recResult session code)
  | _, _ => .next s

/-- RECOVERY_REBOOT: the pushed banks boot on trial; without one the ROM is back in recovery after the reset. -/
def execRecoveryReboot (session : Nat) (boot : BootReport) (s : State) : Out :=
  let x := s.mgmt.recovery
  if x.active = false ∨ (match x.session with | some o => o.id != session | none => false) = true then .next s
  else if x.pushed.isEmpty then .next ((s.setModState 4).warmCleared.enterRecovery x.reason)
  else .next ((x.pushed.foldl (fun t c => t.updClass c (fun y => { y with switchWaits := true })) s).warmBoot boot)

/-- RECOVERY_ABORT. -/
def execRecoveryAbort (session : Nat) (s : State) : Out :=
  match s.mgmt.recovery.active, s.mgmt.recovery.session with
  | true, some x => if x.id = session then .next (s.updRec (fun y => { y with session := none })) else .next s
  | _, _ => .next s

/-- RECOVERY_SESSION_TIMEOUT: 30 s of silence. -/
def execRecoverySessionTimeout (s : State) : Out :=
  match s.mgmt.recovery.active, s.mgmt.recovery.session with
  | true, some x =>
    if x.lastTick + 3000000000 ≤ s.now then .next ((s.updRec (fun y => { y with session := none })).recResult x.id 7) else .next s
  | _, _ => .next s

end Sys2Proof.Machine
end

