-- ==== Sys2Proof/Machine/Clock.lean ====
section
/-! DEFINITION. What a tick of MOD_TICK does: the counter (R12), and at each millisecond the plots' energy (R356), and the
acknowledgement that recovery owes after 10 ms (R440). -/

namespace Sys2Proof.Machine

/-- A plot's Pavilion-ticks held up to now: those charged, and those of the Pavilions that it holds and has not been
charged for yet (R350). -/
def State.heldNow (s : State) (p : Nat) : W64 :=
  (s.plot p).account.heldTicks + BitVec.ofNat 64 ((pavilions.map (fun i =>
    let v := s.pav i
    if v.context = p ∧ v.granted = p then s.now - v.since else 0)).sum)

/-- Ticks of the board sensor's interval: 1 ms of the 100 MHz reference. -/
def energyInterval : Nat := 100000

/-- A plot's account after an interval: its attributed energy, its share, and the held ticks up to here. -/
def State.addEnergy (s : State) (p share : Nat) : State :=
  s.charge p (fun a => { a with
    energyAttrib := a.energyAttrib + BitVec.ofNat 64 (Config.attributedEnergy p s.now)
    energyShare := a.energyShare + BitVec.ofNat 64 share
    heldMark := s.heldNow p })

/-- The end of a 1 ms interval (R356): what the sensor has measured beyond the sum of attributed energy is split among
the tenant plots in proportion to the ticks that each has held in the interval, and goes to plot 0 when none has held
any. -/
def State.shareEnergy (s : State) : State :=
  let tenants := tenantPlots.filter (fun p => (s.plot p).state != 0)
  let held := tenants.map (fun p => (p, (s.heldNow p - (s.plot p).account.heldMark).toNat))
  let total := (held.map (·.2)).sum
  let attributed := ((0 :: tenants).map (fun p => Config.attributedEnergy p s.now)).sum
  let shared := s.mod.inputWatts - attributed
  let s := s.addEnergy 0 (if total = 0 then shared else 0)
  held.foldl (fun t e => t.addEnergy e.1 (if e.2 = 0 then 0 else shared * e.2 / total + Config.energyRounding e.1 t.now % 2)) s

/-- Ticks of 10 ms. -/
def ackTicks : Nat := 1000000

/-- Recovery acknowledges what it has taken when 10 ms have passed since the last packet (R440). -/
def State.recoveryAck (s : State) : State :=
  match s.mgmt.recovery.active, s.mgmt.recovery.session with
  | true, some x =>
    if x.lastTick + ackTicks = s.now ∧ x.packets % 16 ≠ 0 ∧ x.next ≠ x.len then s.emit (.recovery 0x05 x.id (natLE 8 x.next)) else s
  | _, _ => s

/-- One tick: MOD_TICK counts from the module's leaving module reset (R12), which the pin MOD_RESET_N
and the rails and the reference that it needs, show. -/
def State.idle (s : State) : State :=
  if s.mod.resetHigh && s.mod.rails && s.mod.refclk then
    let s := { s with mod := { s.mod with tick := s.mod.tick + 1 } }.recoveryAck
    if s.now % energyInterval = 0 then s.shareEnergy else s
  else s

end Sys2Proof.Machine
end

