-- ==== Sys2Proof/Machine/Management.lean ====
section
/-! DEFINITION. The tray BMC's endpoint (R423 to R425, R438) and the management port (R419 to R422). Codes of MCTP,
PLDM, Redfish and HTTP are those of their own standards. -/

namespace Sys2Proof.Machine

/-! ### Posting plot-0 messages (R361, R422) -/

/-- Change management's state. -/
def State.updMgmt (s : State) (f : Mgmt → Mgmt) : State := { s with mgmt := f s.mgmt }

/-- Whether the management service runs: it is part of the Bothy firmware. -/
def State.serviceUp (s : State) : Bool := s.bothy.pairsUp != 0 && !s.mgmt.recovery.active

/-- The bytes of a slot that carries a message without a vector (Table BTH-2). -/
def slotBytes (opcode tag : Nat) (payload : Bytes) : Bytes :=
  natLE 1 0x5A ++ natLE 1 0xFF ++ natLE 2 opcode ++ natLE 4 tag ++ natLE 2 payload.length ++ natLE 54 0 ++ payload

/-- The lowest slot of plot 0's area that is free. -/
def State.freeSlot (s : State) : Option Nat :=
  let m := (s.plot 0).mail
  (List.range 32).find? (fun i => cellGet m.slots (slotBase i) == ownerFree && m.held.all (fun r => r.slot != i))

/-- Post a message in plot 0's area: its tag, where a slot is free. -/
def State.postMessage (s : State) (opcode : Nat) (payload : Bytes) : Option (Nat × State) :=
  match s.freeSlot with
  | none => none
  | some i =>
    let tag := (s.mgmt.postTag + 1) % 2 ^ 32
    let s := s.updMgmt (fun g => { g with postTag := tag })
    some (tag, s.updMail 0 (fun m => { m with slots := cellPutAll (cellZero m.slots (slotBase i) 0x400) (slotBase i) (slotBytes opcode tag payload) }))

/-! ### MCTP (R423) -/

/-- Whether the module answers its BMC at all: powered and out of module reset. -/
def State.bmcUp (s : State) : Bool := s.mod.rails && s.mod.refclk && s.mod.resetHigh

/-- MCTP_CONTROL: Set Endpoint ID, or Get Endpoint ID. -/
def execMctpControl (setEid : Bool) (eid : Nat) (s : State) : Out :=
  if s.bmcUp then
    if setEid = true ∧ (eid = 0 ∨ 255 ≤ eid) then .next (s.emit (.mctp (natLE 1 2)))
    else
      let s := if setEid then s.updMgmt (fun g => { g with eid := eid }) else s
      .next (s.emit (.mctp (natLE 1 0 ++ natLE 1 s.mgmt.eid)))
  else .next s

/-- RECOVERY_REQUEST (R438): the next module reset or warm reset enters recovery mode. -/
def execRecoveryRequest (vendorId code : Nat) (s : State) : Out :=
  if s.serviceUp && s.bmcUp && vendorId == Config.pciVendor && code == 1 then
    .next ((s.updRec (fun x => { x with requested := true })).emit (.mctp (natLE 1 0)))
  else .next s

/-! ### PLDM (R424, Table MGT-2) -/

/-- PLDM completion codes. -/
def pldmOk : Nat := 0
def pldmInvalidData : Nat := 2
def pldmInvalidType : Nat := 0x83
def pldmInvalidSensor : Nat := 0x80
def pldmNotInUpdate : Nat := 0x80
def pldmAlreadyInUpdate : Nat := 0x81
def pldmBadState : Nat := 0x84

/-- An answer of PLDM: the type and the command. -/
def State.pldm (s : State) (type cmd completion : Nat) (payload : Bytes) : State := s.emit (.pldm (type * 256 + cmd) completion payload)

/-- Answer a command of Type 0: also in recovery. -/
def State.pldmBase (s : State) (work : State → State) : Out := if s.bmcUp then .next (work s) else .next s

/-- Answer a command of the other types: while the Bothy firmware runs. -/
def State.pldmFull (s : State) (work : State → State) : Out := if s.bmcUp && s.serviceUp then .next (work s) else .next s

/-- SetTID: 1 to 254. -/
def execSetTid (tid : Nat) (s : State) : Out :=
  s.pldmBase (fun s =>
    if tid = 0 ∨ 255 ≤ tid then s.pldm 0 1 pldmInvalidData [] else (s.updMgmt (fun g => { g with tid := tid })).pldm 0 1 pldmOk [])

/-- GetTID. -/
def execGetTid (s : State) : Out := s.pldmBase (fun s => s.pldm 0 2 pldmOk (natLE 1 s.mgmt.tid))

/-- The commands of a type (Table MGT-2), by their codes in DSP0240, DSP0248 and DSP0267. -/
def pldmCommands (type : Nat) : List Nat :=
  if type = 0 then [1, 2, 3, 4, 5]
  else if type = 2 then [0x04, 0x0A, 0x11, 0x21, 0x51]
  else if type = 5 then [0x01, 0x02, 0x10, 0x13, 0x14, 0x15, 0x16, 0x17, 0x18, 0x1A, 0x1B, 0x1C, 0x1D]
  else []

/-- The types that the module supports at the moment: Type 0 alone in recovery (R438). -/
def State.pldmTypes (s : State) : List Nat := if s.serviceUp then [0, 2, 5] else [0]

/-- GetPLDMVersion: version 1.0.0 of a supported type. -/
def execGetPldmVersion (type : Nat) (s : State) : Out :=
  s.pldmBase (fun s => if s.pldmTypes.contains type then s.pldm 0 3 pldmOk (natLE 4 0xF1F0F000) else s.pldm 0 3 pldmInvalidType [])

/-- GetPLDMTypes: one bit for each type. -/
def execGetPldmTypes (s : State) : Out := s.pldmBase (fun s => s.pldm 0 4 pldmOk (natLE 8 ((s.pldmTypes.map (2 ^ ·)).sum)))

/-- GetPLDMCommands: one bit for each command. -/
def execGetPldmCommands (type : Nat) (s : State) : Out :=
  s.pldmBase (fun s =>
    if s.pldmTypes.contains type then s.pldm 0 5 pldmOk (natLE 32 (((pldmCommands type).map (2 ^ ·)).sum)) else s.pldm 0 5 pldmInvalidType [])

/-- GetPDR: a record for each sensor of Table MGT-4: its handle, its sensor identifier and whether it is a state sensor. -/
def execGetPdr (recordHandle : Nat) (s : State) : Out :=
  s.pldmFull (fun s =>
    let h := if recordHandle = 0 then 1 else recordHandle
    if 7 < h then s.pldm 2 0x51 pldmInvalidData []
    else s.pldm 2 0x51 pldmOk (natLE 4 (if h = 7 then 0 else h + 1) ++ natLE 4 h ++ natLE 2 h ++ natLE 1 (b2n (decide (5 < h)))))

/-- Whether a sensor answers at the moment: in recovery, sensors 5 and 6 (R438). -/
def State.sensorUp (s : State) (sensor : Nat) : Bool := s.bmcUp && (s.serviceUp || sensor == 5 || sensor == 6)

/-- GetSensorReading: the numeric sensors. -/
def execGetSensorReading (sensor : Nat) (s : State) : Out :=
  if s.sensorUp sensor then
    if 1 ≤ sensor ∧ sensor ≤ 5 then .next (s.pldm 2 0x11 pldmOk (natLE 4 (s.sensorValue sensor))) else .next (s.pldm 2 0x11 pldmInvalidSensor [])
  else .next s

/-- GetStateSensorReadings: ModuleState and Limiter. -/
def execGetStateSensorReadings (sensor : Nat) (s : State) : Out :=
  if s.sensorUp sensor then
    if sensor = 6 ∨ sensor = 7 then .next (s.pldm 2 0x21 pldmOk (natLE 1 (s.sensorValue sensor))) else .next (s.pldm 2 0x21 pldmInvalidSensor [])
  else .next s

/-- SetEventReceiver. -/
def execSetEventReceiver (enable : Bool) (eid : Nat) (s : State) : Out :=
  s.pldmFull (fun s => (s.updMgmt (fun g => { g with eventReceiver := if enable then some eid else none })).pldm 2 4 pldmOk [])

/-- PlatformEventMessage, sent by the module: the oldest event that waits. SMB_ALERT_N is released with the last. -/
def execPlatformEventMessage (s : State) : Out :=
  match s.mgmt.eventReceiver, s.mgmt.events with
  | some _, e :: rest =>
    if s.bmcUp then
      let s := s.updMgmt (fun g => { g with events := rest })
      .next ((s.updMod (fun m => { m with alertLow := !rest.isEmpty || s.gatehouse.halted })).pldm 2 0x0A pldmOk (natLE 2 e.1 ++ natLE 4 e.2))
    else .next s
  | _, _ => .next s

/-! ### PLDM firmware update (R425) -/

/-- Change the update's state. -/
def State.updPldm (s : State) (f : PldmUpdate → PldmUpdate) : State := s.updMgmt (fun g => { g with pldm := f g.pldm })

/-- No update. -/
def PldmUpdate.idle : PldmUpdate := { active := false, cls := 0, size := 0, received := [], stage := 0, tag := 0, applied := [] }

/-- Answer a command of an update in one of the stages given. -/
def State.inUpdate (s : State) (cmd : Nat) (stages : List Nat) (work : PldmUpdate → State → State) : Out :=
  s.pldmFull (fun s =>
    let x := s.mgmt.pldm
    if x.active = false then s.pldm 5 cmd pldmNotInUpdate []
    else if stages.contains x.stage then work x s
    else s.pldm 5 cmd pldmBadState [])

/-- QueryDeviceIdentifiers: the PCI vendor identifier. -/
def execQueryDeviceIdentifiers (s : State) : Out := s.pldmFull (fun s => s.pldm 5 1 pldmOk (natLE 2 0 ++ natLE 2 2 ++ natLE 2 Config.pciVendor))

/-- The activation method of a class in PLDM's bits, and its estimated time in seconds (R425): BOTHY self-contained,
GATEHOUSE and MICROCODE by a medium-specific reset, LODGE_LOADER by a system reboot. -/
def activation (cls : Nat) : Nat × Nat := if cls = 2 then (2, 2) else if cls = 4 then (8, 0) else (4, 0)

/-- GetFirmwareParameters: each class with its activation method and its running and staged versions. -/
def execGetFirmwareParameters (s : State) : Out :=
  s.pldmFull (fun s => s.pldm 5 2 pldmOk ((fwClasses.map (fun c =>
    natLE 2 c ++ natLE 2 (activation c).1 ++ natLE 2 (activation c).2 ++ natLE 8 (s.fwVersion c) ++ natLE 8 (s.fwClass c).stagedVersion)).flatten))

/-- RequestUpdate: not while another update is open or a Redfish update is in progress. -/
def execRequestUpdate (s : State) : Out :=
  s.pldmFull (fun s =>
    if s.mgmt.pldm.active || s.redfishUpdating then s.pldm 5 0x10 pldmAlreadyInUpdate []
    else (s.updPldm (fun _ => { PldmUpdate.idle with active := true, stage := 1 })).pldm 5 0x10 pldmOk [])

/-- PassComponentTable: the component's activation method is reported. -/
def execPassComponentTable (cls : Nat) (s : State) : Out :=
  s.inUpdate 0x13 [1, 2] (fun _ s => (s.updPldm (fun x => { x with stage := 2 })).pldm 5 0x13 pldmOk (natLE 1 0 ++ natLE 2 (activation cls).1))

/-- Ask for the image's data from an offset. -/
def State.askData (s : State) (offset size : Nat) : State :=
  if offset < size then s.pldm 5 0x15 pldmOk (natLE 4 offset ++ natLE 4 (size - offset)) else s

/-- UpdateComponent: the module asks for the component's data. -/
def execUpdateComponent (cls size : Nat) (s : State) : Out :=
  s.inUpdate 0x14 [2] (fun _ s =>
    ((s.updPldm (fun x => { x with stage := 3, cls := cls, size := size, received := [] })).pldm 5 0x14 pldmOk (natLE 1 0 ++ natLE 2 (activation cls).2)).askData
      0 size)

/-- RequestFirmwareData: data that the module has asked for arrive, and it asks for the rest. -/
def execRequestFirmwareData (offset : Nat) (data : Bytes) (s : State) : Out :=
  s.inUpdate 0x15 [3] (fun x s =>
    if offset ≠ x.received.length ∨ x.size < offset + data.length then s.askData x.received.length x.size
    else (s.updPldm (fun y => { y with received := y.received ++ data })).askData (offset + data.length) x.size)

/-- TransferComplete, sent by the module once it holds the image. -/
def execTransferComplete (s : State) : Out :=
  s.inUpdate 0x16 [3] (fun x s => if x.received.length = x.size then (s.updPldm (fun y => { y with stage := 4 })).pldm 5 0x16 pldmOk (natLE 1 0) else s)

/-- VerifyComplete, sent by the module: FW_STAGE of the transfer has been posted. -/
def execVerifyComplete (s : State) : Out :=
  s.inUpdate 0x17 [4] (fun x s =>
    match s.postMessage opFwStage (natLE 1 1 ++ natLE 1 x.cls ++ natLE 6 0 ++ natLE 8 x.received.length ++ shaBytes x.received) with
    | none => s
    | some (tag, s) => (s.updPldm (fun y => { y with stage := 5, tag := tag })).pldm 5 0x17 pldmOk (natLE 1 0))

/-- ApplyComplete, sent by the module once FW_STAGE has completed: its result is the message's. -/
def execApplyComplete (s : State) : Out :=
  s.inUpdate 0x18 [5] (fun x s =>
    match s.postedRecord x.tag with
    | none => s
    | some (st, _) =>
      (s.updPldm (fun y => { y with stage := 2, received := [], applied := if st = stOk then y.applied ++ [x.cls] else y.applied })).pldm 5 0x18
        pldmOk (natLE 1 (b2n (decide (st ≠ stOk))) ++ natLE 2 (activation x.cls).1))

/-- ActivateFirmware: FW_ACTIVATE of every class that has been applied. -/
def execActivateFirmware (resetOk closePlots : Bool) (s : State) : Out :=
  s.inUpdate 0x1A [2] (fun x s =>
    if x.applied.isEmpty then s.pldm 5 0x1A pldmBadState []
    else
      let s := x.applied.foldl (fun t c =>
        match t.postMessage opFwActivate (natLE 1 0 ++ natLE 1 c ++ natLE 1 (b2n resetOk + 2 * b2n closePlots) ++ natLE 13 0) with
        | some (_, u) => u
        | none => t) s
      (s.updPldm (fun _ => PldmUpdate.idle)).pldm 5 0x1A pldmOk (natLE 2 (highest (x.applied.map (fun c => (activation c).2)))))

/-- GetStatus: the stage and the bytes received. -/
def execGetStatus (s : State) : Out :=
  s.pldmFull (fun s => s.pldm 5 0x1B pldmOk (natLE 1 s.mgmt.pldm.stage ++ natLE 4 s.mgmt.pldm.received.length))

/-- CancelUpdateComponent. -/
def execCancelUpdateComponent (s : State) : Out :=
  s.inUpdate 0x1C [3, 4, 5] (fun _ s => (s.updPldm (fun x => { x with stage := 2, received := [] })).pldm 5 0x1C pldmOk [])

/-- CancelUpdate. -/
def execCancelUpdate (s : State) : Out :=
  s.inUpdate 0x1D [1, 2, 3, 4, 5] (fun _ s => (s.updPldm (fun _ => PldmUpdate.idle)).pldm 5 0x1D pldmOk [])

/-! ### Redfish (R420 to R422, Table MGT-1) -/

/-- Roles. -/
def roleAdministrator : Nat := 0
def roleOperator : Nat := 1
def roleReadOnly : Nat := 2

/-- An HTTP answer; `status` is a message's status code, or 0. -/
def State.http (s : State) (code status : Nat) (payload : Bytes) : State := s.emit (.redfish code status payload)

/-- The account of a login session. -/
def Mgmt.accountOf (g : Mgmt) (session : Nat) : Option MgmtAccount :=
  (g.sessions.find session).bind (fun n => g.accounts.find? (fun a => a.name == n))

/-- Answer a request of a login session whose role may do it; an account whose password must change can do nothing
else. -/
def State.redfish (s : State) (session role : Nat) (work : State → State) : Out :=
  if s.serviceUp then
    match s.mgmt.accountOf session with
    | none => .next (s.http 401 0 [])
    | some a => if a.changeRequired = true ∨ role < a.role then .next (s.http 403 0 []) else .next (work s)
  else .next s

/-- Post a message for a Redfish request; REDFISH_TASK_DONE answers it. -/
def State.postTask (s : State) (opcode : Nat) (payload : Bytes) : State :=
  match s.postMessage opcode payload with
  | none => s.http 503 0 []
  | some (tag, s) => s.updMgmt (fun g => { g with nextTask := g.nextTask + 1, tasks := g.tasks ++ [{ id := g.nextTask, opcode := opcode, tag := tag }] })

/-- Change an account. -/
def Mgmt.updAccount (g : Mgmt) (name : Nat) (f : MgmtAccount → MgmtAccount) : Mgmt :=
  { g with accounts := g.accounts.map (fun a => if a.name = name then f a else a) }

/-- Failed logins that lock an account, for 60 s. -/
def maxFailures : Nat := 5
def lockTicks : Nat := 6000000000

/-- REDFISH_SESSION (R421). -/
def execRedfishSession (account : Nat) (password : Bytes) (s : State) : Out :=
  if s.serviceUp then
    match s.mgmt.accounts.find? (fun a => a.name == account) with
    | none => .next (s.http 401 0 [])
    | some a =>
      if s.now < a.lockedUntil then .next (s.http 401 0 [])
      else if a.password.getD Config.labelPassword = password then
        let n := s.mgmt.nextSession
        .next ((s.updMgmt (fun g => { (g.updAccount account (fun a => { a with failures := 0 })) with
          sessions := g.sessions.set n account, nextSession := n + 1 })).http 201 0 (natLE 4 n))
      else
        .next ((s.updMgmt (fun g => g.updAccount account (fun a =>
          if maxFailures ≤ a.failures + 1 then { a with failures := 0, lockedUntil := s.now + lockTicks }
          else { a with failures := a.failures + 1 }))).http 401 0 [])
  else .next s

/-- The shortest password. -/
def minPassword : Nat := 12

/-- REDFISH_ACCOUNT_PATCH: an Administrator sets the password (none: unchanged) and the role of an account, adding it
where there is none; under PasswordChangeRequired an account may change its own password and nothing else. -/
def execRedfishAccountPatch (session account : Nat) (password : Bytes) (role : Nat) (s : State) : Out :=
  if s.serviceUp then
    match s.mgmt.accountOf session with
    | none => .next (s.http 401 0 [])
    | some a =>
      let own := a.name = account ∧ password ≠ [] ∧ role = a.role
      if (a.changeRequired = true ∧ ¬ own) ∨ (a.changeRequired = false ∧ a.role ≠ roleAdministrator) then .next (s.http 403 0 [])
      else if (password ≠ [] ∧ password.length < minPassword) ∨ roleReadOnly < role then .next (s.http 400 0 [])
      else if (s.mgmt.accounts.any (fun x => x.name == account)) = true then
        .next ((s.updMgmt (fun g => g.updAccount account (fun x =>
          if password = [] then { x with role := role } else { x with role := role, password := some password, changeRequired := false }))).http 200 0 [])
      else if password = [] then .next (s.http 400 0 [])
      else
        .next ((s.updMgmt (fun g => { g with accounts := g.accounts ++
          [{ name := account, password := some password, role := role, changeRequired := false, failures := 0, lockedUntil := 0 }] })).http 200 0 [])
  else .next s

/-- CERTIFICATE_REPLACE (R420). -/
def execCertificateReplace (session : Nat) (certificate : Bytes) (s : State) : Out :=
  s.redfish session roleAdministrator (fun s => (s.updMgmt (fun g => { g with certificate := certificate })).http 200 0 [])

/-- MANAGER_RESET: a module warm reset (R457). -/
def execManagerReset (session : Nat) (s : State) : Out := s.redfish session roleAdministrator (fun s => (s.startWarm 5).http 204 0 [])

/-- MANAGER_NETWORK_PATCH (R419). -/
def execManagerNetworkPatch (session : Nat) (settings : Bytes) (s : State) : Out :=
  s.redfish session roleAdministrator (fun s => (s.updMgmt (fun g => { g with network := settings })).http 200 0 [])

/-- A LODGE_LOADER that waits takes effect at the Lodge's reset, measured (R433). -/
def State.switchLodge (s : State) : State :=
  match (s.fwClass 4).switchWaits, s.staged 4 with
  | true, some i =>
    let s := s.updClass 4 (fun x => { x with running := x.other, switchWaits := false, lastResult := resultActivated })
    { s with gatehouse := { s.gatehouse with measures := s.gatehouse.measures.set 5 i.digest } }.notify 8 (4 * 16 + resultActivated)
  | _, _ => s

/-- COMPUTERSYSTEM_RESET: the Lodge resets, which closes every self-hosted plot. -/
def execComputerSystemReset (session : Nat) (s : State) : Out :=
  s.redfish session roleOperator (fun s =>
    let ps := s.openPlots.filter (fun p => (s.plot p).cfg.driver == 0)
    ((ps.foldl (fun t p => (t.startClose p).finishClose p) s).switchLodge).http 204 0 [])

/-- MULTIPARTHTTPPUSHURI: the image goes to the push buffer, and FW_STAGE is posted. -/
def execMultipartHttpPushUri (session cls : Nat) (image : Bytes) (s : State) : Out :=
  s.redfish session roleAdministrator (fun s =>
    (s.updMgmt (fun g => { g with pushBuffer := image })).postTask opFwStage
      (natLE 1 0 ++ natLE 1 cls ++ natLE 6 0 ++ natLE 8 image.length ++ shaBytes image))

/-- REDFISH_ACTIVATE. -/
def execRedfishActivate (session cls : Nat) (resetOk closePlots : Bool) (s : State) : Out :=
  s.redfish session roleAdministrator (fun s =>
    s.postTask opFwActivate (natLE 1 0 ++ natLE 1 cls ++ natLE 1 (b2n resetOk + 2 * b2n closePlots) ++ natLE 13 0))

/-- REDFISH_COMMIT. -/
def execRedfishCommit (session cls : Nat) (s : State) : Out :=
  s.redfish session roleAdministrator (fun s => s.postTask opFwActivate (natLE 1 1 ++ natLE 1 cls ++ natLE 14 0))

/-- The payload of a TELEMETRY_READ that management posts: its buffer holds 16 MiB. -/
def telemetryPayload (cls flags : Nat) : Bytes := natLE 1 cls ++ natLE 1 flags ++ natLE 14 0 ++ natLE 8 0x1000000 ++ natLE 8 0

/-- COLLECTDIAGNOSTICDATA: the field record; a module that has not reached service gives it too (R338). -/
def execCollectDiagnosticData (session : Nat) (s : State) : Out :=
  s.redfish session roleOperator (fun s =>
    if s.bothy.ready then s.postTask opTelemetryRead (telemetryPayload 1 0)
    else
      let x := s.fieldBytes
      x.2.http 200 0 x.1)

/-- CLEARLOG: the error log is consumed. -/
def execClearLog (session : Nat) (s : State) : Out :=
  s.redfish session roleOperator (fun s => s.postTask opTelemetryRead (telemetryPayload 2 1))

/-- SPDMGETSIGNEDMEASUREMENTS: ATTEST_GET in plot 0's area, for every role. -/
def execSpdmGetSignedMeasurements (session : Nat) (nonce : Bytes) (s : State) : Out :=
  s.redfish session roleReadOnly (fun s => s.postTask opAttestGet (natLE 16 0 ++ bytesAt nonce 0 32))

/-- EVENT_SUBSCRIPTION: POST or DELETE of a subscription. -/
def execEventSubscription (session : Nat) (remove : Bool) (id : Nat) (s : State) : Out :=
  s.redfish session roleOperator (fun s =>
    if remove then
      if s.mgmt.subs.contains id then (s.updMgmt (fun g => { g with subs := g.subs.filter (· != id) })).http 204 0 [] else s.http 404 0 []
    else
      let n := s.mgmt.nextSub
      (s.updMgmt (fun g => { g with subs := g.subs ++ [n], nextSub := n + 1 })).http 201 0 (natLE 4 n))

/-- MODULEPATCH: axes D, E and F, MOD_SCHED_CFG and MOD_PATROL_CFG. A change of an axis while a tenant plot is open is
refused with 409, and nothing changes (R21, R422). -/
def execModulePatch (session mode sliceUs patrol : Nat) (s : State) : Out :=
  s.redfish session roleAdministrator (fun s =>
    if mode % 8 ≠ s.mod.modeBits ∧ s.tenantOpen = true then s.http 409 stNotPermitted []
    else
      let s := if s.tenantOpen then s else s.setModes mode
      ((s.setSlice sliceUs).setPatrol patrol).http 200 0 [])

/-- PLOTOPEN: the Open action of a plot. -/
def execPlotOpenAction (session : Nat) (payload : Bytes) (s : State) : Out :=
  s.redfish session roleOperator (fun s => s.postTask opPlotOpen (bytesAt payload 0 64))

/-- PLOTCLOSE: the Close action of a plot. -/
def execPlotCloseAction (session plot : Nat) (s : State) : Out :=
  s.redfish session roleOperator (fun s => s.postTask opPlotClose (natLE 1 plot ++ natLE 7 0))

/-- HTTP_REDIRECT (R420): a request on port 80. -/
def execHttpRedirect (s : State) : Out := if s.serviceUp then .next (s.http 301 0 []) else .next s

/-- The HTTP code of a message's status (R422). -/
def httpOf (status : Nat) : Nat :=
  if status = stOk then 200
  else if status = stNoMemory ∨ status = stShareExceeded then 409
  else if status = stTimeout then 503
  else 400

/-- REDFISH_TASK_DONE: the message of a task has its completion record; the answer names its status and gives its
result. -/
def execRedfishTaskDone (task : Nat) (s : State) : Out :=
  match s.mgmt.tasks.find? (fun t => t.id == task) with
  | none => .next s
  | some t =>
    match s.postedRecord t.tag with
    | none => .next s
    | some (st, b) =>
      .next ((s.updMgmt (fun g => { g with tasks := g.tasks.filter (fun x => x.id != task) })).http (httpOf st) st (b.drop 16))

end Sys2Proof.Machine
end

