-- ==== Sys2Proof/Machine/Dispatch.lean ====
section
/-! DEFINITION. One arm per command: a direct call of its meaning. -/

namespace Sys2Proof.Machine

def exec (i : Instr) (s : State) : Host.Outcome State Fault Refusal :=
  match i with
  | .mailboxScan => Sys2Proof.Machine.execMailboxScan s
  | .plotOpen => Sys2Proof.Machine.execPlotOpen s
  | .plotClose failed => Sys2Proof.Machine.execPlotClose failed s
  | .plotQuery plot => Sys2Proof.Machine.execPlotQuery plot s
  | .moduleInfo plot => Sys2Proof.Machine.execModuleInfo plot s
  | .memMap plot => Sys2Proof.Machine.execMemMap plot s
  | .memUnmap plot => Sys2Proof.Machine.execMemUnmap plot s
  | .granuleZeroingDone run badLines => Sys2Proof.Machine.execGranuleZeroingDone run badLines s
  | .memScrub plot => Sys2Proof.Machine.execMemScrub plot s
  | .planLoad plot => Sys2Proof.Machine.execPlanLoad plot s
  | .planDrop plot => Sys2Proof.Machine.execPlanDrop plot s
  | .stepRun plot => Sys2Proof.Machine.execStepRun plot s
  | .stepStart plot plan => Sys2Proof.Machine.execStepStart plot plan s
  | .stepEnd plot plan => Sys2Proof.Machine.execStepEnd plot plan s
  | .stepAbort plot => Sys2Proof.Machine.execStepAbort plot s
  | .adapterRegister plot => Sys2Proof.Machine.execAdapterRegister plot s
  | .adapterAdmit plot => Sys2Proof.Machine.execAdapterAdmit plot s
  | .adapterEvict plot => Sys2Proof.Machine.execAdapterEvict plot s
  | .adapterEvictForce plot => Sys2Proof.Machine.execAdapterEvictForce plot s
  | .adapterEvictUnregister plot => Sys2Proof.Machine.execAdapterEvictUnregister plot s
  | .adapterEvictResidencyOnly plot => Sys2Proof.Machine.execAdapterEvictResidencyOnly plot s
  | .baseBind plot => Sys2Proof.Machine.execBaseBind plot s
  | .baseBindApply plot => Sys2Proof.Machine.execBaseBindApply plot s
  | .seqAdmit plot => Sys2Proof.Machine.execSeqAdmit plot s
  | .append plot => Sys2Proof.Machine.execAppend plot s
  | .truncate plot => Sys2Proof.Machine.execTruncate plot s
  | .setMax plot => Sys2Proof.Machine.execSetMax plot s
  | .setAdapter plot => Sys2Proof.Machine.execSetAdapter plot s
  | .pause plot => Sys2Proof.Machine.execPause plot s
  | .resume plot => Sys2Proof.Machine.execResume plot s
  | .seqEditQuery plot => Sys2Proof.Machine.execSeqEditQuery plot s
  | .seqRetire plot => Sys2Proof.Machine.execSeqRetire plot s
  | .groupJoin plot => Sys2Proof.Machine.execGroupJoin plot s
  | .groupHandshake l h => Sys2Proof.Machine.execGroupHandshake l h s
  | .groupJoinTimeout plot group => Sys2Proof.Machine.execGroupJoinTimeout plot group s
  | .groupLeave plot => Sys2Proof.Machine.execGroupLeave plot s
  | .routeSet plot => Sys2Proof.Machine.execRouteSet plot s
  | .snapshotBeginSource plot => Sys2Proof.Machine.execSnapshotBeginSource plot s
  | .snapshotBeginKeeper plot => Sys2Proof.Machine.execSnapshotBeginKeeper plot s
  | .snapshotBeginEnd plot => Sys2Proof.Machine.execSnapshotBeginEnd plot s
  | .snapshotQuery plot => Sys2Proof.Machine.execSnapshotQuery plot s
  | .restore plot => Sys2Proof.Machine.execRestore plot s
  | .survivePolicyArm plot => Sys2Proof.Machine.execSurvivePolicyArm plot s
  | .survivePolicyDisarm plot => Sys2Proof.Machine.execSurvivePolicyDisarm plot s
  | .survivePolicyQuery plot => Sys2Proof.Machine.execSurvivePolicyQuery plot s
  | .survivePolicyFill plot => Sys2Proof.Machine.execSurvivePolicyFill plot s
  | .survivePolicyReinstate plot => Sys2Proof.Machine.execSurvivePolicyReinstate plot s
  | .memberLost plot => Sys2Proof.Machine.execMemberLost plot s
  | .attestGet plot => Sys2Proof.Machine.execAttestGet plot s
  | .keyInstall plot => Sys2Proof.Machine.execKeyInstall plot s
  | .keyDelete plot => Sys2Proof.Machine.execKeyDelete plot s
  | .keyUnseal plot => Sys2Proof.Machine.execKeyUnseal plot s
  | .hallAnchor buffer => Sys2Proof.Machine.execHallAnchor buffer s
  | .fieldRecord => Sys2Proof.Machine.execFieldRecord s
  | .errorLog => Sys2Proof.Machine.execErrorLog s
  | .counters => Sys2Proof.Machine.execCounters s
  | .sensors => Sys2Proof.Machine.execSensors s
  | .accounts => Sys2Proof.Machine.execAccounts s
  | .histogram plot => Sys2Proof.Machine.execHistogram plot s
  | .ratios plot => Sys2Proof.Machine.execRatios plot s
  | .accountReadPlot plot => Sys2Proof.Machine.execAccountReadPlot plot s
  | .accountReadAdapter plot => Sys2Proof.Machine.execAccountReadAdapter plot s
  | .belvedereCfg plot => Sys2Proof.Machine.execBelvedereCfg plot s
  | .belvedereCfgQuery plot => Sys2Proof.Machine.execBelvedereCfgQuery plot s
  | .fwStage => Sys2Proof.Machine.execFwStage s
  | .fwActivate => Sys2Proof.Machine.execFwActivate s
  | .fwCommit => Sys2Proof.Machine.execFwCommit s
  | .fwQuery => Sys2Proof.Machine.execFwQuery s
  | .bothyTakeOver pauseUs => Sys2Proof.Machine.execBothyTakeOver pauseUs s
  | .completionRecordWrite plot => Sys2Proof.Machine.execCompletionRecordWrite plot s
  | .bthMbRingTailWrite plot value => Sys2Proof.Machine.execBthMbRingTailWrite plot value s
  | .bthMbVecMaskWrite plot value => Sys2Proof.Machine.execBthMbVecMaskWrite plot value s
  | .modModeWrite value => Sys2Proof.Machine.execModModeWrite value s
  | .modFabricIdWrite value => Sys2Proof.Machine.execModFabricIdWrite value s
  | .modPatrolCfgWrite value => Sys2Proof.Machine.execModPatrolCfgWrite value s
  | .modSchedCfgWrite value => Sys2Proof.Machine.execModSchedCfgWrite value s
  | .prtErrWrite pav value => Sys2Proof.Machine.execPrtErrWrite pav value s
  | .pavErrWrite pav value => Sys2Proof.Machine.execPavErrWrite pav value s
  | .modMemErrWrite value => Sys2Proof.Machine.execModMemErrWrite value s
  | .cscErrWrite engine value => Sys2Proof.Machine.execCscErrWrite engine value s
  | .avnErrWrite port value => Sys2Proof.Machine.execAvnErrWrite port value s
  | .orgErrWrite value => Sys2Proof.Machine.execOrgErrWrite value s
  | .trlErrWrite value => Sys2Proof.Machine.execTrlErrWrite value s
  | .bthErrWrite value => Sys2Proof.Machine.execBthErrWrite value s
  | .gthErrWrite value => Sys2Proof.Machine.execGthErrWrite value s
  | .registerWrite agent addr data => Sys2Proof.Machine.execRegisterWrite agent addr data s
  | .descriptorFetch pav queue => Sys2Proof.Machine.execDescriptorFetch pav queue s
  | .wload pav faults => Sys2Proof.Machine.execWload pav faults s
  | .stream pav faults => Sys2Proof.Machine.execStream pav faults s
  | .drain pav faults => Sys2Proof.Machine.execDrain pav faults s
  | .gbufSpill pav faults => Sys2Proof.Machine.execGbufSpill pav faults s
  | .vprog pav faults => Sys2Proof.Machine.execVprog pav faults s
  | .scale pav faults => Sys2Proof.Machine.execScale pav faults s
  | .copy pav faults => Sys2Proof.Machine.execCopy pav faults s
  | .semWait pav queue faults => Sys2Proof.Machine.execSemWait pav queue faults s
  | .semSignal pav queue faults => Sys2Proof.Machine.execSemSignal pav queue faults s
  | .descriptorRetire pav queue => Sys2Proof.Machine.execDescriptorRetire pav queue s
  | .spanIteration pav => Sys2Proof.Machine.execSpanIteration pav s
  | .sliceBoundary => Sys2Proof.Machine.execSliceBoundary s
  | .plotReady plot => Sys2Proof.Machine.execPlotReady plot s
  | .earlyBoundary plot => Sys2Proof.Machine.execEarlyBoundary plot s
  | .plotSwitch pav overrunTicks switchTicks => Sys2Proof.Machine.execPlotSwitch pav overrunTicks switchTicks s
  | .droopTrip pav => Sys2Proof.Machine.execDroopTrip pav s
  | .droopRecovery pav => Sys2Proof.Machine.execDroopRecovery pav s
  | .thermalStepDown pav celsius => Sys2Proof.Machine.execThermalStepDown pav celsius s
  | .thermalStepUp pav celsius => Sys2Proof.Machine.execThermalStepUp pav celsius s
  | .thermalTrip pav celsius => Sys2Proof.Machine.execThermalTrip pav celsius s
  | .pavilionCooled pav celsius => Sys2Proof.Machine.execPavilionCooled pav celsius s
  | .limiterAssert watts => Sys2Proof.Machine.execLimiterAssert watts s
  | .limiterRelease watts => Sys2Proof.Machine.execLimiterRelease watts s
  | .overpowerShutdown watts => Sys2Proof.Machine.execOverpowerShutdown watts s
  | .refresh2x stack celsius => Sys2Proof.Machine.execRefresh2x stack celsius s
  | .memoryThermalTrip stack celsius => Sys2Proof.Machine.execMemoryThermalTrip stack celsius s
  | .junctionThermalTrip celsius => Sys2Proof.Machine.execJunctionThermalTrip celsius s
  | .undervoltage millivolts micros => Sys2Proof.Machine.execUndervoltage millivolts micros s
  | .overvoltage millivolts micros => Sys2Proof.Machine.execOvervoltage millivolts micros s
  | .inputApplied millivolts => Sys2Proof.Machine.execInputApplied millivolts s
  | .refclkLoss micros => Sys2Proof.Machine.execRefclkLoss micros s
  | .refclkRestored boot => Sys2Proof.Machine.execRefclkRestored boot s
  | .modResetNFall micros => Sys2Proof.Machine.execModResetNFall micros s
  | .modResetNRise boot => Sys2Proof.Machine.execModResetNRise boot s
  | .warmReset boot => Sys2Proof.Machine.execWarmReset boot s
  | .pciePerstNFall => Sys2Proof.Machine.execPciePerstNFall s
  | .pciePerstNRise => Sys2Proof.Machine.execPciePerstNRise s
  | .functionLevelReset fn => Sys2Proof.Machine.execFunctionLevelReset fn s
  | .patrolScrub finds => Sys2Proof.Machine.execPatrolScrub finds s
  | .memoryWriteRetire controller => Sys2Proof.Machine.execMemoryWriteRetire controller s
  | .tierMove => Sys2Proof.Machine.execTierMove s
  | .moveRetire faults => Sys2Proof.Machine.execMoveRetire faults s
  | .adapterPrefetch plot handle => Sys2Proof.Machine.execAdapterPrefetch plot handle s
  | .prefetchRetry plot handle => Sys2Proof.Machine.execPrefetchRetry plot handle s
  | .listSelection plot plan => Sys2Proof.Machine.execListSelection plot plan s
  | .listClose plot plan => Sys2Proof.Machine.execListClose plot plan s
  | .candidates port f => Sys2Proof.Machine.execCandidates port f s
  | .readyset port f => Sys2Proof.Machine.execReadyset port f s
  | .sealJob plot => Sys2Proof.Machine.execSealJob plot s
  | .kvSpill plot bytes => Sys2Proof.Machine.execKvSpill plot bytes s
  | .optimiserUpdate plot plan => Sys2Proof.Machine.execOptimiserUpdate plot plan s
  | .tileHandoff pav => Sys2Proof.Machine.execTileHandoff pav s
  | .wave port f => Sys2Proof.Machine.execWave port f s
  | .tileConvert plot plan seq faults => Sys2Proof.Machine.execTileConvert plot plan seq faults s
  | .up port f faults => Sys2Proof.Machine.execUp port f faults s
  | .down port f faults => Sys2Proof.Machine.execDown port f faults s
  | .resend l seq frameIdx groupId retentionBad => Sys2Proof.Machine.execResend l seq frameIdx groupId retentionBad s
  | .control l acks => Sys2Proof.Machine.execControl l acks s
  | .ackTimer port => Sys2Proof.Machine.execAckTimer port s
  | .frameRetransmit port retentionBad => Sys2Proof.Machine.execFrameRetransmit port retentionBad s
  | .skipset port f => Sys2Proof.Machine.execSkipset port f s
  | .relay port f => Sys2Proof.Machine.execRelay port f s
  | .hello l peer => Sys2Proof.Machine.execHello l peer s
  | .linkDown port => Sys2Proof.Machine.execLinkDown port s
  | .foreignFrame port etherType bytes => Sys2Proof.Machine.execForeignFrame port etherType bytes s
  | .heartbeatSend => Sys2Proof.Machine.execHeartbeatSend s
  | .neighbourSilent plot group fabricId => Sys2Proof.Machine.execNeighbourSilent plot group fabricId s
  | .leaseLapse plot group fabricId => Sys2Proof.Machine.execLeaseLapse plot group fabricId s
  | .loss l groupId generation lostRank => Sys2Proof.Machine.execLoss l groupId generation lostRank s
  | .leave l groupId generation rank => Sys2Proof.Machine.execLeave l groupId generation rank s
  | .recompactionTimeout plot group rank => Sys2Proof.Machine.execRecompactionTimeout plot group rank s
  | .fill port f => Sys2Proof.Machine.execFill port f s
  | .mirrorPromotion plot plan => Sys2Proof.Machine.execMirrorPromotion plot plan s
  | .reinstateHandover l groupId jobTag ports => Sys2Proof.Machine.execReinstateHandover l groupId jobTag ports s
  | .snapshot port f => Sys2Proof.Machine.execSnapshot port f s
  | .pauseNotice l millis => Sys2Proof.Machine.execPauseNotice l millis s
  | .commandWatchdog pav queue => Sys2Proof.Machine.execCommandWatchdog pav queue s
  | .waitLimit pav queue => Sys2Proof.Machine.execWaitLimit pav queue s
  | .terraceTimeout pav => Sys2Proof.Machine.execTerraceTimeout pav s
  | .heartbeatTimeout unit => Sys2Proof.Machine.execHeartbeatTimeout unit s
  | .gatehouseWatchdog pair => Sys2Proof.Machine.execGatehouseWatchdog pair s
  | .messageTimeout plot slot => Sys2Proof.Machine.execMessageTimeout plot slot s
  | .lockStepMismatch unit => Sys2Proof.Machine.execLockStepMismatch unit s
  | .getVersion conn => Sys2Proof.Machine.execGetVersion conn s
  | .getCapabilities conn version => Sys2Proof.Machine.execGetCapabilities conn version s
  | .negotiateAlgorithms conn supported => Sys2Proof.Machine.execNegotiateAlgorithms conn supported s
  | .getDigests conn => Sys2Proof.Machine.execGetDigests conn s
  | .getCertificate conn slot offset length => Sys2Proof.Machine.execGetCertificate conn slot offset length s
  | .challenge conn slot nonce => Sys2Proof.Machine.execChallenge conn slot nonce s
  | .getMeasurements conn index signed nonce => Sys2Proof.Machine.execGetMeasurements conn index signed nonce s
  | .keyExchange conn ek => Sys2Proof.Machine.execKeyExchange conn ek s
  | .finish conn session verifyOk => Sys2Proof.Machine.execFinish conn session verifyOk s
  | .spdmHeartbeat conn session => Sys2Proof.Machine.execSpdmHeartbeat conn session s
  | .keyUpdate conn session => Sys2Proof.Machine.execKeyUpdate conn session s
  | .endSession conn session => Sys2Proof.Machine.execEndSession conn session s
  | .ideKm session fn stream keySet key => Sys2Proof.Machine.execIdeKm session fn stream keySet key s
  | .chunkSend conn handle seqNo last data => Sys2Proof.Machine.execChunkSend conn handle seqNo last data s
  | .chunkGet conn handle seqNo => Sys2Proof.Machine.execChunkGet conn handle seqNo s
  | .getTdispVersion fn => Sys2Proof.Machine.execGetTdispVersion fn s
  | .getTdispCapabilities fn => Sys2Proof.Machine.execGetTdispCapabilities fn s
  | .lockInterfaceRequest fn => Sys2Proof.Machine.execLockInterfaceRequest fn s
  | .getDeviceInterfaceReport fn => Sys2Proof.Machine.execGetDeviceInterfaceReport fn s
  | .getDeviceInterfaceState fn => Sys2Proof.Machine.execGetDeviceInterfaceState fn s
  | .startInterfaceRequest fn => Sys2Proof.Machine.execStartInterfaceRequest fn s
  | .stopInterfaceRequest fn => Sys2Proof.Machine.execStopInterfaceRequest fn s
  | .ideIntegrityFailure fn => Sys2Proof.Machine.execIdeIntegrityFailure fn s
  | .keyx l k => Sys2Proof.Machine.execKeyx l k s
  | .rekey port => Sys2Proof.Machine.execRekey port s
  | .rekeyTimeout port fabricId => Sys2Proof.Machine.execRekeyTimeout port fabricId s
  | .mctpControl setEid eid => Sys2Proof.Machine.execMctpControl setEid eid s
  | .setTid tid => Sys2Proof.Machine.execSetTid tid s
  | .getTid => Sys2Proof.Machine.execGetTid s
  | .getPldmVersion type => Sys2Proof.Machine.execGetPldmVersion type s
  | .getPldmTypes => Sys2Proof.Machine.execGetPldmTypes s
  | .getPldmCommands type => Sys2Proof.Machine.execGetPldmCommands type s
  | .getPdr recordHandle => Sys2Proof.Machine.execGetPdr recordHandle s
  | .getSensorReading sensor => Sys2Proof.Machine.execGetSensorReading sensor s
  | .getStateSensorReadings sensor => Sys2Proof.Machine.execGetStateSensorReadings sensor s
  | .setEventReceiver enable eid => Sys2Proof.Machine.execSetEventReceiver enable eid s
  | .platformEventMessage => Sys2Proof.Machine.execPlatformEventMessage s
  | .queryDeviceIdentifiers => Sys2Proof.Machine.execQueryDeviceIdentifiers s
  | .getFirmwareParameters => Sys2Proof.Machine.execGetFirmwareParameters s
  | .requestUpdate => Sys2Proof.Machine.execRequestUpdate s
  | .passComponentTable cls => Sys2Proof.Machine.execPassComponentTable cls s
  | .updateComponent cls size => Sys2Proof.Machine.execUpdateComponent cls size s
  | .requestFirmwareData offset data => Sys2Proof.Machine.execRequestFirmwareData offset data s
  | .transferComplete => Sys2Proof.Machine.execTransferComplete s
  | .verifyComplete => Sys2Proof.Machine.execVerifyComplete s
  | .applyComplete => Sys2Proof.Machine.execApplyComplete s
  | .activateFirmware resetOk closePlots => Sys2Proof.Machine.execActivateFirmware resetOk closePlots s
  | .getStatus => Sys2Proof.Machine.execGetStatus s
  | .cancelUpdateComponent => Sys2Proof.Machine.execCancelUpdateComponent s
  | .cancelUpdate => Sys2Proof.Machine.execCancelUpdate s
  | .recoveryRequest vendorId code => Sys2Proof.Machine.execRecoveryRequest vendorId code s
  | .redfishSession account password => Sys2Proof.Machine.execRedfishSession account password s
  | .redfishAccountPatch session account password role => Sys2Proof.Machine.execRedfishAccountPatch session account password role s
  | .certificateReplace session certificate => Sys2Proof.Machine.execCertificateReplace session certificate s
  | .managerReset session => Sys2Proof.Machine.execManagerReset session s
  | .managerNetworkPatch session settings => Sys2Proof.Machine.execManagerNetworkPatch session settings s
  | .computerSystemReset session => Sys2Proof.Machine.execComputerSystemReset session s
  | .multipartHttpPushUri session cls image => Sys2Proof.Machine.execMultipartHttpPushUri session cls image s
  | .redfishActivate session cls resetOk closePlots => Sys2Proof.Machine.execRedfishActivate session cls resetOk closePlots s
  | .redfishCommit session cls => Sys2Proof.Machine.execRedfishCommit session cls s
  | .collectDiagnosticData session => Sys2Proof.Machine.execCollectDiagnosticData session s
  | .clearLog session => Sys2Proof.Machine.execClearLog session s
  | .spdmGetSignedMeasurements session nonce => Sys2Proof.Machine.execSpdmGetSignedMeasurements session nonce s
  | .eventSubscription session remove id => Sys2Proof.Machine.execEventSubscription session remove id s
  | .modulePatch session mode sliceUs patrol => Sys2Proof.Machine.execModulePatch session mode sliceUs patrol s
  | .plotOpenAction session payload => Sys2Proof.Machine.execPlotOpenAction session payload s
  | .plotCloseAction session plot => Sys2Proof.Machine.execPlotCloseAction session plot s
  | .httpRedirect => Sys2Proof.Machine.execHttpRedirect s
  | .redfishTaskDone task => Sys2Proof.Machine.execRedfishTaskDone task s
  | .trialRevert boot => Sys2Proof.Machine.execTrialRevert boot s
  | .recoveryHello => Sys2Proof.Machine.execRecoveryHello s
  | .recoveryBegin cls length digest => Sys2Proof.Machine.execRecoveryBegin cls length digest s
  | .recoveryData session offset data => Sys2Proof.Machine.execRecoveryData session offset data s
  | .recoveryCommit session => Sys2Proof.Machine.execRecoveryCommit session s
  | .recoveryReboot session boot => Sys2Proof.Machine.execRecoveryReboot session boot s
  | .recoveryAbort session => Sys2Proof.Machine.execRecoveryAbort session s
  | .recoverySessionTimeout => Sys2Proof.Machine.execRecoverySessionTimeout s
  | .heartbeatReceive l => Sys2Proof.Machine.execHeartbeatReceive l s
  | .addressFault agent addr write hostDma => Sys2Proof.Machine.execAddressFault agent addr write hostDma s
  | .trngHealthFail => Sys2Proof.Machine.execTrngHealthFail s
  | .takeOverRevert boot => Sys2Proof.Machine.execTakeOverRevert boot s
  | .partnershipFormed plot partnership named jobTag role image => Sys2Proof.Machine.execPartnershipFormed plot partnership named jobTag role image s
  | .partnerNoAnswer plot partnership => Sys2Proof.Machine.execPartnerNoAnswer plot partnership s
  | .fillRequest l groupId jobTag base stage offset fingerprint ports => Sys2Proof.Machine.execFillRequest l groupId jobTag base stage offset fingerprint ports s
  | .partnerRestoreRequest l jobTag slot => Sys2Proof.Machine.execPartnerRestoreRequest l jobTag slot s
  | .snapshotDone plot partnership => Sys2Proof.Machine.execSnapshotDone plot partnership s

end Sys2Proof.Machine
end

