-- ==== Sys2Proof/WellFormed.lean ====
section
/-! DEFINITION. Which commands can occur at all: each operand that names a plot, a Pavilion, a port or
another numbered unit names one that the module has. The meanings do not rely on it: a table entry that
the module does not have reads as its default. -/

namespace Sys2Proof

/-- Plots 0 to 16 (R339). -/
def plotOk (p : Nat) : Bool := decide (p < 17)

/-- Pavilions 0 to 127 (R7). -/
def pavOk (p : Nat) : Bool := decide (p < 128)

/-- A bank of R416: 32 of a Pavilion's local store, and 96 Glasshouse units of each Terrace. -/
def bankOk : SramBank → Bool
  | .store pav bank => pavOk pav && decide (bank < 32)
  | .glasshouse terrace unit => decide (terrace < 2) && decide (unit < 96)

/-- Avenue ports 0 to 11. -/
def portOk (p : Nat) : Bool := decide (p < 12)

/-- Cascade engines 0 to 13 (Table CSC-11). -/
def engineOk (i : Nat) : Bool := decide (i < 14)

/-- HBM stacks 0 to 11 and Cold Frame channels 12 to 35 (R155, R156). -/
def controllerOk (i : Nat) : Bool := decide (i < 36)

/-- HBM stacks 0 to 11. -/
def stackOk (i : Nat) : Bool := decide (i < 12)

/-- Functions of the host port: 0 is the physical function, 1 to 16 the plots' virtual functions. -/
def fnOk (i : Nat) : Bool := decide (i < 17)

/-- SPDM connections: DOE, MCTP and the management service. -/
def connOk (i : Nat) : Bool := decide (i < 3)

/-- Firmware classes 1 to 4 (R427). -/
def classOk (i : Nat) : Bool := decide (1 ≤ i) && decide (i ≤ 4)

/-- A register write carries at most 64 bits. -/
def wordOk (v : Nat) : Bool := decide (v < 2 ^ 64)

/-- An agent names a plot that the module has. -/
def agentOk : Agent → Bool
  | .plot p => plotOk p
  | .hostPlain p => plotOk p && p != 0
  | .lodge => true
  | .device => true

/-- A unit that the module has. -/
def unitOk : HwUnit → Bool
  | .pavilion p => pavOk p
  | .terraceSequencer t => decide (t < 2)
  | .cascade i => engineOk i
  | .portEngine i => portOk i
  | .trellis => true
  | .orangery => true
  | .tierMover => true
  | .memoryController i => controllerOk i
  | .bothyPair i => decide (i < 4)
  | .gatehouse => true

/-- The header fields of a frame fit their places in Table CSC-9. -/
def frameOk (f : Frame) : Bool :=
  decide (f.dst < 2 ^ 36) && decide (f.dstPort < 12) && decide (f.src < 2 ^ 36) && decide (f.srcPort < 12) &&
  decide (f.kind < 256) && decide (f.vc < 4) && decide (f.frameIdx < 256) && decide (f.frameCnt < 256) &&
  decide (f.groupId < 2 ^ 32) && decide (f.generation < 2 ^ 32) && decide (f.senderRank < 2 ^ 32) && decide (f.step < 2 ^ 64) &&
  decide (f.seq < 2 ^ 32) && decide (f.e < 256) && decide (f.mM1 < 65536) && decide (f.c < 2 ^ 32) && decide (f.dropped < 2 ^ 32) &&
  decide (f.adapter < 2 ^ 32) && decide (f.tensor < 65536) && decide (f.keyEpoch < 256) && decide (f.tile < 2 ^ 32) &&
  decide (f.linkSeq < 2 ^ 64) && decide (f.payload.length ≤ 8192) && f.residues.all (fun x => decide (x < 65536))

/-- A link names ports and a module that there can be, and the fields of a header fit their places in Table CSC-9. -/
def linkOk (l : Link) : Bool :=
  portOk l.port && decide (l.src < 2 ^ 36) && portOk l.srcPort && decide (l.keyEpoch < 256) && decide (l.linkSeq < 2 ^ 64)

/-- Whether a command can occur. -/
def Instr.wf : Instr → Bool
  | .mailboxScan => true
  | .plotOpen => true
  | .plotClose failed => failed.all bankOk
  | .plotQuery plot => plotOk plot
  | .moduleInfo plot => plotOk plot
  | .memMap plot => plotOk plot
  | .memUnmap plot => plotOk plot
  | .granuleZeroingDone _ _ => true
  | .memScrub plot => plotOk plot
  | .planLoad plot => plotOk plot
  | .planDrop plot => plotOk plot
  | .stepRun plot => plotOk plot
  | .stepStart plot _ => plotOk plot
  | .stepEnd plot _ => plotOk plot
  | .stepAbort plot => plotOk plot
  | .adapterRegister plot => plotOk plot
  | .adapterAdmit plot => plotOk plot
  | .adapterEvict plot => plotOk plot
  | .adapterEvictForce plot => plotOk plot
  | .adapterEvictUnregister plot => plotOk plot
  | .adapterEvictResidencyOnly plot => plotOk plot
  | .baseBind plot => plotOk plot
  | .baseBindApply plot => plotOk plot
  | .seqAdmit plot => plotOk plot
  | .append plot => plotOk plot
  | .truncate plot => plotOk plot
  | .setMax plot => plotOk plot
  | .setAdapter plot => plotOk plot
  | .pause plot => plotOk plot
  | .resume plot => plotOk plot
  | .seqEditQuery plot => plotOk plot
  | .seqRetire plot => plotOk plot
  | .groupJoin plot => plotOk plot
  | .groupHandshake l h => linkOk l && decide (h.src = l.src)
  | .groupJoinTimeout plot _ => plotOk plot
  | .groupLeave plot => plotOk plot
  | .routeSet plot => plotOk plot
  | .snapshotBeginSource plot => plotOk plot
  | .snapshotBeginKeeper plot => plotOk plot
  | .snapshotBeginEnd plot => plotOk plot
  | .snapshotQuery plot => plotOk plot
  | .restore plot => plotOk plot
  | .survivePolicyArm plot => plotOk plot
  | .survivePolicyDisarm plot => plotOk plot
  | .survivePolicyQuery plot => plotOk plot
  | .survivePolicyFill plot => plotOk plot
  | .survivePolicyReinstate plot => plotOk plot
  | .memberLost plot => plotOk plot
  | .attestGet plot => plotOk plot
  | .keyInstall plot => plotOk plot
  | .keyDelete plot => plotOk plot
  | .keyUnseal plot => plotOk plot
  | .hallAnchor _ => true
  | .fieldRecord => true
  | .errorLog => true
  | .counters => true
  | .sensors => true
  | .accounts => true
  | .histogram plot => plotOk plot
  | .ratios plot => plotOk plot
  | .accountReadPlot plot => plotOk plot
  | .accountReadAdapter plot => plotOk plot
  | .belvedereCfg plot => plotOk plot
  | .belvedereCfgQuery plot => plotOk plot
  | .fwStage => true
  | .fwActivate => true
  | .fwCommit => true
  | .fwQuery => true
  | .bothyTakeOver _ => true
  | .completionRecordWrite plot => plotOk plot
  | .bthMbRingTailWrite plot value => plotOk plot && wordOk value
  | .bthMbVecMaskWrite plot value => plotOk plot && wordOk value
  | .modModeWrite value => wordOk value
  | .modFabricIdWrite value => wordOk value
  | .modPatrolCfgWrite value => wordOk value
  | .modSchedCfgWrite value => wordOk value
  | .prtErrWrite pav value => pavOk pav && wordOk value
  | .pavErrWrite pav value => pavOk pav && wordOk value
  | .modMemErrWrite value => wordOk value
  | .cscErrWrite engine value => engineOk engine && wordOk value
  | .avnErrWrite port value => portOk port && wordOk value
  | .orgErrWrite value => wordOk value
  | .trlErrWrite value => wordOk value
  | .bthErrWrite value => wordOk value
  | .gthErrWrite value => wordOk value
  | .registerWrite agent _ _ => agentOk agent
  | .descriptorFetch pav _ => pavOk pav
  | .wload pav _ => pavOk pav
  | .stream pav _ => pavOk pav
  | .drain pav _ => pavOk pav
  | .gbufSpill pav _ => pavOk pav
  | .vprog pav _ => pavOk pav
  | .scale pav _ => pavOk pav
  | .copy pav _ => pavOk pav
  | .semWait pav _ _ => pavOk pav
  | .semSignal pav _ _ => pavOk pav
  | .descriptorRetire pav _ => pavOk pav
  | .spanIteration pav => pavOk pav
  | .sliceBoundary => true
  | .plotReady plot => plotOk plot
  | .earlyBoundary plot => plotOk plot
  | .plotSwitch pav _ _ => pavOk pav
  | .droopTrip pav => pavOk pav
  | .droopRecovery pav => pavOk pav
  | .thermalStepDown pav _ => pavOk pav
  | .thermalStepUp pav _ => pavOk pav
  | .thermalTrip pav _ => pavOk pav
  | .pavilionCooled pav _ => pavOk pav
  | .limiterAssert _ => true
  | .limiterRelease _ => true
  | .overpowerShutdown _ => true
  | .refresh2x stack _ => stackOk stack
  | .memoryThermalTrip stack _ => stackOk stack
  | .junctionThermalTrip _ => true
  | .undervoltage _ _ => true
  | .overvoltage _ _ => true
  | .inputApplied _ => true
  | .refclkLoss _ => true
  | .refclkRestored _ => true
  | .modResetNFall _ => true
  | .modResetNRise _ => true
  | .warmReset _ => true
  | .pciePerstNFall => true
  | .pciePerstNRise => true
  | .functionLevelReset fn => fnOk fn
  | .patrolScrub _ => true
  | .memoryWriteRetire controller => controllerOk controller
  | .tierMove => true
  | .moveRetire _ => true
  | .adapterPrefetch plot _ => plotOk plot
  | .prefetchRetry plot _ => plotOk plot
  | .listSelection plot _ => plotOk plot
  | .listClose plot _ => plotOk plot
  | .candidates port f => portOk port && frameOk f
  | .readyset port f => portOk port && frameOk f
  | .sealJob plot => plotOk plot
  | .kvSpill plot _ => plotOk plot
  | .optimiserUpdate plot _ => plotOk plot
  | .tileHandoff pav => pavOk pav
  | .wave port f => portOk port && frameOk f
  | .tileConvert plot _ _ _ => plotOk plot
  | .up port f _ => portOk port && frameOk f
  | .down port f _ => portOk port && frameOk f
  | .resend l _ _ _ _ => linkOk l
  | .control l acks => linkOk l && acks.all (fun n => decide (n < 2 ^ 64))
  | .ackTimer port => portOk port
  | .frameRetransmit port _ => portOk port
  | .skipset port f => portOk port && frameOk f
  | .relay port f => portOk port && frameOk f
  | .hello l peer => linkOk l && (match peer with | some f => decide (f < 2 ^ 36) | none => true)
  | .linkDown port => portOk port
  | .foreignFrame port _ _ => portOk port
  | .heartbeatSend => true
  | .neighbourSilent plot _ fabricId => plotOk plot && decide (fabricId < 2 ^ 36)
  | .leaseLapse plot _ fabricId => plotOk plot && decide (fabricId < 2 ^ 36)
  | .loss l _ _ _ => linkOk l
  | .leave l _ _ _ => linkOk l
  | .recompactionTimeout plot _ _ => plotOk plot
  | .fill port f => portOk port && frameOk f
  | .mirrorPromotion plot _ => plotOk plot
  | .reinstateHandover l _ _ _ => linkOk l
  | .snapshot port f => portOk port && frameOk f
  | .pauseNotice l _ => linkOk l
  | .commandWatchdog pav _ => pavOk pav
  | .waitLimit pav _ => pavOk pav
  | .terraceTimeout pav => pavOk pav
  | .heartbeatTimeout unit => unitOk unit
  | .gatehouseWatchdog pair => decide (pair < 4)
  | .messageTimeout plot slot => plotOk plot && decide (slot < 32)
  | .lockStepMismatch unit => unitOk unit
  | .getVersion conn => connOk conn
  | .getCapabilities conn _ => connOk conn
  | .negotiateAlgorithms conn _ => connOk conn
  | .getDigests conn => connOk conn
  | .getCertificate conn _ _ _ => connOk conn
  | .challenge conn _ _ => connOk conn
  | .getMeasurements conn _ _ _ => connOk conn
  | .keyExchange conn _ => connOk conn
  | .finish conn _ _ => connOk conn
  | .spdmHeartbeat conn _ => connOk conn
  | .keyUpdate conn _ => connOk conn
  | .endSession conn _ => connOk conn
  | .ideKm _ fn _ _ _ => fnOk fn
  | .chunkSend conn _ _ _ _ => connOk conn
  | .chunkGet conn _ _ => connOk conn
  | .getTdispVersion fn => fnOk fn
  | .getTdispCapabilities fn => fnOk fn
  | .lockInterfaceRequest fn => fnOk fn
  | .getDeviceInterfaceReport fn => fnOk fn
  | .getDeviceInterfaceState fn => fnOk fn
  | .startInterfaceRequest fn => fnOk fn
  | .stopInterfaceRequest fn => fnOk fn
  | .ideIntegrityFailure fn => fnOk fn
  | .keyx l k => linkOk l && decide (k.fabricId = l.src)
  | .rekey port => portOk port
  | .rekeyTimeout port fabricId => portOk port && decide (fabricId < 2 ^ 36)
  | .mctpControl _ _ => true
  | .setTid _ => true
  | .getTid => true
  | .getPldmVersion _ => true
  | .getPldmTypes => true
  | .getPldmCommands _ => true
  | .getPdr _ => true
  | .getSensorReading _ => true
  | .getStateSensorReadings _ => true
  | .setEventReceiver _ _ => true
  | .platformEventMessage => true
  | .queryDeviceIdentifiers => true
  | .getFirmwareParameters => true
  | .requestUpdate => true
  | .passComponentTable cls => classOk cls
  | .updateComponent cls _ => classOk cls
  | .requestFirmwareData _ _ => true
  | .transferComplete => true
  | .verifyComplete => true
  | .applyComplete => true
  | .activateFirmware _ _ => true
  | .getStatus => true
  | .cancelUpdateComponent => true
  | .cancelUpdate => true
  | .recoveryRequest _ _ => true
  | .redfishSession _ _ => true
  | .redfishAccountPatch _ _ _ _ => true
  | .certificateReplace _ _ => true
  | .managerReset _ => true
  | .managerNetworkPatch _ _ => true
  | .computerSystemReset _ => true
  | .multipartHttpPushUri _ cls _ => classOk cls
  | .redfishActivate _ cls _ _ => classOk cls
  | .redfishCommit _ cls => classOk cls
  | .collectDiagnosticData _ => true
  | .clearLog _ => true
  | .spdmGetSignedMeasurements _ _ => true
  | .eventSubscription _ _ _ => true
  | .modulePatch _ _ _ _ => true
  | .plotOpenAction _ _ => true
  | .plotCloseAction _ plot => plotOk plot
  | .httpRedirect => true
  | .redfishTaskDone _ => true
  | .trialRevert _ => true
  | .recoveryHello => true
  | .recoveryBegin cls _ _ => classOk cls
  | .recoveryData _ _ _ => true
  | .recoveryCommit _ => true
  | .recoveryReboot _ _ => true
  | .recoveryAbort _ => true
  | .recoverySessionTimeout => true
  | .heartbeatReceive l => linkOk l
  | .addressFault agent _ _ _ => agentOk agent
  | .trngHealthFail => true
  | .takeOverRevert _ => true
  | .partnershipFormed plot _ _ _ _ _ => plotOk plot
  | .partnerNoAnswer plot _ => plotOk plot
  | .fillRequest l _ _ _ _ _ _ _ => linkOk l
  | .partnerRestoreRequest l _ _ => linkOk l
  | .snapshotDone plot _ => plotOk plot

end Sys2Proof
end

