-- ==== Sys2Proof/Safety.lean ====
section
/-! DEFINITION. What counts as a safe run, and the terms in which the statements say what a command changes and
what it leaves. -/

namespace Sys2Proof.Machine

/-! ### What a command leaves -/

/-- The parts of the state. `pending`, `free` and `sent` are the model's own. -/
inductive Piece where
  | pending
  | mod
  | mem
  | plots
  | bothy
  | pavs
  | engines
  | ports
  | orangery
  | trellis
  | gatehouse
  | host
  | mgmt
  | free
  | sent
  deriving DecidableEq, Repr

/-- Two states hold the same in a part. -/
def State.agree (s t : State) : Piece → Prop
  | .pending => t.pending = s.pending
  | .mod => t.mod = s.mod
  | .mem => t.mem = s.mem
  | .plots => t.plots = s.plots
  | .bothy => t.bothy = s.bothy
  | .pavs => t.pavs = s.pavs
  | .engines => t.engines = s.engines
  | .ports => t.ports = s.ports
  | .orangery => t.orangery = s.orangery
  | .trellis => t.trellis = s.trellis
  | .gatehouse => t.gatehouse = s.gatehouse
  | .host => t.host = s.host
  | .mgmt => t.mgmt = s.mgmt
  | .free => t.free = s.free
  | .sent => t.sent = s.sent

/-- Every part but those named is unchanged. -/
def State.keepsBut (s t : State) (pieces : List Piece) : Prop := ∀ x : Piece, x ∉ pieces → s.agree t x

/-- Every plot but one is unchanged. -/
def State.otherPlots (s t : State) (p : Nat) : Prop := ∀ q, q ≠ p → t.plot q = s.plot q

/-- Every Pavilion but one is unchanged. -/
def State.otherPavs (s t : State) (i : Nat) : Prop := ∀ j, j ≠ i → t.pav j = s.pav j

/-- Every port but one is unchanged. -/
def State.otherPorts (s t : State) (i : Nat) : Prop := ∀ j, j ≠ i → t.port j = s.port j

/-- Every Cascade engine but one is unchanged. -/
def State.otherEngines (s t : State) (i : Nat) : Prop := ∀ j, j ≠ i → t.engine j = s.engine j

/-- Every byte of device memory outside `n` bytes from an address reads as before. -/
def State.bytesOutside (s t : State) (a n : Nat) : Prop :=
  ∀ b, b < a ∨ a + n ≤ b → t.mem.read b = s.mem.read b

/-- Device memory holds a string of bytes at an address, as every agent reads it. -/
def State.memHolds (s : State) (a : Nat) (bs : Bytes) : Prop := ∀ i < bs.length, s.mem.read (a + i) = bs.getD i 0

/-! ### Requests and their completions (R365, R368, R370) -/

/-- It is the turn of a plot's request: the plot is OPEN, and the request is the oldest that is taken and not started, of the
opcode, and no take-over holds it. -/
abbrev Turn (s : State) (p opcode : Nat) (r : Req) : Prop :=
  s.isOpen p = true ∧ s.oldest p = some r ∧ r.opcode = opcode ∧ s.heldByTakeOver p opcode = false

/-- The request of a slot has its completion record. -/
def Mailbox.closed (m : Mailbox) (slot : Nat) : Mailbox :=
  { m with held := m.held.map (fun h => if h.slot = slot then { h with phase := .completed } else h) }

/-- A mailbox once a request has completed: its record stands last in the backlog (Table BTH-3). -/
def Mailbox.answered (m : Mailbox) (r : Req) (status dcode detail : Nat) (body : Bytes) : Mailbox :=
  { m.closed r.slot with backlog := m.backlog ++
      [{ slot := r.slot, opcode := r.opcode, status := status, dcode := dcode, tag := r.tag, detail := detail,
         body := body, vector := r.vector }] }

/-- A plot once a request of it has completed. -/
def Plot.answered (q : Plot) (r : Req) (status dcode detail : Nat) (body : Bytes) : Plot :=
  { q with mail := q.mail.answered r status dcode detail body }

/-- A plot once a request of it has completed with ST_OK. -/
def Plot.answeredOk (q : Plot) (r : Req) (body : Bytes) : Plot := q.answered r 0 0 0 body

/-- A completion of a request stands in a plot's backlog, with no detail. -/
def Plot.hasAnswer (q : Plot) (r : Req) (status : Nat) (body : Bytes) : Prop :=
  { slot := r.slot, opcode := r.opcode, status := status, dcode := 0, tag := r.tag, detail := 0, body := body,
    vector := r.vector } ∈ q.mail.backlog

/-- A plot with one more unsolicited record, where the backlog has room (R373). -/
def Plot.told (q : Plot) (source : Nat) (body : Bytes) : Plot :=
  { q with mail := { q.mail with backlog := q.mail.backlog ++ [unsolicitedRec source body] } }

/-- A plot's backlog has room for unsolicited records, and the plot is OPEN. -/
abbrev Hears (s : State) (p : Nat) : Prop := s.isOpen p = true ∧ backlogReserve < (s.plot p).backlogFree

/-- It is the turn of a SEQ_EDIT or SEQ_RETIRE of a known sequence while no step of the plot runs and its appender is idle. -/
abbrev EditNow (s : State) (p opcode : Nat) (r : Req) (e : SeqEntry) : Prop :=
  Turn s p opcode r ∧ (s.plot p).binding ≠ none ∧ (s.plot p).knowsSeq (fieldAt r.payload 0 4) = true ∧
  (s.plot p).seqs.find (seqIndex (fieldAt r.payload 0 4)) = some e ∧ (s.plot p).running = [] ∧ s.appendingFor p = false

/-- A plot once an edit of a sequence has taken effect and been answered (Table TRL-6). -/
def Plot.editedSeq (q : Plot) (r : Req) (e : SeqEntry) : Plot :=
  ({ q with seqs := q.seqs.set (seqIndex (fieldAt r.payload 0 4)) e }).answeredOk r (natLE 4 e.ctx ++ natLE 2 e.gen ++ natLE 2 0)

/-! ### Frames -/

/-- A frame of VC0 with what it says to a module has left over a port, in clear or sealed as R228 says, or waits there for
one of the buffers of VC0. -/
def State.said (t : State) (dest : Nat) (m : Control) : Prop :=
  ∃ i, (∃ (u : State) (f : Frame), f.dst = dest ∧ u.wireOf dest i f (some m) ∈ t.sent) ∨
    (∃ r ∈ (t.port i).waiting, r.dest = dest ∧ r.body = some m)

/-- A frame of a group has left over a port, in clear or sealed as R228 says. -/
def State.framed (t : State) (dest i : Nat) (f : Frame) : Prop := ∃ u : State, u.wireOf dest i f none ∈ t.sent

/-- A usable frame of VC0 arrives (R226, R228): the port is up, its FCS holds, and in hall mode its tag and epoch. -/
abbrev Arrives (s : State) (l : Link) : Prop := (s.port l.port).linkUp = true ∧ s.badLink l (!s.holdsKeys l.src) = none

/-- What its arrival alone does (R227, R297): its sender is heard on the leases outside groups, and the frame is counted and
waits to be acknowledged. -/
def State.heardOn (s : State) (l : Link) : State :=
  (s.hearEnds l.src).updPort l.port (fun t => { t with rxFrames := t.rxFrames + 1, toAck := t.toAck ++ [(l.src, l.linkSeq)] })

/-! ### Groups -/

/-- A plot with nothing that a loss would set going besides its groups: no plan, step, policy, copy or partnership. -/
def Plot.quietPlot (q : Plot) : Prop :=
  q.plans = [] ∧ q.running = [] ∧ q.policies = [] ∧ q.fills = [] ∧ q.serving = [] ∧ q.partners = []

/-- No plot but one holds a group or gathers a copy. -/
def State.groupsOnlyOf (s : State) (p : Nat) : Prop := ∀ q, q ≠ p → (s.plot q).groups = [] ∧ (s.plot q).fills = []

/-- A group of a plot, found by its handle and by its GROUP_ID. -/
def State.holdsGroup (s : State) (p : Nat) (g : Group) : Prop :=
  (s.plot p).groupOf g.handle = some g ∧ (s.plot p).groupById g.groupId = some g

/-- A group has lost a member: the next generation, the member in its lost set, and the group RECOMPACTING, or ACTIVE when no
neighbour is left (R219, R220). -/
def State.regrouped (s t : State) (p : Nat) (g : Group) (fabric : Nat) : Prop :=
  ∃ x, (t.plot p).groupOf g.handle = some x ∧ x.generation = g.generation + 1 ∧ x.live = g.live.filter (· != fabric) ∧
    x.lost = g.lost ++ [fabric] ∧
    (x.state = groupRecompacting ∨ (x.state = groupActive ∧ x.neighbours s.fabric = []))

/-! ### Boots -/

/-- A boot finds everything sound: no recovery is asked for, the self-tests and memory training pass, no class is on trial, and
each class boots from a bank that holds: the bank that ran, or, where an activation waits, the other. -/
def State.bootsWell (s : State) (b : BootReport) : Prop :=
  s.mgmt.recovery.requested = false ∧ b.katOk = true ∧ b.trngOk = true ∧ b.inTime = true ∧ b.hbmFailed % 2 ^ 12 = 0 ∧
  b.cfFailed % 2 ^ 24 = 0 ∧
  (∀ c ∈ fwClasses, (s.fwClass c).trial = false ∧
    bankHolds b c (if (s.fwClass c).switchWaits then (s.fwClass c).other else (s.fwClass c).running) = true)

/-- What a sound boot leaves: READY, the modes in force, memory and firmware up, and each class at its bank, a trial ended as
activated, or as recovered where recovery pushed it (R393, R394, R434). -/
def State.booted (s t : State) : Prop :=
  t.mod.state = 3 ∧ t.mod.modesApplied = true ∧ t.bothy.ready = true ∧ t.gatehouse.bootOk = true ∧ t.mem.ready = true ∧
  t.mem.partitionInForce = t.mod.partition ∧
  (∀ c ∈ fwClasses, t.fwClass c = if (s.fwClass c).switchWaits
    then { s.fwClass c with running := (s.fwClass c).other, switchWaits := false, trial := false
                            lastResult := if s.mgmt.recovery.pushed.contains c then resultRecovered else resultActivated }
    else s.fwClass c)

/-- What a module reset leaves of memory: nothing but the granules that are retired, those among them that have held an
uncorrectable error (R175, R456). -/
def State.memoryReset (s t : State) : Prop :=
  (∀ g ∈ s.mem.suspectGranules, g ∈ t.mem.retired ++ t.mem.retiredVolatile) ∧ s.mem.retired <+: t.mem.retired ∧
  { t.mem with retired := [], retiredVolatile := [], degraded := false } = Mem.init ∧
  (s.mem.suspectGranules = [] → t.mem = { Mem.init with retired := s.mem.retired })

/-! ### Posted messages -/

/-- The tag of the next message that management posts. -/
def State.nextTag (s : State) : Nat := (s.mgmt.postTag + 1) % 2 ^ 32

/-- A plot once management has posted a message in a slot of its area (Table BTH-2). -/
def Plot.posted (q : Plot) (slot tag opcode : Nat) (payload : Bytes) : Plot :=
  { q with mail := { q.mail with
      slots := cellPutAll (cellZero q.mail.slots (slotBase slot) 0x400) (slotBase slot) (slotBytes opcode tag payload) } }

/-- A Redfish request is under way: the task, its message posted in a free slot of plot 0, and nothing else (R422). -/
def State.tasked (s t : State) (slot opcode : Nat) (payload : Bytes) : Prop :=
  t.plot 0 = (s.plot 0).posted slot s.nextTag opcode payload ∧ s.otherPlots t 0 ∧
  t.mgmt.tasks = s.mgmt.tasks ++ [{ id := s.mgmt.nextTask, opcode := opcode, tag := s.nextTag }] ∧
  t.mgmt.nextTask = s.mgmt.nextTask + 1 ∧ t.mgmt.postTag = s.nextTag ∧ t.mgmt.accounts = s.mgmt.accounts ∧
  t.mgmt.classes = s.mgmt.classes ∧ t.mgmt.pldm = s.mgmt.pldm ∧ s.keepsBut t [.plots, .mgmt]

/-- A login session whose account has a role that may do what is asked, and need not change its password. -/
def State.loggedIn (s : State) (session role : Nat) : Prop :=
  s.serviceUp = true ∧ ∃ a, s.mgmt.accountOf session = some a ∧ a.changeRequired = false ∧ a.role ≤ role

/-! ### Holdings -/

/-- No tenant plot holds anything with another module: no group, copy or partnership. -/
def State.noHoldings (s : State) : Prop :=
  ∀ p ∈ tenantPlots, (s.plot p).groups = [] ∧ (s.plot p).fills = [] ∧ (s.plot p).serving = [] ∧ (s.plot p).partners = []

/-- A usable KEYX frame of another module arrives in hall mode, while the Gatehouse runs. -/
abbrev Exchanging (s : State) (l : Link) (k : Keyx) : Prop :=
  s.mod.hall = true ∧ (s.port l.port).linkUp = true ∧ s.badLink l true = none ∧ s.gatehouse.halted = false ∧
  s.gatehouse.trngOk = true ∧ k.fabricId ≠ s.fabric

/-! ### Pavilions -/

/-- A Pavilion runs, and a descriptor that has not run, of a type, heads one of its queues before others. -/
abbrev Heads (s : State) (pav queue type : Nat) (d : QDesc) (rest : List QDesc) : Prop :=
  s.pavDown pav = false ∧ (s.pav pav).queue queue = d :: rest ∧ dType d.bytes = type ∧ d.executed = false

/-- A Pavilion once the head of a queue has run. -/
def Pavilion.headDone (v : Pavilion) (queue : Nat) (d : QDesc) (rest : List QDesc) (now : Nat) : Pavilion :=
  v.setQueue queue ({ d with started := true, executed := true, startTick := if d.started then d.startTick else now } :: rest)

/-- No running step of a plot stops. -/
def Plot.goesOn (q : Plot) : Prop := ∀ st ∈ q.running, st.stopped = false

/-! ### Safe runs -/

/-- Memory keeps its canonical form. -/
def Inv (s : State) : Prop := s.mem.wf = true

/-- A safe step: the module goes on, and what it goes on with meets the invariant. -/
def SafeStep (s : State) : Prop := ∃ t, step s = .next t ∧ Inv t

end Sys2Proof.Machine
end

