-- ==== Sys2Proof/Certificates/Slice0/Obligations.lean ====
section
/-! DEFINITION. The statements for the provers, in the order of the spec's chapters' use. -/

open Sys2Proof Sys2Proof.Machine

/-- MAILBOX_SCAN, COMPLETION_RECORD_WRITE, the writes of RING_TAIL and VEC_MASK, and MESSAGE_TIMEOUT (R330, R364, R371,
R374): a posted slot of an area that the scan visits is taken with what it holds; the oldest backlog record goes to its
ring entry and nowhere else in memory; a sound tail is stored and one out of range only sets its flags; a mask is stored
and the vectors it masks keep their pending bits; a request past the limit of Table ERR-4, counted from when it was taken (log 135),
completes with ST_TIMEOUT, and one within it, or without one, is left as it is. -/
def Obligations.MailboxCommands : Prop :=
  (∀ (s : State) (p slot : Nat), s.bothy.ready = true → s.bothy.paused = false → p ≤ 16 → slot < 32 →
    s.takesFrom p = true → (∀ h ∈ (s.plot p).mail.held, h.slot ≠ slot) →
    cellGet (s.plot p).mail.slots (slotBase slot) = ownerPosted →
    ∃ t, exec .mailboxScan s = .next t ∧
      (∃ h ∈ (t.plot p).mail.held, h.slot = slot ∧ h.opcode = (s.plot p).mail.field (slotBase slot + 2) 2 ∧
        h.tag = (s.plot p).mail.field (slotBase slot + 4) 4 ∧ h.vector = (s.plot p).mail.field (slotBase slot + 1) 1 ∧
        h.payload = (s.plot p).mail.bytes (slotBase slot + 0x40) (min ((s.plot p).mail.field (slotBase slot + 8) 2) 960)) ∧
      cellGet (t.plot p).mail.slots (slotBase slot) = ownerTaken ∧
      t.bothy.scans = s.bothy.scans + 1 ∧ s.keepsBut t [.plots, .bothy, .sent]) ∧
  (∀ (s : State) (p : Nat) (r : Rec) (rest : List Rec), s.mem.wf = true → (s.plot p).mail.backlog = r :: rest →
    s.takesFrom p = true → ((s.plot p).mail.head - (s.plot p).mail.tail).toNat < 4096 →
    ∃ t, exec (.completionRecordWrite p) s = .next t ∧
      (∀ i < 64, t.mem.read ((s.plot p).ringBase p + 64 * ((s.plot p).mail.head.toNat % 4096) + i) =
        (r.header (phaseOf (s.plot p).mail.head.toNat) ++ bytesAt r.body 0 48).getD i 0) ∧
      s.bytesOutside t ((s.plot p).ringBase p + 64 * ((s.plot p).mail.head.toNat % 4096)) 64 ∧
      (t.plot p).mail.head = (s.plot p).mail.head + 1 ∧ (∃ more, (t.plot p).mail.backlog = rest ++ more) ∧
      (r.slot < 32 → ∀ h ∈ (t.plot p).mail.held, h.slot ≠ r.slot) ∧
      s.otherPlots t p ∧ s.keepsBut t [.mem, .plots, .bothy, .sent]) ∧
  (∀ (s : State) (p value : Nat), s.isOpen p = true →
    ∃ t, exec (.bthMbRingTailWrite p value) s = .next t ∧
      (if ((s.plot p).mail.head - BitVec.ofNat 32 value).toNat ≤ 4096 then
        t.plot p = { s.plot p with mail := { (s.plot p).mail with tail := BitVec.ofNat 32 value } } ∧ t.bothy = s.bothy
       else
        t.plot p = { s.plot p with mail := { (s.plot p).mail with ringFault := true } } ∧
        t.bothy = { s.bothy with err := s.bothy.err ||| 1 }) ∧
      s.otherPlots t p ∧ s.keepsBut t [.plots, .bothy]) ∧
  (∀ (s : State) (p value : Nat), s.isOpen p = true →
    ∃ t, exec (.bthMbVecMaskWrite p value) s = .next t ∧
      (t.plot p).mail.vecMask = BitVec.ofNat 64 value ∧
      (∀ v < 64, value.testBit v = true →
        (t.plot p).mail.vecPending.getLsbD v = (s.plot p).mail.vecPending.getLsbD v) ∧
      (t.plot p).mail.held = (s.plot p).mail.held ∧ (t.plot p).mail.backlog = (s.plot p).mail.backlog ∧
      s.otherPlots t p ∧ s.keepsBut t [.plots, .bothy, .sent]) ∧
  (∀ (s : State) (p slot : Nat) (r : Req), s.isOpen p = true →
    (s.plot p).mail.held.find? (fun h => h.slot == slot && h.phase == .taken) = some r →
    ∃ t, exec (.messageTimeout p slot) s = .next t ∧
      (match r.limit with | some n => s.now ≤ r.since + n → t = s | none => t = s) ∧
      s.otherPlots t p ∧ s.keepsBut t [.plots]) ∧
  (∀ (s : State) (p slot n : Nat) (r : Req), s.isOpen p = true →
    (s.plot p).mail.held.find? (fun h => h.slot == slot && h.phase == .taken) = some r →
    r.limit = some n → r.since + n < s.now →
    ∃ t, exec (.messageTimeout p slot) s = .next t ∧
      t.plot p = (s.plot p).answered r 0x0F01 0 (if r.opcode = opMemScrub then r.tally else 0) [] ∧
      s.otherPlots t p ∧ s.keepsBut t [.plots])

/-- The nine error registers (PRT_ERR, PAV_ERR, MOD_MEM_ERR, CSC_ERR, AVN_ERR, ORG_ERR, TRL_ERR, BTH_ERR, GTH_ERR) are
W1C: a write clears the flags whose bits are 1, keeps the others, and changes nothing else in the module. -/
def Obligations.ErrorRegisterWrites : Prop :=
  (∀ (s : State) (pav value : Nat), ∃ t, exec (.prtErrWrite pav value) s = .next t ∧
    t.pav pav = { s.pav pav with par := { (s.pav pav).par with
      err := (s.pav pav).par.err &&& ~~~(BitVec.ofNat 64 value) } } ∧
    s.otherPavs t pav ∧ s.keepsBut t [.pavs]) ∧
  (∀ (s : State) (pav value : Nat), ∃ t, exec (.pavErrWrite pav value) s = .next t ∧
    t.pav pav = { s.pav pav with err := (s.pav pav).err &&& ~~~(BitVec.ofNat 64 value) } ∧
    s.otherPavs t pav ∧ s.keepsBut t [.pavs]) ∧
  (∀ (s : State) (value : Nat), ∃ t, exec (.modMemErrWrite value) s = .next t ∧
    t.mem = { s.mem with err := s.mem.err &&& ~~~(BitVec.ofNat 64 value) } ∧ s.keepsBut t [.mem]) ∧
  (∀ (s : State) (engine value : Nat), ∃ t, exec (.cscErrWrite engine value) s = .next t ∧
    t.engine engine = { s.engine engine with err := (s.engine engine).err &&& ~~~(BitVec.ofNat 64 value) } ∧
    s.otherEngines t engine ∧ s.keepsBut t [.engines]) ∧
  (∀ (s : State) (port value : Nat), ∃ t, exec (.avnErrWrite port value) s = .next t ∧
    t.port port = { s.port port with err := (s.port port).err &&& ~~~(BitVec.ofNat 64 value) } ∧
    s.otherPorts t port ∧ s.keepsBut t [.ports]) ∧
  (∀ (s : State) (value : Nat), ∃ t, exec (.orgErrWrite value) s = .next t ∧
    t.orangery = { s.orangery with err := s.orangery.err &&& ~~~(BitVec.ofNat 64 value) } ∧ s.keepsBut t [.orangery]) ∧
  (∀ (s : State) (value : Nat), ∃ t, exec (.trlErrWrite value) s = .next t ∧
    t.trellis = { s.trellis with err := s.trellis.err &&& ~~~(BitVec.ofNat 64 value) } ∧ s.keepsBut t [.trellis]) ∧
  (∀ (s : State) (value : Nat), ∃ t, exec (.bthErrWrite value) s = .next t ∧
    t.bothy = { s.bothy with err := s.bothy.err &&& ~~~(BitVec.ofNat 64 value) } ∧ s.keepsBut t [.bothy]) ∧
  (∀ (s : State) (value : Nat), ∃ t, exec (.gthErrWrite value) s = .next t ∧
    t.gatehouse = { s.gatehouse with err := s.gatehouse.err &&& ~~~(BitVec.ofNat 64 value) } ∧
    s.keepsBut t [.gatehouse])

/-- Writes of the module's settings. MOD_MODE and MOD_FABRIC_ID change nothing while a tenant plot is open (R29), and a mode
once applied sets the clock step of every Pavilion; a patrol
period outside 4 to 168 hours and a slice outside 1,000 to 100,000 µs are ignored; a slice is in force from the next
boundary on. -/
def Obligations.SettingWrites : Prop :=
  (∀ (s : State) (value : Nat), ∃ t, exec (.modModeWrite value) s = .next t ∧
    (if s.tenantOpen then t = s else
      t.mod = { s.mod with hall := value.testBit 0, steady := value.testBit 1, partition := value.testBit 2 } ∧
      t.mem = (if s.mod.modesApplied then { s.mem with partitionInForce := value.testBit 2 } else s.mem) ∧
      (∀ i, t.pav i = if s.mod.modesApplied ∧ i < 128 then
          { s.pav i with step := if value.testBit 1 then 10 else 12, nextStep := if value.testBit 1 then 10 else 12 }
        else s.pav i)) ∧
    s.keepsBut t [.mod, .mem, .pavs]) ∧
  (∀ (s : State) (value : Nat), ∃ t, exec (.modFabricIdWrite value) s = .next t ∧
    (if s.tenantOpen then t = s else t.mod = { s.mod with fabricId := value % 2 ^ 36 }) ∧ s.keepsBut t [.mod]) ∧
  (∀ (s : State) (value : Nat), ∃ t, exec (.modPatrolCfgWrite value) s = .next t ∧
    t.mem = { s.mem with
      patrolHours := if 4 ≤ value % 256 ∧ value % 256 ≤ 168 then value % 256 else s.mem.patrolHours
      patrolEnable := value.testBit 16 } ∧ s.keepsBut t [.mem]) ∧
  (∀ (s : State) (value : Nat), ∃ t, exec (.modSchedCfgWrite value) s = .next t ∧
    t.mod = { s.mod with
      sliceNext := if 1000 ≤ value % 131072 ∧ value % 131072 ≤ 100000 then value % 131072 else s.mod.sliceNext } ∧
    s.keepsBut t [.mod])

/-- REGISTER_WRITE and ADDRESS_FAULT of a plot's agent: a write within its windows is what every agent then reads there
and nowhere else; a write into its mailbox slots is what the slots hold; an access to anything else is dropped, sets
MOD_MEM_ERR.ADDRESS_FAULT and stands in management's error log. A virtual function's DMA is charged to its plot; an
attached-confidential plot's function issues none outside RUN, and in RUN the host's MMIO without the T bit is dropped
(R410). -/
def Obligations.AgentAccesses : Prop :=
  (∀ (s : State) (p addr : Nat) (data : Bytes), s.mem.wf = true → data ≠ [] → inMailbox p addr = false →
    s.inWindows p addr data.length = true → ((s.plot p).cfg.driver = 2 → s.confidentialRun p = true) →
    ∃ t, exec (.registerWrite (.plot p) addr data) s = .next t ∧
      (∀ i < data.length, t.mem.read (addr + i) = data.getD i 0) ∧ s.bytesOutside t addr data.length ∧
      (t.plot p).mail = (s.plot p).mail ∧ (t.plot p).windows = (s.plot p).windows ∧
      (t.plot p).account.hostBytes = (if (s.plot p).cfg.driver = 0 then (s.plot p).account.hostBytes
        else (s.plot p).account.hostBytes + BitVec.ofNat 64 data.length) ∧
      s.otherPlots t p ∧ s.keepsBut t [.mem, .plots]) ∧
  (∀ (s : State) (p off : Nat) (data : Bytes), (s.plot p).state ≠ 0 → data ≠ [] → off + data.length ≤ 0x8000 →
    ∃ t, exec (.registerWrite (.plot p) (mailboxBase p + off) data) s = .next t ∧
      t.plot p = { s.plot p with mail := { (s.plot p).mail with
        slots := cellPutAll (s.plot p).mail.slots off data } } ∧
      s.otherPlots t p ∧ s.keepsBut t [.plots]) ∧
  (∀ (s : State) (p addr : Nat) (write hostDma : Bool), s.inWindows p addr 1 = false → inMailbox p addr = false →
    ∃ t, exec (.addressFault (.plot p) addr write hostDma) s = .next t ∧
      t.mem = { s.mem with err := s.mem.err ||| 8 } ∧
      t.mgmt.errorLog.getLast? = some ({ s.errOf 5 3 3 0xFFFF (s.plot p).eventStep with address := 0 }, p) ∧
      (hostDma = true → write = false → .hostUr addr ∈ t.sent) ∧
      s.otherPlots t p ∧ s.keepsBut t [.mem, .plots, .bothy, .mgmt, .sent]) ∧
  (∀ (s : State) (p addr : Nat) (data : Bytes), data ≠ [] → s.inWindows p addr 1 = false → inMailbox p addr = false →
    exec (.registerWrite (.plot p) addr data) s = exec (.addressFault (.plot p) addr true false) s) ∧
  (∀ (s : State) (p addr : Nat) (data : Bytes), (s.plot p).cfg.driver = 2 → s.confidentialRun p = false → inMailbox p addr = false →
    s.inWindows p addr data.length = true → exec (.registerWrite (.plot p) addr data) s = .next s) ∧
  (∀ (s : State) (p addr : Nat) (data : Bytes), s.confidentialRun p = true →
    exec (.registerWrite (.hostPlain p) addr data) s = .next s ∧ exec (.addressFault (.hostPlain p) addr true false) s = .next s ∧
    exec (.addressFault (.hostPlain p) addr false true) s = .next (s.emit (.hostUr addr)))

/-- PLOT_QUERY, MODULE_INFO and both classes of ACCOUNT_READ: the completion carries the record or says how much was
written; a tenant's record stands at its DST_ADDR and no other byte of memory changes; plot 0's MODULE_INFO goes to the
management service. -/
def Obligations.ReportMessages : Prop :=
  (∀ (s : State) (p q : Nat) (r : Req), Turn s p opPlotQuery r → queryTarget p (fieldAt r.payload 0 1) = some q →
    ∃ t, exec (.plotQuery p) s = .next t ∧ t.plot p = (s.plot p).answeredOk r ((s.plot q).queryResult q) ∧
      s.otherPlots t p ∧ s.keepsBut t [.plots]) ∧
  (∀ (s : State) (p : Nat) (r : Req), s.mem.wf = true → Turn s p opModuleInfo r → p ≠ 0 →
    s.inWindows p (fieldAt r.payload 0 8) 1024 = true →
    ∃ t, exec (.moduleInfo p) s = .next t ∧
      t.memHolds (fieldAt r.payload 0 8) (s.moduleInfo false (s.plot p).binding.isSome) ∧
      s.bytesOutside t (fieldAt r.payload 0 8) 1024 ∧
      (t.plot p).mail = (s.plot p).mail.answered r 0 0 0 (natLE 4 1024 ++ natLE 1 0) ∧
      s.otherPlots t p ∧ s.keepsBut t [.mem, .plots]) ∧
  (∀ (s : State) (r : Req), Turn s 0 opModuleInfo r → fieldAt r.payload 0 8 = 0 →
    ∃ t, exec (.moduleInfo 0) s = .next t ∧ t.sent = s.sent ++ [.mgmtData (s.moduleInfo true true)] ∧
      t.plot 0 = (s.plot 0).answeredOk r (natLE 4 1024 ++ natLE 1 1) ∧
      s.otherPlots t 0 ∧ s.keepsBut t [.plots, .sent]) ∧
  (∀ (s : State) (p : Nat) (r : Req), s.mem.wf = true → Turn s p opAccountRead r → fieldAt r.payload 0 1 = 0 →
    fieldAt r.payload 8 4 ≠ 0 → s.inWindows p (fieldAt r.payload 0x10 8) 192 = true →
    ∃ t, exec (.accountReadPlot p) s = .next t ∧ t.memHolds (fieldAt r.payload 0x10 8) (s.plotAccount p) ∧
      s.bytesOutside t (fieldAt r.payload 0x10 8) 192 ∧
      (t.plot p).mail = (s.plot p).mail.answered r 0 0 0 (natLE 4 1 ++ natLE 4 0xFFFFFFFF) ∧
      s.otherPlots t p ∧ s.keepsBut t [.mem, .plots]) ∧
  (∀ (s : State) (p : Nat) (r : Req) (out rest : List Adapter), s.mem.wf = true → Turn s p opAccountRead r →
    fieldAt r.payload 0 1 = 1 → fieldAt r.payload 8 4 ≠ 0 →
    ((s.plot p).adapters.map (·.2)).filter (fun a => decide (fieldAt r.payload 4 4 ≤ a.handle)) = out ++ rest →
    (out.length = fieldAt r.payload 8 4 ∨ rest = [] ∧ out.length ≤ fieldAt r.payload 8 4) →
    s.inWindows p (fieldAt r.payload 0x10 8) (64 * out.length) = true →
    ∃ t, exec (.accountReadAdapter p) s = .next t ∧
      t.memHolds (fieldAt r.payload 0x10 8) ((out.map s.adapterAccount).flatten) ∧
      s.bytesOutside t (fieldAt r.payload 0x10 8) (64 * out.length) ∧
      (t.plot p).mail = (s.plot p).mail.answered r 0 0 0
        (natLE 4 out.length ++ natLE 4 ((rest.map (·.handle)).headD 0xFFFFFFFF)) ∧
      s.otherPlots t p ∧ s.keepsBut t [.mem, .plots])

/-- PLOT_OPEN, PLOT_CLOSE, GRANULE_ZEROING_DONE, PCIE_PERST_N_FALL, PCIE_PERST_N_RISE and FUNCTION_LEVEL_RESET. An opened
plot is OPEN with the reservations of the request and its first windows, and nothing else of the device memory changes
hands; a closed plot holds no descriptor, no retained frame and no request, and its runs wait for zeroing; a zeroed run
reads zero and leaves the list; the resets close every attached plot. A bank that fails the zero check of
R416 sets SCRUB_VERIFY, is poisoned and stays out of use, and a line that cannot be zeroed is poisoned (R332).
Which banks and lines fail is an operand of the command (log 136). -/
def Obligations.PlotLifeCycle : Prop :=
  (∀ (s : State) (r : Req) (m : Mem) (runs : List Run), Turn s 0 opPlotOpen r →
    s.openStatus (fieldAt r.payload 0 1) (configAt r.payload) = none →
    s.mem.grantRuns (configAt r.payload).wants = some (m, runs) → s.slotsFit (configAt r.payload) = true →
    ∃ t, exec .plotOpen s = .next t ∧
      t.plot (fieldAt r.payload 0 1) = s.openedPlot (configAt r.payload) runs ∧
      t.mem = m ∧ (∀ a, t.mem.read a = s.mem.read a) ∧
      (t.plot 0).mail = (s.plot 0).mail.answered r 0 0 0
        (natLE 8 ((s.openedPlot (configAt r.payload) runs).windowBase 0) ++
         natLE 8 ((s.openedPlot (configAt r.payload) runs).windowBase 1) ++
         natLE 8 ((s.openedPlot (configAt r.payload) runs).windowBase 2) ++ natLE 8 0) ∧
      s.keepsBut t [.mem, .plots, .host]) ∧
  (∀ (s : State) (r : Req), Turn s 0 opPlotClose r → 1 ≤ fieldAt r.payload 0 1 → fieldAt r.payload 0 1 ≤ 16 →
    s.isOpen (fieldAt r.payload 0 1) = true → (s.plot (fieldAt r.payload 0 1)).allRuns ≠ [] →
    ∃ t, exec (.plotClose []) s = .next t ∧
      (t.plot (fieldAt r.payload 0 1)).state = 2 ∧ (t.plot (fieldAt r.payload 0 1)).mail.held = [] ∧
      (t.plot (fieldAt r.payload 0 1)).closeTick = s.mod.tick ∧
      (∀ x ∈ (s.plot (fieldAt r.payload 0 1)).allRuns,
        { run := x, plot := fieldAt r.payload 0 1, closing := true } ∈ t.mem.zeroing) ∧
      (∀ i, ∀ d ∈ (t.pav i).array ++ (t.pav i).rill ++ (t.pav i).move, d.plot ≠ fieldAt r.payload 0 1) ∧
      (∀ i, ∀ x ∈ (t.port i).retention, x.plot ≠ fieldAt r.payload 0 1) ∧
      (∀ h ∈ (t.plot 0).mail.held, h.slot = r.slot → h.phase = .started) ∧
      (∀ a, t.mem.read a = s.mem.read a) ∧ (∀ i, t.engine i = s.engine i) ∧
      s.keepsBut t [.mem, .plots, .pavs, .ports, .trellis, .host, .sent]) ∧
  (∀ (s : State) (r : Req) (b : SramBank), Turn s 0 opPlotClose r → 1 ≤ fieldAt r.payload 0 1 → fieldAt r.payload 0 1 ≤ 16 →
    s.isOpen (fieldAt r.payload 0 1) = true → (s.plot (fieldAt r.payload 0 1)).allRuns ≠ [] →
    (match b with
      | .store pav _ => (s.pav pav).context = 0 ∨ (s.pav pav).context = fieldAt r.payload 0 1
      | .glasshouse _ _ => True) →
    ∃ t, exec (.plotClose [b]) s = .next t ∧ (t.plot (fieldAt r.payload 0 1)).state = 2 ∧
      t.gatehouse = { s.gatehouse with err := setFlag s.gatehouse.err 4 } ∧ (∀ a, t.mem.read a = s.mem.read a) ∧
      (match b with
       | .store pav bank => (∀ k < 2560, 32 * k + bank ∈ (t.pav pav).storePoison) ∧ (pav < 128 → t.isFenced (.pavilion pav) = true)
       | .glasshouse terrace unit =>
         (∀ k < 8192, (ghBytes * terrace + 1048576 * unit) / 128 + k ∈ t.mem.ghPoison) ∧ 96 * terrace + unit ∈ t.mem.ghFenced)) ∧
  (∀ (s : State) (run : Nat) (z : Zeroing) (badLines : List Nat), s.mem.zeroing[run]? = some z →
    s.mem.stopped z.run.base z.run.bytes = false →
    ∃ t, exec (.granuleZeroingDone run badLines) s = .next t ∧
      (∀ l ∈ badLines, z.run.base ≤ l * 64 → l * 64 < z.run.base + z.run.bytes → l ∈ t.mem.poison) ∧
      (∀ a, z.run.base ≤ a → a < z.run.base + z.run.bytes → t.mem.read a = 0) ∧
      s.bytesOutside t z.run.base z.run.bytes ∧ t.mem.zeroing = s.mem.zeroing.eraseIdx run ∧
      (∀ g ∈ s.mem.suspectGranules, z.run.holds g = true → g ∈ t.mem.retired ++ t.mem.retiredVolatile) ∧
      s.keepsBut t [.mem, .plots, .mgmt, .mod]) ∧
  (∀ (s : State), s.host.perstHigh = true →
    ∃ t, exec .pciePerstNFall s = .next t ∧ t.host.perstHigh = false ∧ t.host.linkTraining = false ∧
      (∀ fn, t.host.vfs.get Vf.init fn = Vf.init) ∧
      (∀ p ∈ tenantPlots, (s.plot p).cfg.driver ≠ 0 → t.isOpen p = false) ∧
      (∀ p ∈ tenantPlots, (s.plot p).cfg.driver = 0 → t.plot p = s.plot p) ∧ (∀ a, t.mem.read a = s.mem.read a)) ∧
  (∀ (s : State), ∃ t, exec .pciePerstNRise s = .next t ∧ t.host.perstHigh = true ∧
      (s.gatehouse.bootOk = true → t.host.linkTraining = true) ∧
      (s.gatehouse.bootOk = false → t.host = { s.host with perstHigh := true }) ∧
      (s.gatehouse.bootOk = true → s.host.linkTraining = false → ∀ p ∈ tenantPlots,
        (t.host.vfs.get Vf.init p) = { s.host.vfs.get Vf.init p with enabled := true }) ∧
      s.keepsBut t [.host]) ∧
  (∀ (s : State) (fn : Nat), ∃ t, exec (.functionLevelReset fn) s = .next t ∧
      (∀ p ∈ tenantPlots, (fn = 0 ∨ p = fn) → (s.plot p).cfg.driver ≠ 0 → t.isOpen p = false) ∧
      (∀ p ∈ tenantPlots, ¬(fn = 0 ∨ p = fn) → t.plot p = s.plot p) ∧
      (∀ p ∈ tenantPlots, (s.plot p).cfg.driver = 0 → t.plot p = s.plot p) ∧ (∀ a, t.mem.read a = s.mem.read a))

/-- MEMORY_WRITE_RETIRE, TIER_MOVE, MOVE_RETIRE, KV_SPILL and PATROL_SCRUB (R159, R168, R172 to R175, R284). A stack that
has tripped takes no command (R160); after a spill the prefetches that waited try again, and a MEM_UNMAP that waited for the
accesses completes. -/
def Obligations.MemoryTraffic : Prop :=
  (∀ (s : State) (c : Nat) (w : LineWrite) (ws : List LineWrite), s.mem.queues.get [] c = w :: ws →
    s.mem.stackTripped.contains c = false →
    ∃ u : State, exec (.memoryWriteRetire c) s = .next u.pumpAll ∧
      u.mem.bytes = cellPutCells s.mem.bytes w.bytes ∧ u.mem.queues = s.mem.queues.set c ws ∧
      (w.poisoned = true → w.line ∈ u.mem.poison) ∧
      (w.poisoned = false → w.bytes.length = 64 → w.line ∉ u.mem.poison) ∧
      (∀ l, l ≠ w.line → (l ∈ u.mem.poison ↔ l ∈ s.mem.poison)) ∧
      s.otherPlots u w.plot ∧ s.keepsBut u [.mem, .plots]) ∧
  (∀ (s : State) (c : Nat), s.mem.stackTripped.contains c = true → exec (.memoryWriteRetire c) s = .next s) ∧
  (∀ (s : State) (m : Move), s.unitFenced 30 = false → nextMove s.mem.moveQueue = some m → s.moveFits m = true →
    s.mem.creditsHeld (controllerOf m.dst) + 64 ≤ queueLines (controllerOf m.dst) →
    ∃ t, exec .tierMove s = .next t ∧ m ∈ s.mem.moveQueue ∧ (∀ x ∈ s.mem.moveQueue, m.purpose.cls ≤ x.purpose.cls) ∧
      t.mem = { s.mem with moveQueue := dropFirst m s.mem.moveQueue, moving := s.mem.moving ++ [m] } ∧
      s.keepsBut t [.mem]) ∧
  (∀ (s : State) (mv : Move) (rest : List Move) (plan : Nat), s.mem.wf = true →
    (∀ e ∈ s.mem.queues, e.2 = []) → s.mem.moving = mv :: rest → mv.purpose = .promotion plan →
    s.mem.stopped mv.src mv.len = false → s.mem.stopped mv.dst mv.len = false →
    ∃ t, exec (.moveRetire []) s = .next t ∧ t.mem.moving = rest ∧
      (∀ i < mv.len, t.mem.read (mv.dst + i) = s.mem.read (mv.src + i)) ∧ s.bytesOutside t mv.dst mv.len ∧
      (∀ e ∈ (t.plot mv.plot).policies, e.2.plan = plan → e.2.retired = true) ∧
      s.otherPlots t mv.plot ∧ s.keepsBut t [.mem, .plots]) ∧
  (∀ (s : State) (mv : Move) (rest : List Move) (i page : Nat) (e : SeqEntry), s.mem.moving = mv :: rest →
    (mv.purpose = .spill i page ∨ mv.purpose = .trellisPrefetch i page) → (s.plot mv.plot).seqs.find i = some e →
    s.mem.stopped mv.src mv.len = false → s.mem.stopped mv.dst mv.len = false →
    ∃ u : State, exec (.moveRetire []) s =
        .next ((if mv.purpose = .spill i page then u.retryFetch mv.plot else u).settleUnmap mv.plot) ∧
      u.mem.moving = rest ∧ (∀ x ∈ (u.plot mv.plot).kvAlloc, x.1 ≠ mv.src) ∧
      (mv.purpose = .spill i page → u.trellis = { s.trellis with spills := s.trellis.spills + 1 }) ∧
      (mv.purpose = .trellisPrefetch i page → u.trellis = { s.trellis with prefetches := s.trellis.prefetches + 1 }) ∧
      s.otherPlots u mv.plot ∧ s.keepsBut u [.mem, .plots, .trellis]) ∧
  (∀ (s : State) (p bytes : Nat) (l : List (SpillBlock × Nat)),
    spillPlan (s.plot p) [(bytes, if bytes ≤ 512 then 512 else 4096)] (s.spillable p) (s.plot p).kvAlloc [] = some l →
    ∃ t, exec (.kvSpill p bytes) s = .next t ∧
      t.mem.moveQueue = s.mem.moveQueue ++ l.map (fun x =>
        { plot := p, purpose := .spill x.1.index x.1.page, src := x.1.addr, dst := x.2, len := x.1.size, discard := false }) ∧
      (t.plot p).kvAlloc = (s.plot p).kvAlloc ++ l.map (fun x => (x.2, x.1.size)) ∧
      s.otherPlots t p ∧ s.keepsBut t [.mem, .plots]) ∧
  (∀ (s : State), s.mem.patrolEnable = true → s.mem.ready = true →
    ∃ t, exec (.patrolScrub []) s = .next t ∧ t.mem = { s.mem with patrolPasses := s.mem.patrolPasses + 1 } ∧
      s.keepsBut t [.mem]) ∧
  (∀ (s : State) (line : Nat) (holds : List DeviceItem) (both : Bool), s.mem.patrolEnable = true → s.mem.ready = true →
    isMemory (line * 64) = true → s.mem.stopped (line * 64) 64 = false →
    ∃ t, exec (.patrolScrub [{ line := line, uncorrectable := false, holds := holds, bothFail := both }]) s = .next t ∧
      t.mem = { s.mem with
        patrolPasses := s.mem.patrolPasses + 1
        correctedHbm := s.mem.correctedHbm + (if isHbm (line * 64) then 1 else 0)
        correctedCf := s.mem.correctedCf + (if isHbm (line * 64) then 0 else 1) } ∧ s.keepsBut t [.mem]) ∧
  (∀ (s : State) (line : Nat) (g : Nat × Nat) (holds : List DeviceItem) (both : Bool), s.mem.patrolEnable = true → s.mem.ready = true →
    granuleOf (line * 64) = some g → s.mem.stopped (line * 64) 64 = false → (∀ p ∈ tenantPlots, s.inWindows p (line * 64) 64 = false) →
    ∃ t, exec (.patrolScrub [{ line := line, uncorrectable := true, holds := holds, bothFail := both }]) s = .next t ∧
      line ∈ t.mem.poison ∧ t.mem.lastPoison = line * 64 ∧ t.mem.poisonedLines = s.mem.poisonedLines + 1 ∧
      t.mem.bytes = s.mem.bytes ∧
      (s.mem.inUse g = true → g ∈ t.mem.suspectGranules) ∧
      (s.mem.inUse g = false → g ∈ t.mem.retired ++ t.mem.retiredVolatile) ∧ s.keepsBut t [.mem])

/-- PLAN_LOAD and PLAN_DROP (R378 to R381): an image that passes the checks becomes the plan of the next handle, with its
granules and semaphores; a plan that neither runs nor waits nor stands in a policy goes, and its granules wait for
zeroing. -/
def Obligations.PlanMessages : Prop :=
  (∀ (s : State) (p : Nat) (r : Req) (b : Binding) (m : Mem) (runs : List Run) (sems : List Nat),
    Turn s p opPlanLoad r →
    s.inWindows p (fieldAt r.payload 0 8) (max (fieldAt r.payload 8 8) 1) = true →
    (s.plot p).binding = some b →
    let im := s.mem.readBytes (fieldAt r.payload 0 8) (fieldAt r.payload 8 8)
    let h := parseHeader im
    let dir := directory im (min h.sections 519)
    let pl := buildPlan im ((s.plot p).nextPlan + 1) (fieldAt r.payload 0x10 8)
    firstChecks im (fieldAt r.payload 8 8) = none →
    h.baseFp = b.fp ∧ h.firstLayer = b.firstLayer ∧ h.lastLayer = b.lastLayer →
    s.groupsCheck p h = none → s.needFenced h.need = false → s.planResources p h dir = some (m, runs, sems) →
    s.headerChecks p b im = none → directoryFlaw dir (fieldAt r.payload 8 8) = none →
    s.descFlaw p pl = none → s.tablesFlaw p pl dir = none →
    ∃ t, exec (.planLoad p) s = .next t ∧
      t.plot p = ({ s.plot p with
        nextPlan := (s.plot p).nextPlan + 1
        plans := (s.plot p).plans.set ((s.plot p).nextPlan + 1) { pl with runs := runs, sems := sems } }).answeredOk r
        (natLE 4 ((s.plot p).nextPlan + 1) ++ natLE 4 runs.length ++ natLE 4 ((List.map (fun (e : Nat × List Bytes) => e.2.length) pl.streams).sum) ++
         natLE 4 0) ∧
      t.mem = m ∧ s.otherPlots t p ∧ s.keepsBut t [.mem, .plots]) ∧
  (∀ (s : State) (p : Nat) (r : Req) (pl : Plan), Turn s p opPlanDrop r →
    (s.plot p).plans.find (fieldAt r.payload 0 4) = some pl → (s.plot p).planActive (fieldAt r.payload 0 4) = false →
    (s.plot p).policyNames (fieldAt r.payload 0 4) = false →
    ∃ t, exec (.planDrop p) s = .next t ∧
      t.plot p = ({ s.plot p with
        plans := (s.plot p).plans.erase (fieldAt r.payload 0 4)
        ahead := (s.plot p).ahead.erase (fieldAt r.payload 0 4) }).answeredOk r [] ∧
      t.mem = { s.mem with
        granted := s.mem.granted.filter (fun g => !pl.runs.contains g)
        zeroing := s.mem.zeroing ++ pl.runs.map (fun g => { run := g, plot := p, closing := false }) } ∧
      s.otherPlots t p ∧ s.keepsBut t [.mem, .plots])

/-- STEP_RUN, STEP_START, STEP_END and STEP_ABORT (R382 to R386): a request of a loaded plan waits for its turn; the next
one starts once every check passes; a finished step posts its STEP_RUN completion, ST_STEP_FAULTED where it has a
faulting error record (R336), and runs no more; an abort completes the plan's waiting requests with ST_ABORTED and stops
a running step that has no skip set yet. -/
def Obligations.StepMessages : Prop :=
  (∀ (s : State) (p : Nat) (r : Req) (pl : Plan), Turn s p opStepRun r →
    (s.plot p).plans.find (fieldAt r.payload 0 4) = some pl →
    ∃ t, exec (.stepRun p) s = .next t ∧
      t.plot p = { s.plot p with mail := { (s.plot p).mail with
        held := (s.plot p).mail.held.map (fun h => if h.slot = r.slot then { h with phase := .started } else h) } } ∧
      s.otherPlots t p ∧ s.keepsBut t [.plots]) ∧
  (∀ (s : State) (p plan : Nat) (pl : Plan) (r : Req) (rest : List Req), (s.plot p).plans.find plan = some pl →
    (s.plot p).queuedFor plan = r :: rest → (s.plot p).runOf plan = none → s.bothy.takeOver = none →
    s.startStatus p pl (fieldAt r.payload 8 8) = none → stepBacklog ≤ (s.plot p).backlogFree →
    (s.plot p).bindHeld = false → (∀ x ∈ (s.plot p).serving, x.use ≠ 3) →
    (∀ e ∈ (s.plot p).partners, e.2.holdsStep plan (fieldAt r.payload 8 8) = false) →
    ∃ t, exec (.stepStart p plan) s = .next t ∧
      (∃ st ∈ (t.plot p).running, st.plan = pl.handle ∧ st.step = fieldAt r.payload 8 8 ∧ st.slot = r.slot ∧
        st.tag = r.tag ∧ st.vector = r.vector ∧ st.startTick = s.mod.tick) ∧
      (∀ x ∈ (s.plot p).running, ∃ y ∈ (t.plot p).running, y.plan = x.plan ∧ y.step = x.step ∧ y.slot = x.slot) ∧
      (t.plot p).mail.stepHeld = false ∧ t.host = s.host ∧ t.gatehouse = s.gatehouse) ∧
  (∀ (s : State) (p plan : Nat) (pl : Plan) (st : Step), s.isOpen p = true → (s.plot p).runOf plan = some st →
    (s.plot p).plans.find plan = some pl → s.stepFinished p pl st = true →
    ∃ u : State, exec (.stepEnd p plan) s = .next (u.tryRecover p) ∧
      { slot := st.slot, opcode := opStepRun, status := if st.faulted then 0x0F02 else 0, dcode := 0, tag := st.tag,
        detail := 0, body := st.result pl.handle (st.completed pl) s.now, vector := st.vector } ∈ (u.plot p).mail.backlog ∧
      (∀ x ∈ (u.plot p).running, x.plan ≠ st.plan) ∧ (u.plot p).lastStep = st.step ∧
      (u.plot p).account.steps = (s.plot p).account.steps + 1 ∧ u.host = s.host) ∧
  (∀ (s : State) (p : Nat) (r : Req) (pl : Plan), Turn s p opStepAbort r →
    (s.plot p).plans.find (fieldAt r.payload 0 4) = some pl → (s.plot p).runOf (fieldAt r.payload 0 4) = none →
    ∃ t, exec (.stepAbort p) s = .next t ∧
      (∃ front, (t.plot p).mail.backlog = front ++
        [{ slot := r.slot, opcode := r.opcode, status := 0, dcode := 0, tag := r.tag, detail := 0,
           body := natLE 4 ((s.plot p).queuedFor (fieldAt r.payload 0 4)).length ++ natLE 4 0, vector := r.vector }]) ∧
      (∀ x ∈ (s.plot p).queuedFor (fieldAt r.payload 0 4), ∃ y ∈ (t.plot p).mail.backlog,
        y.slot = x.slot ∧ y.opcode = opStepRun ∧ y.status = 0x0303 ∧ y.tag = x.tag) ∧
      s.otherPlots t p ∧ s.keepsBut t [.plots]) ∧
  (∀ (s : State) (p : Nat) (r : Req) (pl : Plan) (st : Step), Turn s p opStepAbort r →
    (s.plot p).plans.find (fieldAt r.payload 0 4) = some pl → (s.plot p).runOf (fieldAt r.payload 0 4) = some st →
    st.skipSet = none → st.stopped = false →
    ∃ u : State, exec (.stepAbort p) s = .next (u.settleStopped p) ∧
      (∀ x ∈ (u.plot p).running, x.plan = fieldAt r.payload 0 4 → x.stopped = true ∧ x.stopFor = 1) ∧
      (∀ e ∈ u.pavs, ∀ d ∈ e.2.rill ++ e.2.move, d.plot = p → d.plan = pl.handle →
        d.started = true ∧ dType d.bytes ≠ 0x30) ∧
      s.otherPlots u p ∧ s.keepsBut u [.plots, .pavs])

/-- ADAPTER_REGISTER, ADAPTER_ADMIT and the four forms of ADAPTER_EVICT (R238 to R249). The opening of a bundle is a
function that no proof can look into, so the clause of ADAPTER_REGISTER says what follows for whatever it gives. The clauses
of an eviction of an admitted adapter are for a plot that holds no other request, since requests that wait for the adapter
complete with it (R248). -/
def Obligations.AdapterMessages : Prop :=
  (∀ (s : State) (p : Nat) (r : Req) (b : Binding) (k : Key), Turn s p opAdapterRegister r → (s.plot p).binding = some b →
    fieldAt r.payload 0 4 ≠ noAdapter → (s.plot p).adapters.find (fieldAt r.payload 0 4) = none →
    fieldAt r.payload 4 1 = 0 → (s.plot p).adapters.length < 65536 →
    s.inWindows p (fieldAt r.payload 8 8) (max (fieldAt r.payload 0x10 8) 64) = true →
    (s.plot p).keys.find (fieldAt r.payload 5 1) = some k → s.mem.poisonedIn (fieldAt r.payload 8 8) 64 = false →
    fieldAt (s.mem.readBytes (fieldAt r.payload 8 8) 64) 0x30 4 = 0 →
    bundleHolds (s.mem.readBytes (fieldAt r.payload 8 8) 64) (fieldAt r.payload 0x10 8) 3 3 = true →
    ∃ t, exec (.adapterRegister p) s = .next t ∧
      (s.openBundle k.key (fieldAt r.payload 8 8) = none →
        t.plot p = (s.plot p).answered r 0x0406 0 0 [] ∧
        t.orangery = { s.orangery with err := s.orangery.err ||| 4 } ∧ t.mem = s.mem) ∧
      (∀ im a, s.openBundle k.key (fieldAt r.payload 8 8) = some im → imageHolds b im = true → fieldAt im 0x10 32 = b.fp →
        (s.plot p).poolPlace b.cat (newAdapter im (fieldAt r.payload 0 4) false).recordBytes = some a →
        (t.plot p).adapters.find (fieldAt r.payload 0 4) =
          some { newAdapter im (fieldAt r.payload 0 4) false with
            catAddr := a, movedBytes := BitVec.ofNat 64 (0x100 + fieldAt im 0x38 8) } ∧
        t.mem = s.mem.write a (im.take 0x48 ++ natLE 4 (fieldAt r.payload 0 4) ++ im.drop 0x4C) ∧
        (t.plot p).mail = (s.plot p).mail.answered r 0 0 0 (natLE 8 (fieldAt im 0x38 8) ++ natLE 8 a)) ∧
      s.otherPlots t p ∧ s.keepsBut t [.mem, .plots, .orangery]) ∧
  (∀ (s : State) (p : Nat) (r : Req) (b : Binding) (a : Adapter) (slots : List Nat), Turn s p opAdapterAdmit r →
    (s.plot p).binding = some b → (s.plot p).adapters.find (fieldAt r.payload 0 4) = some a → a.state = .registered →
    (∀ e, a.nexpert ≤ e → e < 4 → fieldAt r.payload (8 + e) 1 = 0) →
    (∀ e, e < min 4 a.nexpert → fieldAt r.payload (8 + e) 1 = 0xFF) →
    fieldAt r.payload 5 1 = 0xFF → (a.train = true ∨ (s.plot p).cfg.residentQuota ≠ 0 ∧ (s.plot p).couldFit b a.recordBytes = true) →
    grantSlots ((s.plot p).slotsHeld (fieldAt r.payload 0 4)) (List.replicate (min 4 a.nexpert) 0xFF) [] = some slots →
    fieldAt r.payload 4 1 = 0 →
    ∃ t, exec (.adapterAdmit p) s = .next t ∧
      (∃ y, (t.plot p).adapters.find (fieldAt r.payload 0 4) = some y ∧ y.state = .admitted ∧ y.slots = slots ∧
        (∀ x ∈ slots, x < 64 ∧ x ∉ (s.plot p).slotsHeld (fieldAt r.payload 0 4)) ∧ y.lastUse = (s.plot p).useClock ∧
        (a.residency = .nonresident → a.leaving = false → a.prefetch = 0 → y.prefetch = 1) ∧
        (t.plot p).mail = (s.plot p).mail.answered r 0 0 0 (y.slotBytes ++ natLE 1 (b2n (a.residency == .resident)) ++ natLE 3 0)) ∧
      (∀ h, h ≠ fieldAt r.payload 0 4 → (t.plot p).adapters.find h = (s.plot p).adapters.find h) ∧
      s.otherPlots t p ∧ s.keepsBut t [.plots]) ∧
  (∀ (s : State) (p : Nat) (r : Req) (a : Adapter), Turn s p opAdapterEvict r → fieldAt r.payload 4 1 = 0 →
    (s.plot p).binding ≠ none → (s.plot p).adapters.find (fieldAt r.payload 0 4) = some a → a.handle = fieldAt r.payload 0 4 →
    (s.plot p).mail.held = [r] → a.state = .admitted → (s.plot p).seqPinned a.handle = false → (s.plot p).planPinned a.handle = false →
    (s.plot p).onList a.handle = false → (s.plot p).onBuilding a.handle = false →
    ∃ t, exec (.adapterEvict p) s = .next t ∧
      (∃ y, (t.plot p).adapters.find a.handle = some y ∧ y.state = .registered ∧ y.slots = [] ∧ y.leaving = false ∧
        (a.train = false → y.residency = .nonresident)) ∧
      (∃ n, (t.plot p).hasAnswer r 0 (natLE 4 n ++ natLE 4 0)) ∧
      (∀ h, h ≠ a.handle → (t.plot p).adapters.find h = (s.plot p).adapters.find h) ∧
      s.otherPlots t p ∧ s.keepsBut t [.mem, .plots]) ∧
  (∀ (s : State) (p : Nat) (r : Req) (a : Adapter), Turn s p opAdapterEvict r → fieldAt r.payload 4 1 = 1 →
    (s.plot p).binding ≠ none → (s.plot p).adapters.find (fieldAt r.payload 0 4) = some a → a.handle = fieldAt r.payload 0 4 →
    (s.plot p).mail.held = [r] → a.state = .admitted → (s.plot p).planPinned a.handle = false →
    ∃ t, exec (.adapterEvictForce p) s = .next t ∧
      ((s.plot p).running = [] → (∃ y, (t.plot p).adapters.find a.handle = some y ∧ y.state = .registered ∧ y.slots = []) ∧
        (∃ n, (t.plot p).hasAnswer r 0 (natLE 4 n ++ natLE 4 0))) ∧
      ((s.plot p).running ≠ [] → (∃ y, (t.plot p).adapters.find a.handle = some y ∧ y.state = .revoking ∧
        y.gone = some (s.plot p).runningSteps)) ∧ s.otherPlots t p) ∧
  (∀ (s : State) (p : Nat) (r : Req) (a : Adapter), Turn s p opAdapterEvict r → fieldAt r.payload 4 1 = 2 →
    (s.plot p).binding ≠ none → (s.plot p).adapters.find (fieldAt r.payload 0 4) = some a → a.handle = fieldAt r.payload 0 4 →
    a.state = .registered → (s.plot p).seqPinned a.handle = false → (s.plot p).planPinned a.handle = false →
    ∃ t, exec (.adapterEvictUnregister p) s = .next t ∧
      (t.plot p).adapters = (s.plot p).adapters.erase a.handle ∧
      (t.plot p).mail = (s.plot p).mail.answered r 0 0 0 (List.replicate 8 0) ∧
      s.otherPlots t p ∧ s.keepsBut t [.mem, .plots]) ∧
  (∀ (s : State) (p : Nat) (r : Req) (a : Adapter), Turn s p opAdapterEvict r → fieldAt r.payload 4 1 = 4 →
    (s.plot p).binding ≠ none → (s.plot p).adapters.find (fieldAt r.payload 0 4) = some a → a.handle = fieldAt r.payload 0 4 →
    (s.plot p).mail.held = [r] → a.state = .admitted → a.train = false → a.leaving = false → (s.plot p).onList a.handle = false →
    (s.plot p).onBuilding a.handle = false →
    ∃ t, exec (.adapterEvictResidencyOnly p) s = .next t ∧
      (∃ y, (t.plot p).adapters.find a.handle = some y ∧ y.state = .admitted ∧ y.residency = .nonresident ∧
        y.slots = a.slots ∧ y.dropResident = false) ∧
      (t.plot p).hasAnswer r 0 (natLE 8 0) ∧ s.otherPlots t p ∧ s.keepsBut t [.mem, .plots])

/-- BASE_BIND, BASE_BIND_APPLY, ADAPTER_PREFETCH and PREFETCH_RETRY (R232 to R234, R242 to R244). What a request asks for
depends on a SHA3-256 digest that no proof can compute, so the clauses of BASE_BIND say what follows for each reading of
Table ORG-2; the release, which needs no digest, is a clause of its own. -/
def Obligations.BindingAndPrefetch : Prop :=
  (∀ (s : State) (p : Nat) (r : Req), Turn s p opBaseBind r → (s.plot p).running = [] →
    ∃ t, exec (.baseBind p) s = .next t ∧ (t.plot p).bindHeld = false ∧
      (∀ st, s.bindPlan p r.payload = .refuse st → (t.plot p).mail = (s.plot p).mail.answered r st 0 0 []) ∧
      (∀ b, s.bindPlan p r.payload = .join b → (t.plot p).binding = some b ∧ (t.plot p).useClock = 0 ∧
        (t.plot p).adapters = (s.plot p).adapters) ∧
      (∀ b, s.bindPlan p r.payload = .replace b → (t.plot p).binding = some b ∧ t.orangery.fp = b.fp ∧
        t.orangery.fpValid = true ∧ (t.plot p).useClock = 0)) ∧
  (∀ (s : State) (p : Nat) (r : Req), Turn s p opBaseBind r → (s.plot p).running = [] → fieldAt r.payload 0 32 = 0 →
    (s.plot p).binding ≠ none →
    ∃ t, exec (.baseBind p) s = .next t ∧ (t.plot p).binding = none ∧
      (∀ h a, (t.plot p).adapters.find h = some a → a.state = .stale) ∧
      (∃ n m k, (t.plot p).hasAnswer r 0 (natLE 4 n ++ natLE 4 m ++ natLE 4 k ++ natLE 4 0)) ∧ t.orangery.fp = s.orangery.fp ∧
      s.otherPlots t p) ∧
  (∀ (s : State) (p : Nat) (r : Req), Turn s p opBaseBind r → (s.plot p).running ≠ [] → fieldAt r.payload 0 32 = 0 →
    (s.plot p).binding ≠ none →
    ∃ t, exec (.baseBind p) s = .next t ∧
      t.plot p = { s.plot p with bindHeld := true, mail := { (s.plot p).mail with
        held := (s.plot p).mail.held.map (fun h => if h.slot = r.slot then { h with phase := .started } else h) } } ∧
      s.otherPlots t p ∧ s.keepsBut t [.plots]) ∧
  (∀ (s : State) (p : Nat) (r : Req), s.isOpen p = true →
    (s.plot p).mail.held.find? (fun h => h.opcode == opBaseBind && h.phase == .started) = some r →
    (s.plot p).running = [] → s.appendingFor p = false → fieldAt r.payload 0 32 = 0 → (s.plot p).binding ≠ none →
    ∃ t, exec (.baseBindApply p) s = .next t ∧ (t.plot p).bindHeld = false ∧ (t.plot p).binding = none ∧
      (∀ h a, (t.plot p).adapters.find h = some a → a.state = .stale) ∧
      (∃ n m k, (t.plot p).hasAnswer r 0 (natLE 4 n ++ natLE 4 m ++ natLE 4 k ++ natLE 4 0)) ∧ s.otherPlots t p) ∧
  (∀ (s : State) (p h dst : Nat) (a : Adapter) (b : Binding), (s.plot p).adapters.find h = some a →
    (s.plot p).binding = some b → s.unitFenced 29 = false → a.state = .admitted → a.residency = .nonresident → a.prefetch = 1 →
    (s.plot p).recordsHeld < (s.plot p).cfg.residentQuota → (s.plot p).residentPlace b a.terrace a.recordBytes = some dst →
    ∃ t, exec (.adapterPrefetch p h) s = .next t ∧
      (t.plot p).adapters.find h = some { a with residency := .loading, resAddr := dst, prefetch := 0 } ∧
      (t.plot p).poolAlloc = (s.plot p).poolAlloc ++ [(dst, a.recordBytes)] ∧
      t.mem = { s.mem with
        moveQueue := s.mem.moveQueue ++
          [{ plot := p, purpose := .orangeryPrefetch a.handle, src := a.catAddr, dst := dst,
             len := (0x100 + a.arrayBytes + 4095) / 4096 * 4096, discard := false }] } ∧
      s.otherPlots t p ∧ s.keepsBut t [.mem, .plots]) ∧
  (∀ (s : State) (p h : Nat) (a : Adapter) (b : Binding), (s.plot p).adapters.find h = some a → (s.plot p).binding = some b →
    s.unitFenced 29 = false → a.state = .admitted → a.residency = .nonresident → a.prefetch = 1 →
    (s.plot p).cfg.residentQuota ≤ (s.plot p).recordsHeld → (s.plot p).nextEviction = none →
    ∃ t, exec (.adapterPrefetch p h) s = .next t ∧ (t.plot p).adapters.find h = some { a with prefetch := 2 } ∧
      t.orangery = { s.orangery with deferrals := s.orangery.deferrals + 1 } ∧
      s.otherPlots t p ∧ s.keepsBut t [.plots, .orangery]) ∧
  (∀ (s : State) (p h dst : Nat) (a : Adapter) (b : Binding), (s.plot p).adapters.find h = some a →
    (s.plot p).binding = some b → s.unitFenced 29 = false → a.state = .admitted → a.residency = .nonresident →
    (a.prefetch = 3 ∨ a.prefetch = 2 ∧ (s.plot p).running = []) →
    (s.plot p).recordsHeld < (s.plot p).cfg.residentQuota → (s.plot p).residentPlace b a.terrace a.recordBytes = some dst →
    ∃ t, exec (.prefetchRetry p h) s = .next t ∧
      (t.plot p).adapters.find h = some { a with residency := .loading, resAddr := dst, prefetch := 0 } ∧
      (t.plot p).poolAlloc = (s.plot p).poolAlloc ++ [(dst, a.recordBytes)] ∧
      s.otherPlots t p ∧ s.keepsBut t [.mem, .plots])

/-- SEQ_ADMIT, the seven operations of SEQ_EDIT, and SEQ_RETIRE (R257 to R262). While no step of the plot runs a request
takes effect at once; otherwise an edit waits, deferred, for the steps that run when it is taken, and QUERY never waits. -/
def Obligations.SequenceMessages : Prop :=
  (∀ (s : State) (p i : Nat) (r : Req), Turn s p opSeqAdmit r → s.admitCheck p r.payload = none →
    (s.plot p).freeSeq = some i → fieldAt r.payload 0 1 = 0 →
    ∃ t, exec (.seqAdmit p) s = .next t ∧
      t.plot p = ({ s.plot p with
        seqs := (s.plot p).seqs.set i
          (newSeq r.payload (i + 2 ^ 20 * (((s.plot p).incarnations.get 0 i + 1) % 4096)) 0 0)
        incarnations := (s.plot p).incarnations.set i (((s.plot p).incarnations.get 0 i + 1) % 4096) }).answeredOk r
          (natLE 4 (i + 2 ^ 20 * (((s.plot p).incarnations.get 0 i + 1) % 4096)) ++ natLE 2 1 ++ natLE 2 0) ∧
      s.otherPlots t p ∧ s.keepsBut t [.plots]) ∧
  (∀ (s u v : State) (p i root ob : Nat) (r : Req), Turn s p opSeqAdmit r → s.admitCheck p r.payload = none →
    (s.plot p).freeSeq = some i → fieldAt r.payload 0 1 = 1 → s.kvTake p kvHbmWindow tableBytes tableBytes = some (root, u) →
    u.kvTake p kvHbmWindow ((s.plot p).blockBytes 1) 4096 = some (ob, v) →
    ∃ t, exec (.seqAdmit p) s = .next t ∧
      (t.plot p).seqs.find i = some
        (newSeq r.payload (i + 2 ^ 20 * (((s.plot p).incarnations.get 0 i + 1) % 4096)) root ob) ∧
      (∀ a, ob ≤ a → a < ob + (s.plot p).blockBytes 1 → t.mem.read a = 0) ∧
      (t.plot p).hasAnswer r 0 (natLE 4 (i + 2 ^ 20 * (((s.plot p).incarnations.get 0 i + 1) % 4096)) ++ natLE 2 1 ++ natLE 2 0) ∧
      s.otherPlots t p ∧ s.keepsBut t [.mem, .plots]) ∧
  (∀ (s : State) (p : Nat) (r : Req) (e : SeqEntry), EditNow s p opSeqEdit r e → fieldAt r.payload 4 1 = 1 →
    e.kind = 1 → e.state ≠ 0 → e.state ≠ seqTerminated → fieldAt r.payload 0x10 4 ≠ 0 →
    e.ctx + e.pendingToks + fieldAt r.payload 0x10 4 ≤ e.maxLen →
    (e.pendingToks = 0 ∨ fieldAt r.payload 8 8 = e.inAddr + 4 * e.pendingToks) →
    s.inWindows p (fieldAt r.payload 8 8) (4 * fieldAt r.payload 0x10 4) = true →
    ∃ t, exec (.append p) s = .next t ∧
      t.plot p = (s.plot p).editedSeq r { e with
        inAddr := if e.pendingToks = 0 then fieldAt r.payload 8 8 else e.inAddr
        pendingToks := e.pendingToks + fieldAt r.payload 0x10 4, nextValid := false
        state := if e.state = seqDone then seqActive else e.state, gen := (e.gen + 1) % 65536 } ∧
      s.otherPlots t p ∧ s.keepsBut t [.plots]) ∧
  (∀ (s : State) (p : Nat) (r : Req) (e : SeqEntry), EditNow s p opSeqEdit r e → fieldAt r.payload 4 1 = 2 →
    e.kind = 1 → e.state ≠ 0 → e.state ≠ seqTerminated → e.pendingToks = 0 → fieldAt r.payload 8 8 ≤ e.ctx →
    ∃ t, exec (.truncate p) s = .next t ∧
      (∃ x, (t.plot p).seqs.find (seqIndex (fieldAt r.payload 0 4)) = some x ∧ x.ctx = fieldAt r.payload 8 8 ∧
        x.gen = (e.gen + 1) % 65536 ∧ x.generated = e.generated - (e.ctx - fieldAt r.payload 8 8) ∧
        (fieldAt r.payload 8 8 < e.ctx → x.nextValid = false) ∧ x.state = e.state ∧ x.maxLen = e.maxLen ∧
        (t.plot p).hasAnswer r 0 (natLE 4 (fieldAt r.payload 8 8) ++ natLE 2 x.gen ++ natLE 2 0)) ∧
      s.otherPlots t p ∧ s.keepsBut t [.mem, .plots]) ∧
  (∀ (s : State) (p : Nat) (r : Req) (e : SeqEntry), EditNow s p opSeqEdit r e → fieldAt r.payload 4 1 = 3 →
    e.kind = 1 → e.state ≠ 0 → e.state ≠ seqTerminated → e.ctx + e.pendingToks < fieldAt r.payload 8 8 →
    fieldAt r.payload 8 8 ≤ 262144 →
    ∃ t, exec (.setMax p) s = .next t ∧
      t.plot p = (s.plot p).editedSeq r { e with maxLen := fieldAt r.payload 8 8, gen := (e.gen + 1) % 65536 } ∧
      s.otherPlots t p ∧ s.keepsBut t [.plots]) ∧
  (∀ (s : State) (p : Nat) (r : Req) (e : SeqEntry), EditNow s p opSeqEdit r e → fieldAt r.payload 4 1 = 4 →
    e.state ≠ 0 → e.state ≠ seqTerminated → (s.plot p).adapterCheck e.kind (fieldAt r.payload 8 8 % 2 ^ 32) = none →
    ∃ t, exec (.setAdapter p) s = .next t ∧
      t.plot p = (s.plot p).editedSeq r { e with
        adapter := fieldAt r.payload 8 8 % 2 ^ 32, gen := (e.gen + 1) % 65536
        adapterGone := if e.state = seqDone then false else e.adapterGone } ∧
      s.otherPlots t p ∧ s.keepsBut t [.plots]) ∧
  (∀ (s : State) (p : Nat) (r : Req) (e : SeqEntry), EditNow s p opSeqEdit r e → e.state ≠ 0 → e.state ≠ seqTerminated →
    (fieldAt r.payload 4 1 = 5 → ∃ t, exec (.pause p) s = .next t ∧
      t.plot p = (s.plot p).editedSeq r { e with paused := true } ∧ s.otherPlots t p ∧ s.keepsBut t [.plots]) ∧
    (fieldAt r.payload 4 1 = 6 → ∃ t, exec (.resume p) s = .next t ∧
      t.plot p = (s.plot p).editedSeq r { e with paused := false } ∧ s.otherPlots t p ∧ s.keepsBut t [.plots])) ∧
  (∀ (s : State) (p : Nat) (r : Req) (e : SeqEntry), Turn s p opSeqEdit r → (s.plot p).binding ≠ none →
    (s.plot p).knowsSeq (fieldAt r.payload 0 4) = true → (s.plot p).seqs.find (seqIndex (fieldAt r.payload 0 4)) = some e →
    fieldAt r.payload 4 1 = 7 →
    ∃ t, exec (.seqEditQuery p) s = .next t ∧ t.plot p = (s.plot p).answeredOk r e.queryResult ∧
      s.otherPlots t p ∧ s.keepsBut t [.plots]) ∧
  (∀ (s : State) (p : Nat) (r : Req) (e : SeqEntry), EditNow s p opSeqRetire r e →
    ∃ t, exec (.seqRetire p) s = .next t ∧ (t.plot p).seqs.find (seqIndex (fieldAt r.payload 0 4)) = none ∧
      (∀ i, i ≠ seqIndex (fieldAt r.payload 0 4) → (t.plot p).seqs.find i = (s.plot p).seqs.find i) ∧
      (e.kind = 0 → (t.plot p).hasAnswer r 0 (natLE 8 0) ∧ t.mem = s.mem) ∧
      (e.kind = 1 → (∃ n, (t.plot p).hasAnswer r 0 (natLE 4 (n + 1) ++ natLE 4 0)) ∧
        (∀ x ∈ (t.plot p).kvAlloc, x.1 ≠ e.ptRoot ∧ x.1 ≠ e.openBlock)) ∧
      s.otherPlots t p ∧ s.keepsBut t [.mem, .plots]) ∧
  (∀ (s : State) (p op : Nat) (c : Instr) (r : Req) (e : SeqEntry),
    (op, c) ∈ [(1, .append p), (2, .truncate p), (3, .setMax p), (4, .setAdapter p), (5, .pause p), (6, .resume p)] →
    Turn s p opSeqEdit r → fieldAt r.payload 4 1 = op → (s.plot p).binding ≠ none →
    (s.plot p).knowsSeq (fieldAt r.payload 0 4) = true → (s.plot p).seqs.find (seqIndex (fieldAt r.payload 0 4)) = some e →
    e.kind = 1 → (s.plot p).running ≠ [] → (s.plot p).deferredFor (fieldAt r.payload 0 4) = (0, false) →
    ∃ t, exec c s = .next t ∧
      (t.plot p).mail = { (s.plot p).mail with
        held := (s.plot p).mail.held.map (fun h =>
          if h.slot = r.slot then { h with phase := .deferred, waits := (s.plot p).runningSteps } else h) } ∧
      (∃ x, (t.plot p).seqs.find (seqIndex (fieldAt r.payload 0 4)) = some x ∧ x.editPending = true ∧ x.ctx = e.ctx) ∧
      s.otherPlots t p ∧ s.keepsBut t [.plots])

/-- The three memory messages, when they are granted (R164, R166). A MEM_SCRUB of a stack that
has tripped waits, since its controller takes no command (R160). One thing the text does not give is the
model's: WINDOW_ID is the lowest free number. -/
def Obligations.MemoryWindowMessages : Prop :=
  (∀ (s : State) (p w : Nat) (r : Req) (run : Run), s.memMessageBusy p = false → Turn s p opMemMap r →
    s.placeWindow p (fieldAt r.payload 0 1) (fieldAt r.payload 4 4) (fieldAt r.payload 8 8) = .ok (w, run) →
    ∃ t, exec (.memMap p) s = .next t ∧
      t.plot p = ({ s.plot p with windows := (s.plot p).windows.set w run }).answeredOk r
        (natLE 8 run.base ++ natLE 4 run.count ++ natLE 2 w) ∧
      t.mem = { s.mem with granted := s.mem.granted ++ [run] } ∧
      s.otherPlots t p ∧ s.keepsBut t [.mem, .plots]) ∧
  (∀ (s : State) (p : Nat) (r : Req) (run : Run), s.memMessageBusy p = false → Turn s p opMemUnmap r →
    (s.plot p).windows.find (fieldAt r.payload 0 2) = some run → (s.plot p).windowBusy run = false →
    s.mem.holdsWrites p run = false →
    ∃ t, exec (.memUnmap p) s = .next t ∧
      t.plot p = ({ s.plot p with windows := (s.plot p).windows.erase (fieldAt r.payload 0 2) }).answeredOk r (List.replicate 8 0) ∧
      t.mem = { s.mem with
        granted := s.mem.granted.filter (fun g => !([run] : List Run).contains g)
        zeroing := s.mem.zeroing ++ [{ run := run, plot := p, closing := false }] } ∧
      s.otherPlots t p ∧ s.keepsBut t [.mem, .plots]) ∧
  (∀ (s : State) (p : Nat) (r : Req) (run : Run), s.memMessageBusy p = false → Turn s p opMemUnmap r →
    (s.plot p).windows.find (fieldAt r.payload 0 2) = some run → (s.plot p).windowBusy run = false →
    s.mem.holdsWrites p run = true →
    ∃ t, exec (.memUnmap p) s = .next t ∧
      (t.plot p).windows = (s.plot p).windows.erase (fieldAt r.payload 0 2) ∧
      (t.plot p).mail.backlog = (s.plot p).mail.backlog ∧
      (∀ h ∈ (t.plot p).mail.held, h.slot = r.slot → h.phase = .started ∧ h.waits = [(run.tier, run.first), (run.count, 0)]) ∧
      s.otherPlots t p ∧ s.keepsBut t [.plots]) ∧
  (∀ (s : State) (p : Nat) (r : Req) (run : Run), s.memMessageBusy p = false → Turn s p opMemScrub r →
    (s.plot p).windows.find (fieldAt r.payload 0 2) = some run →
    fieldAt r.payload 4 4 + fieldAt r.payload 8 4 ≤ run.count →
    s.mem.stopped (run.base + fieldAt r.payload 4 4 * granuleBytes) (fieldAt r.payload 8 4 * granuleBytes) = false →
    ∃ t, exec (.memScrub p) s = .next t ∧
      (∀ a, run.base + fieldAt r.payload 4 4 * granuleBytes ≤ a →
        a < run.base + (fieldAt r.payload 4 4 + fieldAt r.payload 8 4) * granuleBytes → t.mem.read a = 0) ∧
      s.bytesOutside t (run.base + fieldAt r.payload 4 4 * granuleBytes) (fieldAt r.payload 8 4 * granuleBytes) ∧
      (t.plot p).mail = (s.plot p).mail.answered r 0 0 0 (List.replicate 8 0) ∧
      (t.plot p).windows = (s.plot p).windows ∧ s.otherPlots t p ∧ s.keepsBut t [.mem, .plots]) ∧
  (∀ (s : State) (p : Nat) (r : Req) (run : Run), s.memMessageBusy p = false → Turn s p opMemScrub r →
    (s.plot p).windows.find (fieldAt r.payload 0 2) = some run →
    fieldAt r.payload 4 4 + fieldAt r.payload 8 4 ≤ run.count →
    s.mem.stopped (run.base + fieldAt r.payload 4 4 * granuleBytes) (fieldAt r.payload 8 4 * granuleBytes) = true →
    exec (.memScrub p) s = .next s)

/-- Every completion that MEM_MAP, MEM_UNMAP or MEM_SCRUB posts carries ST_OK, ST_NOT_PERMITTED, ST_NO_MEMORY or
ST_WINDOW_BUSY (a message of the wrong length never reaches the three, R367, and ST_TIMEOUT is MESSAGE_TIMEOUT's); after a
refusal the plot holds the completion and nothing else has changed (R165). -/
def Obligations.RefusedMemoryMessages : Prop :=
  (stShareExceeded = 0x0202 ∧ stWindowBusy = 0x0203) ∧
  (∀ (s : State) (p op : Nat) (c : Instr) (r : Req),
    (op, c) ∈ [(opMemMap, .memMap p), (opMemUnmap, .memUnmap p), (opMemScrub, .memScrub p)] →
    s.memMessageBusy p = false → Turn s p op r →
    ∃ t, exec c s = .next t ∧ s.otherPlots t p ∧ s.keepsBut t [.mem, .plots] ∧
      ((t.plot p).mail.backlog = (s.plot p).mail.backlog ∨
       ∃ body, (t.plot p).mail = (s.plot p).mail.answered r 0 0 0 body ∨
        ∃ st ∈ [stNotPermitted, stNoMemory, stWindowBusy],
          t.plot p = (s.plot p).answered r st 0 0 [] ∧ t.mem = s.mem)) ∧
  (∀ (s : State) (p : Nat) (r : Req), s.memMessageBusy p = false → Turn s p opMemMap r →
    (3 < fieldAt r.payload 0 1 ∨ fieldAt r.payload 4 4 = 0 ∨ 262144 < fieldAt r.payload 4 4) →
    ∃ t, exec (.memMap p) s = .next t ∧ t.plot p = (s.plot p).answered r stNotPermitted 0 0 [] ∧
      s.otherPlots t p ∧ s.keepsBut t [.plots]) ∧
  (∀ (s : State) (p op : Nat) (c : Instr) (r : Req), (op, c) ∈ [(opMemUnmap, .memUnmap p), (opMemScrub, .memScrub p)] →
    s.memMessageBusy p = false → Turn s p op r → (s.plot p).windows.find (fieldAt r.payload 0 2) = none →
    ∃ t, exec c s = .next t ∧ t.plot p = (s.plot p).answered r stNotPermitted 0 0 [] ∧
      s.otherPlots t p ∧ s.keepsBut t [.plots]) ∧
  (∀ (s : State) (p : Nat) (r : Req) (run : Run), s.memMessageBusy p = false → Turn s p opMemUnmap r →
    (s.plot p).windows.find (fieldAt r.payload 0 2) = some run → (s.plot p).windowBusy run = true →
    ∃ t, exec (.memUnmap p) s = .next t ∧ t.plot p = (s.plot p).answered r stWindowBusy 0 0 [] ∧
      s.otherPlots t p ∧ s.keepsBut t [.plots])

/-- LIST_SELECTION, LIST_CLOSE, CANDIDATES, READYSET and SEAL_JOB (R264 to R272, R282). That a candidate whose record is
not resident still counts in the limits at selection is the model's reading of R265 and R266. -/
def Obligations.WorkListsAreMade : Prop :=
  (∀ (s : State) (p plan : Nat) (st : Step) (pl : Plan), s.unitFenced 28 = false →
    (s.plot p).runOf plan = some st → (s.plot p).plans.find plan = some pl → (s.plot p).bowerOf pl = none →
    st.building = none → st.stopped = false → st.ended = false → st.lists.length < pl.listsOf →
    st.droppedMbs.contains st.lists.length = false →
    ∃ t, exec (.listSelection p plan) s = .next t ∧
      (∃ x b, (t.plot p).runOf plan = some x ∧ x.building = some b ∧ b.microbatch = st.lists.length ∧
        b.complete = true ∧ b.closed = false ∧ x.lists = st.lists ∧
        b.cands = (takeCandidates pl.seqLimit pl.header.maxRows pl.header.prefillChunk
          (((s.dropLong p pl st.step (some st.known)).plot p).eligibleOf pl st.step (some st.known)) 0 0).map (·.seqId) ∧
        (∀ id ∈ b.cands, id ∉ b.late → ∃ e, ((s.dropLong p pl st.step (some st.known)).plot p).seqOf id = some e ∧
          (e.adapter = noAdapter ∨ ((s.dropLong p pl st.step (some st.known)).plot p).recordReady e.adapter = true))) ∧
      s.otherPlots t p ∧ s.keepsBut t [.mem, .plots, .trellis]) ∧
  (∀ (s : State) (p plan : Nat) (st : Step) (pl : Plan), s.unitFenced 28 = false →
    (s.plot p).runOf plan = some st → (s.plot p).plans.find plan = some pl → (s.plot p).bowerOf pl = none →
    st.building = none → st.stopped = false → st.ended = false → pl.listsOf ≤ st.lists.length → (s.plot p).ahead.find plan = none →
    ∃ t, exec (.listSelection p plan) s = .next t ∧
      (∃ b, (t.plot p).ahead.find plan = some b ∧ b.microbatch = 0 ∧ b.complete = true ∧ b.closed = false ∧
        b.cands = ((s.dropLong p pl (st.step + 1) none).plot p).selected pl (st.step + 1) none) ∧
      (t.plot p).running = ((s.dropLong p pl (st.step + 1) none).plot p).running ∧
      s.otherPlots t p ∧ s.keepsBut t [.mem, .plots, .trellis]) ∧
  (∀ (s : State) (p plan : Nat) (st : Step) (pl : Plan), s.unitFenced 28 = false →
    (s.plot p).runOf plan = some st → (s.plot p).plans.find plan = some pl → st.stopped = false →
    st.lists.length < pl.listsOf → st.droppedMbs.contains st.lists.length = true →
    ∃ t, exec (.listSelection p plan) s = .next t ∧
      (∃ x, (t.plot p).runOf plan = some x ∧ x.building = none ∧
        x.lists = st.lists ++ [WorkList.blank st.step st.lists.length]) ∧
      s.otherPlots t p ∧ s.keepsBut t [.plots]) ∧
  (∀ (s : State) (p plan : Nat) (st : Step) (pl : Plan) (b : Building),
    (s.plot p).runOf plan = some st → (s.plot p).plans.find plan = some pl → pl.handle = plan →
    (s.plot p).bowerOf pl = none → st.building = some b → st.stopped = false → b.complete = true → b.closed = false → s.appendingFor p = false →
    ∃ t, exec (.listClose p plan) s = .next t ∧
      (∃ x l, (t.plot p).runOf plan = some x ∧ x.building = none ∧ x.lists = st.lists ++ [l] ∧ l.step = st.step ∧
        l.microbatch = b.microbatch ∧ (∀ r ∈ l.seqs, r.seqId ∈ b.cands) ∧ l.rowsTotal ≤ pl.header.maxRows ∧
        l.laneGroups.length ≤ 2048 ∧ l.tileGroups.length ≤ 4096) ∧
      t.trellis.lists = s.trellis.lists + 1 ∧ s.otherPlots t p ∧ s.keepsBut t [.mem, .plots, .orangery, .trellis]) ∧
  (∀ (s u : State) (port p : Nat) (g : Group) (f : Frame) (st : Step) (pl : Plan), f.kind = 7 →
    s.arrive port f = .taken p g u → (u.plot p).running = [st] → (u.plot p).plans.find st.plan = some pl →
    pl.header.bgroup = g.groupId → st.step = f.step → st.lists.length = f.seq → st.building = none →
    ∃ t, exec (.candidates port f) s = .next t ∧
      (∃ x b, (t.plot p).running = [x] ∧ x.building = some b ∧ b.microbatch = f.seq ∧
        b.frames = [(f.frameIdx, (List.range (f.payload.length / 4)).map (fun i => fieldAt f.payload (4 * i) 4))] ∧
        (1 < f.frameCnt → b.complete = false ∧ b.cands = []) ∧
        (f.frameCnt ≤ 1 → b.complete = true ∧
          b.cands = (List.range (f.payload.length / 4)).map (fun i => fieldAt f.payload (4 * i) 4))) ∧
      (t.port port).rxFrames = (u.port port).rxFrames + 1 ∧ u.otherPlots t p ∧
      u.keepsBut t [.mem, .plots, .ports, .trellis, .sent]) ∧
  (∀ (s u : State) (port p : Nat) (g : Group) (f : Frame) (st : Step) (pl : Plan) (b : Building), f.kind = 8 →
    s.arrive port f = .taken p g u → (u.plot p).running = [st] → (u.plot p).plans.find st.plan = some pl →
    pl.header.bgroup = g.groupId → st.step = f.step → st.lists.length = f.seq → st.building = some b →
    b.complete = true → b.closed = false →
    ∃ t, exec (.readyset port f) s = .next t ∧
      (∃ x c, (t.plot p).running = [x] ∧ x.building = some c ∧ x.lists = st.lists ∧ c.cands = b.cands ∧
        (g.parent u.fabric = some f.senderRank → c.final = some (unpackBits b.cands.length f.payload) ∧ c.child = b.child) ∧
        (g.parent u.fabric ≠ some f.senderRank → c.child = some (unpackBits b.cands.length f.payload) ∧ c.final = b.final)) ∧
      u.otherPlots t p ∧ u.keepsBut t [.mem, .plots, .ports, .trellis, .sent]) ∧
  (∀ (s : State) (p blk : Nat) (rest : List Nat) (j : AppendJob) (e : SeqEntry) (b : Binding),
    s.trellis.appending.find? (fun j => j.plot == p) = some j → (s.plot p).seqs.find j.index = some e →
    (s.plot p).binding = some b → e.reserved = blk :: rest → e.state = seqListed → j.left = j.chunk e.ctx → j.left < e.pendingToks →
    e.ctx + j.left < e.maxLen → e.adapterGone = false → (∀ r ∈ (s.plot p).mail.held, r.deferredSeq = none) →
    s.mem.wf = true → e.maxLen ≤ 262144 →
    (blk + (s.mem.sealedBlock b e.kvFmt e.openBlock (s.mem.poisonedIn e.openBlock (kvBlockBytes b 1))).length ≤ e.openBlock ∨ e.openBlock + kvBlockBytes b 1 ≤ blk) →
    (blk + (s.mem.sealedBlock b e.kvFmt e.openBlock (s.mem.poisonedIn e.openBlock (kvBlockBytes b 1))).length ≤ e.ptRoot ∨ e.ptRoot + 512 ≤ blk) →
    (∀ a, s.mem.pteSlot e.ptRoot e.sealedPages = some a →
      blk + (s.mem.sealedBlock b e.kvFmt e.openBlock (s.mem.poisonedIn e.openBlock (kvBlockBytes b 1))).length ≤ a ∨ a + 8 ≤ blk) →
    ∃ t, exec (.sealJob p) s = .next t ∧
      (∃ x, (t.plot p).seqs.find j.index = some x ∧ x.state = seqActive ∧ x.ctx = e.ctx + j.left ∧
        x.pendingToks = e.pendingToks - j.left ∧ x.gen = (e.gen + 1) % 65536 ∧ x.reserved = rest ∧ x.hbmBlocks = e.hbmBlocks + 1) ∧
      t.memHolds blk (s.mem.sealedBlock b e.kvFmt e.openBlock (s.mem.poisonedIn e.openBlock (kvBlockBytes b 1))) ∧
      (∀ i < kvBlockBytes b 1, t.mem.read (e.openBlock + i) = 0) ∧
      t.trellis = { s.trellis with seals := s.trellis.seals + 1, appending := dropFirst j s.trellis.appending } ∧
      s.otherPlots t p ∧ s.keepsBut t [.mem, .plots, .pavs, .trellis])

/-- GROUP_JOIN, GROUP_HANDSHAKE while a group forms, GROUP_JOIN_TIMEOUT, GROUP_LEAVE and ROUTE_SET. A group without a neighbour
is ACTIVE at once. That the handle is the lowest that the module has free, and that a GROUP_JOIN whose group is left while it forms
ends with ST_GROUP_LOST, is the model's choice. -/
def Obligations.GroupMembership : Prop :=
  (∀ (s : State) (p h : Nat) (r : Req), Turn s p opGroupJoin r → s.joinStatus p r = none → s.freeGroup = some h → p ∈ tenantPlots →
    (s.plot p).mail.held.find? (fun x => x.slot == r.slot) = some r →
    ∃ t, exec (.groupJoin p) s = .next t ∧
      (∃ x ∈ (t.plot p).groups, x.handle = h ∧ x.groupId = fieldAt r.payload 0 4 ∧ x.kind = fieldAt r.payload 4 1 ∧
        x.generation = 1 ∧ x.window = fieldAt r.payload 6 2 ∧ x.jobTag = fieldAt r.payload 0x10 8 ∧
        x.live = s.rosterAt (fieldAt r.payload 0x18 8) (fieldAt r.payload 8 4) ∧
        (x.neighbours s.fabric ≠ [] → x.state = groupForming ∧ x.joinSlot = some r.slot ∧
          t.heldIn p r.slot = some { r with phase := .started }) ∧
        (x.neighbours s.fabric = [] → x.state = groupActive ∧ (∃ body, (t.plot p).hasAnswer r 0 body)) ∧
        (∀ f ∈ x.neighbours s.fabric, t.said f (.handshake (s.shakeOf p x)))) ∧
      (∀ g ∈ (s.plot p).groups, g ∈ (t.plot p).groups) ∧ s.otherPlots t p ∧
      s.keepsBut t [.plots, .bothy, .ports, .gatehouse, .free, .sent]) ∧
  (∀ (s : State) (l : Link) (p slot : Nat) (g : Group) (h : Handshake) (r : Req), Arrives s l → p ∈ tenantPlots →
    s.isOpen p = true → s.groupsOnlyOf p → s.holdsGroup p g → g.groupId = h.groupId → g.state = groupForming → g.suspended = false →
    (∀ f ∈ g.neighbours s.fabric, s.paired f = true) → g.joinSlot = some slot → s.heldIn p slot = some r → h.src ∈ g.neighbours s.fabric →
    h.kind = g.kind → h.members = g.size → h.jobTag = g.jobTag → h.digest = g.digest → h.rank = g.rankOf h.src →
    h.generation = g.generation → (∀ f ∈ g.neighbours s.fabric, f = h.src ∨ f ∈ g.answered) →
    ∃ t, exec (.groupHandshake l h) s = .next t ∧
      (∃ x, (t.plot p).groupOf g.handle = some x ∧ x.state = groupActive ∧ x.joinSlot = none ∧ x.live = g.live ∧
        x.generation = g.generation ∧ x.heard.get 0 h.src = s.now) ∧
      (t.plot p).hasAnswer r 0 ({ g with state := groupActive }.joinResult s.fabric) ∧
      (s.heardOn l).otherPlots t p ∧ (s.heardOn l).keepsBut t [.plots, .bothy, .ports, .sent]) ∧
  (∀ (s : State) (l : Link) (p slot : Nat) (g : Group) (h : Handshake) (r : Req), Arrives s l → p ∈ tenantPlots →
    s.isOpen p = true → s.groupsOnlyOf p → s.holdsGroup p g → g.groupId = h.groupId → g.state = groupForming → g.suspended = false →
    g.joinSlot = some slot → s.heldIn p slot = some r → h.src ∈ g.neighbours s.fabric → h.generation ≤ g.generation →
    (h.kind ≠ g.kind ∨ h.members ≠ g.size ∨ h.jobTag ≠ g.jobTag ∨ h.digest ≠ g.digest) →
    ∃ t, exec (.groupHandshake l h) s = .next t ∧
      t.plot p = ({ (s.heardOn l).plot p with
        groups := (s.plot p).groups.filter (fun x => x.handle != g.handle) }).answered r stGroupMismatch 0 0 [] ∧
      (s.heardOn l).otherPlots t p ∧ (s.heardOn l).keepsBut t [.plots, .ports, .sent]) ∧
  (∀ (s : State) (p slot : Nat) (g : Group) (r : Req), s.isOpen p = true → (s.plot p).groupOf g.handle = some g →
    g.state = groupForming → g.joinTick + g.timeoutS * 100000000 ≤ s.now → g.joinSlot = some slot → s.heldIn p slot = some r →
    ∃ t, exec (.groupJoinTimeout p g.handle) s = .next t ∧
      t.plot p = ({ s.plot p with groups := (s.plot p).groups.filter (fun x => x.handle != g.handle) }).answered r stTimeout 0 0 [] ∧
      s.otherPlots t p ∧ s.keepsBut t [.plots]) ∧
  (∀ (s : State) (p : Nat) (r : Req) (g : Group), Turn s p opGroupLeave r → p ∈ tenantPlots →
    (s.plot p).groupOf (fieldAt r.payload 0 2) = some g → g.state ≠ groupDissolved → (s.plot p).plansNaming g.groupId = [] →
    ∃ t, exec (.groupLeave p) s = .next t ∧
      (t.plot p).groups = (s.plot p).groups.filter (fun x => x.handle != g.handle) ∧ (t.plot p).hasAnswer r 0 [] ∧
      (∀ j, g.joinSlot.bind (s.heldIn p) = some j → (t.plot p).hasAnswer j stGroupLost []) ∧
      (∀ f ∈ g.neighbours s.fabric, s.portTo f ≠ none → t.said f (.leave g.groupId g.generation (g.rankOf s.fabric))) ∧
      (∀ i, ∀ x ∈ (t.port i).retention, ¬ (x.plot = p ∧ x.frame.groupId = g.groupId)) ∧
      s.otherPlots t p ∧ s.keepsBut t [.plots, .bothy, .ports, .sent]) ∧
  (∀ (s : State) (p : Nat) (r : Req) (g : Group), Turn s p opGroupLeave r → (s.plot p).groupOf (fieldAt r.payload 0 2) = some g →
    (g.state = groupDissolved ∨ (s.plot p).plansNaming g.groupId ≠ []) →
    ∃ t, exec (.groupLeave p) s = .next t ∧
      t.plot p = (s.plot p).answered r (if g.state = groupDissolved then stGroupLost else stGroupBusy) 0 0 [] ∧
      s.otherPlots t p ∧ s.keepsBut t [.plots]) ∧
  (∀ (s : State) (p : Nat) (r : Req), Turn s p opRouteSet r → fieldAt r.payload 0 1 ≠ 0 → fieldAt r.payload 0 1 ≤ 56 →
    (∀ i < fieldAt r.payload 0 1, (routeEntry r.payload i).2 < 4096 ∧
      ((routeEntry r.payload i).2 = 0 ∨ ∃ k < 12, s.portLeads k (routeEntry r.payload i).1 = true)) →
    (routesAfter r.payload (s.plot p).routes).length ≤ 256 →
    ∃ t, exec (.routeSet p) s = .next t ∧
      t.plot p = ({ s.plot p with routes := routesAfter r.payload (s.plot p).routes }).answeredOk r [] ∧
      s.otherPlots t p ∧ s.keepsBut t [.plots])

/-- HEARTBEAT_SEND, HEARTBEAT_RECEIVE, PAUSE_NOTICE, NEIGHBOUR_SILENT, LEASE_LAPSE, RECOMPACTION_TIMEOUT, MEMBER_LOST, LOSS and
LEAVE, for a plot that holds groups alone; a plan's policy then acts besides (R299). A suspended group that dissolves at the
lapse of its lease is the model's reading of R226. -/
def Obligations.LeasesAndLoss : Prop :=
  (∀ (s : State), s.bothy.ready = true → s.bothy.paused = false → s.bothy.lastBeat + heartbeatTicks ≤ s.now →
    ∃ t, exec .heartbeatSend s = .next t ∧
      (∀ p ∈ tenantPlots, ∀ g ∈ (s.plot p).groups, g.state ≠ groupDissolved → g.suspended = false →
        ∀ f ∈ g.neighbours s.fabric, s.portTo f ≠ none → t.said f .heartbeat) ∧
      (∀ p ∈ tenantPlots, ∀ f ∈ (s.plot p).otherEnds, s.portTo f ≠ none → t.said f .heartbeat) ∧
      t.bothy = { s.bothy with lastBeat := s.now } ∧ s.keepsBut t [.bothy, .ports, .sent]) ∧
  (∀ (s : State) (l : Link), Arrives s l →
    ∃ u : State, exec (.heartbeatReceive l) s = .next u.pumpTraffic ∧
      (∀ p ∈ tenantPlots, ∀ g ∈ (s.plot p).groups, l.src ∈ g.neighbours s.fabric → g.state ≠ groupDissolved → g.suspended = false →
        ∃ x ∈ (u.plot p).groups, x.handle = g.handle ∧ x.live = g.live ∧ x.heard.get 0 l.src = s.now) ∧
      (∀ p ∈ tenantPlots, ∀ x ∈ (u.plot p).serving, x.dest = l.src → x.heard = s.now) ∧
      s.keepsBut u [.plots, .bothy, .ports, .sent]) ∧
  (∀ (s : State) (l : Link) (p : Nat) (g : Group), Arrives s l → p ∈ tenantPlots → s.groupsOnlyOf p →
    (s.plot p).groups = [g] → g.state = groupSuspect → g.suspended = false → l.src ∈ g.neighbours s.fabric →
    (∀ n ∈ g.neighbours s.fabric, s.route p n ≠ [] ∧ (n = l.src ∨ s.now < g.heard.get 0 n + suspectTicks)) →
    ∃ u : State, exec (.heartbeatReceive l) s = .next u.pumpTraffic ∧
      ∃ x, (u.plot p).groups = [x] ∧ x.state = groupActive ∧ x.handle = g.handle) ∧
  (∀ (s : State) (l : Link) (millis : Nat), Arrives s l →
    ∃ t, exec (.pauseNotice l millis) s = .next t ∧
      (∀ p, (t.plot p).groups = (s.plot p).groups.map (fun g =>
        if (g.neighbours s.fabric).contains l.src = true then { g with pauseTicks := g.pauseTicks.set l.src (millis * 100000) } else g)) ∧
      (s.heardOn l).keepsBut t [.plots]) ∧
  (∀ (s : State) (p f : Nat) (g : Group), (s.plot p).groupOf g.handle = some g → g.state = groupActive →
    f ∈ g.neighbours s.fabric → g.heard.get g.joinTick f + suspectTicks + g.pauseTicks.get 0 f ≤ s.now →
    ∃ t, exec (.neighbourSilent p g.handle f) s = .next t ∧
      (t.plot p).groups = (s.plot p).groups.map (fun x => if x.handle = g.handle then { x with state := groupSuspect } else x) ∧
      s.otherPlots t p ∧ s.keepsBut t [.plots, .bothy]) ∧
  (∀ (s : State) (p f n : Nat) (g : Group), s.holdsGroup p g → (s.plot p).quietPlot → g.handle ≤ 63 →
    (g.state = groupActive ∨ g.state = groupSuspect ∨ g.state = groupRecompacting) → g.suspended = false → g.joinSlot = none →
    f ∈ g.neighbours s.fabric → f ∈ g.live → f ≠ s.fabric → g.heard.find f = some n →
    n + leaseTicks + g.pauseTicks.get 0 f ≤ s.now →
    ∃ t, exec (.leaseLapse p g.handle f) s = .next t ∧ s.regrouped t p g f ∧ s.otherPlots t p ∧
      s.keepsBut t [.plots, .bothy, .ports, .gatehouse, .free, .sent]) ∧
  (∀ (s : State) (p f n : Nat) (g : Group), s.holdsGroup p g → (s.plot p).quietPlot → g.handle ≤ 63 →
    g.state ≠ groupDissolved → g.suspended = true → g.joinSlot = none → f ∈ g.neighbours s.fabric → g.heard.find f = some n →
    n + leaseTicks + g.pauseTicks.get 0 f ≤ s.now →
    ∃ t, exec (.leaseLapse p g.handle f) s = .next t ∧
      (∃ x, (t.plot p).groupOf g.handle = some x ∧ x.state = groupDissolved) ∧ s.otherPlots t p ∧ s.keepsBut t [.plots, .bothy, .ports]) ∧
  (∀ (s : State) (p f n slot : Nat) (g : Group) (r : Req), s.isOpen p = true → (s.plot p).groupOf g.handle = some g → g.handle ≤ 63 →
    g.state = groupForming → g.joinSlot = some slot → s.heldIn p slot = some r → f ∈ g.neighbours s.fabric → g.heard.find f = some n →
    n + leaseTicks + g.pauseTicks.get 0 f ≤ s.now →
    ∃ t, exec (.leaseLapse p g.handle f) s = .next t ∧
      t.plot p = ({ s.plot p with groups := (s.plot p).groups.filter (fun x => x.handle != g.handle) }).answered r stGroupLost 0 0 [] ∧
      s.otherPlots t p ∧ s.keepsBut t [.plots]) ∧
  (∀ (s : State) (p group f h : Nat) (x : Partner), 63 < group → (s.plot p).fills = [] → (s.plot p).serving = [] →
    (s.plot p).partners = [(h, x)] → x.handle = h → x.formed = true → x.state < 2 → x.peer = f → x.heard + leaseTicks ≤ s.now →
    ∃ t, exec (.leaseLapse p group f) s = .next t ∧
      (t.plot p).partners = [(h, { x with state := if x.role = 0 then partnerLost else partnerOrphaned, streamStep := none,
                                          streamBytes := 0, image := [], kept := [], owed := none, got := [] })] ∧
      s.otherPlots t p ∧ s.keepsBut t [.plots, .bothy]) ∧
  (∀ (s : State) (p rank : Nat) (g : Group), s.holdsGroup p g → (s.plot p).quietPlot → g.state = groupRecompacting →
    rank ∈ g.neighbourRanks s.fabric → g.at rank ∉ g.answered → g.at rank ∈ g.live → g.at rank ≠ s.fabric →
    g.regroupTick + leaseTicks ≤ s.now →
    ∃ t, exec (.recompactionTimeout p g.handle rank) s = .next t ∧ s.regrouped t p g (g.at rank) ∧ s.otherPlots t p ∧
      s.keepsBut t [.plots, .bothy, .ports, .gatehouse, .free, .sent]) ∧
  (∀ (s : State) (p : Nat) (g : Group) (r : Req), Turn s p opMemberLost r → s.holdsGroup p g → (s.plot p).quietPlot →
    s.edgesWith p (fieldAt r.payload 0 8) = [g] → g.suspended = false → g.joinSlot = none →
    fieldAt r.payload 0 8 ∈ g.live → fieldAt r.payload 0 8 ≠ s.fabric →
    ∃ t, exec (.memberLost p) s = .next t ∧ s.regrouped t p g (fieldAt r.payload 0 8) ∧
      (t.plot p).hasAnswer r 0 (natLE 4 1 ++ natLE 4 0) ∧ s.otherPlots t p ∧
      s.keepsBut t [.plots, .bothy, .ports, .gatehouse, .free, .sent]) ∧
  (∀ (s : State) (l : Link) (p rank : Nat) (g : Group), Arrives s l → p ∈ tenantPlots → s.groupsOnlyOf p →
    s.holdsGroup p g → (s.plot p).quietPlot → g.state ≠ groupDissolved → g.at rank ∈ g.live → g.at rank ≠ s.fabric →
    (∃ t, exec (.loss l g.groupId g.generation rank) s = .next t ∧ s.regrouped t p g (g.at rank) ∧
      (∀ f ∈ g.neighbours s.fabric, f ≠ g.at rank → f ≠ l.src → s.portTo f ≠ none →
        t.said f (.loss g.groupId g.generation (g.rankOf (g.at rank)))) ∧
      (s.heardOn l).otherPlots t p ∧ (s.heardOn l).keepsBut t [.plots, .bothy, .ports, .gatehouse, .free, .sent]) ∧
    (∃ t, exec (.leave l g.groupId g.generation rank) s = .next t ∧ s.regrouped t p g (g.at rank) ∧
      (s.heardOn l).otherPlots t p ∧ (s.heardOn l).keepsBut t [.plots, .bothy, .ports, .gatehouse, .free, .sent])) ∧
  (∀ (s : State) (l : Link) (p gen rank : Nat) (g : Group), Arrives s l → p ∈ tenantPlots → s.groupsOnlyOf p →
    s.holdsGroup p g → gen < g.generation →
    (∃ t, exec (.loss l g.groupId gen rank) s = .next t ∧ (∃ x, (t.plot p).groupOf g.handle = some x ∧ x.generation = g.generation ∧
        x.live = g.live ∧ x.lost = g.lost) ∧
      (t.engine (portEngine l.port)).stale = (s.engine (portEngine l.port)).stale + 1) ∧
    exec (.leave l g.groupId gen rank) s = .next ((s.heardOn l).stale l.port)) ∧
  (∀ (s : State) (l : Link) (gid gen rank : Nat), Arrives s l → (∀ p, (s.plot p).groups = [] ∧ (s.plot p).fills = []) →
    exec (.loss l gid gen rank) s = .next (s.heardOn l) ∧ exec (.leave l gid gen rank) s = .next (s.heardOn l))

/-- SNAPSHOT_BEGIN in its three roles, PARTNERSHIP_FORMED, PARTNER_NO_ANSWER, SNAPSHOT_QUERY, SNAPSHOT, SNAPSHOT_DONE, RESTORE and
PARTNER_RESTORE_REQUEST. The place of a keeper's second slot and the lowest free partnership handle are the model's choices. -/
def Obligations.SnapshotPartnerships : Prop :=
  (∀ (s : State) (p h : Nat) (r : Req) (pl : Plan) (b : Binding), Turn s p opSnapshotBegin r → fieldAt r.payload 0 1 = 0 →
    (s.plot p).plans.find (fieldAt r.payload 8 4) = some pl → (s.plot p).binding = some b →
    (s.plot p).runOf (fieldAt r.payload 8 4) = none → fieldAt r.payload 2 2 ≠ 0 →
    (fieldAt r.payload 4 4 = 0 ∨ fieldAt r.payload 2 2 ≤ fieldAt r.payload 4 4) →
    s.inHbmWindows p (fieldAt r.payload 0x18 8) (fieldAt r.payload 0x20 8) = true →
    s.keysTo p (fieldAt r.payload 0x10 8) = true → (s.plot p).imageBytes b pl ≤ fieldAt r.payload 0x20 8 →
    (∀ e ∈ (s.plot p).partners, e.2.state ≠ partnerLost) → (s.plot p).freePartner = some h →
    ∃ t, exec (.snapshotBeginSource p) s = .next t ∧
      (t.plot p).partners.find h = some (partnerOf r h s.now ((s.plot p).imageBytes b pl)) ∧
      (t.plot p).mail.backlog = (s.plot p).mail.backlog ∧
      (s.portTo (fieldAt r.payload 0x10 8) ≠ none → t.said (fieldAt r.payload 0x10 8) (.snapshotOffer (fieldAt r.payload 0x28 8) 0)) ∧
      s.otherPlots t p ∧ s.keepsBut t [.plots, .ports, .gatehouse, .free, .sent]) ∧
  (∀ (s : State) (p h : Nat) (r : Req), Turn s p opSnapshotBegin r → fieldAt r.payload 0 1 = 1 →
    s.inColdWindows p (fieldAt r.payload 0x18 8) (fieldAt r.payload 0x20 8) = true →
    s.keysTo p (fieldAt r.payload 0x10 8) = true → (s.plot p).freePartner = some h →
    ∃ t, exec (.snapshotBeginKeeper p) s = .next t ∧ (t.plot p).partners.find h = some (partnerOf r h s.now 0) ∧
      (t.plot p).mail.backlog = (s.plot p).mail.backlog ∧
      (s.portTo (fieldAt r.payload 0x10 8) ≠ none → t.said (fieldAt r.payload 0x10 8) (.snapshotOffer (fieldAt r.payload 0x28 8) 1)) ∧
      s.otherPlots t p ∧ s.keepsBut t [.plots, .ports, .gatehouse, .free, .sent]) ∧
  (∀ (s : State) (p h : Nat) (r : Req) (x : Partner), Turn s p opSnapshotBegin r → fieldAt r.payload 0 1 = 2 →
    (s.plot p).partners = [(h, x)] → x.formed = true → x.peer = fieldAt r.payload 0x10 8 → x.jobTag = fieldAt r.payload 0x28 8 →
    ∃ t, exec (.snapshotBeginEnd p) s = .next t ∧
      t.plot p = ({ s.plot p with partners := [] }).answeredOk r x.result ∧
      (s.portTo x.peer ≠ none → t.said x.peer (.snapshotOffer x.jobTag 2)) ∧ s.otherPlots t p ∧ s.keepsBut t [.plots, .ports, .sent]) ∧
  (∀ (s : State) (p h role image slot : Nat) (x : Partner) (r : Req), s.isOpen p = true → (s.plot p).partners.find h = some x →
    x.formed = false → role ≠ x.role → role ≤ 1 → s.paired x.peer = true → (x.role = 1 → 2 * image ≤ x.len) →
    x.slot = some slot → s.heldIn p slot = some r →
    ∃ t, exec (.partnershipFormed p h s.fabric x.jobTag role image) s = .next t ∧
      ∃ y, y = { x with formed := true, slot := none, heard := s.now, imageBytes := if x.role = 1 then image else x.imageBytes } ∧
        t.plot p = ({ s.plot p with
          partners := (s.plot p).partners.map (fun e : Nat × Partner => if e.1 = h then (e.1, y) else e) }).answeredOk r y.result ∧
        s.otherPlots t p ∧ s.keepsBut t [.plots]) ∧
  (∀ (s : State) (p h named jobTag role image slot : Nat) (x : Partner) (r : Req), s.isOpen p = true →
    (s.plot p).partners.find h = some x → x.handle = h → x.formed = false → x.slot = some slot → s.heldIn p slot = some r →
    ((named ≠ s.fabric ∨ jobTag ≠ x.jobTag ∨ role = x.role ∨ 1 < role) →
      ∃ t, exec (.partnershipFormed p h named jobTag role image) s = .next t ∧
        t.plot p = ({ s.plot p with partners := (s.plot p).partners.erase h }).answered r stPartnerRefused 0 0 [] ∧
        s.otherPlots t p ∧ s.keepsBut t [.plots]) ∧
    (x.startTick + leaseTicks ≤ s.now →
      ∃ t, exec (.partnerNoAnswer p h) s = .next t ∧
        t.plot p = ({ s.plot p with partners := (s.plot p).partners.erase h }).answered r stPartnerRefused 0 0 [] ∧
        s.otherPlots t p ∧ s.keepsBut t [.plots])) ∧
  (∀ (s : State) (p : Nat) (r : Req) (x : Partner), Turn s p opSnapshotQuery r →
    (s.plot p).partners.find (fieldAt r.payload 0 2) = some x →
    ∃ t, exec (.snapshotQuery p) s = .next t ∧ t.plot p = (s.plot p).answeredOk r x.query ∧
      s.otherPlots t p ∧ s.keepsBut t [.plots]) ∧
  (∀ (s u v : State) (port p : Nat) (f : Frame) (x : Partner), f.kind = 9 → s.arriveBare port f = (some u, v) → s.mem.wf = true →
    tenantPlots.findSome? (fun p => ((u.plot p).partners.find? (fun e => e.2.formed && e.2.role == 1 &&
      e.2.state != partnerOrphaned && e.2.peer == f.src && e.2.jobTag % 2 ^ 32 == f.seq)).map (fun e => (p, e.2))) = some (p, x) →
    x.streamStep = some f.step → x.got.contains f.tile = false →
    8192 * f.tile + f.payload.length ≤ x.len / 2 →
    ∃ t, exec (.snapshot port f) s = .next t ∧ t.memHolds (x.slotAt x.spareSlot + 8192 * f.tile) f.payload ∧
      s.bytesOutside t (x.slotAt x.spareSlot + 8192 * f.tile) f.payload.length ∧
      (x.got.length + 1 < f.c → (t.plot p).partners = (u.plot p).partners.map (fun e => if e.1 = x.handle then (e.1,
        { x with got := x.got ++ [f.tile], streamBytes := x.streamBytes + f.payload.length, heard := s.now }) else e)) ∧
      (f.c ≤ x.got.length + 1 → (t.plot p).partners = (u.plot p).partners.map (fun e => if e.1 = x.handle then (e.1,
        { x with got := [], streamBytes := 0, streamStep := none, heard := s.now, newest := x.spareSlot, state := partnerIdle
                 images := x.images.set x.spareSlot (some (t.mem.readNat (x.slotAt x.spareSlot + 8) 8,
                   t.mem.readNat (x.slotAt x.spareSlot + 0x10) 8)) }) else e)) ∧
      (t.port port).rxFrames = (s.port port).rxFrames + 1 ∧ u.otherPlots t p ∧ u.keepsBut t [.mem, .plots]) ∧
  (∀ (s : State) (p h n : Nat) (x : Partner) (pl : Plan), (s.plot p).partners.find h = some x → x.role = 0 → x.formed = true →
    x.streamStep = some n → (s.plot p).plans.find x.plan = some pl → x.image.length ≤ x.streamBytes → x.owed = none →
    ∃ u : State, exec (.snapshotDone p h) s = .next (u.pumpImages p) ∧
      (u.plot p).partners = (s.plot p).partners.map (fun e => if e.1 = h then (e.1,
        { x with images := x.images.set x.spareSlot (some (n, x.streamCursor)), newest := x.spareSlot, streamStep := none,
                 streamBytes := 0, image := [], kept := [], state := partnerIdle, owed := none }) else e) ∧
      (Hears s p → ∃ body, (u.plot p).mail.backlog = (s.plot p).mail.backlog ++ [unsolicitedRec srcSurvival body] ∧ fieldAt body 0 2 = 11) ∧
      s.otherPlots u p ∧ s.keepsBut u [.plots, .bothy]) ∧
  (∀ (s : State) (p n : Nat) (r : Req) (pl : Plan) (b : Binding), Turn s p opRestore r → fieldAt r.payload 0 1 = 1 →
    (fieldAt r.payload 2 1 ≤ 1 ∨ fieldAt r.payload 2 1 = 0xFF) → (s.plot p).plans.find (fieldAt r.payload 4 4) = some pl →
    (s.plot p).binding = some b → (s.plot p).running = [] → (s.plot p).fillOf pl.handle 3 = none →
    s.inWindows p (fieldAt r.payload 8 8) 128 = true → n = s.mem.readNat (fieldAt r.payload 8 8 + 0x48) 8 → 192 ≤ n →
    s.inWindows p (fieldAt r.payload 8 8) n = true →
    ∀ im, im = s.mem.readBytes (fieldAt r.payload 8 8) n →
    ∃ t, exec (.restore p) s = .next t ∧ s.otherPlots t p ∧ s.keepsBut t [.mem, .plots] ∧
      (∀ st, (s.plot p).imageStatus b pl r im (s.mem.poisonedIn (fieldAt r.payload 8 8) n) = some st →
        (t.plot p).hasAnswer r st [] ∧ t.mem = s.mem ∧ (t.plot p).adapters = (s.plot p).adapters) ∧
      ((s.plot p).imageStatus b pl r im (s.mem.poisonedIn (fieldAt r.payload 8 8) n) = none →
        (t.plot p).hasAnswer r 0 (natLE 8 (fieldAt im 8 8) ++ natLE 8 (fieldAt im 0x10 8) ++
          natLE 4 ((s.plot p).imaged pl).length ++ natLE 4 0) ∧
        t.mem = (s.writeRanges p im (128 + 64 * ((s.plot p).imaged pl).length)
          ((((s.plot p).imaged pl).map (fun a => a.imageRanges b)).flatten)).mem)) ∧
  (∀ (s : State) (p : Nat) (r : Req) (pl : Plan) (b : Binding), Turn s p opRestore r → fieldAt r.payload 0 1 = 0 →
    (fieldAt r.payload 2 1 ≤ 1 ∨ fieldAt r.payload 2 1 = 0xFF) → (s.plot p).plans.find (fieldAt r.payload 4 4) = some pl →
    (s.plot p).binding = some b → (s.plot p).running = [] → (s.plot p).fillOf pl.handle 3 = none →
    s.paired (fieldAt r.payload 8 8) = true →
    ∃ t, exec (.restore p) s = .next t ∧ (t.plot p).mail.backlog = (s.plot p).mail.backlog ∧
      (∃ x, (t.plot p).fills = (s.plot p).fills ++ [x] ∧ x.use = 3 ∧ x.sources = [fieldAt r.payload 8 8] ∧ x.slot = some r.slot) ∧
      (s.portTo (fieldAt r.payload 8 8) ≠ none → ∃ tag, t.said (fieldAt r.payload 8 8) (.restoreAsk tag (fieldAt r.payload 2 1))) ∧
      s.otherPlots t p ∧ s.keepsBut t [.plots, .ports, .gatehouse, .free, .sent]) ∧
  (∀ (s u : State) (l : Link) (p jobTag slot : Nat) (x : Partner), Arrives s l → u = s.heardOn l →
    tenantPlots.findSome? (fun p => ((u.plot p).partners.find? (fun e =>
      e.2.formed && e.2.role == 1 && e.2.peer == l.src && e.2.jobTag == jobTag)).map (fun e => (p, e.2))) = some (p, x) →
    ∀ k, k = (if slot = 0xFF then x.newest else slot) →
    (x.images.getD k none = none →
      exec (.partnerRestoreRequest l jobTag slot) s = .next (u.sendFrames p l.src (u.route p l.src)
        [{ (soloGroup s.fabric).frame s.fabric 10 3 0 with tensor := 4, c := 0 }])) ∧
    (x.images.getD k none ≠ none →
      ∃ v : State, exec (.partnerRestoreRequest l jobTag slot) s = .next (v.pumpServes p) ∧
        (∃ y, (v.plot p).serving = (u.plot p).serving ++ [y] ∧ y.dest = l.src ∧ y.use = 2 ∧
          y.bytes = some (s.mem.readBytes (x.slotAt k) (s.mem.readNat (x.slotAt k + 0x48) 8))) ∧
        (v.plot p).partners = (if x.state = partnerOrphaned then (u.plot p).partners.erase x.handle else (u.plot p).partners) ∧
        u.otherPlots v p ∧ u.keepsBut v [.plots]))

/-- SURVIVE_POLICY in its five operations, FILL, FILL_REQUEST, REINSTATE_HANDOVER and MIRROR_PROMOTION. -/
def Obligations.SurvivalMessages : Prop :=
  (∀ (s : State) (p : Nat) (r : Req), Turn s p opSurvivePolicy r → fieldAt r.payload 0 1 = 0 →
    s.armStatus p (policyAt r.payload) = none →
    ∃ t, exec (.survivePolicyArm p) s = .next t ∧
      (t.plot p).policies = (s.plot p).policies.set (fieldAt r.payload 4 4) (policyAt r.payload) ∧
      (∀ h pl, (t.plot p).plans.find h = some pl → pl.standby = (t.plot p).standbyNow pl.handle) ∧
      (t.plot p).mail = (s.plot p).mail.answered r 0 0 0 (natLE 16 0) ∧ s.otherPlots t p ∧ s.keepsBut t [.plots]) ∧
  (∀ (s : State) (p : Nat) (r : Req), Turn s p opSurvivePolicy r → fieldAt r.payload 0 1 = 1 →
    ((s.plot p).plans.find (fieldAt r.payload 4 4)).isSome = true →
    ∃ t, exec (.survivePolicyDisarm p) s = .next t ∧
      (t.plot p).policies = (s.plot p).policies.erase (fieldAt r.payload 4 4) ∧
      (∀ h pl, (t.plot p).plans.find h = some pl → pl.standby = (t.plot p).standbyNow pl.handle) ∧
      (t.plot p).mail = (s.plot p).mail.answered r 0 0 0 (natLE 16 0) ∧ s.otherPlots t p ∧ s.keepsBut t [.plots]) ∧
  (∀ (s : State) (p : Nat) (r : Req), Turn s p opSurvivePolicy r → fieldAt r.payload 0 1 = 2 →
    ((s.plot p).plans.find (fieldAt r.payload 4 4)).isSome = true →
    ∃ t, exec (.survivePolicyQuery p) s = .next t ∧
      t.plot p = (s.plot p).answeredOk r ((s.plot p).policyQuery (fieldAt r.payload 4 4)) ∧
      s.otherPlots t p ∧ s.keepsBut t [.plots]) ∧
  (∀ (s : State) (p f : Nat) (r : Req) (x : FillState) (fs : List Nat) (pl : Plan), Turn s p opSurvivePolicy r →
    fieldAt r.payload 0 1 = 3 → x = fillAt r 0 s.now → s.fillHolds p x = true → x.sources = f :: fs →
    (∀ g ∈ x.sources, s.keysTo p g = true) → x.len ≠ 0 →
    (s.plot p).plans.find x.plan = some pl →
    ∃ t, exec (.survivePolicyFill p) s = .next t ∧ (t.plot p).fills = (s.plot p).fills ++ [x] ∧
      (t.plot p).mail.backlog = (s.plot p).mail.backlog ∧
      (∀ b, (s.plot p).binding = some b → s.paired f = true → s.portTo f ≠ none →
        t.said f (.fillAsk ((s.plot p).fillGroup pl).1 ((s.plot p).fillGroup pl).2 x.stage 0 true b.fp x.ports)) ∧
      s.otherPlots t p ∧ s.keepsBut t [.plots, .ports, .gatehouse, .free, .sent]) ∧
  (∀ (s : State) (p : Nat) (r : Req) (x : FillState) (pl : Plan), Turn s p opSurvivePolicy r → fieldAt r.payload 0 1 = 4 →
    x = fillAt r 2 s.now → s.fillHolds p x = true → (s.plot p).plans.find x.plan = some pl →
    (∀ g ∈ x.sources, s.keysTo p g = true) →
    ∃ t, exec (.survivePolicyReinstate p) s = .next t ∧ (t.plot p).fills = (s.plot p).fills ++ [x] ∧
      (t.plot p).mail.backlog = (s.plot p).mail.backlog ∧
      (s.paired x.dst = true → s.portTo x.dst ≠ none →
        t.said x.dst (.handoverAsk ((s.plot p).fillGroup pl).1 ((s.plot p).fillGroup pl).2 x.ports)) ∧
      s.otherPlots t p ∧ s.keepsBut t [.plots, .ports, .gatehouse, .free, .sent]) ∧
  (∀ (s u v : State) (port p : Nat) (f : Frame) (x : FillState), f.kind = 10 → s.arriveBare port f = (some u, v) →
    s.mem.wf = true → f.c ≠ 0 →
    tenantPlots.findSome? (fun p => ((u.plot p).fills.find? (fun x => x.accepts f)).map (fun x => (p, x))) = some (p, x) →
    x.use = 0 → (u.plot p).fills = [x] → 8192 * f.tile < x.len →
    u.inWindows p (x.dst + 8192 * f.tile) (f.payload.take (x.len - 8192 * f.tile)).length = true →
    ∃ t, exec (.fill port f) s = .next t ∧
      t.memHolds (x.dst + 8192 * f.tile) (f.payload.take (x.len - 8192 * f.tile)) ∧
      s.bytesOutside t (x.dst + 8192 * f.tile) (f.payload.take (x.len - 8192 * f.tile)).length ∧
      (∀ y : FillState, y = { x with
          heard := s.now, frames := some f.c, bad := x.bad || f.poison, parts := x.parts.set f.tile []
          origin := some (f.groupId, f.generation, f.senderRank, f.mM1 + 1, f.dropped) } →
        (y.done < x.len → (t.plot p).fills = [y] ∧ (t.plot p).mail = (u.plot p).mail) ∧
        (x.len ≤ y.done → (t.plot p).fills = [] ∧
          (∀ slot r, x.slot = some slot → s.heldIn p slot = some r → s.isOpen p = true → (t.plot p).hasAnswer r 0 (natLE 16 0)))) ∧
      (t.port port).rxFrames = (s.port port).rxFrames + 1 ∧ u.otherPlots t p ∧ u.keepsBut t [.mem, .plots, .bothy]) ∧
  (∀ (s u : State) (l : Link) (p gid jobTag stage offset fp ports : Nat) (base : Bool) (g : Group) (b : Binding), Arrives s l →
    u = s.heardOn l → u.askedGroup gid jobTag = some (p, g) → (u.plot p).binding = some b → b.fp = fp → u.keysTo p l.src = true →
    u.paired l.src = true → (base = true → (u.plot p).baseArea stage ≠ none) → (base = false → (u.plot p).holdsStage stage = true) →
    ∃ v : State, exec (.fillRequest l gid jobTag base stage offset fp ports) s = .next (v.pumpServes p) ∧
      (∃ y, (v.plot p).serving = (u.plot p).serving.filter (fun z => !(z.dest == l.src && z.use == (if base then 0 else 1))) ++ [y] ∧
        y.dest = l.src ∧ y.group = gid ∧ y.stage = stage ∧ y.use = (if base then 0 else 1) ∧ y.next = offset / 8192 ∧ y.ports = ports ∧
        (base = true → (u.plot p).baseArea stage = some (y.addr, y.len))) ∧
      u.otherPlots v p ∧ u.keepsBut v [.plots]) ∧
  (∀ (s u : State) (l : Link) (p gid jobTag stage offset fp ports : Nat) (base : Bool) (g : Group) (b : Binding), Arrives s l →
    u = s.heardOn l → u.askedGroup gid jobTag = some (p, g) → (u.plot p).binding = some b → b.fp ≠ fp →
    exec (.fillRequest l gid jobTag base stage offset fp ports) s = .next (u.refuseCopy p g l.src stage (if base then 0 else 1))) ∧
  (∀ (s u : State) (l : Link) (p gid jobTag stage ports : Nat) (g : Group), Arrives s l → u = s.heardOn l →
    u.askedGroup gid jobTag = some (p, g) → u.keysTo p l.src = true → u.paired l.src = true → (u.plot p).absorbedStage = some stage →
    ∃ v : State, exec (.reinstateHandover l gid jobTag ports) s = .next (v.pumpServes p) ∧
      (∃ y, (v.plot p).serving = (u.plot p).serving.filter (fun z => !(z.dest == l.src && z.use == 3)) ++ [y] ∧
        y.dest = l.src ∧ y.group = gid ∧ y.stage = stage ∧ y.use = 3 ∧ y.ports = ports) ∧
      u.otherPlots v p ∧ u.keepsBut v [.plots]) ∧
  (∀ (s : State) (p plan : Nat) (pol : Policy), (s.plot p).policies.find plan = some pol → pol.plan = plan → pol.state = 2 →
    pol.retired = true → pol.promoted ≠ noPlan → (s.plot p).runOf pol.activePlan = none →
    ∃ t, exec (.mirrorPromotion p plan) s = .next t ∧
      (t.plot p).policies = (s.plot p).policies.map (fun e =>
        if e.1 = plan then (e.1, { e.2 with activePlan := pol.promoted, state := 3 }) else e) ∧
      (∀ h pl, (t.plot p).plans.find h = some pl → pl.standby = (t.plot p).standbyNow pl.handle) ∧
      s.otherPlots t p ∧ s.keepsBut t [.plots, .bothy])

/-- ATTEST_GET and the four operations of KEY_INSTALL. What the cryptographic functions give is Config's and open: each statement
holds for whatever they give. -/
def Obligations.KeysAndEvidence : Prop :=
  (∀ (s : State) (p : Nat) (r : Req), s.mem.wf = true → Turn s p opAttestGet r → p ≠ 0 → s.gatehouse.trngOk = true →
    s.inWindows p (fieldAt r.payload 8 8) 16384 = true →
    ∃ t ev, exec (.attestGet p) s = .next t ∧ t.memHolds (fieldAt r.payload 8 8) ev ∧
      s.bytesOutside t (fieldAt r.payload 8 8) ev.length ∧
      (t.plot p).hasAnswer r 0 (natLE 4 ev.length ++ natLE 1 10 ++ natLE 3 0) ∧
      (∃ u sig : _, ev = State.evidenceBody u p (bytesAt r.payload 0x10 32) ++ sig ∧ sig.length = 2420 ∧
        (u.plot p).attestSeq = (s.plot p).attestSeq + 1 ∧ (u.plot p).session = (t.plot p).session ∧ u.measurements = s.measurements) ∧
      (∃ k, (t.plot p).session = some k ∧
        (bitOf (fieldAt r.payload 0 1) 0 = true → (s.plot p).session ≠ none → (s.plot p).session = some k) ∧
        (bitOf (fieldAt r.payload 0 1) 0 = false → k.nonce = bytesAt r.payload 0x10 32)) ∧
      t.gatehouse = { s.gatehouse with attests := s.gatehouse.attests + 1 } ∧
      s.otherPlots t p ∧ s.keepsBut t [.mem, .plots, .gatehouse, .free]) ∧
  (∀ (s : State) (r : Req), Turn s 0 opAttestGet r → s.gatehouse.trngOk = true → fieldAt r.payload 8 8 = 0 →
    ∃ t ev, exec (.attestGet 0) s = .next t ∧ t.sent = s.sent ++ [.mgmtData ev] ∧
      (t.plot 0).hasAnswer r 0 (natLE 4 ev.length ++ natLE 1 9 ++ natLE 3 0) ∧
      t.gatehouse = { s.gatehouse with attests := s.gatehouse.attests + 1 } ∧
      s.otherPlots t 0 ∧ s.keepsBut t [.plots, .gatehouse, .free, .sent]) ∧
  (∀ (s : State) (p n : Nat) (r : Req) (b : Bytes), Turn s p opKeyInstall r → fieldAt r.payload 0 1 = 0 →
    fieldAt r.payload 1 1 ≤ 63 → s.gatehouse.trngOk = true → n = fieldAt r.payload 0x10 8 →
    s.inWindows p (fieldAt r.payload 8 8) n = true → 64 ≤ n → n ≤ 64 + 1180 * 4096 →
    s.mem.poisonedIn (fieldAt r.payload 8 8) n = false → b = s.mem.readBytes (fieldAt r.payload 8 8) n → blobHolds b n = true →
    ∃ t, exec (.keyInstall p) s = .next t ∧ s.otherPlots t p ∧ s.keepsBut t [.plots, .gatehouse] ∧
      (fieldAt b 6 1 = 0 → (s.plot p).session = none → (t.plot p).hasAnswer r stAttestRequired [] ∧ (t.plot p).keys = (s.plot p).keys) ∧
      (s.svnGatehouse < fieldAt b 0x3C 4 → (fieldAt b 6 1 = 0 → (s.plot p).session ≠ none) →
        (t.plot p).hasAnswer r stSvnTooLow [] ∧ (t.plot p).keys = (s.plot p).keys) ∧
      (∀ k, fieldAt b 6 1 = 0 → (s.plot p).session = some k → fieldAt b 0x3C 4 ≤ s.svnGatehouse →
        ((fieldAt (blobEntry b 0) 0 32 ≠ Config.sha3 (bytesAt k.ek 0 1184) ∨ bytesAt b 0x18 32 ≠ k.nonce ∨
          unwrapKey b (blobEntry b 0) k.priv p = none) →
          (t.plot p).hasAnswer r stKeyRejected [] ∧ (t.plot p).keys = (s.plot p).keys ∧
          t.gatehouse = { s.gatehouse with unwrapFails := s.gatehouse.unwrapFails + 1 }) ∧
        (∀ key, fieldAt (blobEntry b 0) 0 32 = Config.sha3 (bytesAt k.ek 0 1184) → bytesAt b 0x18 32 = k.nonce →
          unwrapKey b (blobEntry b 0) k.priv p = some key →
          (t.plot p).hasAnswer r 0 (bytesAt b 8 16) ∧
          (t.plot p).keys = (s.plot p).keys.set (fieldAt r.payload 1 1) { keyId := fieldAt b 8 16, key := leNat key } ∧
          t.gatehouse = { s.gatehouse with keysInstalled := s.gatehouse.keysInstalled + 1 })) ∧
      (fieldAt b 6 1 ≠ 0 → fieldAt b 0x3C 4 ≤ s.svnGatehouse →
        ((∀ i < fieldAt b 0x38 2, fieldAt (blobEntry b i) 0 32 ≠ Config.deviceId) →
          (t.plot p).hasAnswer r stNotInSet [] ∧ (t.plot p).keys = (s.plot p).keys) ∧
        (∀ i key, i < fieldAt b 0x38 2 → fieldAt (blobEntry b i) 0 32 = Config.deviceId →
          (∀ j < i, fieldAt (blobEntry b j) 0 32 ≠ Config.deviceId) →
          unwrapKey b (blobEntry b i) Config.deviceSetKey 0 = some key →
          (t.plot p).hasAnswer r 0 (bytesAt b 8 16) ∧
          (t.plot p).keys = (s.plot p).keys.set (fieldAt r.payload 1 1) { keyId := fieldAt b 8 16, key := leNat key }))) ∧
  (∀ (s : State) (p : Nat) (r : Req), Turn s p opKeyInstall r → fieldAt r.payload 0 1 = 1 → fieldAt r.payload 1 1 ≤ 63 →
    s.gatehouse.trngOk = true →
    ∃ t, exec (.keyDelete p) s = .next t ∧
      t.plot p = ({ s.plot p with keys := (s.plot p).keys.erase (fieldAt r.payload 1 1) }).answeredOk r (natLE 16 0) ∧
      s.otherPlots t p ∧ s.keepsBut t [.plots]) ∧
  (∀ (s : State) (p a n d : Nat) (r : Req) (hdr : Bytes) (k : Key), s.mem.wf = true → Turn s p opKeyInstall r →
    fieldAt r.payload 0 1 = 2 → fieldAt r.payload 1 1 ≤ 63 → s.gatehouse.trngOk = true → a = fieldAt r.payload 8 8 →
    n = fieldAt r.payload 0x10 8 → d = fieldAt r.payload 0x18 8 → hdr = s.mem.readBytes a 64 → s.inWindows p a (max n 64) = true →
    s.mem.poisonedIn a 64 = false → s.inWindows p d (fieldAt hdr 0x28 8) = true → overlap a n d (fieldAt hdr 0x28 8) = false →
    (fieldAt hdr 6 1 = 1 ∨ fieldAt hdr 6 1 = 2) → (s.plot p).keys.find (fieldAt r.payload 1 1) = some k →
    fieldAt hdr 0x30 4 ≤ s.svnGatehouse →
    ∃ t, exec (.keyUnseal p) s = .next t ∧ s.otherPlots t p ∧ s.keepsBut t [.mem, .plots, .gatehouse] ∧
      s.bytesOutside t d (fieldAt hdr 0x28 8) ∧ (t.plot p).keys = (s.plot p).keys ∧
      ((bundleHolds hdr n 1 2 = false ∨ fieldAt hdr 8 16 ≠ k.keyId) → (t.plot p).hasAnswer r stBadBundle [] ∧ t.mem = s.mem ∧
        t.gatehouse = { s.gatehouse with unwrapFails := s.gatehouse.unwrapFails + 1 }) ∧
      (bundleHolds hdr n 1 2 = true → fieldAt hdr 8 16 = k.keyId →
        (∀ i < fieldAt hdr 0x28 8, s.openBundle k.key a = none → t.mem.read (d + i) = 0) ∧
        (s.openBundle k.key a = none → (t.plot p).hasAnswer r stBadBundle []) ∧
        (∀ pt, s.openBundle k.key a = some pt → t.memHolds d (bytesAt pt 0 (fieldAt hdr 0x28 8)) ∧
          (t.plot p).hasAnswer r 0 (natLE 8 (fieldAt hdr 0x28 8) ++ natLE 8 0)))) ∧
  (∀ (s : State) (r : Req) (buffer : Bytes), Turn s 0 opKeyInstall r → fieldAt r.payload 0 1 = 3 → fieldAt r.payload 1 1 ≤ 63 →
    s.gatehouse.trngOk = true → fieldAt r.payload 8 8 = 0 → fieldAt r.payload 0x18 8 = 0 → s.tenantOpen = false →
    ∃ t, exec (.hallAnchor buffer) s = .next t ∧ t.mod = { s.mod with anchor := some (anchorFrom buffer) } ∧
      t.plot 0 = (s.plot 0).answeredOk r ((natLE 32 (Config.sha3 buffer)).take 16) ∧ s.otherPlots t 0 ∧ s.keepsBut t [.mod, .plots]) ∧
  (∀ (s : State) (p op : Nat) (c : Instr) (r : Req),
    (op, c) ∈ [(0, .keyInstall p), (1, .keyDelete p), (2, .keyUnseal p)] → Turn s p opKeyInstall r → fieldAt r.payload 0 1 = op →
    (63 < fieldAt r.payload 1 1 ∨ s.gatehouse.trngOk = false) →
    ∃ t, exec c s = .next t ∧ t.plot p = (s.plot p).answered r stNotPermitted 0 0 [] ∧ s.otherPlots t p ∧ s.keepsBut t [.plots])

/-- The seven classes of TELEMETRY_READ. The order of the registers of COUNTERS, one record for each value, and the layout of the
field record are the model's choices. -/
def Obligations.TelemetryReads : Prop :=
  (∀ (s : State) (r : Req) (c : Instr) (cls : Nat) (recs fit : List Bytes), Turn s 0 opTelemetryRead r → fieldAt r.payload 0 1 = cls →
    fieldAt r.payload 2 1 = 0 → fieldAt r.payload 8 8 = 0 →
    (c, cls, recs) ∈ [(Instr.counters, 3, s.counterWords.map (natLE 8)),
      (.sensors, 4, ((List.range 7).map (fun i => s.sensorValue (i + 1)) ++ (List.range 128).map s.pavClock ++
        (List.range 12).map s.mem.tempWord).map (natLE 8)),
      (.accounts, 5, ((List.range 17).filter (fun p => bitOf (fieldAt r.payload 4 4) p && s.isOpen p)).map s.plotAccount)] →
    fit = fitRecords (min (fieldAt r.payload 0x10 8) 0x1000000) recs →
    ∃ t, exec c s = .next t ∧ t.sent = s.sent ++ [.mgmtData fit.flatten] ∧
      t.plot 0 = (s.plot 0).answeredOk r (natLE 8 fit.flatten.length ++ natLE 4 fit.length ++ natLE 4 (b2n (fit.length != recs.length))) ∧
      s.otherPlots t 0 ∧ s.keepsBut t [.plots, .sent]) ∧
  (∀ (s : State) (r : Req) (recs fit : List Bytes), Turn s 0 opTelemetryRead r → fieldAt r.payload 0 1 = 2 →
    fieldAt r.payload 2 1 = 0 → fieldAt r.payload 8 8 = 0 →
    recs = (s.mgmt.errorLog.filter (fun e => maskNames (fieldAt r.payload 4 4) e.2)).map logRecord →
    fit = fitRecords (min (fieldAt r.payload 0x10 8) 0x1000000) recs →
    ∃ t, exec .errorLog s = .next t ∧ t.sent = s.sent ++ [.mgmtData fit.flatten] ∧
      t.plot 0 = (s.plot 0).answeredOk r (natLE 8 fit.flatten.length ++ natLE 4 fit.length ++ natLE 4 (b2n (fit.length != recs.length))) ∧
      (bitOf (fieldAt r.payload 1 1) 0 = false → t.mgmt = s.mgmt) ∧
      (bitOf (fieldAt r.payload 1 1) 0 = true →
        t.mgmt = { s.mgmt with errorLog := dropNamed (fieldAt r.payload 4 4) fit.length s.mgmt.errorLog }) ∧
      s.otherPlots t 0 ∧ s.keepsBut t [.plots, .mgmt, .sent]) ∧
  (∀ (s : State) (r : Req), Turn s 0 opTelemetryRead r → fieldAt r.payload 0 1 = 1 → fieldAt r.payload 2 1 = 0 →
    fieldAt r.payload 8 8 = 0 → 524288 ≤ fieldAt r.payload 0x10 8 →
    ∃ t b, exec .fieldRecord s = .next t ∧ t.sent = s.sent ++ [.mgmtData b] ∧ b.length ≤ 524288 ∧
      (∃ sig, b = (Config.fieldLayout s.fieldSections).take (524288 - 2420) ++ sig ∧ sig.length = 2420) ∧
      t.plot 0 = (s.plot 0).answeredOk r (natLE 8 b.length ++ natLE 4 1 ++ natLE 4 0) ∧ t.free = s.free + 1 ∧
      s.otherPlots t 0 ∧ s.keepsBut t [.plots, .free, .sent]) ∧
  (∀ (s : State) (p sel : Nat) (r : Req) (recs fit : List Bytes), s.mem.wf = true → Turn s p opTelemetryRead r → p ≠ 0 →
    fieldAt r.payload 0 1 = 6 → fieldAt r.payload 2 1 = 0 → sel = fieldAt r.payload 4 4 →
    s.inWindows p (fieldAt r.payload 8 8) (fieldAt r.payload 0x10 8) = true →
    recs = ((s.plot p).hist.filter (fun e => sel == 0xFFFFFFFF || e.1 == sel)).map (fun e => e.2.record e.1 (s.plot p).lastStep) →
    fit = fitRecords (fieldAt r.payload 0x10 8) recs →
    ∃ t, exec (.histogram p) s = .next t ∧ t.memHolds (fieldAt r.payload 8 8) fit.flatten ∧
      s.bytesOutside t (fieldAt r.payload 8 8) fit.flatten.length ∧
      (t.plot p).mail = (s.plot p).mail.answered r 0 0 0
        (natLE 8 fit.flatten.length ++ natLE 4 fit.length ++ natLE 4 (b2n (fit.length != recs.length))) ∧
      (bitOf (fieldAt r.payload 1 1) 0 = false → (t.plot p).hist = (s.plot p).hist) ∧
      (bitOf (fieldAt r.payload 1 1) 0 = true → (t.plot p).hist = (s.plot p).hist.filter (fun e =>
        !((((s.plot p).hist.filter (fun e => sel == 0xFFFFFFFF || e.1 == sel)).take fit.length).map (·.1)).contains e.1)) ∧
      (t.plot p).ratios = (s.plot p).ratios ∧ s.otherPlots t p ∧ s.keepsBut t [.mem, .plots]) ∧
  (∀ (s : State) (p sel : Nat) (r : Req) (recs fit : List Bytes), s.mem.wf = true → Turn s p opTelemetryRead r → p ≠ 0 →
    fieldAt r.payload 0 1 = 7 → fieldAt r.payload 2 1 = 0 → sel = fieldAt r.payload 4 4 →
    s.inWindows p (fieldAt r.payload 8 8) (fieldAt r.payload 0x10 8) = true →
    recs = ((s.plot p).ratios.filter (fun e => sel == 0xFFFFFFFF || e.1 == sel)).map ratioRecord →
    fit = fitRecords (fieldAt r.payload 0x10 8) recs →
    ∃ t, exec (.ratios p) s = .next t ∧ t.memHolds (fieldAt r.payload 8 8) fit.flatten ∧
      s.bytesOutside t (fieldAt r.payload 8 8) fit.flatten.length ∧
      (t.plot p).mail = (s.plot p).mail.answered r 0 0 0
        (natLE 8 fit.flatten.length ++ natLE 4 fit.length ++ natLE 4 (b2n (fit.length != recs.length))) ∧
      (bitOf (fieldAt r.payload 1 1) 0 = false → (t.plot p).ratios = (s.plot p).ratios) ∧
      (t.plot p).hist = (s.plot p).hist ∧ s.otherPlots t p ∧ s.keepsBut t [.mem, .plots]) ∧
  (∀ (s : State) (cls : Nat) (c : Instr) (r : Req), (cls, c) ∈ [(6, .histogram 0), (7, .ratios 0)] → Turn s 0 opTelemetryRead r →
    fieldAt r.payload 0 1 = cls → 1 ≤ fieldAt r.payload 2 1 → fieldAt r.payload 2 1 ≤ 16 → fieldAt r.payload 8 8 = 0 →
    bitOf (fieldAt r.payload 1 1) 0 = false →
    ∃ t d, exec c s = .next t ∧ t.sent = s.sent ++ [.mgmtData d] ∧ (∃ body, t.plot 0 = (s.plot 0).answeredOk r body ∧ fieldAt body 0 8 = d.length % 2 ^ 64) ∧
      s.otherPlots t 0 ∧ s.keepsBut t [.plots, .sent])

/-- BELVEDERE_CFG in both forms and OPTIMISER_UPDATE. Settings that do not hold are refused; an adapter of the skip set is
counted and keeps its record. -/
def Obligations.UpdatesAndBelvedere : Prop :=
  (∀ (s : State) (p : Nat) (r : Req), Turn s p opBelvedereCfg r → bitOf (fieldAt r.payload 0 1) 0 = false →
    ((parseBel r.payload).holds = true → ∃ t, exec (.belvedereCfg p) s = .next t ∧
      t.plot p = ({ s.plot p with bel := parseBel r.payload }).answeredOk r (parseBel r.payload).body ∧
      s.otherPlots t p ∧ s.keepsBut t [.plots]) ∧
    ((parseBel r.payload).holds = false → ∃ t, exec (.belvedereCfg p) s = .next t ∧
      t.plot p = (s.plot p).answered r stNotPermitted 0 0 [] ∧ s.otherPlots t p ∧ s.keepsBut t [.plots])) ∧
  (∀ (s : State) (p : Nat) (r : Req), Turn s p opBelvedereCfg r → bitOf (fieldAt r.payload 0 1) 0 = true →
    ∃ t, exec (.belvedereCfgQuery p) s = .next t ∧ t.plot p = (s.plot p).answeredOk r (s.plot p).bel.body ∧
      s.otherPlots t p ∧ s.keepsBut t [.plots]) ∧
  (∀ (s : State) (p plan : Nat) (st : Step) (pl : Plan) (skip : List Nat), (s.plot p).runOf plan = some st →
    (s.plot p).plans.find plan = some pl → pl.handle = plan → st.skipSet = some skip → pl.header.workload = 0 → st.landed = true →
    st.stopped = false → st.updated = [] → st.skipped = [] → (s.plot p).binding ≠ none →
    (∀ h ∈ pl.adapters, (s.plot p).adapters.find h ≠ none) →
    ∃ t x, exec (.optimiserUpdate p plan) s = .next t ∧ (t.plot p).runOf plan = some x ∧
      (∀ h ∈ pl.adapters, (h ∈ skip → h ∈ x.skipped) ∧ (h ∉ skip → h ∈ x.updated)) ∧
      (∀ h, h ∈ x.skipped ∨ h ∈ x.updated → h ∈ pl.adapters) ∧
      s.otherPlots t p ∧ s.keepsBut t [.mem, .plots, .bothy, .orangery]) ∧
  (∀ (s : State) (p plan h : Nat) (st : Step) (pl : Plan) (a : Adapter), (s.plot p).runOf plan = some st →
    (s.plot p).plans.find plan = some pl → pl.handle = plan → st.skipSet = some [h] → pl.header.workload = 0 → st.landed = true →
    st.stopped = false → st.updated = [] → st.skipped = [] → (s.plot p).binding ≠ none → pl.adapters = [h] →
    (s.plot p).adapters.find h = some a →
    ∃ t, exec (.optimiserUpdate p plan) s = .next t ∧
      (t.plot p).adapters.find h = some { a with skipped := a.skipped + 1 } ∧
      (∃ x e, (t.plot p).runOf plan = some x ∧ x.events = st.events ++ [e] ∧ e.adapter = h ∧ (e.kind = 1 ∨ e.kind = 2)) ∧
      s.otherPlots t p ∧ s.keepsBut t [.plots])

/-- The firmware messages of plot 0, BOTHY_TAKE_OVER and TAKE_OVER_REVERT. That a failed stage leaves the bank empty, and that
a pause of more than 1.5 s is left to the revert, are the model's readings. -/
def Obligations.FirmwareMessages : Prop :=
  (∀ (s : State) (r : Req) (cls : Nat), Turn s 0 opFwStage r → cls = fieldAt r.payload 1 1 → fieldAt r.payload 0 1 ≤ 1 →
    1 ≤ cls → cls ≤ 4 →
    (s.fwBusy r = false → s.stageStatus r = none → ∃ t i, exec .fwStage s = .next t ∧
      i = imageOf (s.imageSource (fieldAt r.payload 0 1)) cls ∧
      t.fwClass cls = { (s.fwClass cls).setBank (s.fwClass cls).other (.image i) with switchWaits := false } ∧
      t.plot 0 = (s.plot 0).answeredOk r (natLE 8 i.version ++ natLE 4 i.svn ++ natLE 1 (s.fwClass cls).other ++ natLE 3 0) ∧
      (∀ c, c ≠ cls → t.fwClass c = s.fwClass c) ∧ s.otherPlots t 0 ∧ s.keepsBut t [.plots, .mgmt]) ∧
    (∀ st, s.fwBusy r = false → s.stageStatus r = some st → ∃ t, exec .fwStage s = .next t ∧
      t.fwClass cls = { (s.fwClass cls).setBank (s.fwClass cls).other .empty with switchWaits := false } ∧
      t.plot 0 = (s.plot 0).answered r st 0 0 [] ∧ (∀ c, c ≠ cls → t.fwClass c = s.fwClass c) ∧
      s.otherPlots t 0 ∧ s.keepsBut t [.plots, .mgmt]) ∧
    (s.fwBusy r = true → ∃ t, exec .fwStage s = .next t ∧ t.plot 0 = (s.plot 0).answered r stFwBusy 0 0 [] ∧
      s.otherPlots t 0 ∧ s.keepsBut t [.plots])) ∧
  (∀ (s : State) (r : Req) (cls : Nat), Turn s 0 opFwActivate r → fieldAt r.payload 0 1 = 0 → cls = fieldAt r.payload 1 1 →
    1 ≤ cls → cls ≤ 4 → s.fwBusy r = false →
    (s.staged cls = none → ∃ t, exec .fwActivate s = .next t ∧ t.plot 0 = (s.plot 0).answered r stFwNotStaged 0 0 [] ∧
      s.otherPlots t 0 ∧ s.keepsBut t [.plots]) ∧
    (∀ i, s.staged cls = some i → cls = 4 → ∃ t, exec .fwActivate s = .next t ∧
      t.fwClass 4 = { s.fwClass 4 with switchWaits := true } ∧ t.plot 0 = (s.plot 0).answeredOk r (natLE 16 0) ∧
      s.otherPlots t 0 ∧ s.keepsBut t [.plots, .mgmt]) ∧
    (∀ i, s.staged cls = some i → cls = 2 → i.stateMin ≤ s.stateVersion → s.stateVersion ≤ i.stateVersion →
      ∃ t, exec .fwActivate s = .next t ∧ t.bothy = { s.bothy with takeOver := some r.slot } ∧
      (t.plot 0).mail.backlog = (s.plot 0).mail.backlog ∧ s.otherPlots t 0 ∧ s.keepsBut t [.plots, .bothy]) ∧
    (∀ i, s.staged cls = some i → (cls = 1 ∨ cls = 3) → s.openPlots = [] → s.tenantOpen = false → s.gatehouse.halted = false →
      s.mod.warmPending = false → (s.plot 0).mail.held = [r] → s.bothy.takeOver = none →
      ∃ t, exec .fwActivate s = .next t ∧ t.mod = { s.mod with warmPending := true } ∧
      t.fwClass cls = { s.fwClass cls with switchWaits := true } ∧ (t.plot 0).hasAnswer r 0 (natLE 16 0) ∧
      s.otherPlots t 0 ∧ s.keepsBut t [.mod, .plots, .mgmt]) ∧
    (∀ i, s.staged cls = some i → (cls = 1 ∨ cls = 3) → s.openPlots ≠ [] → bitOf (fieldAt r.payload 2 1) 1 = false →
      ∃ t, exec .fwActivate s = .next t ∧ t.plot 0 = (s.plot 0).answered r stNotPermitted 0 0 [] ∧
      s.otherPlots t 0 ∧ s.keepsBut t [.plots])) ∧
  (∀ (s : State) (r : Req) (cls : Nat), Turn s 0 opFwActivate r → fieldAt r.payload 0 1 = 1 → cls = fieldAt r.payload 1 1 →
    1 ≤ cls → cls ≤ 4 → s.fwBusy r = false → s.mod.state = 3 →
    (∀ c ∈ groupOf cls, (s.fwClass c).trial = false ∧ s.svn cls ≤ s.svn c) →
    ∃ t, exec .fwCommit s = .next t ∧ t.plot 0 = (s.plot 0).answeredOk r (natLE 16 0) ∧
      t.fusedSvn cls = max (s.fusedSvn cls) (s.svn cls) ∧ (∀ c, (t.fwClass c).running = (s.fwClass c).running) ∧
      (∀ c ∈ groupOf cls, ∀ i, s.staged c = some i → (s.fusedSvn cls < s.svn cls ∧ i.svn < s.svn cls) → t.staged c = none) ∧
      s.otherPlots t 0 ∧ s.keepsBut t [.plots, .mgmt]) ∧
  (∀ (s : State) (r : Req) (cls : Nat), Turn s 0 opFwQuery r → cls = fieldAt r.payload 0 1 → 1 ≤ cls → cls ≤ 4 →
    ∃ t bad, exec .fwQuery s = .next t ∧
      t.plot 0 = (s.plot 0).answeredOk r (natLE 8 (s.fwVersion cls) ++ natLE 4 (s.svn cls) ++ natLE 1 (s.fwClass cls).running ++
        natLE 1 (b2n (s.fwClass cls).trial + 2 * b2n (s.staged cls).isSome + 4 * b2n bad) ++ natLE 2 (s.fwClass cls).lastResult ++
        natLE 8 (s.fwClass cls).stagedVersion ++ natLE 4 ((s.staged cls).elim 0 (·.svn)) ++ natLE 4 (s.fusedSvn cls) ++ natLE 16 0) ∧
      s.otherPlots t 0 ∧ s.keepsBut t [.plots]) ∧
  (∀ (s : State) (pauseUs slot : Nat) (i : Image) (r : Req), s.bothy.takeOver = some slot → s.staged 2 = some i → s.bothy.paused = false →
    (∀ p ∈ tenantPlots, (s.plot p).running = []) → s.plotMoving = false →
    (pauseUs ≤ 1500000 → s.isOpen 0 = true → s.heldIn 0 slot = some r → ∃ t, exec (.bothyTakeOver pauseUs) s = .next t ∧
      t.fwClass 2 = { s.fwClass 2 with running := (s.fwClass 2).other, lastResult := resultActivated } ∧
      t.bothy = { s.bothy with takeOver := none } ∧ t.gatehouse.measures.find 3 = some i.digest ∧
      t.plot 0 = (s.plot 0).answeredOk r (natLE 4 pauseUs ++ natLE 12 0) ∧ s.otherPlots t 0 ∧
      s.keepsBut t [.plots, .bothy, .ports, .gatehouse, .mgmt, .sent]) ∧
    (1500000 < pauseUs → ∃ t, exec (.bothyTakeOver pauseUs) s = .next t ∧ t.bothy = { s.bothy with paused := true } ∧
      s.keepsBut t [.bothy, .ports, .sent])) ∧
  (∀ (s : State) (boot : BootReport) (slot : Nat), s.bothy.takeOver = some slot → s.bothy.paused = true → s.bootsWell boot →
    (∀ c ∈ fwClasses, (s.fwClass c).switchWaits = false) → s.mgmt.recovery.revertTicks = [] →
    ∃ t, exec (.takeOverRevert boot) s = .next t ∧ t.mod.state = 3 ∧ t.bothy.takeOver = none ∧ t.bothy.paused = false ∧
      (t.fwClass 2).running = (s.fwClass 2).running ∧ (t.fwClass 2).lastResult = resultReverted ∧ t.staged 2 = none ∧
      t.plots = [(0, { Plot.init with state := 1 })] ∧ t.mgmt.recovery.revertTicks = [s.now])

/-- MOD_RESET_N_FALL and _RISE, REFCLK_LOSS and REFCLK_RESTORED, INPUT_APPLIED, WARM_RESET and TRIAL_REVERT. What the module keeps
over a warm reset besides what the text names is listed in the assumption log. -/
def Obligations.ResetsAndBoots : Prop :=
  (∀ (s : State) (micros : Nat), s.mod.resetHigh = true → 1000 ≤ micros →
    ∃ t, exec (.modResetNFall micros) s = .next t ∧ t.mod.resetHigh = false ∧ t.mod.tick = 0 ∧ t.mod.state = 1 ∧
      t.plots = State.reset.plots ∧ t.pavs = State.reset.pavs ∧ t.engines = State.reset.engines ∧ t.ports = State.reset.ports ∧
      s.memoryReset t ∧ t.bothy = Bothy.init ∧ t.mod.hall = s.mod.hall ∧ t.mod.steady = s.mod.steady ∧
      t.mod.partition = s.mod.partition ∧ t.mod.fabricId = s.mod.fabricId ∧ t.mod.anchor = s.mod.anchor ∧
      t.mgmt.classes = s.mgmt.classes ∧ t.mgmt.errorLog = [] ∧ t.mgmt.fieldLog = s.mgmt.fieldLog ∧ t.pending = s.pending) ∧
  (∀ (s : State) (micros : Nat), micros < 1000 → exec (.modResetNFall micros) s = .next s) ∧
  (∀ (s : State) (b : BootReport), s.mod.resetHigh = false → s.mod.rails = true → s.mod.refclk = true → s.bootsWell b →
    ∃ t, exec (.modResetNRise b) s = .next t ∧ t.mod.resetHigh = true ∧ s.booted t) ∧
  (∀ (s : State) (b : BootReport), s.mod.resetHigh = false → s.mod.rails = true → s.mod.refclk = true →
    s.mgmt.recovery.requested = false → (b.katOk = false ∨ b.trngOk = false) →
    ∃ t, exec (.modResetNRise b) s = .next t ∧ t.mod.state = 5 ∧ t.mgmt.recovery.active = true ∧ t.mgmt.recovery.reason = 1 ∧
      t.bothy = s.bothy ∧ t.mem = s.mem) ∧
  (∀ (s : State) (b : BootReport), s.mod.resetHigh = false → s.mod.rails = true → s.mod.refclk = true → s.mgmt.recovery.requested = true →
    ∃ t, exec (.modResetNRise b) s = .next t ∧ t.mod.state = 5 ∧ t.mgmt.recovery.active = true ∧ t.mgmt.recovery.requested = false ∧
      t.mgmt.recovery.reason = 2) ∧
  (∀ (s : State) (micros : Nat), s.mod.refclk = true → s.mod.rails = true → 10 < micros →
    ∃ t, exec (.refclkLoss micros) s = .next t ∧ t.mod.refclk = false ∧ t.mod.faultLow = true ∧ t.plots = State.reset.plots ∧
      s.memoryReset t ∧ t.mod.tick = 0 ∧ t.mod.resetHigh = s.mod.resetHigh ∧ t.pending = s.pending) ∧
  (∀ (s : State) (b : BootReport), s.mod.refclk = false → s.mod.rails = true → s.mod.resetHigh = true → s.bootsWell b →
    ∃ t, exec (.refclkRestored b) s = .next t ∧ t.mod.refclk = true ∧ s.booted t) ∧
  (∀ (s : State) (mv : Nat), s.mod.rails = false → 40000 ≤ mv →
    ∃ t, exec (.inputApplied mv) s = .next t ∧ t.mod.rails = true ∧ t.mod.pwrgd = true ∧ t.mod.resetHigh = false ∧
      t.mod.latched = false ∧ t.mod.faultLow = false ∧ t.mod.inputMv = mv ∧ t.mgmt.powerOns = s.mgmt.powerOns + 1 ∧
      t.plots = State.reset.plots ∧ s.memoryReset t) ∧
  (∀ (s : State) (mv : Nat), s.mod.rails = false → mv < 40000 →
    exec (.inputApplied mv) s = .next { s with mod := { s.mod with inputMv := mv } }) ∧
  (∀ (s : State) (b : BootReport), s.mod.warmPending = true → s.mod.rails = true → s.mod.resetHigh = true →
    s.gatehouse.halted = false → s.bootsWell b → b.failedBanks = [] → b.keyParity = false →
    ∃ t, exec (.warmReset b) s = .next t ∧ s.booted t ∧ t.mod.warmPending = false ∧ t.plots = [(0, { Plot.init with state := 1 })] ∧
      t.mem.bytes = [] ∧ t.mem.queues = [] ∧ t.mem.granted = [] ∧ t.mem.retired ⊇ s.mem.retired ∧ t.mod.tick = s.mod.tick ∧
      t.gatehouse.peers = [] ∧ t.gatehouse.sessions = [] ∧ t.mgmt.sessions = [] ∧ t.mgmt.errorLog = s.mgmt.errorLog ∧
      t.mod.fabricId = s.mod.fabricId ∧ (∀ i, (t.port i).linkUp = false ∧ (t.port i).txFrames = (s.port i).txFrames) ∧
      t.pending = s.pending ∧ ∀ i < 128, t.clockStep i = if s.mod.steady then 10 else 12) ∧
  (∀ (s : State) (b : BootReport), s.mod.rails = true → s.mod.resetHigh = true → s.gatehouse.halted = false → s.bootsWell b →
    (∀ i bank, s.mod.warmPending = true → i < 128 → b.failedBanks = [.store i bank] → ∃ t, exec (.warmReset b) s = .next t ∧ s.booted t ∧
      bitOf t.gatehouse.err.toNat 4 = true ∧ t.isFenced (.pavilion i) = true ∧ ∀ k < 2560, 32 * k + bank ∈ (t.pav i).storePoison) ∧
    (∀ i bank, s.mod.warmPending = true → b.failedBanks = [.glasshouse i bank] → ∃ t, exec (.warmReset b) s = .next t ∧ s.booted t ∧
      bitOf t.gatehouse.err.toNat 4 = true ∧ residueKey i bank ∈ t.mem.ghFenced) ∧
    (s.mod.warmPending = false → b.keyParity = true → s.gatehouse.bootOk = true → ∃ t, exec (.warmReset b) s = .next t ∧ s.booted t ∧
      bitOf t.gatehouse.err.toNat 2 = true ∧ t.mgmt.warmResets.get 0 7 = s.mgmt.warmResets.get 0 7 + 1) ∧
    (s.mod.warmPending = false → b.keyParity = false → exec (.warmReset b) s = .next s)) ∧
  (∀ (s : State) (b : BootReport) (c : Nat), (s.mod.state = 1 ∨ s.mod.state = 2) → s.mod.rails = true → s.mod.resetHigh = true →
    s.mod.refclk = true → c ∈ fwClasses → (s.fwClass c).trial = true → (s.fwClass c).switchWaits = false →
    (s.fwClass c).running ≤ 1 → bankHolds b c (s.fwClass c).other = true →
    (∀ d ∈ fwClasses, d ≠ c → (s.fwClass d).trial = false ∧ (s.fwClass d).switchWaits = false ∧ bankHolds b d (s.fwClass d).running = true) →
    s.mgmt.recovery.requested = false → b.katOk = true → b.trngOk = true → b.inTime = true → b.hbmFailed % 2 ^ 12 = 0 →
    b.cfFailed % 2 ^ 24 = 0 →
    (s.mgmt.recovery.revertTicks = [] → ∃ t, exec (.trialRevert b) s = .next t ∧ t.mod.state = 3 ∧
      t.fwClass c = { s.fwClass c with
        bankA := if (s.fwClass c).running = 0 then (s.fwClass c).bankA.spoil else (s.fwClass c).bankA
        bankB := if (s.fwClass c).running = 1 then (s.fwClass c).bankB.spoil else (s.fwClass c).bankB
        running := (s.fwClass c).other, trial := false, lastResult := resultReverted } ∧
      (∀ d ∈ fwClasses, d ≠ c → t.fwClass d = s.fwClass d) ∧ t.mgmt.recovery.revertTicks = [s.now]) ∧
    (∀ a d, s.mgmt.recovery.revertTicks = [a, d] → s.now < a + 360000000000 → s.now < d + 360000000000 →
      ∃ t, exec (.trialRevert b) s = .next t ∧ t.mod.state = 5 ∧ t.mgmt.recovery.active = true ∧ t.mgmt.recovery.reason = 3))

/-- LIMITER_ASSERT, LIMITER_RELEASE, OVERPOWER_SHUTDOWN, JUNCTION_THERMAL_TRIP, UNDERVOLTAGE and OVERVOLTAGE, with the values on
both sides of each limit. -/
def Obligations.PowerInputAndLimiter : Prop :=
  (∀ (s : State) (w : Nat), s.mod.rails = true → s.mod.limiter = false → 3400 < w →
    ∃ t, exec (.limiterAssert w) s = .next t ∧ t.mod.limiter = true ∧ t.mod.limiterTick = s.now ∧ t.mod.inputWatts = w ∧
      (∀ p ∈ tenantPlots, s.isOpen p = true → (t.plot p).account.throttleEvents = (s.plot p).account.throttleEvents + 1) ∧
      (∀ p, s.isOpen p = false → t.plot p = s.plot p) ∧ (∀ i, t.clockStep i = if s.mod.modesApplied then min 6 (s.pav i).step else 12) ∧
      t.mgmt.limiterTrips = s.mgmt.limiterTrips + 1 ∧ s.keepsBut t [.mod, .plots, .mgmt, .sent]) ∧
  (∀ (s : State) (w : Nat), w ≤ 3400 →
    exec (.limiterAssert w) s = .next { s with mod := { s.mod with inputWatts := w } }) ∧
  (∀ (s : State) (w : Nat), s.mod.limiter = true → s.mod.limiterTick + 1000000 ≤ s.now → w < 3000 →
    ∃ t, exec (.limiterRelease w) s = .next t ∧ t.mod.limiter = false ∧ t.mod.inputWatts = w ∧
      (∀ p ∈ tenantPlots, s.isOpen p = true →
        (t.plot p).account.throttleTicks = (s.plot p).account.throttleTicks + s.throttledNow (s.plot p)) ∧
      (∀ p, s.isOpen p = false → t.plot p = s.plot p) ∧
      (∀ i, (s.pav i).par.busy = true → t.pav i = { s.pav i with step := min 6 (s.pav i).step }) ∧
      (∀ i, (s.pav i).par.busy = false → t.pav i = s.pav i) ∧ s.keepsBut t [.mod, .plots, .pavs, .mgmt, .sent]) ∧
  (∀ (s : State) (w : Nat), (3000 ≤ w ∨ s.now < s.mod.limiterTick + 1000000) →
    exec (.limiterRelease w) s = .next { s with mod := { s.mod with inputWatts := w } }) ∧
  (∀ (s : State) (c : Instr), s.mod.rails = true →
    ((∃ w, c = .overpowerShutdown w ∧ s.mod.limiter = true ∧ 3800 < w) ∨ (∃ d, c = .junctionThermalTrip d ∧ 125 ≤ d) ∨
      (∃ mv us, c = .overvoltage mv us ∧ (66000 < mv ∨ (63000 < mv ∧ 10000 < us)))) →
    ∃ t, exec c s = .next t ∧ t.mod.rails = false ∧ t.mod.pwrgd = false ∧ t.mod.latched = true ∧ t.mod.faultLow = true ∧
      ((∃ d, c = .junctionThermalTrip d) → t.mod.thermtripLow = true) ∧ t.plots = State.reset.plots ∧
      s.memoryReset t ∧
      (∃ e, t.mgmt.fieldLog = (s.mgmt.fieldLog ++ [e]).drop ((s.mgmt.fieldLog ++ [e]).length - 1024) ∧
        e.cause = (match c with | .overpowerShutdown _ => 1 | .junctionThermalTrip _ => 2 | _ => 3))) ∧
  (∀ (s : State) (mv us : Nat), s.mod.rails = true → (mv < 36000 ∨ (mv < 38000 ∧ 10000 < us)) →
    ∃ t, exec (.undervoltage mv us) s = .next t ∧ t.mod.rails = false ∧ t.mod.pwrgd = false ∧ t.mod.latched = s.mod.latched ∧
      t.plots = State.reset.plots ∧ s.memoryReset t ∧ t.mgmt.fieldLog = s.mgmt.fieldLog) ∧
  (∀ (s : State) (w d mv us : Nat),
    (w ≤ 3800 → exec (.overpowerShutdown w) s = .next { s with mod := { s.mod with inputWatts := w } }) ∧
    (d < 125 → exec (.junctionThermalTrip d) s = .next { s with mod := { s.mod with junction := d } }) ∧
    (38000 ≤ mv → exec (.undervoltage mv us) s = .next { s with mod := { s.mod with inputMv := mv } }) ∧
    (mv ≤ 63000 → exec (.overvoltage mv us) s = .next { s with mod := { s.mod with inputMv := mv } }))

/-- DROOP_TRIP, DROOP_RECOVERY, THERMAL_STEP_DOWN and _UP, THERMAL_TRIP, PAVILION_COOLED, REFRESH_2X and MEMORY_THERMAL_TRIP, at the
temperatures on both sides of each limit. -/
def Obligations.TemperaturesAndClocks : Prop :=
  (∀ (s : State) (i : Nat), s.steadyNow = false → (s.pav i).droop = false →
    ∃ t, exec (.droopTrip i) s = .next t ∧
      t.pav i = { s.pav i with droop := true, ctr := { (s.pav i).ctr with droops := (s.pav i).ctr.droops + 1 } } ∧
      s.otherPavs t i ∧ s.keepsBut t [.pavs]) ∧
  (∀ (s : State) (i : Nat), s.steadyNow = true → exec (.droopTrip i) s = .next s) ∧
  (∀ (s : State) (i : Nat), ∃ t, exec (.droopRecovery i) s = .next t ∧ t.pav i = { s.pav i with droop := false } ∧
    s.otherPavs t i ∧ s.keepsBut t [.pavs]) ∧
  (∀ (s : State) (i c : Nat), s.mod.modesApplied = true → s.mod.steady = false → 100 ≤ c → 6 < (s.pav i).nextStep →
    ((s.pav i).lastThermal = 0 ∨ (s.pav i).lastThermal + 1000 ≤ s.now) →
    ∃ t, exec (.thermalStepDown i c) s = .next t ∧
      t.pav i = { s.pav i with hotspot := c, nextStep := (s.pav i).nextStep - 1, lastThermal := s.now
                               step := if (s.pav i).par.busy then (s.pav i).step else (s.pav i).nextStep - 1
                               ctr := { (s.pav i).ctr with thermalSteps := (s.pav i).ctr.thermalSteps + 1 } } ∧
      s.otherPavs t i ∧ s.keepsBut t [.pavs, .mgmt]) ∧
  (∀ (s : State) (i c : Nat), s.mod.modesApplied = true → s.mod.steady = false → c < 95 → (s.pav i).nextStep < 12 → (s.pav i).lastThermal + 10000 ≤ s.now →
    ∃ t, exec (.thermalStepUp i c) s = .next t ∧
      t.pav i = { s.pav i with hotspot := c, nextStep := (s.pav i).nextStep + 1, lastThermal := s.now
                               step := if (s.pav i).par.busy then (s.pav i).step else (s.pav i).nextStep + 1 } ∧
      s.otherPavs t i ∧ s.keepsBut t [.pavs, .mgmt]) ∧
  (∀ (s : State) (i c : Nat) (x : Instr), (x = .thermalStepDown i c ∧ (s.mod.modesApplied = false ∨ s.mod.steady = true ∨ c < 100 ∨ (s.pav i).nextStep ≤ 6)) ∨
      (x = .thermalStepUp i c ∧ (s.mod.modesApplied = false ∨ s.mod.steady = true ∨ 95 ≤ c ∨ 12 ≤ (s.pav i).nextStep)) ∨ (x = .thermalTrip i c ∧ c < 115) ∨ (x = .pavilionCooled i c ∧ 95 ≤ c) →
    ∃ t, exec x s = .next t ∧ t.pav i = { s.pav i with hotspot := c } ∧ s.otherPavs t i ∧ s.keepsBut t [.pavs, .mgmt]) ∧
  (∀ (s : State) (i c : Nat), 115 ≤ c → (s.pav i).tripped = false →
    ∃ t, exec (.thermalTrip i c) s = .next t ∧ (t.pav i).tripped = true ∧ (t.pav i).hotspot = c ∧
      (t.pav i).err = setFlag (s.pav i).err 5 ∧ s.otherPavs t i ∧
      (∀ p, p ≠ (s.pav i).context → t.plot p = s.plot p) ∧
      ((s.pav i).context = 0 → t.plots = s.plots) ∧
      ((s.pav i).context ≠ 0 → ∀ st ∈ (t.plot (s.pav i).context).running,
        st.plan ∈ (s.plot (s.pav i).context).stepsOn (2 ^ i) → st.isVoid = true) ∧
      s.keepsBut t [.mod, .plots, .bothy, .pavs, .mgmt, .sent]) ∧
  (∀ (s : State) (i c : Nat), c < 95 → (s.pav i).tripped = true → (s.pav i).context = 0 → s.mod.warmPending = false →
    s.isFenced (.pavilion i) = false →
    (s.mod.unitResets.find i = none →
      ∃ t, exec (.pavilionCooled i c) s = .next t ∧ (t.pav i).tripped = false ∧ (t.pav i).store = [] ∧
        t.mod.unitResets = s.mod.unitResets.set i s.now ∧
        (if Config.selfTestHolds i s.now = true then t.mod = { s.mod with unitResets := s.mod.unitResets.set i s.now }
         else i < 128 → t.isFenced (.pavilion i) = true ∧ t.mod.fences.find i = some (2, 5)) ∧ s.otherPavs t i ∧ s.keepsBut t [.mod, .pavs, .mgmt]) ∧
    (∀ n, s.mod.unitResets.find i = some n → s.now < n + fenceTicks → i < 128 →
      ∃ t, exec (.pavilionCooled i c) s = .next t ∧ t.isFenced (.pavilion i) = true ∧ (t.pav i).tripped = true ∧
        s.otherPavs t i ∧ s.keepsBut t [.mod, .pavs, .mgmt])) ∧
  (∀ (s : State) (k c : Nat), s.mem.stackTripped.contains k = false →
    ∃ t, exec (.refresh2x k c) s = .next t ∧ t.mem.stackTemp = s.mem.stackTemp.set k c ∧
      (85 ≤ c → k ∈ t.mem.refresh2x) ∧ (c < 80 → k ∉ t.mem.refresh2x) ∧
      (80 ≤ c → c < 85 → t.mem.refresh2x = s.mem.refresh2x) ∧ (∀ j, j ≠ k → (j ∈ t.mem.refresh2x ↔ j ∈ s.mem.refresh2x)) ∧
      t.mem.bytes = s.mem.bytes ∧ s.keepsBut t [.mem, .mgmt]) ∧
  (∀ (s : State) (k c : Nat), s.mem.stackTripped.contains k = true → c < 85 → s.gatehouse.halted = false → s.mod.warmPending = false →
    ∃ t, exec (.refresh2x k c) s = .next t ∧ t.mod = { s.mod with warmPending := true } ∧ s.keepsBut t [.mod, .mem, .mgmt]) ∧
  (∀ (s : State) (k c : Nat), s.mem.stackTripped.contains k = false → 105 ≤ c →
    ∃ t, exec (.memoryThermalTrip k c) s = .next t ∧ t.mem.stackTripped = s.mem.stackTripped ++ [k] ∧
      t.mem.err = setFlag s.mem.err 4 ∧ k ∈ t.mem.refresh2x ∧ t.mem.bytes = s.mem.bytes ∧
      (∀ p ∈ tenantPlots, ∀ st ∈ (t.plot p).running, st.isVoid = true) ∧ s.keepsBut t [.mod, .mem, .plots, .bothy, .mgmt, .sent]) ∧
  (∀ (s : State) (k c : Nat), s.mem.stackTripped.contains k = false → c < 105 →
    ∃ t, exec (.memoryThermalTrip k c) s = .next t ∧ t.mem = { s.mem with stackTemp := s.mem.stackTemp.set k c, refresh2x := t.mem.refresh2x } ∧
      (85 ≤ c → k ∈ t.mem.refresh2x) ∧ (c < 80 → k ∉ t.mem.refresh2x) ∧ (80 ≤ c → c < 85 → t.mem.refresh2x = s.mem.refresh2x) ∧ s.keepsBut t [.mem, .mgmt])

/-- The commands of the tray BMC but firmware update, while the module is powered and out of reset, and where the type is not 0,
while the Bothy firmware runs. Each answer is the last of what the module has sent. The completion codes are PLDM's own. -/
def Obligations.ManagementBusMessages : Prop :=
  ∀ (s : State), s.bmcUp = true →
    (∀ eid, 1 ≤ eid → eid < 255 → exec (.mctpControl true eid) s =
      .next { s with mgmt := { s.mgmt with eid := eid }, sent := s.sent ++ [.mctp (natLE 1 0 ++ natLE 1 eid)] }) ∧
    (∀ eid, exec (.mctpControl false eid) s = .next { s with sent := s.sent ++ [.mctp (natLE 1 0 ++ natLE 1 s.mgmt.eid)] }) ∧
    (∀ eid, (eid = 0 ∨ 255 ≤ eid) → exec (.mctpControl true eid) s = .next { s with sent := s.sent ++ [.mctp (natLE 1 2)] }) ∧
    (s.serviceUp = true → exec (.recoveryRequest Config.pciVendor 1) s =
      .next { s with mgmt := { s.mgmt with recovery := { s.mgmt.recovery with requested := true } }, sent := s.sent ++ [.mctp (natLE 1 0)] }) ∧
    (∀ v c, v ≠ Config.pciVendor ∨ c ≠ 1 ∨ s.serviceUp = false → exec (.recoveryRequest v c) s = .next s) ∧
    (∀ tid, 1 ≤ tid → tid < 255 → exec (.setTid tid) s =
      .next { s with mgmt := { s.mgmt with tid := tid }, sent := s.sent ++ [.pldm 0x001 0 []] }) ∧
    (∀ tid, (tid = 0 ∨ 255 ≤ tid) → exec (.setTid tid) s = .next { s with sent := s.sent ++ [.pldm 0x001 2 []] }) ∧
    exec .getTid s = .next { s with sent := s.sent ++ [.pldm 0x002 0 (natLE 1 s.mgmt.tid)] } ∧
    (∀ type, (type = 0 ∨ (s.serviceUp = true ∧ (type = 2 ∨ type = 5))) →
      exec (.getPldmVersion type) s = .next { s with sent := s.sent ++ [.pldm 0x003 0 (natLE 4 0xF1F0F000)] } ∧
      exec (.getPldmCommands type) s =
        .next { s with sent := s.sent ++ [.pldm 0x005 0 (natLE 32 (((pldmCommands type).map (2 ^ ·)).sum))] }) ∧
    (∀ type, type ≠ 0 → (s.serviceUp = false ∨ (type ≠ 2 ∧ type ≠ 5)) →
      exec (.getPldmVersion type) s = .next { s with sent := s.sent ++ [.pldm 0x003 0x83 []] } ∧
      exec (.getPldmCommands type) s = .next { s with sent := s.sent ++ [.pldm 0x005 0x83 []] }) ∧
    exec .getPldmTypes s = .next { s with sent := s.sent ++ [.pldm 0x004 0 (natLE 8 (if s.serviceUp then 0x25 else 1))] } ∧
    (∀ h, s.serviceUp = true → 1 ≤ h → h ≤ 7 → exec (.getPdr h) s = .next { s with sent := s.sent ++
      [.pldm 0x251 0 (natLE 4 (if h = 7 then 0 else h + 1) ++ natLE 4 h ++ natLE 2 h ++ natLE 1 (if 6 ≤ h then 1 else 0))] }) ∧
    (s.serviceUp = true → exec (.getPdr 0) s = exec (.getPdr 1) s) ∧
    (∀ n, 1 ≤ n → n ≤ 5 → (s.serviceUp = true ∨ n = 5) →
      exec (.getSensorReading n) s = .next { s with sent := s.sent ++ [.pldm 0x211 0 (natLE 4 (s.sensorValue n))] }) ∧
    (∀ n, (n = 6 ∧ True ∨ n = 7 ∧ s.serviceUp = true) →
      exec (.getStateSensorReadings n) s = .next { s with sent := s.sent ++ [.pldm 0x221 0 (natLE 1 (s.sensorValue n))] }) ∧
    (s.sensorValue 1 = s.mod.inputWatts ∧ s.sensorValue 5 = s.now / 100000000 ∧ s.sensorValue 6 = s.mod.state) ∧
    (∀ n, (n = 1 ∨ n = 2 ∨ n = 3 ∨ n = 4 ∨ n = 7) → s.serviceUp = false →
      exec (.getSensorReading n) s = .next s ∧ exec (.getStateSensorReadings n) s = .next s) ∧
    (∀ on eid, s.serviceUp = true → exec (.setEventReceiver on eid) s =
      .next { s with mgmt := { s.mgmt with eventReceiver := if on then some eid else none }, sent := s.sent ++ [.pldm 0x204 0 []] }) ∧
    (∀ eid e rest, s.mgmt.eventReceiver = some eid → s.mgmt.events = e :: rest → exec .platformEventMessage s =
      .next { s with
        mgmt := { s.mgmt with events := rest }
        mod := { s.mod with alertLow := !rest.isEmpty || s.gatehouse.halted }
        sent := s.sent ++ [.pldm 0x20A 0 (natLE 2 e.1 ++ natLE 4 e.2)] }) ∧
    (s.mgmt.events = [] ∨ s.mgmt.eventReceiver = none → exec .platformEventMessage s = .next s)

/-- The commands of PLDM Type 5 while the module answers its BMC. The numbers of the stages are the model's: 1 requested, 2 the
table passed or a component applied, 3 data coming, 4 transferred, 5 staging. -/
def Obligations.BmcFirmwareUpdate : Prop :=
  ∀ (s : State), s.bmcUp = true → s.serviceUp = true →
    exec .queryDeviceIdentifiers s = .next { s with sent := s.sent ++ [.pldm 0x501 0 (natLE 2 0 ++ natLE 2 2 ++ natLE 2 Config.pciVendor)] } ∧
    exec .getFirmwareParameters s = .next { s with sent := s.sent ++ [.pldm 0x502 0 (([1, 2, 3, 4].map (fun c =>
      natLE 2 c ++ natLE 2 (activation c).1 ++ natLE 2 (activation c).2 ++ natLE 8 (s.fwVersion c) ++ natLE 8 (s.fwClass c).stagedVersion)).flatten)] } ∧
    (s.mgmt.pldm.active = false → s.redfishUpdating = false → exec .requestUpdate s =
      .next { s with mgmt := { s.mgmt with pldm := { PldmUpdate.idle with active := true, stage := 1 } }, sent := s.sent ++ [.pldm 0x510 0 []] }) ∧
    (s.mgmt.pldm.active = true ∨ s.redfishUpdating = true → exec .requestUpdate s = .next { s with sent := s.sent ++ [.pldm 0x510 0x81 []] }) ∧
    exec .getStatus s = .next { s with sent := s.sent ++ [.pldm 0x51B 0 (natLE 1 s.mgmt.pldm.stage ++ natLE 4 s.mgmt.pldm.received.length)] } ∧
    (s.mgmt.pldm.active = false → ∀ x ∈ [(.cancelUpdate, 0x51D), (.cancelUpdateComponent, 0x51C), (.transferComplete, 0x516), (.verifyComplete, 0x517),
        (.applyComplete, 0x518)], exec x.1 s = .next { s with sent := s.sent ++ [.pldm x.2 0x80 []] }) ∧
    (s.mgmt.pldm.active = true →
      (s.mgmt.pldm.stage = 1 ∨ s.mgmt.pldm.stage = 2 → ∀ cls, exec (.passComponentTable cls) s =
        .next { s with mgmt := { s.mgmt with pldm := { s.mgmt.pldm with stage := 2 } }, sent := s.sent ++ [.pldm 0x513 0 (natLE 1 0 ++ natLE 2 (activation cls).1)] }) ∧
      (s.mgmt.pldm.stage = 2 → ∀ cls size, 0 < size → exec (.updateComponent cls size) s =
        .next { s with
          mgmt := { s.mgmt with pldm := { s.mgmt.pldm with stage := 3, cls := cls, size := size, received := [] } }
          sent := s.sent ++ [.pldm 0x514 0 (natLE 1 0 ++ natLE 2 (activation cls).2), .pldm 0x515 0 (natLE 4 0 ++ natLE 4 size)] }) ∧
      (s.mgmt.pldm.stage ≠ 2 → ∀ cls size, exec (.updateComponent cls size) s = .next { s with sent := s.sent ++ [.pldm 0x514 0x84 []] }) ∧
      (s.mgmt.pldm.stage = 3 → ∀ data, s.mgmt.pldm.received.length + data.length < s.mgmt.pldm.size →
        exec (.requestFirmwareData s.mgmt.pldm.received.length data) s = .next { s with
          mgmt := { s.mgmt with pldm := { s.mgmt.pldm with received := s.mgmt.pldm.received ++ data } }
          sent := s.sent ++ [.pldm 0x515 0 (natLE 4 (s.mgmt.pldm.received.length + data.length) ++
            natLE 4 (s.mgmt.pldm.size - (s.mgmt.pldm.received.length + data.length)))] }) ∧
      (s.mgmt.pldm.stage = 3 → ∀ data, s.mgmt.pldm.received.length + data.length = s.mgmt.pldm.size →
        exec (.requestFirmwareData s.mgmt.pldm.received.length data) s = .next { s with
          mgmt := { s.mgmt with pldm := { s.mgmt.pldm with received := s.mgmt.pldm.received ++ data } } }) ∧
      (s.mgmt.pldm.stage = 3 → ∀ offset data, offset ≠ s.mgmt.pldm.received.length →
        ∃ t, exec (.requestFirmwareData offset data) s = .next t ∧ s.keepsBut t [.sent]) ∧
      (s.mgmt.pldm.stage = 3 → s.mgmt.pldm.received.length = s.mgmt.pldm.size → exec .transferComplete s =
        .next { s with mgmt := { s.mgmt with pldm := { s.mgmt.pldm with stage := 4 } }, sent := s.sent ++ [.pldm 0x516 0 (natLE 1 0)] }) ∧
      (s.mgmt.pldm.stage = 3 → s.mgmt.pldm.received.length ≠ s.mgmt.pldm.size → exec .transferComplete s = .next s) ∧
      (s.mgmt.pldm.stage = 4 → ∀ slot, s.freeSlot = some slot → ∃ t, exec .verifyComplete s = .next t ∧
        t.plot 0 = (s.plot 0).posted slot s.nextTag opFwStage (natLE 1 1 ++ natLE 1 s.mgmt.pldm.cls ++ natLE 6 0 ++
          natLE 8 s.mgmt.pldm.received.length ++ shaBytes s.mgmt.pldm.received) ∧
        t.mgmt = { s.mgmt with postTag := s.nextTag, pldm := { s.mgmt.pldm with stage := 5, tag := s.nextTag } } ∧
        t.sent = s.sent ++ [.pldm 0x517 0 (natLE 1 0)] ∧ s.otherPlots t 0 ∧ s.keepsBut t [.plots, .mgmt, .sent]) ∧
      (s.mgmt.pldm.stage = 5 → ∀ st b, s.postedRecord s.mgmt.pldm.tag = some (st, b) → exec .applyComplete s = .next { s with
        mgmt := { s.mgmt with pldm := { s.mgmt.pldm with
                  stage := 2, received := []
                  applied := if st = 0 then s.mgmt.pldm.applied ++ [s.mgmt.pldm.cls] else s.mgmt.pldm.applied } }
        sent := s.sent ++ [.pldm 0x518 0 (natLE 1 (if st = 0 then 0 else 1) ++ natLE 2 (activation s.mgmt.pldm.cls).1)] }) ∧
      (s.mgmt.pldm.stage = 2 → s.mgmt.pldm.applied ≠ [] → ∀ ok close, ∃ t, exec (.activateFirmware ok close) s = .next t ∧
        t.mgmt.pldm = PldmUpdate.idle ∧ t.mgmt.accounts = s.mgmt.accounts ∧ t.mgmt.classes = s.mgmt.classes ∧
        (∀ slot c, s.freeSlot = some slot → s.mgmt.pldm.applied = [c] → t.plot 0 = (s.plot 0).posted slot s.nextTag opFwActivate
          (natLE 1 0 ++ natLE 1 c ++ natLE 1 ((if ok then 1 else 0) + (if close then 2 else 0)) ++ natLE 13 0)) ∧
        t.sent = s.sent ++ [.pldm 0x51A 0 (natLE 2 (highest (s.mgmt.pldm.applied.map (fun c => (activation c).2))))] ∧
        s.otherPlots t 0 ∧ s.keepsBut t [.plots, .mgmt, .sent]) ∧
      (s.mgmt.pldm.stage = 2 → s.mgmt.pldm.applied = [] → ∀ ok close,
        exec (.activateFirmware ok close) s = .next { s with sent := s.sent ++ [.pldm 0x51A 0x84 []] }) ∧
      (3 ≤ s.mgmt.pldm.stage → s.mgmt.pldm.stage ≤ 5 → exec .cancelUpdateComponent s =
        .next { s with mgmt := { s.mgmt with pldm := { s.mgmt.pldm with stage := 2, received := [] } }, sent := s.sent ++ [.pldm 0x51C 0 []] }) ∧
      (1 ≤ s.mgmt.pldm.stage → s.mgmt.pldm.stage ≤ 5 → exec .cancelUpdate s =
        .next { s with mgmt := { s.mgmt with pldm := PldmUpdate.idle }, sent := s.sent ++ [.pldm 0x51D 0 []] }))

/-- The requests of the management port that the module answers by itself. The roles are numbered as the model numbers them: 0
Administrator, 1 Operator, 2 ReadOnly. HTTP codes are the protocol's own, and the five failures and the 60 s of a lock are as R421
gives them. -/
def Obligations.ManagementPortSettings : Prop :=
  (∀ (s : State) (name : Nat) (pw : Bytes) (a : MgmtAccount), s.serviceUp = true →
    s.mgmt.accounts.find? (fun x => x.name == name) = some a → a.lockedUntil ≤ s.now →
    (a.password.getD Config.labelPassword = pw → ∃ t, exec (.redfishSession name pw) s = .next t ∧
      t.mgmt.sessions = s.mgmt.sessions.set s.mgmt.nextSession name ∧ t.mgmt.nextSession = s.mgmt.nextSession + 1 ∧
      t.mgmt.accounts = s.mgmt.accounts.map (fun x => if x.name = name then { x with failures := 0 } else x) ∧
      t.sent = s.sent ++ [.redfish 201 0 (natLE 4 s.mgmt.nextSession)] ∧ s.keepsBut t [.mgmt, .sent]) ∧
    (a.password.getD Config.labelPassword ≠ pw → ∃ t, exec (.redfishSession name pw) s = .next t ∧
      t.mgmt = { s.mgmt with accounts := s.mgmt.accounts.map (fun x => if x.name = name
        then (if 5 ≤ x.failures + 1 then { x with failures := 0, lockedUntil := s.now + 6000000000 } else { x with failures := x.failures + 1 })
        else x) } ∧ t.sent = s.sent ++ [.redfish 401 0 []] ∧ s.keepsBut t [.mgmt, .sent])) ∧
  (∀ (s : State) (name : Nat) (pw : Bytes) (a : MgmtAccount), s.serviceUp = true →
    s.mgmt.accounts.find? (fun x => x.name == name) = some a → s.now < a.lockedUntil →
    exec (.redfishSession name pw) s = .next { s with sent := s.sent ++ [.redfish 401 0 []] }) ∧
  (∀ (s : State) (session name role : Nat) (pw : Bytes) (a : MgmtAccount), s.serviceUp = true → s.mgmt.accountOf session = some a →
    role ≤ 2 → 12 ≤ pw.length →
    (a.changeRequired = true → a.name ≠ name → exec (.redfishAccountPatch session name pw role) s =
      .next { s with sent := s.sent ++ [.redfish 403 0 []] }) ∧
    (a.changeRequired = false → a.role ≠ 0 → exec (.redfishAccountPatch session name pw role) s =
      .next { s with sent := s.sent ++ [.redfish 403 0 []] }) ∧
    ((a.changeRequired = true ∧ a.name = name ∧ role = a.role) ∨ (a.changeRequired = false ∧ a.role = 0) →
      ∃ t, exec (.redfishAccountPatch session name pw role) s = .next t ∧
        ((∃ x ∈ s.mgmt.accounts, x.name = name) → t.mgmt = { s.mgmt with accounts := s.mgmt.accounts.map (fun x => if x.name = name
          then { x with role := role, password := some pw, changeRequired := false } else x) }) ∧
        ((∀ x ∈ s.mgmt.accounts, x.name ≠ name) → t.mgmt = { s.mgmt with accounts := s.mgmt.accounts ++
          [{ name := name, password := some pw, role := role, changeRequired := false, failures := 0, lockedUntil := 0 }] }) ∧
        t.sent = s.sent ++ [.redfish 200 0 []] ∧ s.keepsBut t [.mgmt, .sent])) ∧
  (∀ (s : State) (session name role : Nat) (pw : Bytes), s.loggedIn session 0 → pw ≠ [] → pw.length < 12 →
    exec (.redfishAccountPatch session name pw role) s = .next { s with sent := s.sent ++ [.redfish 400 0 []] }) ∧
  (∀ (s : State) (session : Nat), s.loggedIn session 0 →
    (∀ c, exec (.certificateReplace session c) s =
      .next { s with mgmt := { s.mgmt with certificate := c }, sent := s.sent ++ [.redfish 200 0 []] }) ∧
    (∀ n, exec (.managerNetworkPatch session n) s =
      .next { s with mgmt := { s.mgmt with network := n }, sent := s.sent ++ [.redfish 200 0 []] }) ∧
    (s.gatehouse.halted = false → s.mod.warmPending = false → exec (.managerReset session) s = .next { s with
      mod := { s.mod with warmPending := true }
      mgmt := { s.mgmt with warmResets := s.mgmt.warmResets.modify 0 5 (· + 1) }
      sent := s.sent ++ [.redfish 204 0 []] }) ∧
    (∀ mode us patrol, mode < 8 → s.tenantOpen = false → ∃ t, exec (.modulePatch session mode us patrol) s = .next t ∧
      t.mod.modeBits = mode ∧ t.mod.modesApplied = s.mod.modesApplied ∧
      t.mod.sliceNext = (if 1000 ≤ us % 2 ^ 17 ∧ us % 2 ^ 17 ≤ 100000 then us % 2 ^ 17 else s.mod.sliceNext) ∧
      t.mem.patrolHours = (if 4 ≤ patrol % 256 ∧ patrol % 256 ≤ 168 then patrol % 256 else s.mem.patrolHours) ∧
      t.mem.patrolEnable = patrol.testBit 16 ∧ t.mem.bytes = s.mem.bytes ∧
      t.sent = s.sent ++ [.redfish 200 0 []] ∧ s.keepsBut t [.mod, .mem, .pavs, .sent]) ∧
    (∀ mode us patrol, mode < 8 → s.tenantOpen = true → mode ≠ s.mod.modeBits →
      exec (.modulePatch session mode us patrol) s = .next { s with sent := s.sent ++ [.redfish 409 0x0103 []] })) ∧
  (∀ (s : State) (session : Nat), s.loggedIn session 1 →
    (∀ id, exec (.eventSubscription session false id) s = .next { s with
      mgmt := { s.mgmt with subs := s.mgmt.subs ++ [s.mgmt.nextSub], nextSub := s.mgmt.nextSub + 1 }
      sent := s.sent ++ [.redfish 201 0 (natLE 4 s.mgmt.nextSub)] }) ∧
    (∀ id, id ∈ s.mgmt.subs → exec (.eventSubscription session true id) s = .next { s with
      mgmt := { s.mgmt with subs := s.mgmt.subs.filter (· != id) }, sent := s.sent ++ [.redfish 204 0 []] }) ∧
    (∀ id, id ∉ s.mgmt.subs → exec (.eventSubscription session true id) s = .next { s with sent := s.sent ++ [.redfish 404 0 []] }) ∧
    (s.openPlots = [] → (s.fwClass 4).switchWaits = false →
      exec (.computerSystemReset session) s = .next { s with sent := s.sent ++ [.redfish 204 0 []] }) ∧
    (∀ i, s.openPlots = [] → (s.fwClass 4).switchWaits = true → s.staged 4 = some i →
      ∃ t, exec (.computerSystemReset session) s = .next t ∧
        t.fwClass 4 = { s.fwClass 4 with running := (s.fwClass 4).other, switchWaits := false, lastResult := resultActivated } ∧
        t.gatehouse.measures.find 5 = some i.digest ∧ t.plots = s.plots)) ∧
  (∀ (s : State) (x : Instr) (session role : Nat) (a : MgmtAccount), s.serviceUp = true → s.mgmt.accountOf session = some a →
    a.changeRequired = true ∨ role < a.role →
    (x = .certificateReplace session [] ∧ role = 0) ∨ (x = .managerNetworkPatch session [] ∧ role = 0) ∨ (x = .managerReset session ∧ role = 0) ∨
      (∃ m u p, x = .modulePatch session m u p ∧ role = 0) ∨ (∃ d i, x = .eventSubscription session d i ∧ role = 1) ∨
      (x = .computerSystemReset session ∧ role = 1) →
    exec x s = .next { s with sent := s.sent ++ [.redfish 403 0 []] }) ∧
  (∀ (s : State), s.serviceUp = true → exec .httpRedirect s = .next { s with sent := s.sent ++ [.redfish 301 0 []] })

/-- MULTIPARTHTTPPUSHURI, REDFISH_ACTIVATE, REDFISH_COMMIT, COLLECTDIAGNOSTICDATA, CLEARLOG, SPDMGETSIGNEDMEASUREMENTS, PLOTOPEN and
PLOTCLOSE of a session whose role may ask, while a slot of plot 0 is free, and REDFISH_TASK_DONE. That every such request is a task,
also a short one, and the HTTP code of a status that R422 does not name are the model's choices. -/
def Obligations.ManagementPortTasks : Prop :=
  (∀ (s : State) (session slot : Nat), s.freeSlot = some slot →
    (s.loggedIn session 0 →
      (∀ cls bytes, ∃ t, exec (.multipartHttpPushUri session cls bytes) s = .next t ∧ t.mgmt.pushBuffer = bytes ∧
        s.tasked t slot opFwStage (natLE 1 0 ++ natLE 1 cls ++ natLE 6 0 ++ natLE 8 bytes.length ++ shaBytes bytes)) ∧
      (∀ cls ok close, ∃ t, exec (.redfishActivate session cls ok close) s = .next t ∧
        s.tasked t slot opFwActivate (natLE 1 0 ++ natLE 1 cls ++ natLE 1 ((if ok then 1 else 0) + (if close then 2 else 0)) ++ natLE 13 0)) ∧
      (∀ cls, ∃ t, exec (.redfishCommit session cls) s = .next t ∧
        s.tasked t slot opFwActivate (natLE 1 1 ++ natLE 1 cls ++ natLE 14 0))) ∧
    (s.loggedIn session 1 →
      (s.bothy.ready = true → ∃ t, exec (.collectDiagnosticData session) s = .next t ∧
        s.tasked t slot opTelemetryRead (natLE 1 1 ++ natLE 1 0 ++ natLE 14 0 ++ natLE 8 0x1000000 ++ natLE 8 0)) ∧
      (s.bothy.ready = false → ∃ t record, exec (.collectDiagnosticData session) s = .next t ∧ record.length ≤ 524288 ∧
        t.sent = s.sent ++ [.redfish 200 0 record] ∧ s.keepsBut t [.free, .sent]) ∧
      (∃ t, exec (.clearLog session) s = .next t ∧
        s.tasked t slot opTelemetryRead (natLE 1 2 ++ natLE 1 1 ++ natLE 14 0 ++ natLE 8 0x1000000 ++ natLE 8 0)) ∧
      (∀ payload, ∃ t, exec (.plotOpenAction session payload) s = .next t ∧ s.tasked t slot opPlotOpen (bytesAt payload 0 64)) ∧
      (∀ plot, ∃ t, exec (.plotCloseAction session plot) s = .next t ∧ s.tasked t slot opPlotClose (natLE 1 plot ++ natLE 7 0))) ∧
    (s.loggedIn session 2 → ∀ nonce, ∃ t, exec (.spdmGetSignedMeasurements session nonce) s = .next t ∧
      s.tasked t slot opAttestGet (natLE 16 0 ++ bytesAt nonce 0 32))) ∧
  (∀ (s : State) (session : Nat) (a : MgmtAccount), s.serviceUp = true → s.mgmt.accountOf session = some a →
    a.changeRequired = false → 0 < a.role →
    (∀ cls ok close bytes, exec (.redfishActivate session cls ok close) s = .next { s with sent := s.sent ++ [.redfish 403 0 []] } ∧
      exec (.multipartHttpPushUri session cls bytes) s = .next { s with sent := s.sent ++ [.redfish 403 0 []] } ∧
      exec (.redfishCommit session cls) s = .next { s with sent := s.sent ++ [.redfish 403 0 []] }) ∧
    (1 < a.role → ∀ payload plot, exec (.plotOpenAction session payload) s = .next { s with sent := s.sent ++ [.redfish 403 0 []] } ∧
      exec (.plotCloseAction session plot) s = .next { s with sent := s.sent ++ [.redfish 403 0 []] } ∧
      exec (.clearLog session) s = .next { s with sent := s.sent ++ [.redfish 403 0 []] } ∧
      exec (.collectDiagnosticData session) s = .next { s with sent := s.sent ++ [.redfish 403 0 []] })) ∧
  (∀ (s : State) (session : Nat) (x : Instr), s.serviceUp = true → s.mgmt.accountOf session = none →
    x = .clearLog session ∨ x = .collectDiagnosticData session ∨ (∃ n, x = .spdmGetSignedMeasurements session n) →
    exec x s = .next { s with sent := s.sent ++ [.redfish 401 0 []] }) ∧
  (∀ (s : State) (x : Task) (st : Nat) (b : Bytes), s.mgmt.tasks.find? (fun t => t.id == x.id) = some x →
    s.postedRecord x.tag = some (st, b) →
    ∃ t code, exec (.redfishTaskDone x.id) s = .next t ∧
      t.mgmt = { s.mgmt with tasks := s.mgmt.tasks.filter (fun y => y.id != x.id) } ∧
      t.sent = s.sent ++ [.redfish code st (b.drop 16)] ∧ s.keepsBut t [.mgmt, .sent] ∧
      (st = stOk → code = 200) ∧ (st = stNotPermitted ∨ st = stBadLength → code = 400) ∧
      (st = stNoMemory ∨ st = stShareExceeded → code = 409) ∧ (st = stTimeout → code = 503)) ∧
  (∀ (s : State) (n : Nat), (∀ x ∈ s.mgmt.tasks, x.id ≠ n) → exec (.redfishTaskDone n) s = .next s)

/-- The packets of ROM recovery. The identifiers of sessions, and that the ACK within 10 ms of the last packet is not sent on its own,
are the model's choices. -/
def Obligations.RecoveryPackets : Prop :=
  (∀ (s : State), s.mgmt.recovery.active = true → s.mgmt.recovery.session = none →
    exec .recoveryHello s = .next { s with sent := s.sent ++ [.recovery 0x01 0 (natLE 32 Config.deviceId ++ natLE 8 Config.romVersion ++
      natLE 4 s.mgmt.fuseGatehouse ++ natLE 4 s.mgmt.fuseBothy ++ natLE 1 s.mgmt.recovery.reason ++
      natLE 1 (if Config.engineeringSample then 1 else 0) ++ natLE 2 0)] } ∧
    (∀ cls len digest, 1 ≤ cls → cls ≤ 4 → ∃ t, exec (.recoveryBegin cls len digest) s = .next t ∧
      t.fwClass cls = { (s.fwClass cls).setBank (s.fwClass cls).other .empty with switchWaits := false } ∧
      (∀ c, c ≠ cls → t.fwClass c = s.fwClass c) ∧
      t.mgmt.recovery = { s.mgmt.recovery with
        nextSession := s.mgmt.recovery.nextSession + 1, pushed := s.mgmt.recovery.pushed.filter (· != cls)
        session := some { id := s.mgmt.recovery.nextSession, cls := cls, len := len, digest := digest, next := 0, data := [],
                          lastTick := s.now, packets := 0 } } ∧
      t.sent = s.sent ++ [.recovery 0x03 s.mgmt.recovery.nextSession (natLE 2 64 ++ natLE 6 0)] ∧ s.keepsBut t [.mgmt, .sent]) ∧
    (∀ cls len digest, cls = 0 ∨ 4 < cls → exec (.recoveryBegin cls len digest) s =
      .next { s with sent := s.sent ++ [.recovery 0x07 0 (natLE 1 4 ++ natLE 7 0)] }) ∧
    (∀ n boot, s.mgmt.recovery.pushed = [] → ∃ t, exec (.recoveryReboot n boot) s = .next t ∧ t.mod.state = 5 ∧
      t.mgmt.recovery.active = true ∧ t.mgmt.recovery.reason = s.mgmt.recovery.reason ∧ t.plots = [(0, { Plot.init with state := 1 })]) ∧
    (∀ n boot u, s.mgmt.recovery.pushed ≠ [] →
      u = s.mgmt.recovery.pushed.foldl (fun x c => x.updClass c (fun y => { y with switchWaits := true })) s → u.bootsWell boot →
      ∃ t, exec (.recoveryReboot n boot) s = .next t ∧ u.booted t ∧ t.mgmt.recovery.active = false ∧ t.mgmt.recovery.pushed = [])) ∧
  (∀ (s : State) (x : RecSession), s.mgmt.recovery.active = true → s.mgmt.recovery.session = some x →
    (∀ cls len digest, exec (.recoveryBegin cls len digest) s =
      .next { s with sent := s.sent ++ [.recovery 0x07 x.id (natLE 1 6 ++ natLE 7 0)] }) ∧
    (∀ data, 1 ≤ data.length → data.length ≤ 1024 → x.next + data.length ≤ x.len →
      ∃ t, exec (.recoveryData x.id x.next data) s = .next t ∧
        t.mgmt = { s.mgmt with recovery := { s.mgmt.recovery with
          session := some { x with next := x.next + data.length, data := x.data ++ data, packets := x.packets + 1, lastTick := s.now } } } ∧
        t.sent = s.sent ++ (if (x.packets + 1) % 16 = 0 ∨ x.next + data.length = x.len
          then [.recovery 0x05 x.id (natLE 8 (x.next + data.length))] else []) ∧ s.keepsBut t [.mgmt, .sent]) ∧
    (∀ offset data, offset ≠ x.next → exec (.recoveryData x.id offset data) s = .next { s with
      mgmt := { s.mgmt with recovery := { s.mgmt.recovery with session := some { x with lastTick := s.now } } }
      sent := s.sent ++ [.recovery 0x05 x.id (natLE 8 x.next)] }) ∧
    (∀ code, code = (if digestHolds x.data x.len x.digest = false then 1 else if headerHolds x.data x.cls = false then 4
        else if signatureHolds x.data = false then 2 else if fieldAt x.data 0x10 4 < s.fusedSvn x.cls then 3 else 0) →
      ∃ t, exec (.recoveryCommit x.id) s = .next t ∧ t.mgmt.recovery.session = none ∧
        t.sent = s.sent ++ [.recovery 0x07 x.id (natLE 1 code ++ natLE 7 0)] ∧
        (code = 0 → t.fwClass x.cls = { (s.fwClass x.cls).setBank (s.fwClass x.cls).other (.image (imageOf x.data x.cls)) with switchWaits := false } ∧
          t.mgmt.recovery.pushed = s.mgmt.recovery.pushed ++ [x.cls]) ∧
        (code ≠ 0 → t.mgmt.classes = s.mgmt.classes ∧ t.mgmt.recovery.pushed = s.mgmt.recovery.pushed) ∧
        (∀ c, c ≠ x.cls → t.fwClass c = s.fwClass c) ∧ s.keepsBut t [.mgmt, .sent]) ∧
    exec (.recoveryAbort x.id) s = .next { s with mgmt := { s.mgmt with recovery := { s.mgmt.recovery with session := none } } } ∧
    (x.lastTick + 3000000000 ≤ s.now → exec .recoverySessionTimeout s = .next { s with
      mgmt := { s.mgmt with recovery := { s.mgmt.recovery with session := none } }
      sent := s.sent ++ [.recovery 0x07 x.id (natLE 1 7 ++ natLE 7 0)] }) ∧
    (s.now < x.lastTick + 3000000000 → exec .recoverySessionTimeout s = .next s) ∧
    (∀ n, n ≠ x.id → ∀ o d b, exec (.recoveryData n o d) s = .next s ∧ exec (.recoveryCommit n) s = .next s ∧
      exec (.recoveryAbort n) s = .next s ∧ exec (.recoveryReboot n b) s = .next s)) ∧
  (∀ (s : State), s.mgmt.recovery.active = false → ∀ n o d c l g b, exec .recoveryHello s = .next s ∧ exec (.recoveryBegin c l g) s = .next s ∧
    exec (.recoveryData n o d) s = .next s ∧ exec (.recoveryCommit n) s = .next s ∧ exec (.recoveryReboot n b) s = .next s ∧
    exec (.recoveryAbort n) s = .next s ∧ exec .recoverySessionTimeout s = .next s)

/-- The SPDM requests outside secure sessions, on a connection that the Gatehouse answers. An answer larger than a transfer is kept
for CHUNK_GET, and ERROR with its handle goes instead: the size of a transfer, message codes, error codes and the order of the requests
are those of the protocol's own standard, not of the text. -/
def Obligations.MeasurementProtocol : Prop :=
  (∀ (s : State) (c code : Nat) (body : Bytes),
    (body.length ≤ Config.spdmTransfer → s.spdmSend c code body = { s with sent := s.sent ++ [.spdm c code body] }) ∧
    (Config.spdmTransfer < body.length → ∃ h, (s.spdmSend c code body).conn c = { s.conn c with responseHandle := h, response := natLE 1 code ++ body } ∧
      (s.spdmSend c code body).sent = s.sent ++ [.spdm c 0x7F (natLE 1 0x0F ++ natLE 1 h)] ∧ s.keepsBut (s.spdmSend c code body) [.gatehouse, .sent])) ∧
  (∀ (s : State) (c : Nat), s.spdmUp c = true →
    (∃ t, exec (.getVersion c) s = .next (t.spdmSend c 0x04 (natLE 1 0 ++ natLE 1 2 ++ natLE 2 0x1200 ++ natLE 2 0x1300)) ∧
      t.conn c = { SpdmConn.init with versionAsked := true } ∧ (∀ d, d ≠ c → t.conn d = s.conn d) ∧
      t.gatehouse.sessions = s.gatehouse.sessions ∧ s.keepsBut t [.gatehouse]) ∧
    (∀ v, (s.conn c).versionAsked = true → v = 0x12 ∨ v = 0x13 →
      ∃ t, exec (.getCapabilities c v) s = .next (t.spdmSend c 0x61 (natLE 4 spdmCaps ++ natLE 4 Config.spdmTransfer)) ∧
        t.conn c = { s.conn c with version := v } ∧ (∀ d, d ≠ c → t.conn d = s.conn d) ∧ s.keepsBut t [.gatehouse]) ∧
    (∀ v, (s.conn c).versionAsked = false → exec (.getCapabilities c v) s = .next { s with sent := s.sent ++ [.spdm c 0x7F (natLE 1 0x04)] }) ∧
    ((s.conn c).version ≠ 0 → ∃ t, exec (.negotiateAlgorithms c true) s = .next (t.spdmSend c 0x63 (natLE 2 1 ++ natLE 2 2)) ∧
      t.conn c = { s.conn c with negotiated := true } ∧ (∀ d, d ≠ c → t.conn d = s.conn d) ∧ s.keepsBut t [.gatehouse]) ∧
    ((s.conn c).version ≠ 0 → exec (.negotiateAlgorithms c false) s = .next { s with sent := s.sent ++ [.spdm c 0x7F (natLE 1 0x01)] }) ∧
    ((s.conn c).negotiated = false → ∀ x, x = .getDigests c ∨ (∃ a o n, x = .getCertificate c a o n) ∨ (∃ a n, x = .challenge c a n) ∨
      (∃ i g n, x = .getMeasurements c i g n) ∨ (∃ h n l d, x = .chunkSend c h n l d) ∨ (∃ h n, x = .chunkGet c h n) →
      exec x s = .next { s with sent := s.sent ++ [.spdm c 0x7F (natLE 1 0x04)] }) ∧
    ((s.conn c).negotiated = true →
      exec (.getDigests c) s = .next (s.spdmSend c 0x01 (natLE 1 1 ++ shaBytes s.certChain)) ∧
      (∀ offset len, offset < s.certChain.length → exec (.getCertificate c 0 offset len) s =
        .next (s.spdmSend c 0x02 (natLE 2 ((s.certChain.drop offset).take len).length ++
          natLE 2 (s.certChain.length - offset - ((s.certChain.drop offset).take len).length) ++ (s.certChain.drop offset).take len))) ∧
      (∀ a offset len, a ≠ 0 ∨ s.certChain.length ≤ offset →
        exec (.getCertificate c a offset len) s = .next { s with sent := s.sent ++ [.spdm c 0x7F (natLE 1 0x01)] }) ∧
      (∀ nonce, s.gatehouse.trngOk = true → ∃ t own random, own.length = 32 ∧
        exec (.challenge c 0 nonce) s = .next (t.spdmSend c 0x03 (shaBytes s.certChain ++ own ++
          bytesAt (Config.sign s.aliasNow (ascii "spdm-challenge") (nonce ++ (shaBytes s.certChain ++ own)) random) 0 2420)) ∧ s.keepsBut t [.free]) ∧
      (∀ index nonce, index ≤ 9 ∨ index = 0xFF → ∀ body, body = (if index = 0 then natLE 1 9 else natLE 1 (s.measuredAt index).length) ++
          ((s.measuredAt index).map blockBytes).flatten →
        exec (.getMeasurements c index false nonce) s = .next (s.spdmSend c 0x60 body) ∧
        (s.gatehouse.trngOk = true → ∃ t own random, own.length = 32 ∧ exec (.getMeasurements c index true nonce) s =
          .next (t.spdmSend c 0x60 (body ++ own ++ bytesAt (Config.sign s.aliasNow (ascii "spdm-measurements") (nonce ++ body ++ own) random) 0 2420)) ∧
          s.keepsBut t [.free])) ∧
      (∀ h data last, ∃ t, exec (.chunkSend c h 0 last data) s = .next (t.spdmSend c 0x05 (natLE 1 h ++ natLE 2 0)) ∧
        t.conn c = { s.conn c with chunkHandle := h, chunkNext := if last then 0 else 1, chunk := data } ∧
        (∀ d, d ≠ c → t.conn d = s.conn d) ∧ s.keepsBut t [.gatehouse]) ∧
      (∀ data last, (s.conn c).chunkNext ≠ 0 → ∃ t, exec (.chunkSend c (s.conn c).chunkHandle (s.conn c).chunkNext last data) s =
          .next (t.spdmSend c 0x05 (natLE 1 (s.conn c).chunkHandle ++ natLE 2 (s.conn c).chunkNext)) ∧
        t.conn c = { s.conn c with chunkNext := if last then 0 else (s.conn c).chunkNext + 1, chunk := (s.conn c).chunk ++ data } ∧
        (∀ d, d ≠ c → t.conn d = s.conn d) ∧ s.keepsBut t [.gatehouse]) ∧
      (∀ n, n * Config.spdmTransfer < (s.conn c).response.length → ∃ t, exec (.chunkGet c (s.conn c).responseHandle n) s = .next t ∧
        t.sent = s.sent ++ [.spdm c 0x06 (natLE 1 (s.conn c).responseHandle ++ natLE 2 n ++
          natLE 1 (if (s.conn c).response.length ≤ n * Config.spdmTransfer + Config.spdmTransfer then 1 else 0) ++
          ((s.conn c).response.drop (n * Config.spdmTransfer)).take Config.spdmTransfer)] ∧
        t.conn c = (if (s.conn c).response.length ≤ n * Config.spdmTransfer + Config.spdmTransfer then { s.conn c with response := [] } else s.conn c) ∧
        s.keepsBut t [.gatehouse, .sent]))) ∧
  (∀ (s : State) (c : Nat), s.spdmUp c = false → exec (.getVersion c) s = .next s ∧ exec (.getDigests c) s = .next s)

/-- The requests of secure sessions on a negotiated connection. Error codes and message codes are the protocol's own. -/
def Obligations.SecureSessions : Prop :=
  ∀ (s : State) (c : Nat), s.spdmUp c = true → (s.conn c).negotiated = true →
    (c = 0 → s.gatehouse.trngOk = true → ∀ ek i, i < 4 → s.session (i + 1) = none → (∀ j < i, s.session (j + 1) ≠ none) →
      ∃ t own seed random, own.length = 32 ∧ exec (.keyExchange c ek) s = .next (t.spdmSend 0 0x64
          ((natLE 2 (i + 1) ++ own ++ (Config.kemEncaps ek seed).1) ++ bytesAt (Config.sign s.aliasNow (ascii "spdm-key-exchange")
            (ek ++ (natLE 2 (i + 1) ++ own ++ (Config.kemEncaps ek seed).1)) random) 0 2420)) ∧
        t.gatehouse = { s.gatehouse with sessions := s.gatehouse.sessions ++
          [{ id := i + 1, finished := false, secret := (Config.kemEncaps ek seed).2, keyGen := 0, lastBeat := s.now }] } ∧
        s.keepsBut t [.gatehouse, .free]) ∧
    (c = 0 → s.gatehouse.trngOk = true → (∀ i < 4, s.session (i + 1) ≠ none) →
      ∀ ek, exec (.keyExchange c ek) s = .next { s with sent := s.sent ++ [.spdm c 0x7F (natLE 1 0x0A)] }) ∧
    (c ≠ 0 → ∀ ek, exec (.keyExchange c ek) s = .next { s with sent := s.sent ++ [.spdm c 0x7F (natLE 1 0x07)] }) ∧
    (∀ n, s.session n = none → ∀ x, (∃ v, x = .finish c n v) ∨ x = .spdmHeartbeat c n ∨ x = .keyUpdate c n ∨ x = .endSession c n →
      exec x s = .next { s with sent := s.sent ++ [.spdm c 0x7F (natLE 1 0x02)] }) ∧
    (∀ n x, c = 0 → s.session n = some x → x.finished = false →
      (∃ t, exec (.finish c n true) s = .next (t.spdmSend 0 0x65 []) ∧
        t.gatehouse = { s.gatehouse with sessions := s.gatehouse.sessions.map (fun y =>
          if y.id = n then { y with finished := true, lastBeat := s.now } else y) } ∧ s.keepsBut t [.gatehouse]) ∧
      (∃ t, exec (.finish c n false) s = .next t ∧ t.sent = s.sent ++ [.spdm 0 0x7F (natLE 1 0x06)] ∧
        t.gatehouse = { s.gatehouse with sessions := s.gatehouse.sessions.filter (fun y => y.id != n) } ∧ s.keepsBut t [.gatehouse, .sent])) ∧
    (∀ n x, s.session n = some x → x.finished = false →
      exec (.keyUpdate c n) s = .next { s with sent := s.sent ++ [.spdm c 0x7F (natLE 1 0x04)] }) ∧
    (∀ n x, c = 0 → s.session n = some x → x.finished = true →
      (∃ t, exec (.spdmHeartbeat c n) s = .next (t.spdmSend 0 0x68 []) ∧ t.gatehouse = { s.gatehouse with
          sessions := s.gatehouse.sessions.map (fun y => if y.id = n then { y with lastBeat := s.now } else y) } ∧ s.keepsBut t [.gatehouse]) ∧
      (∃ t, exec (.keyUpdate c n) s = .next (t.spdmSend 0 0x69 []) ∧ t.gatehouse = { s.gatehouse with
          sessions := s.gatehouse.sessions.map (fun y => if y.id = n then { y with keyGen := y.keyGen + 1 } else y) } ∧ s.keepsBut t [.gatehouse]) ∧
      (∃ t, exec (.endSession c n) s = .next (t.spdmSend 0 0x6C []) ∧ t.gatehouse = { s.gatehouse with
          sessions := s.gatehouse.sessions.filter (fun y => y.id != n) } ∧ s.keepsBut t [.gatehouse]) ∧
      (∀ fn stream ks key, s.streamFree fn stream = true → ks ≤ 1 →
        ∃ t, exec (.ideKm n fn stream ks key) s = .next (t.spdmSend 0 0x7E (natLE 1 stream ++ natLE 1 ks)) ∧
          t.host.vfs.get Vf.init fn = { s.host.vfs.get Vf.init fn with
            stream := some stream
            ideKeys := NMap.set (if (s.host.vfs.get Vf.init fn).stream = some stream then (s.host.vfs.get Vf.init fn).ideKeys else []) ks key } ∧
          (∀ f, f ≠ fn → t.host.vfs.get Vf.init f = s.host.vfs.get Vf.init f) ∧ s.keepsBut t [.host]) ∧
      (∀ fn stream ks key, s.streamFree fn stream = false ∨ 1 < ks → exec (.ideKm n fn stream ks key) s =
        .next { s with sent := s.sent ++ [.spdm 0 0x7F (natLE 1 0x01)] }))

/-- The TDISP requests of an enabled virtual function while some secure session is finished, and IDE_INTEGRITY_FAILURE. Message codes,
and that a request needs a finished session, are those of the protocol's own standard. The states are numbered 0 CONFIG_UNLOCKED, 1
CONFIG_LOCKED, 2 RUN and 3 ERROR. -/
def Obligations.DeviceInterfaces : Prop :=
  (∀ (s : State) (fn : Nat) (v : Vf), s.spdmUp 0 = true → fn ≠ 0 → v = s.host.vfs.get Vf.init fn → v.enabled = true →
    s.gatehouse.sessions.any (·.finished) = true →
    exec (.getTdispVersion fn) s = .next { s with sent := s.sent ++ [.tdisp fn 1 (natLE 1 1 ++ natLE 1 0x10)] } ∧
    exec (.getTdispCapabilities fn) s = .next { s with sent := s.sent ++ [.tdisp fn 2 (natLE 16 0xFE)] } ∧
    exec (.getDeviceInterfaceState fn) s = .next { s with sent := s.sent ++ [.tdisp fn 5 (natLE 1 v.tdi)] } ∧
    (v.tdi = 1 ∨ v.tdi = 2 → exec (.getDeviceInterfaceReport fn) s = .next { s with sent := s.sent ++
      [.tdisp fn 4 (natLE 2 0 ++ natLE 4 1 ++ natLE 8 0 ++ natLE 4 16 ++ natLE 4 0)] }) ∧
    (v.tdi = 0 ∨ v.tdi = 3 → exec (.getDeviceInterfaceReport fn) s = .next { s with sent := s.sent ++ [.tdisp fn 0x7F []] }) ∧
    (v.tdi = 0 → v.stream ≠ none → ∃ t, exec (.lockInterfaceRequest fn) s = .next t ∧ t.host.vfs.get Vf.init fn = { v with tdi := 1 } ∧
      (∀ f, f ≠ fn → t.host.vfs.get Vf.init f = s.host.vfs.get Vf.init f) ∧
      t.sent = s.sent ++ [.tdisp fn 3 []] ∧ s.keepsBut t [.host, .sent]) ∧
    (v.tdi ≠ 0 ∨ v.stream = none → exec (.lockInterfaceRequest fn) s = .next { s with sent := s.sent ++ [.tdisp fn 0x7F []] }) ∧
    (v.tdi = 1 → s.isOpen fn = true → (s.plot fn).cfg.driver = 2 → ∃ t, exec (.startInterfaceRequest fn) s = .next t ∧
      t.host.vfs.get Vf.init fn = { v with tdi := 2 } ∧ (∀ f, f ≠ fn → t.host.vfs.get Vf.init f = s.host.vfs.get Vf.init f) ∧
      t.sent = s.sent ++ [.tdisp fn 6 []] ∧ s.keepsBut t [.host, .sent]) ∧
    (v.tdi ≠ 1 ∨ s.isOpen fn = false ∨ (s.plot fn).cfg.driver ≠ 2 →
      exec (.startInterfaceRequest fn) s = .next { s with sent := s.sent ++ [.tdisp fn 0x7F []] }) ∧
    (v.tdi = 0 → exec (.stopInterfaceRequest fn) s = .next { s with sent := s.sent ++ [.tdisp fn 7 []] }) ∧
    (v.tdi ≠ 0 → ∃ t, exec (.stopInterfaceRequest fn) s = .next t ∧ (t.host.vfs.get Vf.init fn).tdi = 0 ∧
      ((s.plot fn).cfg.driver = 0 → t.plots = s.plots) ∧
      ((s.plot fn).cfg.driver ≠ 0 → s.isOpen fn = true → (t.plot fn).state ≠ 1))) ∧
  (∀ (s : State) (fn : Nat), s.spdmUp 0 = true →
    fn = 0 ∨ (s.host.vfs.get Vf.init fn).enabled = false ∨ s.gatehouse.sessions.any (·.finished) = false →
    ∀ x ∈ [(.getTdispVersion fn : Instr), .getTdispCapabilities fn, .lockInterfaceRequest fn, .getDeviceInterfaceReport fn,
      .getDeviceInterfaceState fn, .startInterfaceRequest fn, .stopInterfaceRequest fn],
    exec x s = .next { s with sent := s.sent ++ [.tdisp fn 0x7F []] }) ∧
  (∀ (s : State) (fn : Nat), (s.host.vfs.get Vf.init fn).tdi = 1 ∨ (s.host.vfs.get Vf.init fn).tdi = 2 →
    ∃ t, exec (.ideIntegrityFailure fn) s = .next t ∧ (t.host.vfs.get Vf.init fn).tdi = 3 ∧
      ((s.plot fn).cfg.driver = 0 → t.plots = s.plots) ∧ ((s.plot fn).cfg.driver ≠ 0 → s.isOpen fn = true → (t.plot fn).state ≠ 1)) ∧
  (∀ (s : State) (fn : Nat), (s.host.vfs.get Vf.init fn).tdi = 0 ∨ (s.host.vfs.get Vf.init fn).tdi = 3 →
    exec (.ideIntegrityFailure fn) s = .next s)

/-- Frames of a pair exchange that arrive over a link in hall mode, and the rekeying of a port. A module without holdings is taken, so
that nothing waits for the pair; entries of peers with which a holding has ended lapse first. -/
def Obligations.HallKeys : Prop :=
  (∀ (s : State) (l : Link) (k : Keyx), s.mod.hall = false ∨ (s.port l.port).linkUp = false ∨ s.gatehouse.halted = true ∨
    s.gatehouse.trngOk = false ∨ k.fabricId = s.fabric → exec (.keyx l k) s = .next s) ∧
  (∀ (s : State) (l : Link) (i : Nat) (k : Keyx) (a : Anchor), Exchanging s l k → s.noHoldings → k.form = .offer → s.mod.anchor = some a →
    a.accepts k = true → s.peer k.fabricId = none → s.gatehouse.peers.length < 1024 → s.portTo k.fabricId = some i →
    ∃ t e ek seed nonce priv, exec (.keyx l k) s = .next t ∧ t.peer k.fabricId = some e ∧ e.done = false ∧ e.offered = true ∧
      e.ownSecret = priv ∧ e.ownOffer = offerBytes s.mod.anchorDigest s.fabric ek nonce ∧
      e.peerOffer = offerBytes k.anchorDigest k.fabricId k.ek k.nonce ∧ e.ssOwn = (Config.kemEncaps k.ek seed).2 ∧
      t.said k.fabricId (.keyx { s.keyxFrame .offer with ek := ek, nonce := nonce }) ∧
      t.said k.fabricId (.keyx { s.keyxFrame .accept with ct := (Config.kemEncaps k.ek seed).1 }) ∧
      (s.heardOn l).keepsBut t [.gatehouse, .ports, .free, .sent]) ∧
  (∀ (s : State) (l : Link) (k : Keyx), Exchanging s l k → s.noHoldings → k.form = .offer →
    (∀ a, s.mod.anchor = some a → a.accepts k = false) →
    ∃ t, exec (.keyx l k) s = .next t ∧ t.gatehouse.err = setFlag s.gatehouse.err 3 ∧ t.peer k.fabricId = none ∧
      (s.heardOn l).keepsBut t [.gatehouse]) ∧
  (∀ (a : Anchor) (k : Keyx), a.accepts k = true ↔ k.anchorDigest = a.digest ∧ k.chainOk = true ∧ k.issuer ∈ a.issuers ∧
    a.minGatehouse ≤ k.svnGatehouse ∧ a.minBothy ≤ k.svnBothy ∧ k.debugUnlocked = false ∧ (k.engineeringSample = true → a.acceptEs = true)) ∧
  (∀ (s : State) (l : Link) (k : Keyx) (e : Peer), Exchanging s l k → s.noHoldings → k.form = .accept →
    s.gatehouse.peers.find? (fun x => !x.used && x.fabricId == k.fabricId) = some e → e.done = false → e.offered = true → e.peerOffer ≠ [] →
    (k.sigOk = true → ∃ t, exec (.keyx l k) s = .next t ∧
      t.peer k.fabricId = some { e with
        done := true
        pairKey := if s.fabric < k.fabricId
          then pairKeyOf e.ssOwn (Config.kemDecaps e.ownSecret k.ct) (e.ownOffer ++ e.peerOffer)
          else pairKeyOf (Config.kemDecaps e.ownSecret k.ct) e.ssOwn (e.peerOffer ++ e.ownOffer) } ∧
      t.said k.fabricId (.keyx { s.keyxFrame .keys with portKeys := s.currentKeys }) ∧
      (s.heardOn l).keepsBut t [.gatehouse, .ports, .sent]) ∧
    (k.sigOk = false → ∃ t, exec (.keyx l k) s = .next t ∧ t.gatehouse.err = setFlag s.gatehouse.err 3 ∧
      t.peer k.fabricId = none ∧ (s.heardOn l).keepsBut t [.gatehouse])) ∧
  (∀ (s : State) (l : Link) (q epoch key salt : Nat) (k : Keyx) (e : Peer), Exchanging s l k → s.noHoldings → k.form = .keys →
    s.gatehouse.peers.find? (fun x => !x.used && x.fabricId == k.fabricId) = some e → e.done = true → k.portKeys = [(q, epoch, key, salt)] →
    k.acks = [] → ∃ t x, exec (.keyx l k) s = .next t ∧ t.peer k.fabricId = some x ∧ (q, epoch, key, salt) ∈ x.portKeys ∧
      (∀ y ∈ e.portKeys, y.1 ≠ q → y ∈ x.portKeys) ∧ x.pairKey = e.pairKey ∧ x.done = true ∧
      t.said k.fabricId (.keyx { s.keyxFrame .keys with acks := [(q, epoch)] }) ∧
      (s.heardOn l).keepsBut t [.gatehouse, .ports, .sent]) ∧
  (∀ (s : State) (l : Link) (q : Nat) (k : Keyx) (e : Peer) (n : Nat × Nat × Nat), Exchanging s l k → s.noHoldings → k.form = .keys →
    s.gatehouse.peers.find? (fun x => !x.used && x.fabricId == k.fabricId) = some e → e.done = true → k.portKeys = [] →
    k.acks = [(q, n.2.2)] → (s.port q).newKey = some n →
    ((s.port q).rekeyWaits.filter (· != k.fabricId) = [] → ∃ t, exec (.keyx l k) s = .next t ∧
      t.port q = { (s.heardOn l).port q with txKey := some n, newKey := none, rekeyWaits := [], keyFrames := 0, keyTick := s.now } ∧
      (s.heardOn l).otherPorts t q ∧ (s.heardOn l).keepsBut t [.gatehouse, .ports]) ∧
    ((s.port q).rekeyWaits.filter (· != k.fabricId) ≠ [] → ∃ t, exec (.keyx l k) s = .next t ∧
      t.port q = { (s.heardOn l).port q with rekeyWaits := (s.port q).rekeyWaits.filter (· != k.fabricId) } ∧
      (s.heardOn l).otherPorts t q ∧ (s.heardOn l).keepsBut t [.gatehouse, .ports])) ∧
  (∀ (s : State) (port : Nat) (old : Nat × Nat × Nat), (s.port port).txKey = some old → s.mod.hall = true → (s.port port).linkUp = true →
    (s.port port).newKey = none → s.gatehouse.trngOk = true → s.gatehouse.halted = false →
    2 ^ 36 ≤ (s.port port).keyFrames ∨ (s.port port).keyTick + 360000000000 ≤ s.now →
    (∃ x ∈ s.gatehouse.peers, x.done = true ∧ x.used = false) →
    ∃ t key salt, exec (.rekey port) s = .next t ∧ (t.port port).newKey = some (key, salt, if 255 ≤ old.2.2 then 1 else old.2.2 + 1) ∧
      (t.port port).txKey = some old ∧ (t.port port).rekeyTick = s.now ∧
      (∀ x ∈ s.gatehouse.peers, x.done = true → x.used = false → x.fabricId ∈ (t.port port).rekeyWaits ∧
        (s.portTo x.fabricId ≠ none →
          t.said x.fabricId (.keyx { s.keyxFrame .keys with portKeys := [(port, if 255 ≤ old.2.2 then 1 else old.2.2 + 1, key, salt)] }))) ∧
      (∀ i, i ≠ port → (t.port i).newKey = (s.port i).newKey ∧ (t.port i).txKey = (s.port i).txKey ∧
        (t.port i).rekeyWaits = (s.port i).rekeyWaits) ∧ s.keepsBut t [.gatehouse, .ports, .free, .sent]) ∧
  (∀ (s : State) (port : Nat), (s.port port).keyFrames < 2 ^ 36 → s.now < (s.port port).keyTick + 360000000000 →
    exec (.rekey port) s = .next s) ∧
  (∀ (s : State) (port f : Nat) (n : Nat × Nat × Nat), (s.port port).newKey = some n → f ∈ (s.port port).rekeyWaits →
    (s.port port).rekeyTick + 25000000 ≤ s.now →
    ∃ t, exec (.rekeyTimeout port f) s = .next t ∧ t.peer f = none ∧ (∀ g, g ≠ f → t.peer g = s.peer g) ∧
      ((s.port port).rekeyWaits.filter (· != f) = [] → (t.port port).txKey = some n ∧ (t.port port).newKey = none) ∧
      ((s.port port).rekeyWaits.filter (· != f) ≠ [] →
        t.port port = { s.port port with rekeyWaits := (s.port port).rekeyWaits.filter (· != f) }) ∧
      s.otherPorts t port ∧ s.keepsBut t [.gatehouse, .ports])

/-- DESCRIPTOR_FETCH, SEM_WAIT, SEM_SIGNAL, DESCRIPTOR_RETIRE and SPAN_ITERATION of one Pavilion; a semaphore's parity error as Table
ERR-2 says. Of a plan without a Bower, since a retirement of one with a Bower may begin a relay transfer besides (R229). -/
def Obligations.SequencerCommands : Prop :=
  (∀ (s : State) (pav : Nat) (q : Queue) (k p i : Nat) (pl : Plan), k = queueNum q → s.pavDown pav = false → s.slotsHeld (pav / 64) < 2048 →
    ((s.pav pav).queue k).length < queueDepth k → s.fetchPlan pav k = some (p, pl) → (s.pav pav).switchPending = false →
    (s.plot p).holdsNeed pl.header.need = true → i = (s.pav pav).position p pl.handle k → (∀ st ∈ (s.plot p).running, st.droppedMbs = []) →
    (s.copyPoisoned pl = false ∨ pl.damaged = true → ∃ t, exec (.descriptorFetch pav q) s = .next t ∧
      (t.pav pav).queue k = (s.pav pav).queue k ++ [{
        plot := p, plan := pl.handle, index := i, bytes := (pl.stream pav k).getD i []
        iter := match pl.spanAt pav k i, (s.pav pav).span with | some _, some sp => sp.iter | _, _ => 0
        started := false, executed := false, startTick := s.now, waited := 0, failed := false }] ∧
      (t.pav pav).position p pl.handle k = i + 1 ∧ (∀ j, j ≠ k → j < 3 → (t.pav pav).queue j = (s.pav pav).queue j) ∧
      s.otherPavs t pav ∧ s.keepsBut t [.pavs]) ∧
    (s.copyPoisoned pl = true → pl.damaged = false → ∃ t, exec (.descriptorFetch pav q) s = .next t ∧
      (t.pav pav).queue k = (s.pav pav).queue k ∧ (t.pav pav).position p pl.handle k = i + 1 ∧
      (t.pav pav).err = setFlag (s.pav pav).err 2 ∧ s.otherPavs t pav)) ∧
  (∀ (s : State) (pav : Nat) (q : Queue), s.pavDown pav = true ∨ 2048 ≤ s.slotsHeld (pav / 64) ∨
    queueDepth (queueNum q) ≤ ((s.pav pav).queue (queueNum q)).length ∨ s.fetchPlan pav (queueNum q) = none →
    exec (.descriptorFetch pav q) s = .next s) ∧
  (∀ (s : State) (pav : Nat) (q : Queue) (k : Nat) (fs : List HwFault) (d : QDesc) (rest : List QDesc) (pl : Plan) (cur value : W32),
    k = queueNum q → Heads s pav k 0x30 d rest → s.planOf d = some pl → fs.contains .semParity = false →
    cur = (s.plot d.plot).sem (pl.semKey (fieldAt d.bytes 8 2)) →
    (s.iterOf pav k d = none → value = BitVec.ofNat 32 (fieldAt d.bytes 0x0C 4)) →
    (s.iterOf pav k d ≠ none → value = BitVec.ofNat 32 (fieldAt d.bytes 0x0C 4) * BitVec.ofNat 32 (d.iter + 1)) →
    ((fieldAt d.bytes 0x0A 1 = 0 ∧ 0 ≤ (cur - value).toInt) ∨ (fieldAt d.bytes 0x0A 1 ≠ 0 ∧ cur = value) →
      ∃ t, exec (.semWait pav q fs) s = .next t ∧ t.pav pav = (s.pav pav).headDone k d rest s.now ∧ s.otherPavs t pav ∧ s.keepsBut t [.pavs]) ∧
    ((fieldAt d.bytes 0x0A 1 = 0 ∧ (cur - value).toInt < 0) ∨ (fieldAt d.bytes 0x0A 1 ≠ 0 ∧ cur ≠ value) →
      ∃ t, exec (.semWait pav q fs) s = .next t ∧ t.pav pav = (s.pav pav).setQueue k
          ((if d.started then d else { d with started := true, startTick := s.now }) :: rest) ∧
        s.otherPavs t pav ∧ s.keepsBut t [.pavs])) ∧
  (∀ (s : State) (pav : Nat) (q : Queue) (k sem : Nat) (fs : List HwFault) (d : QDesc) (rest : List QDesc) (pl : Plan) (value : W32),
    k = queueNum q → Heads s pav k 0x31 d rest → s.planOf d = some pl → fs.contains .semParity = false →
    sem = pl.semKey (fieldAt d.bytes 8 2) → value = BitVec.ofNat 32 (fieldAt d.bytes 0x0C 4) →
    ∃ t, exec (.semSignal pav q fs) s = .next t ∧ t.pav pav = (s.pav pav).headDone k d rest s.now ∧
      (t.plot d.plot).sem sem = (if fieldAt d.bytes 0x0A 1 = 0 then (s.plot d.plot).sem sem + value else value) ∧
      (∀ x, x ≠ sem → (t.plot d.plot).sem x = (s.plot d.plot).sem x) ∧
      s.otherPlots t d.plot ∧ s.otherPavs t pav ∧ s.keepsBut t [.plots, .pavs]) ∧
  (∀ (s : State) (pav : Nat) (q : Queue) (k type sem : Nat) (fs : List HwFault) (d : QDesc) (rest : List QDesc) (pl : Plan) (x : Instr),
    k = queueNum q → (type = 0x30 ∧ x = .semWait pav q fs) ∨ (type = 0x31 ∧ x = .semSignal pav q fs) → Heads s pav k type d rest →
    s.planOf d = some pl → fs.contains .semParity = true → sem = pl.semKey (fieldAt d.bytes 8 2) →
    ∃ t, exec x s = .next t ∧ (t.plot d.plot).sem sem = 0 ∧ (∀ y, y ≠ sem → (t.plot d.plot).sem y = (s.plot d.plot).sem y) ∧
      (t.pav pav).err = setFlag (s.pav pav).err 4 ∧ (t.pav pav).queue k = ((s.pav pav).headDone k d rest s.now).queue k ∧
      (∀ st ∈ (t.plot d.plot).running, st.plan = d.plan → st.isVoid = true) ∧ s.otherPlots t d.plot) ∧
  (∀ (s : State) (pav : Nat) (q : Queue) (k n type : Nat) (d : QDesc) (rest : List QDesc), k = queueNum q → (s.pav pav).queue k = d :: rest →
    d.executed = true → type = dType d.bytes → (s.plot d.plot).goesOn → n = (s.now - d.startTick) * 2 * s.clockStep pav →
    (∀ pl, s.planOf d = some pl → (s.plot d.plot).bowerOf pl = none) →
    ∃ t, exec (.descriptorRetire pav q) s = .next t ∧ (t.pav pav).queue k = rest ∧ (t.pav pav).lastRetire = s.now ∧
      (t.pav pav).ctr.descRetired = (s.pav pav).ctr.descRetired + 1 ∧
      (t.pav pav).ctr.scalePasses = (if type = 0x11 then (s.pav pav).ctr.scalePasses + 1 else (s.pav pav).ctr.scalePasses) ∧
      (type = 3 → bitOf (fieldAt d.bytes 0x0D 1) 4 = true →
        ∃ g ∈ (t.pav pav).gbuf, g.isFor d.plot d.plan (fieldAt d.bytes 0x18 2) = true ∧ g.cascade = true) ∧
      (type = 3 → dEnd d.bytes = true → (t.pav pav).par.busy = false) ∧ (type ≠ 3 → (t.pav pav).par = (s.pav pav).par ∧ (t.pav pav).gbuf = (s.pav pav).gbuf) ∧
      (t.plot d.plot).account.arrayCycles = (s.plot d.plot).account.arrayCycles + (if type ≤ 3 then BitVec.ofNat 64 n else 0) ∧
      (t.plot d.plot).account.rillCycles = (s.plot d.plot).account.rillCycles + (if type = 0x10 ∨ type = 0x11 then BitVec.ofNat 64 n else 0) ∧
      (t.plot d.plot).account.moveCycles = (s.plot d.plot).account.moveCycles + (if type = 0x20 then BitVec.ofNat 64 n else 0) ∧
      s.otherPlots t d.plot ∧ s.otherPavs t pav ∧ s.keepsBut t [.plots, .pavs]) ∧
  (∀ (s : State) (pav : Nat) (q : Queue), ((s.pav pav).queue (queueNum q) = [] ∨
      (∃ d rest, (s.pav pav).queue (queueNum q) = d :: rest ∧ d.executed = false)) → exec (.descriptorRetire pav q) s = .next s) ∧
  (∀ (s : State) (pav : Nat) (sp : SpanState) (pl : Plan) (x : Span), (s.pav pav).span = some sp → (s.plot sp.plot).plans.find sp.plan = some pl →
    x = parseSpan (pl.spans.getD sp.span []) →
    ((∃ k ∈ x.queues, (s.pav pav).position sp.plot pl.handle k ≠ x.first.getD k 0 + x.count.getD k 0) → exec (.spanIteration pav) s = .next s) ∧
    ((∀ k ∈ x.queues, (s.pav pav).position sp.plot pl.handle k = x.first.getD k 0 + x.count.getD k 0) →
      (sp.iter + 1 < sp.total → ∃ t, exec (.spanIteration pav) s = .next t ∧ (t.pav pav).span = some { sp with iter := sp.iter + 1 } ∧
        (∀ k ∈ x.queues, (t.pav pav).position sp.plot pl.handle k = x.first.getD k 0) ∧ s.otherPavs t pav ∧ s.keepsBut t [.pavs]) ∧
      (sp.total ≤ sp.iter + 1 → (∀ k < 3, ∀ d ∈ (s.pav pav).queue k, ¬ (d.plot = sp.plot ∧ d.plan = sp.plan ∧ x.covers pav k d.index = true)) →
        ∃ t, exec (.spanIteration pav) s = .next t ∧ (t.pav pav).span = none ∧
          (t.plot sp.plot).sem (pl.semKey x.exitSem) = (s.plot sp.plot).sem (pl.semKey x.exitSem) + 1 ∧
          s.otherPlots t sp.plot ∧ s.otherPavs t pav ∧ s.keepsBut t [.plots, .pavs]))) ∧
  (∀ (s : State) (pav p i : Nat) (pl : Plan) (st : Step) (x : Span) (l : WorkList), (s.pav pav).span = none → p = (s.pav pav).context →
    (s.plot p).running = [st] → st.stopped = false → (s.plot p).plans.find st.plan = some pl →
    ((List.range pl.spans.length).zip (pl.spans.map parseSpan)).find? (fun e =>
      e.2.pav == pav && (s.pav pav).before p pl e.2 && e.2.queues.any ((s.pav pav).atFirst p pl e.2)) = some (i, x) →
    s.listFor p pl i = some l → x.iterations l ≠ [] →
    ∃ t, exec (.spanIteration pav) s = .next t ∧
      t.pav pav = { s.pav pav with span := some { plot := p, plan := pl.handle, span := i, iter := 0, total := (x.iterations l).length } } ∧
      s.otherPavs t pav ∧ s.keepsBut t [.pavs])

/-- WLOAD, STREAM, DRAIN and GBUF_SPILL of a Pavilion that runs, on the descriptor that the command order names. A load of
a walk leaves memory but for the mark of a poisoned page (R280), any other leaves it whole. A load reads its
view's element (i, j) as reduction index i and output j; TRANSPOSE swaps them: the text leaves that to the view, and the model's
reading is in the assumption log. -/
def Obligations.ArrayCommands : Prop :=
  (∀ (s : State) (pav i : Nat) (d : QDesc) (c : List QDesc) (x : View × Tensor) (es : List Elem) (saved : Bool), s.pavDown pav = false →
    (s.pav pav).nextReload = none → (s.pav pav).nextLoad = some (i, d, c) → s.loadWalks pav d = false → s.loadEmpty pav d = false →
    x = s.viewOf pav 0 d (fieldAt d.bytes 8 4) → es = s.viewElems (s.ctxOf pav 0 d) x.2 x.1 →
    saved = s.savedActivation d (fieldAt d.bytes 8 4) →
    ∃ t w, exec (.wload pav []) s = .next t ∧ (t.pav pav).par.shadow.find (dBlock d.bytes) = some w ∧
      w.kr = min (fieldAt d.bytes 0x0D 1 % 128 + 1) (blockSize (dShape d.bytes)) ∧ w.nc = min (fieldAt d.bytes 0x0E 1 % 128 + 1) (blockSize (dShape d.bytes)) ∧
      w.rowOrient = bitOf (fieldAt d.bytes 0x0F 1) 2 ∧ w.fmt = (if saved then 1 else fieldAt d.bytes 0x0C 1) ∧
      (∀ k n, k < w.kr → n < w.nc → (w.rows.getD k []).getD n (Sys2Proof.Machine.Num.zero false) = tileWeight x es (bitOf (fieldAt d.bytes 0x0F 1) 3) saved k n) ∧
      (∀ n, n < w.nc → w.colSums.getD n 0 = columnSum w.rows n) ∧
      (es.any (·.poisoned) = true → w.poisoned = true) ∧ t.mem = s.mem) ∧
  (∀ (s : State) (pav i : Nat) (d : QDesc) (c : List QDesc), s.pavDown pav = false → (s.pav pav).nextReload = none →
    (s.pav pav).nextLoad = some (i, d, c) →
    (∃ t, exec (.wload pav []) s = .next t ∧ (t.pav pav).par.active = (s.pav pav).par.active ∧
      (∃ e, ((t.pav pav).queue 0)[i]? = some e ∧ e.executed = true ∧ e.bytes = d.bytes) ∧
      (∀ j, j ≠ i → ((t.pav pav).queue 0)[j]? = ((s.pav pav).queue 0)[j]?) ∧ s.otherPavs t pav ∧
      (s.loadEmpty pav d = false → (t.pav pav).par.shadow.find (dBlock d.bytes) = some (s.loadBlock pav d).weights ∧
        t.mem = (s.loadBlock pav d).state.mem) ∧
      (s.loadEmpty pav d = true → (t.pav pav).par = (s.pav pav).par ∧ s.keepsBut t [.pavs])) ∧
    (∀ f b, s.loadEmpty pav d = false → faultFlag f = some (1, b) → ∃ t w, exec (.wload pav [f]) s = .next t ∧
      (t.pav pav).par.shadow.find (dBlock d.bytes) = some w ∧ w.poisoned = true ∧ (t.pav pav).par.err = setFlag (s.pav pav).par.err b ∧
      (∃ e, ((t.pav pav).queue 0)[i]? = some e ∧ e.executed = true ∧ e.failed = true))) ∧
  (∀ (s : State) (pav : Nat) (d : QDesc) (fs : List HwFault), s.pavDown pav = false → (s.pav pav).nextReload = some d →
    ∃ t, exec (.wload pav fs) s = .next t ∧ (t.pav pav).par.shadow.find (dBlock d.bytes) = some (s.loadBlock pav d).weights ∧
      (t.pav pav).reload = (s.pav pav).reload.tail ∧ (∀ k < 3, (t.pav pav).queue k = (s.pav pav).queue k) ∧
      (t.pav pav).par.active = (s.pav pav).par.active ∧ s.otherPavs t pav) ∧
  (∀ (s : State) (pav i n size : Nat) (d : QDesc) (x : View × Tensor) (ri : RowInputs) (marks : List RowMark) (swaps : Bool)
    (act : NMap BlockWeights) (w : BlockWeights),
    s.pavDown pav = false → (s.pav pav).nextStream = some (i, d) → x = s.viewOf pav 0 d (fieldAt d.bytes 8 4) →
    ri = s.rowInputs pav (s.ctxOf pav 0 d) d → n = s.streamRows pav d →
    marks = (List.range n).map (rowMark d.bytes ri (s.streamList pav d)) → size = blockSize (dShape d.bytes) →
    swaps = (decide (fedRows marks ≠ 0) && !(s.pav pav).par.begun && !(s.pav pav).par.shadow.isEmpty && (s.pav pav).ownsShadow) →
    act = (if swaps then (s.pav pav).par.shadow else (s.pav pav).par.active) →
    w = (((if hasLoads (s.pav pav).commands.1 then act else act.mapVals BlockWeights.lanesOff)).find (dBlock d.bytes)).getD
      (BlockWeights.clear size) →
    ∃ t rows, exec (.stream pav []) s = .next t ∧
      (t.pav pav).par.active = (if hasLoads (s.pav pav).commands.1 then act else act.mapVals BlockWeights.lanesOff) ∧
      (t.pav pav).par.shadow = (if swaps then [] else (s.pav pav).par.shadow) ∧
      (t.pav pav).par.begun = ((s.pav pav).par.begun || decide (fedRows marks ≠ 0)) ∧
      (t.pav pav).par.busy = true ∧ (t.pav pav).par.pass.find (dBlock d.bytes) = some rows ∧ rows.length = n ∧
      (∀ r < n, ∀ m, marks[r]? = some m → rows[r]? = some (s.passRow (s.ctxOf pav 0 d) d.bytes x w size ri m r)) ∧
      (∃ e, ((t.pav pav).queue 0)[i]? = some e ∧ e.executed = true ∧ e.bytes = d.bytes) ∧ (t.pav pav).store = (s.pav pav).store ∧
      s.otherPavs t pav ∧ s.keepsBut t [.pavs]) ∧
  (∀ (s : State) (pav i b : Nat) (d : QDesc) (f : HwFault), s.pavDown pav = false → (s.pav pav).nextStream = some (i, d) →
    faultFlag f = some (1, b) → ∃ t, exec (.stream pav [f]) s = .next t ∧
      (∀ r ∈ (t.pav pav).par.pass.get [] (dBlock d.bytes), r.poisoned = true) ∧ (t.pav pav).par.err = setFlag (s.pav pav).par.err b ∧
      (∃ e, ((t.pav pav).queue 0)[i]? = some e ∧ e.executed = true ∧ e.failed = true)) ∧
  (∀ (s : State) (cx : OpCtx) (d : Bytes) (x : View × Tensor) (w : BlockWeights) (size r : Nat) (ri : RowInputs) (m : RowMark), w.laneWidth = 0 →
    (m.masked = true → (s.passRow cx d x w size ri m r).dropped = true) ∧
    (m.masked = false → (s.passRow cx d x w size ri m r).dropped = false ∧ ∀ n < w.nc,
      (s.passRow cx d x w size ri m r).sums.getD n 0 = (List.range w.kr).foldl (fun acc k =>
        ((((s.streamElem cx d x r k).value x.2.fmt).mul ((w.rows.getD k []).getD n (Sys2Proof.Machine.Num.zero false))).add (f32 acc)).toF32) 0)) ∧
  (∀ (s : State) (pav i : Nat) (d : QDesc) (w : BlockWeights) (rows : List PassRow), s.pavDown pav = false → (s.pav pav).nextDrain = some (i, d) →
    w = ((s.pav pav).par.active.find (dBlock d.bytes)).getD (BlockWeights.clear (blockSize (dShape d.bytes))) →
    rows = (s.pav pav).par.pass.get [] (dBlock d.bytes) →
    (s.fillPoisoned pav d.plot d.plan (fieldAt d.bytes 0x18 2) = false →
      ∃ t, exec (.drain pav []) s = .next t ∧ (∃ e, ((t.pav pav).queue 0)[i]? = some e ∧ e.executed = true ∧ e.bytes = d.bytes) ∧
        (t.pav pav).par = (s.pav pav).par ∧ t.mem.bytes = s.mem.bytes ∧ s.otherPavs t pav ∧ s.keepsBut t [.mem, .plots, .pavs]) ∧
    (rows = [] ∨ (s.pav pav).par.begun = false →
      ∃ t, exec (.drain pav []) s = .next t ∧ (t.pav pav).store = (s.pav pav).store ∧ (t.pav pav).gbuf = (s.pav pav).gbuf ∧ s.keepsBut t [.pavs]) ∧
    (rows ≠ [] → (s.pav pav).par.begun = true → bitOf (fieldAt d.bytes 0x0D 1) 3 = true →
      (s.pav pav).tileFor d.plot d.plan (fieldAt d.bytes 0x18 2) = none → (s.pav pav).resident.length < 64 →
      ∃ t g, exec (.drain pav []) s = .next t ∧ (t.pav pav).store = (s.pav pav).store ∧ t.mem = s.mem ∧
        (t.pav pav).tileFor d.plot d.plan (fieldAt d.bytes 0x18 2) = some g ∧ g.resident = true ∧
        (∀ e ∈ drainElems w (bitOf (fieldAt d.bytes 0x0D 1) 2) 128 rows, fieldAt d.bytes 0x1A 2 * 128 + e.pos < 8192 →
          g.data.get 0 (fieldAt d.bytes 0x1A 2 * 128 + e.pos) = (if bitOf (fieldAt d.bytes 0x0D 1) 0 then fadd e.value 0 else e.value))) ∧
    (rows ≠ [] → (s.pav pav).par.begun = true → bitOf (fieldAt d.bytes 0x0D 1) 3 = false →
      ∃ t, exec (.drain pav []) s = .next t ∧ (t.pav pav).gbuf = (s.pav pav).gbuf ∧ s.keepsBut t [.pavs] ∧
        (t.pav pav).store = ((s.drainLocal pav d (drainElems w (bitOf (fieldAt d.bytes 0x0D 1) 2)
          ((s.viewOf pav 0 d (fieldAt d.bytes 8 4)).1.extents.getD 0 0) rows)).pav pav).store)) ∧
  (∀ (w : BlockWeights) (r : PassRow) (n : Nat) (v : W32), r.zeroPoint = none → w.colScales[n]? = none →
    (r.rowScale = 0 → drainScale w r n v = v) ∧ (r.rowScale ≠ 0 → drainScale w r n v = ((f32 v).scale r.rowScale).toF32)) ∧
  (∀ (s : State) (pav a : Nat) (c : List QDesc) (need : List (Nat × Nat)) (g : GTile), s.pavDown pav = false →
    c = (s.pav pav).commands.1 → need = (s.pav pav).missing (plotOf c) (tilesOf c) → need ≠ [] →
    64 < (s.pav pav).resident.length + need.length → (s.pav pav).victim = some g → a = s.slotOf pav g →
    (∀ y ∈ (s.pav pav).resident, ¬ (y.plot = plotOf c ∧ (y.plan, y.handle) ∈ tilesOf c) →
      g.lastAccess < y.lastAccess ∨ (g.lastAccess = y.lastAccess ∧ g.handle ≤ y.handle)) ∧
    (∀ fs, s.mem.room (g.lines a (plotOf c) (fs.contains .gbufUncorrected)) = true →
      s.exitWants (g.lines a (plotOf c) (fs.contains .gbufUncorrected)) = false →
      ∃ t, exec (.gbufSpill pav fs) s = .next t ∧ t.memHolds a g.bytes ∧ s.bytesOutside t a 32768 ∧ t.mem.bytes = s.mem.bytes ∧
        (t.pav pav).ctr.spills = (s.pav pav).ctr.spills + 1 ∧
        (t.pav pav).gbuf = (s.pav pav).gbuf.map (fun y => if y.isFor g.plot g.plan g.handle then { y with resident := false, data := [], poison := [] } else y) ∧
        (t.pav pav).store = (s.pav pav).store ∧ s.otherPavs t pav ∧
        (fs.contains .gbufUncorrected = false → s.keepsBut t [.mem, .pavs]) ∧
        (fs.contains .gbufUncorrected = true → (t.pav pav).err = setFlag (s.pav pav).err 1 ∧
          ∀ i < 32768, t.mem.linePoisoned ((a + i) / 64) = true)) ∧
    (∀ fs, s.mem.room (g.lines a (plotOf c) (fs.contains .gbufUncorrected)) = false → exec (.gbufSpill pav fs) s = .next s)) ∧
  (∀ (s : State) (pav : Nat) (fs : List HwFault) (need : List (Nat × Nat)),
    need = (s.pav pav).missing (plotOf (s.pav pav).commands.1) (tilesOf (s.pav pav).commands.1) →
    (need = [] ∨ (s.pav pav).resident.length + need.length ≤ 64) → exec (.gbufSpill pav fs) s = .next s) ∧
  (∀ (s : State) (pav : Nat) (fs : List HwFault), s.pavDown pav = true → exec (.wload pav fs) s = .next s ∧ exec (.stream pav fs) s = .next s ∧
    exec (.drain pav fs) s = .next s ∧ exec (.gbufSpill pav fs) s = .next s)

/-- VPROG, SCALE and COPY at the heads of their queues, in a Pavilion that runs; a check that fails sets its flag and fails the
descriptor (R123). Which program a descriptor names is an implementation's, so it is free; that data of a poisoned line marks each box
whole is the model's reading. -/
def Obligations.RillAndMoveCommands : Prop :=
  (∀ (s : State) (pav n : Nat) (d : QDesc) (rest : List QDesc) (pl : Plan), Heads s pav 1 0x10 d rest → s.planOf d = some pl →
    n = fieldAt d.bytes 0x0C 4 →
    (n = 0 → ∃ t, exec (.vprog pav []) s = .next t ∧
      t.pav pav = { (s.pav pav).headDone 1 d rest s.now with rillBusy := true, rillStoch := false } ∧
      s.otherPavs t pav ∧ s.keepsBut t [.pavs]) ∧
    (n ≠ 0 → ∃ t, exec (.vprog pav []) s = .next t ∧ (t.pav pav).queue 1 = ((s.pav pav).headDone 1 d rest s.now).queue 1 ∧
      (t.pav pav).rillBusy = true ∧ (t.pav pav).ctr.elements = (s.pav pav).ctr.elements + BitVec.ofNat 64 n ∧
      (t.pav pav).store = ((s.runProgram pav d pl.program false).pav pav).store ∧ (t.pav pav).par = (s.pav pav).par ∧
      s.otherPavs t pav ∧ s.keepsBut t [.pavs]) ∧
    ((∀ a ∈ s.vprogArgs pav d, ∀ o ∈ Config.rillProgram pl.program (fieldAt d.bytes 8 4), o.arg ≠ a.1) → ∀ fault,
      ((s.runProgram pav d pl.program fault).pav pav).store = (s.pav pav).store ∧
      ((s.runProgram pav d pl.program fault).pav pav).storePoison = (s.pav pav).storePoison)) ∧
  (∀ (s : State) (pav queue type b : Nat) (d : QDesc) (rest : List QDesc) (pl : Plan) (f : HwFault) (x : Instr),
    (queue = 1 ∧ type = 0x10 ∧ x = .vprog pav [f]) ∨ (queue = 1 ∧ type = 0x11 ∧ x = .scale pav [f]) → Heads s pav queue type d rest →
    s.planOf d = some pl → faultFlag f = some (2, b) →
    ∃ t e, exec x s = .next t ∧ (t.pav pav).err = setFlag (s.pav pav).err b ∧ (t.pav pav).queue queue = e :: rest ∧
      e.executed = true ∧ e.failed = true ∧ e.bytes = d.bytes ∧ s.otherPavs t pav) ∧
  (∀ (s : State) (pav fmt mode n : Nat) (d : QDesc) (rest : List QDesc) (src : View × Tensor), Heads s pav 1 0x11 d rest →
    fmt = fieldAt d.bytes 0x18 1 → mode = fieldAt d.bytes 0x19 1 → src = s.viewOf pav 1 d (fieldAt d.bytes 8 4) → n = src.1.size →
    (∃ t, exec (.scale pav []) s = .next t ∧ (t.pav pav).queue 1 = ((s.pav pav).headDone 1 d rest s.now).queue 1 ∧ (t.pav pav).rillBusy = true ∧
      (t.pav pav).ctr.elements = (s.pav pav).ctr.elements + BitVec.ofNat 64 n ∧ (t.pav pav).par = (s.pav pav).par ∧
      (t.pav pav).gbuf = (s.pav pav).gbuf ∧ s.otherPlots t d.plot ∧ s.otherPavs t pav ∧ s.keepsBut t [.plots, .pavs]) ∧
    (n = 0 → ∃ t, exec (.scale pav []) s = .next t ∧ (t.pav pav).store = (s.pav pav).store ∧ t.plots = s.plots) ∧
    (n ≠ 0 → isPage fmt = true → ∃ t, exec (.scale pav []) s = .next t ∧ (t.pav pav).store = ((s.sealPass pav d false).pav pav).store ∧ t.plots = s.plots) ∧
    (n ≠ 0 → isPage fmt = false → bitOf mode 0 = true → ∃ t, exec (.scale pav []) s = .next t ∧
      (t.pav pav).store = ((s.convertPass pav d false).pav pav).store ∧ t.plots = s.plots) ∧
    (n ≠ 0 → isPage fmt = false → bitOf mode 0 = false → ∃ t, exec (.scale pav []) s = .next t ∧
      (t.pav pav).store = ((s.scalePass pav d false).pav pav).store ∧
      (t.pav pav).ctr.rillNonfinite = (s.pav pav).ctr.rillNonfinite +
        BitVec.ofNat 64 ((s.viewWords (s.ctxOf pav 1 d) src).filter (fun e => !sound e)).length ∧
      (bitOf mode 1 = false → t.plots = s.plots) ∧
      ((t.pav pav).rillHist = bitOf mode 1) ∧
      (bitOf mode 1 = true → (t.plot d.plot).histLive.find (fieldAt d.bytes 0x1A 2) = some (((s.plot d.plot).histLive.get AbsHist.zeroed (fieldAt d.bytes 0x1A 2)).add
        (tileHist (s.viewWords (s.ctxOf pav 1 d) src)) (bitOf mode 2))))) ∧
  (∀ (fmt : Nat) (es : List (W32 × Bool)), (es.filter sound = [] → (blockStats fmt es).amax = Sys2Proof.Machine.Num.zero false ∧
      (blockStats fmt es).x = -127) ∧
    (blockStats fmt es).nonfinite = (es.filter (fun e => !sound e)).length ∧ (fmt ≠ 5 → (blockStats fmt es).z = 0) ∧
    -127 ≤ (blockStats fmt es).x ∧ (blockStats fmt es).x ≤ 127 ∧ (blockStats fmt es).record.length = 16) ∧
  (∀ (s : State) (pav : Nat) (d : QDesc) (rest : List QDesc) (cx : OpCtx) (src dst : View × Tensor) (g : Staged), Heads s pav 2 0x20 d rest →
    cx = s.ctxOf pav 2 d → dst = s.viewOf pav 2 d (fieldAt d.bytes 0x0C 4) →
    src = (if bitOf (fieldAt d.bytes 0x11 1) 0 then dst else s.viewOf pav 2 d (fieldAt d.bytes 8 4)) →
    g = s.stageBox cx dst.2 dst.1 ((List.range dst.1.size).map (fun n => if bitOf (fieldAt d.bytes 0x11 1) 0
        then { code := dst.1.fill % 2 ^ formatBits dst.2.fmt, scale := 127, poisoned := false }
        else s.viewElem cx src.2 src.1 (permuted (fieldAt d.bytes 0x10 1) (dst.1.index n)))) Staged.none →
    (bitOf (fieldAt d.bytes 0x11 1) 0 = false → s.viewStopped cx src = false ∧ s.badRecords d.plot (s.viewPlaces cx src.2 src.1) = []) →
    (dst.2.mem = 3 → ∃ t, exec (.copy pav []) s = .next t ∧ (t.pav pav).store = ((s.commitStore pav g).pav pav).store ∧
      (t.pav pav).storePoison = g.marks (s.pav pav).storePoison ∧ (t.pav pav).queue 2 = ((s.pav pav).headDone 2 d rest s.now).queue 2 ∧
      s.otherPlots t d.plot ∧ s.otherPavs t pav ∧ s.keepsBut t [.plots, .pavs]) ∧
    (dst.2.mem = 1 ∨ dst.2.mem = 2 → ∃ t, exec (.copy pav []) s = .next t ∧ t.mem = (s.commitGh g).mem ∧
      (t.pav pav).queue 2 = ((s.pav pav).headDone 2 d rest s.now).queue 2 ∧ (t.pav pav).store = (s.pav pav).store ∧
      s.otherPlots t d.plot ∧ s.otherPavs t pav ∧ s.keepsBut t [.mem, .plots, .pavs]) ∧
    (dst.2.mem = 0 ∨ dst.2.mem = 4 → s.mem.room (g.lines d.plot) = true → s.exitWants (g.lines d.plot) = false →
      ∃ t, exec (.copy pav []) s = .next t ∧ t.mem = s.mem.enqueue (g.lines d.plot) ∧
        (t.pav pav).queue 2 = ((s.pav pav).headDone 2 d rest s.now).queue 2 ∧ (t.pav pav).store = (s.pav pav).store ∧
        s.otherPlots t d.plot ∧ s.otherPavs t pav ∧ s.keepsBut t [.mem, .plots, .pavs]) ∧
    (dst.2.mem = 0 ∨ dst.2.mem = 4 → s.mem.room (g.lines d.plot) = false → exec (.copy pav []) s = .next s)) ∧
  (∀ (s : State) (pav h : Nat) (d : QDesc) (rest : List QDesc) (cx : OpCtx) (src : View × Tensor) (a : Adapter), Heads s pav 2 0x20 d rest →
    cx = s.ctxOf pav 2 d → src = s.viewOf pav 2 d (fieldAt d.bytes 8 4) → bitOf (fieldAt d.bytes 0x11 1) 0 = false →
    (s.viewOf pav 2 d (fieldAt d.bytes 0x0C 4)).2.mem = 3 → s.viewStopped cx src = false →
    s.badRecords d.plot (s.viewPlaces cx src.2 src.1) = [h] → (s.plot d.plot).adapters.find h = some a → a.state ≠ .poisoned →
    a.state ≠ .stale → ∃ t, exec (.copy pav []) s = .next t ∧ t.orangery.err = setFlag s.orangery.err 0) ∧
  (∀ (s : State) (pav : Nat) (fs : List HwFault), s.pavDown pav = true → exec (.vprog pav fs) s = .next s ∧ exec (.scale pav fs) s = .next s ∧
    exec (.copy pav fs) s = .next s)

/-- SLICE_BOUNDARY, PLOT_READY, EARLY_BOUNDARY and PLOT_SWITCH. That a plot's first context, of zeros, reads no memory is
the model's choice (log 141). -/
def Obligations.TimeSlices : Prop :=
  (∀ (s : State) (n : Nat), n = s.mod.sliceUs * 100 → n ≠ 0 → (s.mod.lastBoundary / n + 1) * n ≤ s.now →
    ∃ t, exec .sliceBoundary s = .next t ∧ t.mod = { s.mod with lastBoundary := s.now / n * n, sliceUs := s.mod.sliceNext } ∧
      (∀ p ∈ tenantPlots, ((t.plot p).sched.grant = 0 ∨ (t.plot p).sched.grant = (s.plot p).need) ∧ (t.plot p).need = (s.plot p).need) ∧
      (∀ p ∈ tenantPlots, ∀ q ∈ tenantPlots, p ≠ q → (t.plot p).sched.grant &&& (t.plot q).sched.grant = 0) ∧
      (∀ p ∈ tenantPlots, (s.plot p).need ≠ 0 → (t.plot p).sched.grant = 0 →
        ∃ q ∈ tenantPlots, (t.plot q).sched.grant &&& (s.plot p).need ≠ 0) ∧
      (∀ i < 128, (t.pav i).context = (s.pav i).context ∧
        ((t.pav i).granted = 0 ∨ ((t.pav i).granted ∈ tenantPlots ∧ bitOf (t.plot (t.pav i).granted).sched.grant i = true))) ∧
      s.keepsBut t [.mod, .plots, .pavs]) ∧
  (∀ (s : State), s.now < (s.mod.lastBoundary / (s.mod.sliceUs * 100) + 1) * (s.mod.sliceUs * 100) → exec .sliceBoundary s = .next s) ∧
  (∀ (s : State) (p n others : Nat), p ∈ tenantPlots → (∀ q ∈ tenantPlots, (s.plot q).need ≠ 0 ∨ (s.plot q).sched.grant = 0) → n = (s.plot p).need →
    others = (s.standing.filter (fun g => g.1 != p)).foldl (fun m g => m ||| g.2) 0 → n ≠ 0 → (s.plot p).holdsNeed n = false →
    (n &&& others = 0 → ∃ t, exec (.plotReady p) s = .next t ∧ (t.plot p).sched.grant = n ||| (s.plot p).sched.grant ∧
      (∀ q ∈ tenantPlots, q ≠ p → (t.plot q).sched.grant = (s.plot q).sched.grant) ∧
      (∀ i < 128, bitOf n i = true → (t.pav i).granted = p ∧ ((t.pav i).switchPending = true ↔ (s.pav i).context ≠ p)) ∧
      (∀ i, bitOf n i = false → t.pav i = s.pav i) ∧ s.keepsBut t [.plots, .pavs]) ∧
    (n &&& others ≠ 0 → exec (.plotReady p) s = .next s)) ∧
  (∀ (s : State) (p n : Nat), p ∈ tenantPlots → n = (s.plot p).need → n ≠ 0 → (∃ st ∈ (s.plot p).running, st.earlyDue = true) →
    ∃ t, exec (.earlyBoundary p) s = .next t ∧ t.mod = { s.mod with earlyBoundaries := s.mod.earlyBoundaries + 1 } ∧
      (t.plot p).sched.grant = n ||| (s.plot p).sched.grant ∧ (t.plot p).need = n ∧ (∀ st ∈ (t.plot p).running, st.earlyDue = false) ∧
      (∀ q ∈ tenantPlots, q ≠ p → (t.plot q).sched.grant = if (s.plot q).sched.grant &&& n = 0 then (s.plot q).sched.grant else 0) ∧
      (∀ i < 128, bitOf n i = true → (t.pav i).granted = p ∧ ((t.pav i).switchPending = true ↔ (s.pav i).context ≠ p)) ∧
      s.keepsBut t [.mod, .plots, .pavs]) ∧
  (∀ (s : State) (p : Nat), (∀ st ∈ (s.plot p).running, st.earlyDue = false) ∨ (s.plot p).need = 0 → exec (.earlyBoundary p) s = .next s) ∧
  (∀ (s : State) (i extra ticks a b : Nat) (v : Pavilion) (c : PavContext), v = s.pav i → c = (v.saved.find v.granted).getD PavContext.zero → v.switchPending = true → s.atBoundary i = true → a = v.context → b = v.granted →
    a ≠ b → b ≠ 0 →
    ∃ t, exec (.plotSwitch i extra ticks) s = .next t ∧ (t.pav i).context = b ∧ (t.pav i).switchPending = false ∧
      (t.pav i).since = s.now - ticks ∧ (a ≠ 0 → (t.pav i).saved.find a = some (v.save s.now)) ∧
      ((t.pav i).array = c.array ∧ (t.pav i).rill = c.rill ∧ (t.pav i).move = c.move ∧ (t.pav i).span = c.span ∧
        (t.pav i).reload = c.reload ∧ (t.pav i).store = c.store ∧ (t.pav i).storePoison = c.storePoison ∧
        (t.pav i).par = { Parterre.init with owner := b, err := v.par.err }) ∧
      (a ≠ 0 → (t.plot a).account.overrunCycles = (s.plot a).account.overrunCycles + BitVec.ofNat 64 (extra * 2 * s.clockStep i) ∧
        (t.plot a).account.switchCycles = (s.plot a).account.switchCycles + BitVec.ofNat 64 (ticks * 2 * s.clockStep i) ∧
        (t.plot a).account.heldTicks = (s.plot a).account.heldTicks + BitVec.ofNat 64 (s.now - ticks - v.since) ∧
        (t.plot a).account.hbmWrite = (s.plot a).account.hbmWrite + BitVec.ofNat 64 contextBytes ∧
        t.mod = { s.mod with switches := s.mod.switches + 1 }) ∧
      (a = 0 → t.mod = s.mod) ∧
      (t.plot b).account = { (s.plot b).account with
        switchCycles := (s.plot b).account.switchCycles + BitVec.ofNat 64 (ticks * 2 * s.clockStep i)
        hbmRead := (s.plot b).account.hbmRead + BitVec.ofNat 64 (if (v.saved.find b).isSome then contextBytes else 0) } ∧
      (∀ q, q ≠ a → q ≠ b → t.plot q = s.plot q) ∧ s.otherPavs t i ∧ s.keepsBut t [.mod, .plots, .pavs]) ∧
  (∀ (s : State) (i extra ticks : Nat), (s.pav i).switchPending = false ∨ s.atBoundary i = false → exec (.plotSwitch i extra ticks) s = .next s)

/-- TILE_HANDOFF, TILE_CONVERT, WAVE, UP and DOWN. What a command sets is stated before the tiles of the step advance as far as they can
(`pump`) and what a failed check leaves is settled (`settleFailed`); a frame is worked in the state that its arrival leaves. -/
def Obligations.CascadeCommands : Prop :=
  (∀ (s : State) (pav : Nat) (g : GTile) (st : Step) (t : Tile), s.handedOff pav = some (g, st, t) →
    st ∈ (s.plot g.plot).running → t ∈ st.tiles →
    (s.plot g.plot).running.filter (fun x => x.plan == st.plan) = [st] → st.tiles.filter (fun u => u.seq == t.seq) = [t] →
    ∃ u, exec (.tileHandoff pav) s = .next (u.pump g.plot st.plan) ∧
      u.tileAt g.plot st.plan t.seq = some { t with
        phase := 1, data := [], poison := if st.isVoid then List.range 256 else []
        count := st.countOf t.adapter, dropped := st.droppedMbs.length } ∧
      s.otherPlots u g.plot ∧ s.keepsBut u [.plots]) ∧
  (∀ (s : State) (pav : Nat), s.handedOff pav = none → exec (.tileHandoff pav) s = .next s) ∧
  (∀ (s : State) (p plan seq m : Nat) (flt : TileFaults) (fl : Flow) (st : Step) (t : Tile) (w : WaveEntry) (ws : NMap W64), s.flowOf p plan = some fl →
    t ∈ s.tilesOf p plan → t.phase = 3 → t.failed = none → (s.plot p).running.filter (fun x => x.plan == plan) = [st] →
    (s.tilesOf p plan).filter (fun u => u.seq == seq) = [t] → t.final = some w → m = fl.group.size →
    ws = (t.data.filter (fun e => !t.elementPoisoned e.1)).map (fun e =>
      (e.1, rxIn (rxL w.e m) (ctrRandom fl.seed t.adapter fl.step t.tensor (fl.group.rankOf s.fabric) (t.indexBase + e.1)) e.2)) →
    (∀ got n, (if m ≤ 1 then some (ws, 0) else crcTransfer ws flt.crc) = some (got, n) →
      ∃ u, exec (.tileConvert p plan seq flt) s = .next ((Flow.run { fl with faults := flt } u).settleFailed p plan) ∧
        u.tileAt p plan seq = some { t with phase := 4, words := got } ∧
        (u.engine (t.pav / 64)).tilesIn = (s.engine (t.pav / 64)).tilesIn + 1 ∧
        (u.engine (t.pav / 64)).flushed = (s.engine (t.pav / 64)).flushed + BitVec.ofNat 64 (t.flushCount m w) ∧
        (u.engine t.portUnit).crcRetries = (s.engine t.portUnit).crcRetries + BitVec.ofNat 64 n ∧
        (u.pav t.pav).gbuf = (s.pav t.pav).gbuf.filter (fun x => !(x.plot == p && x.plan == plan && x.handle == t.gtile)) ∧
        s.otherPlots u p ∧ s.otherPavs u t.pav ∧ (∀ e, e ≠ t.pav / 64 → e ≠ t.portUnit → u.engine e = s.engine e) ∧
        s.keepsBut u [.plots, .pavs, .engines]) ∧
    (1 < m → crcTransfer ws flt.crc = none → (∀ x ∈ s.tilesOf p plan, x.failed = none) →
      ∃ u, exec (.tileConvert p plan seq flt) s = .next (u.checkFails t.portUnit 0) ∧
        u.tileAt p plan seq = some { t with failed := some (t.portUnit, 0) } ∧
        (u.engine t.portUnit).crcRetries = (s.engine t.portUnit).crcRetries + 3 ∧ u.pavs = s.pavs ∧
        s.otherPlots u p ∧ s.keepsBut u [.plots, .engines])) ∧
  (∀ (s : State) (e flag : Nat), (∀ p ∈ tenantPlots, (s.plot p).groups = []) →
    s.checkFails e flag = s.updEngine e (fun x => { x with err := setFlag x.err flag, fenced := true })) ∧
  (∀ (s : State) (port p : Nat) (f : Frame) (g : Group) (r : State) (flt : TileFaults) (x : Instr), f.kind = 2 ∨ f.kind = 3 ∨ f.kind = 4 →
    x = (if f.kind = 2 then .wave port f else if f.kind = 3 then .up port f flt else .down port f flt) →
    s.arrive port f = .taken p g r → (r.plot p).groups = [g] →
    ((r.plot p).reducing g = none → f.kind = 2 ∨ linesHold f = true →
      ∃ t h, exec x s = .next t ∧ (t.plot p).groups = [h] ∧ h.early = g.early ++ [(port, f)] ∧
        (t.port port).toAck = (r.port port).toAck ++ [(f.src, f.linkSeq)] ∧ (t.port port).rxFrames = (r.port port).rxFrames + 1 ∧
        (t.port port).seen = (r.port port).seen ++ [frameKey f] ∧
        r.otherPlots t p ∧ r.otherPorts t port ∧ r.keepsBut t [.plots, .ports]) ∧
    ((r.plot p).reducing g = none → f.kind ≠ 2 → linesHold f = false →
      ∃ t, exec x s = .next t ∧ t.said f.src (.resend f.seq f.frameIdx f.groupId) ∧
        (t.engine (2 + port)).residueRetries = (r.engine (2 + port)).residueRetries + 1 ∧ t.plots = r.plots) ∧
    (∀ st, (r.plot p).reducing g = some st → st.step ≠ f.step →
      ∃ t h, exec x s = .next t ∧ (t.plot p).groups = [h] ∧ h.suspended = true ∧
        (t.engine (2 + port)).err = setFlag (r.engine (2 + port)).err 3 ∧ t.ports = r.ports)) ∧
  (∀ (s : State) (port p : Nat) (f : Frame) (g : Group) (r : State) (flt : TileFaults) (st : Step) (t : Tile), s.arrive port f = .taken p g r →
    (r.plot p).groups = [g] → (r.plot p).running = [st] → (r.plot p).reducing g = some st → st.step = f.step →
    st.tiles.filter (fun u => u.seq == t.seq) = [t] →
    (f.kind = 2 → f.payload.length = 16 → (waveEntryAt f.payload 0).seq = t.seq →
      (g.parent r.fabric = some f.senderRank → ∃ u, exec (.wave port f) s = .next (u.pump p st.plan) ∧
        u.tileAt p st.plan t.seq = some { t with final := some (waveEntryAt f.payload 0) } ∧
        r.otherPlots u p ∧ r.otherPorts u port ∧ r.keepsBut u [.plots, .ports]) ∧
      (g.parent r.fabric ≠ some f.senderRank → f.senderRank ∈ g.children r.fabric → ∃ u, exec (.wave port f) s = .next (u.pump p st.plan) ∧
        u.tileAt p st.plan t.seq = some { t with
          childWaves := t.childWaves.filter (fun c => c.1 != f.senderRank) ++ [(f.senderRank, waveEntryAt f.payload 0)] } ∧
        r.otherPlots u p ∧ r.otherPorts u port ∧ r.keepsBut u [.plots, .ports])) ∧
    (f.kind = 3 → f.seq = t.seq → linesHold f = true → f.senderRank ∈ g.children r.fabric → t.phase < 5 →
      ∃ u, exec (.up port f flt) s = .next ((u.pumpWith p st.plan flt).settleFailed p st.plan) ∧
      u.tileAt p st.plan t.seq = some { t with
        childFrames := t.childFrames ++ [(f.senderRank, f.frameIdx, payloadWords f.payload f.frameIdx, f.residues)] } ∧
      r.otherPlots u p ∧ r.otherPorts u port ∧ r.keepsBut u [.plots, .ports, .engines]) ∧
    (f.kind = 4 → f.seq = t.seq → linesHold f = true → g.parent r.fabric = some f.senderRank → t.phase = 5 → t.upSent = true → f.frameIdx ∉ t.downHeld →
      ∃ u, exec (.down port f flt) s = .next ((u.pumpWith p st.plan flt).settleFailed p st.plan) ∧
      u.tileAt p st.plan t.seq = some { t with
        total := addWords t.total (payloadWords f.payload f.frameIdx)
        totalResidues := t.totalResidues.set f.frameIdx f.residues, downHeld := t.downHeld ++ [f.frameIdx] } ∧
      r.otherPlots u p ∧ r.otherPorts u port ∧ r.keepsBut u [.plots, .ports]) ∧
    (f.kind = 3 ∨ f.kind = 4 → f.seq = t.seq → linesHold f = false →
      ∀ x : Instr, x = (if f.kind = 3 then .up port f flt else .down port f flt) →
      (t.retries.get 0 (retryKey f) < 3 →
        ∃ u, exec x s = .next (u.settleFailed p st.plan) ∧
        u.tileAt p st.plan t.seq = some { t with retries := t.retries.set (retryKey f) (t.retries.get 0 (retryKey f) + 1) } ∧
        u.said f.src (.resend f.seq f.frameIdx f.groupId) ∧
        (u.engine (2 + port)).residueRetries = (r.engine (2 + port)).residueRetries + 1 ∧ r.otherPlots u p) ∧
      (3 ≤ t.retries.get 0 (retryKey f) →
        ∃ u, exec x s = .next (u.settleFailed p st.plan) ∧ u.port port = { r.port port with faulty := true } ∧ r.otherPorts u port))) ∧
  (∀ (s : State) (port : Nat) (f : Frame) (flt : TileFaults) (x : Instr), f.kind = 2 ∨ f.kind = 3 ∨ f.kind = 4 →
    x = (if f.kind = 2 then .wave port f else if f.kind = 3 then .up port f flt else .down port f flt) →
    ((s.port port).linkUp = false → exec x s = .next s) ∧
    ((s.port port).linkUp = true → f.fcsOk = false → ∃ t, exec x s = .next t ∧
      t.port port = { s.port port with rxDropped := (s.port port).rxDropped + 1 } ∧ s.otherPorts t port ∧ s.keepsBut t [.ports]) ∧
    (∀ p g, (s.port port).linkUp = true → s.badLink (linkOf f port) false = none → s.groupFor f.groupId f.src = some (p, g) →
      (f.generation < g.generation → ∃ t, exec x s = .next t ∧
        (t.engine (2 + port)).stale = (s.engine (2 + port)).stale + 1 ∧ s.otherEngines t (2 + port) ∧ s.keepsBut t [.engines]) ∧
      (f.generation = g.generation → ∀ r, r = (s.renew p g f.src).hearEnds f.src →
        (r.seenBefore f = false → ∃ h, s.arrive port f = .taken p h r) ∧
        (r.seenBefore f = true → ∃ t, exec x s = .next t ∧
          t.port port = { r.port port with toAck := (r.port port).toAck ++ [(f.src, f.linkSeq)] } ∧
          r.otherPorts t port ∧ r.keepsBut t [.ports]))))

/-- HELLO, LINK_DOWN, CONTROL, ACK_TIMER, RESEND, FRAME_RETRANSMIT, FOREIGN_FRAME, SKIPSET and RELAY. What follows a command is left to
`pumpTraffic` and `pumpSkip`, which send what waited; a frame is worked in the state that its arrival leaves. -/
def Obligations.LinkCommands : Prop :=
  (∀ (s : State) (l : Link) (i : Nat), i = l.port → s.unitFenced (16 + i) = false →
    ((s.port i).linkUp = false → s.mod.hall = false → ∃ t, exec (.hello l none) s = .next t ∧
      (t.port i).linkUp = true ∧ (t.port i).lanesUp = 15 ∧ (t.port i).faulty = false ∧ (t.port i).txKey = (s.port i).txKey ∧
      t.said (s.port i).peerId (.hello s.fabric) ∧ s.otherPorts t i ∧ s.keepsBut t [.ports, .sent]) ∧
    ((s.port i).linkUp = false → s.mod.hall = true → s.mod.anchor ≠ none → s.gatehouse.trngOk = true → ∃ t key salt,
      exec (.hello l none) s = .next t ∧ (t.port i).linkUp = true ∧ (t.port i).lanesUp = 15 ∧ (t.port i).faulty = false ∧
      (t.port i).txKey = some (key, salt, 1) ∧ (t.port i).newKey = none ∧ (t.port i).rekeyWaits = [] ∧ (t.port i).keyTick = s.now ∧
      t.said (s.port i).peerId (.hello s.fabric) ∧ s.otherPorts t i ∧ s.keepsBut t [.ports, .free, .sent]) ∧
    ((s.port i).linkUp = true → exec (.hello l none) s = .next s) ∧
    (∀ (f : Nat) (v : Port), f < 2 ^ 36 → (s.port i).linkUp = true → s.badLink l true = none → v = (s.heardOn l).port i → ∃ t, exec (.hello l (some f)) s = .next t ∧
      t.port i = { v with peerId := f, peerValid := true, peerPort := l.srcPort } ∧
      s.otherPorts t i ∧ (s.heardOn l).keepsBut t [.ports]) ∧
    (∀ f, f < 2 ^ 36 → (s.port i).linkUp = false → s.mod.hall = false → l.fcsOk = true → ∃ t, exec (.hello l (some f)) s = .next t ∧
      (t.port i).linkUp = true ∧ (t.port i).peerId = f ∧ (t.port i).peerValid = true ∧ (t.port i).peerPort = l.srcPort ∧
      t.said (s.port i).peerId (.hello s.fabric) ∧ (t.port i).rxFrames = (s.port i).rxFrames + 1 ∧
      s.otherPorts t i ∧ s.keepsBut t [.plots, .ports, .sent])) ∧
  (∀ (s : State) (l : Link) (peer : Option Nat), s.unitFenced (16 + l.port) = true → exec (.hello l peer) s = .next s) ∧
  (∀ (s : State) (i : Nat), (s.port i).linkUp = true → (∀ p ∈ tenantPlots, (s.plot p).groups = []) →
    ∃ t, exec (.linkDown i) s = .next t ∧
      t.port i = { s.port i with linkUp := false, lanesUp := 0, peerValid := false, err := setFlag (s.port i).err 0 } ∧
      s.otherPorts t i ∧ s.keepsBut t [.ports]) ∧
  (∀ (s : State) (i p f : Nat) (g : Group), (s.port i).linkUp = true → (s.port i).peerId = f → s.mod.hall = false → p ∈ tenantPlots →
    (∀ q ∈ tenantPlots, q ≠ p → (s.plot q).groups = []) → (s.plot p).groups = [g] → g.neighbours s.fabric = [f] → g.state = groupActive →
    bitOf ((s.plot p).routeMask f) i = true → (∀ j < 12, j ≠ i → s.portLeads j f = false) →
    ∃ t x, exec (.linkDown i) s = .next t ∧ (t.plot p).groups = [x] ∧ x = { g with state := groupSuspect } ∧
      (t.port i).linkUp = false ∧ s.otherPorts t i) ∧
  (∀ (s : State) (l : Link) (i : Nat) (acks : List Nat) (kept : List Retained), Arrives s l → i = l.port →
    kept = (s.port i).retention.filter (fun r => !acks.contains r.frame.linkSeq) →
    ((s.port i).waiting = [] → ∃ u, exec (.control l acks) s = .next u.pumpTraffic ∧
      u.port i = { s.port i with rxFrames := (s.port i).rxFrames + 1, retention := kept
                                 creditWait := (u.port i).creditWait, fecCorrected := (u.port i).fecCorrected } ∧
      s.otherPorts u i ∧ u.plots = (s.hearEnds l.src).plots ∧ s.keepsBut u [.plots, .ports]) ∧
    (∀ r, (s.port i).waiting = [r] → (s.updPort i (fun x => { x with retention := kept })).controlFree i r.dest = true →
      ∃ u, exec (.control l acks) s = .next u.pumpTraffic ∧ (u.port i).waiting = [] ∧
        (∃ (v : State) (f : Frame), u.sent = s.sent ++ [v.wireOf r.dest i f r.body]) ∧ s.otherPorts u i)) ∧
  (∀ (s : State) (l : Link) (acks : List Nat) (flag : Option Nat), (s.port l.port).linkUp = true →
    s.badLink l (!s.holdsKeys l.src) = some flag → ∃ t, exec (.control l acks) s = .next t ∧
      t.port l.port = { s.port l.port with
        rxDropped := (s.port l.port).rxDropped + 1
        err := match flag with | some b => setFlag (s.port l.port).err b | none => (s.port l.port).err } ∧
      s.otherPorts t l.port ∧ s.keepsBut t [.ports]) ∧
  (∀ (s : State) (i : Nat), ∃ t, exec (.ackTimer i) s = .next t ∧ (t.port i).toAck = [] ∧
    (∀ e ∈ (s.port i).toAck, t.said e.1 (.ack (((s.port i).toAck.filter (fun x => x.1 == e.1)).map (·.2)))) ∧
    (t.port i).retention = (s.port i).retention ∧ ((s.port i).toAck = [] → t.sent = s.sent ∧ ∀ j, t.port j = s.port j) ∧
    s.otherPorts t i ∧ s.keepsBut t [.ports, .sent]) ∧
  (∀ (s : State) (l : Link) (i seq idx id : Nat) (r : Retained), Arrives s l → i = l.port →
    (∀ p ∈ tenantPlots, ∀ g ∈ (s.plot p).groups, g.state ≠ groupSuspect) →
    (s.port i).retention.find? (fun x => x.frame.seq == seq && x.frame.frameIdx == idx && x.frame.groupId == id && x.dest == l.src &&
      (x.frame.kind == 3 || x.frame.kind == 4)) = some r → (∀ m, r.body = some m → onlyAcks m = false) →
    (i ∈ s.waysOf r → ∃ (t : State) (x : Retained), exec (.resend l seq idx id false) s = .next t ∧
      (t.port i).retention = (s.port i).retention.filter (· != r) ++ [x] ∧
      x.frame.resent = true ∧ x.frame.payload = r.frame.payload ∧ x.frame.linkSeq = (s.port i).txSeq ∧
      x.attempts = (if r.attempts < 8 then r.attempts + 1 else 1) ∧ x.sentTick = s.now ∧
      (t.port i).retransmits = (s.port i).retransmits + 1 ∧ (t.port i).txSeq = (s.port i).txSeq + 1 ∧
      (∃ v : State, t.sent = s.sent ++ [v.wireOf r.dest i x.frame r.body]) ∧ s.otherPorts t i ∧ s.keepsBut t [.plots, .ports, .sent]) ∧
    ((∀ p ∈ tenantPlots, (s.plot p).groups = []) → ∃ t, exec (.resend l seq idx id true) s = .next t ∧
      (t.port i).retention = (s.port i).retention.filter (· != r) ∧ (t.engine (2 + i)).err = setFlag (s.engine (2 + i)).err 4 ∧
      t.sent = s.sent ∧ s.otherPorts t i ∧ s.otherEngines t (2 + i) ∧ s.keepsBut t [.plots, .ports, .engines])) ∧
  (∀ (s : State) (i : Nat) (r : Retained), s.dueFrame i = some r → (∀ m, r.body = some m → onlyAcks m = false) →
    (r.attempts < 8 → i ∈ s.waysOf r → ∃ (t : State) (x : Retained), exec (.frameRetransmit i false) s = .next t ∧
      (t.port i).retention = (s.port i).retention.filter (· != r) ++ [x] ∧ x.frame.resent = true ∧ x.frame.payload = r.frame.payload ∧
      x.frame.linkSeq = (s.port i).txSeq ∧ x.attempts = r.attempts + 1 ∧ x.sentTick = s.now ∧
      (∃ v : State, t.sent = s.sent ++ [v.wireOf r.dest i x.frame r.body]) ∧ s.otherPorts t i ∧ s.keepsBut t [.plots, .ports, .sent]) ∧
    (r.attempts < 8 → (∀ p ∈ tenantPlots, (s.plot p).groups = []) → ∃ t, exec (.frameRetransmit i true) s = .next t ∧
      (t.port i).retention = (s.port i).retention.filter (· != r) ∧ (t.engine (2 + i)).err = setFlag (s.engine (2 + i)).err 4 ∧
      t.sent = s.sent ∧ s.otherPorts t i ∧ s.keepsBut t [.ports, .engines]) ∧
    (8 ≤ r.attempts → (∀ p ∈ tenantPlots, (s.plot p).groups = []) → ∀ bad : Bool,
      ((s.waysOf r).filter (· != i) = [] → ∃ (t : State) (l : List Retained), exec (.frameRetransmit i bad) s = .next t ∧
        l = (s.port i).retention.map (fun y => if y = r then { r with attempts := 9 } else y) ∧
        t.port i = { s.port i with retention := l, faulty := true, err := setFlag (s.port i).err 3 } ∧ t.sent = s.sent ∧
        s.otherPorts t i ∧ s.keepsBut t [.ports]) ∧
      (∀ (k : Nat) (ks : List Nat), (s.waysOf r).filter (· != i) = k :: ks → ∃ (t : State) (x : Retained), exec (.frameRetransmit i bad) s = .next t ∧
        (t.port i).faulty = true ∧ r ∉ (t.port i).retention ∧ (t.port k).retention = (s.port k).retention ++ [x] ∧
        x.frame.payload = r.frame.payload ∧ x.frame.resent = true ∧ x.dest = r.dest ∧ x.attempts = 1 ∧
        (∃ v : State, t.sent = s.sent ++ [v.wireOf r.dest k x.frame r.body]) ∧ s.keepsBut t [.plots, .ports, .sent]))) ∧
  (∀ (s : State) (i : Nat) (bad : Bool), s.dueFrame i = none → exec (.frameRetransmit i bad) s = .next s) ∧
  (∀ (s : State) (i ty : Nat) (bs : Bytes),
    (s.mod.hall = true → (s.port i).linkUp = true → ty ≠ 0x88B5 → exec (.foreignFrame i ty bs) s = .next { s with sent := s.sent ++ [.ethernet i bs] }) ∧
    (s.mod.hall = false → exec (.foreignFrame i ty bs) s = .next s)) ∧
  (∀ (s : State) (i p : Nat) (f : Frame) (g : Group) (r : State) (st : Step) (pl : Plan), s.arrive i f = .taken p g r → (r.plot p).groups = [g] →
    (r.plot p).running = [st] → (r.plot p).bowering g = some (st, pl) → st.step = f.step →
    (f.kind = 6 → g.parent r.fabric = some f.senderRank → st.skipSet = none → ∃ u, exec (.skipset i f) s = .next (u.pumpSkip p st.plan) ∧
      (u.plot p).running = [{ st with skipSet := some (pl.skipHandles f.payload) }] ∧ r.otherPlots u p ∧ r.otherPorts u i ∧
      r.keepsBut u [.plots, .ports]) ∧
    (f.kind = 6 → g.parent r.fabric ≠ some f.senderRank → f.senderRank ∈ g.children r.fabric → st.childSkips = [] →
      ∃ u, exec (.skipset i f) s = .next (u.pumpSkip p st.plan) ∧ (u.plot p).running = [{ st with childSkips := [pl.skipHandles f.payload] }] ∧
      r.otherPlots u p ∧ r.otherPorts u i ∧ r.keepsBut u [.plots, .ports]) ∧
    (f.kind = 5 → ∀ view sem ls, pl.relayFor f.seq f.tensor = some (view, sem) → (f.seq, f.tensor, f.tile) ∉ st.relayed →
      ls = r.viewPlaces { plot := p, pav := 0, lanes := [] } (pl.viewAt view).2 (pl.viewAt view).1 →
      ∃ t, exec (.relay i f) s = .next t ∧
        t.mem = (r.putRelay p (pl.viewAt view).2 ((ls.drop (8192 * f.tile)).take 8192) f.payload f.poison).mem ∧
        (t.plot p).running = [{ st with relayed := st.relayed ++ [(f.seq, f.tensor, f.tile)] }] ∧
        ((∀ n < ceilDiv ls.length 8192, (f.seq, f.tensor, n) ∈ st.relayed ++ [(f.seq, f.tensor, f.tile)]) →
          (t.plot p).sem (pl.semKey sem) = (r.plot p).sem (pl.semKey sem) + 1) ∧
        ((∃ n < ceilDiv ls.length 8192, (f.seq, f.tensor, n) ∉ st.relayed ++ [(f.seq, f.tensor, f.tile)]) → (t.plot p).sems = (r.plot p).sems) ∧
        (t.port i).rxFrames = (r.port i).rxFrames + 1 ∧ r.otherPlots t p ∧ r.otherPorts t i ∧ r.keepsBut t [.mem, .plots, .ports]))

/-- COMMAND_WATCHDOG, WAIT_LIMIT, TERRACE_TIMEOUT, HEARTBEAT_TIMEOUT, GATEHOUSE_WATCHDOG, LOCK_STEP_MISMATCH and TRNG_HEALTH_FAIL. A
first expiry of a rung resets the unit, a second within ten minutes (6 × 10^10 ticks) fences it. -/
def Obligations.TimeoutLadder : Prop :=
  (∀ (s : State) (pav : Nat) (q : Queue) (d : QDesc) (rest : List QDesc), s.pavDown pav = false → q ≠ .array →
    (s.pav pav).queue (queueNum q) = d :: rest → isSem d.bytes = false → d.executed = false → d.startTick + 200000 ≤ s.now →
    ∃ t, exec (.commandWatchdog pav q) s = .next t ∧ t.mod.ladderCmd = s.mod.ladderCmd + 1 ∧ t.mod.unitResets = s.mod.unitResets ∧
      (t.pav pav).queue (queueNum q) =
        { d with started := true, executed := true, failed := true, startTick := if d.started then d.startTick else s.now } :: rest ∧
      t.mgmt.errorLog.getLast? = some ({ s.errOf 2 8 0 pav ((s.plot d.plot).stepOf d.plan) with descId := dId d.bytes }, d.plot) ∧
      s.otherPavs t pav ∧ s.otherPlots t d.plot ∧ s.keepsBut t [.mod, .mem, .plots, .bothy, .pavs, .mgmt, .sent]) ∧
  (∀ (s : State) (pav : Nat), s.pavDown pav = false → s.commandLate pav 0 = true →
    ∃ t, exec (.commandWatchdog pav .array) s = .next t ∧ t.mod.ladderCmd = s.mod.ladderCmd + 1 ∧ t.mod.unitResets = s.mod.unitResets ∧
      (t.pav pav).array = (s.pav pav).commands.1.map (fun d => if !isSem d.bytes && !d.executed
        then { d with started := true, executed := true, failed := true, startTick := if d.started then d.startTick else s.now } else d) ++
          (s.pav pav).array.drop (s.pav pav).commands.1.length ∧ s.otherPavs t pav) ∧
  (∀ (s : State) (pav : Nat) (q : Queue), (s.pavDown pav = true ∨ s.commandLate pav (queueNum q) = false) →
    exec (.commandWatchdog pav q) s = .next s) ∧
  (∀ (s : State) (pav : Nat) (q : Queue) (d : QDesc) (rest : List QDesc) (pl : Plan), Heads s pav (queueNum q) 0x30 d rest →
    s.planOf d = some pl → (s.pav pav).context = d.plot →
    (d.started = true → d.startTick + pl.header.waitTicks ≤ s.now + d.waited → ∃ t, exec (.waitLimit pav q) s = .next t ∧ t.mod.ladderWait = s.mod.ladderWait + 1 ∧
      t.mod.unitResets = s.mod.unitResets ∧ t.pav pav = (s.pav pav).headDone (queueNum q) d rest s.now ∧
      (∀ st, (s.plot d.plot).running.find? (fun x => x.plan == d.plan) = some st →
        ∃ x, (t.plot d.plot).running.find? (fun x => x.plan == d.plan) = some x ∧ x.isVoid = true ∧ x.step = st.step) ∧
      t.mgmt.errorLog.getLast? = some ({ s.errOf 3 8 1 pav ((s.plot d.plot).stepOf d.plan) with descId := dId d.bytes }, d.plot) ∧
      s.otherPavs t pav ∧ s.otherPlots t d.plot ∧ s.keepsBut t [.mod, .plots, .bothy, .pavs, .mgmt, .sent]) ∧
    ((d.started = false ∨ s.now + d.waited < d.startTick + pl.header.waitTicks) → exec (.waitLimit pav q) s = .next s)) ∧
  (∀ (h : PlanHeader), h.waitTicks = if h.waitLimit = 0 then 400000000 else h.waitLimit * 100000) ∧
  (∀ (s : State) (pav : Nat), pav < 128 → s.pavDown pav = false → s.mod.warmPending = false → (s.pav pav).lastRetire + 1200000000 ≤ s.now →
    (∃ d ∈ (s.pav pav).array ++ (s.pav pav).rill ++ (s.pav pav).move, d.startTick + 1200000000 ≤ s.now) →
    ∃ t, exec (.terraceTimeout pav) s = .next t ∧ t.mod.ladderTerrace = (if s.mod.ladderTerrace < 65535 then s.mod.ladderTerrace + 1 else s.mod.ladderTerrace) ∧
      (∀ last, s.mod.unitResets.find pav = some last → s.now < last + 60000000000 →
        t.isFenced (.pavilion pav) = true ∧ t.mod.fences.find pav = some (8, 2) ∧ t.pavs = s.pavs) ∧
      ((∀ last, s.mod.unitResets.find pav = some last → last + 60000000000 ≤ s.now) →
        t.pav pav = (s.pav pav).reset s.now ∧ t.mod.unitResets = s.mod.unitResets.set pav s.now ∧
        (if Config.selfTestHolds pav s.now = true then t.mod.fencedPav0 = s.mod.fencedPav0 ∧ t.mod.fencedPav1 = s.mod.fencedPav1
         else t.isFenced (.pavilion pav) = true ∧ t.mod.fences.find pav = some (8, 2)) ∧ s.otherPavs t pav) ∧
      s.otherPlots t (s.pav pav).context ∧ s.keepsBut t [.mod, .plots, .bothy, .pavs, .mgmt, .sent]) ∧
  (∀ (s : State) (pav : Nat), (s.pavDown pav = true ∨ s.now < (s.pav pav).lastRetire + 1200000000 ∨
      ∀ d ∈ (s.pav pav).array ++ (s.pav pav).rill ++ (s.pav pav).move, s.now < d.startTick + 1200000000) →
    exec (.terraceTimeout pav) s = .next s) ∧
  (∀ (v : Pavilion) (now : Nat), v.switchPending = false →
    (v.reset now).par = { Parterre.init with err := v.par.err, owner := v.context } ∧ (v.reset now).reload = v.reloads ∧ (v.reset now).store = [] ∧ (v.reset now).storePoison = [] ∧
    (v.reset now).lastReset = some now ∧ (v.reset now).context = v.context ∧ (∀ d ∈ (v.reset now).array, d.executed = false) ∧
    (∀ g ∈ (v.reset now).gbuf, g.resident = true → g.data = [] ∧ g.poison = [])) ∧
  (∀ (s : State) (u : HwUnit), unitOk u = true → s.bothy.ready = true → unitBeats u = true → s.isFenced u = false → s.mod.warmPending = false →
    s.gatehouse.halted = false →
    ∃ t, exec (.heartbeatTimeout u) s = .next t ∧
      t.mod.ladderHeartbeat = (if s.mod.ladderHeartbeat < 65535 then s.mod.ladderHeartbeat + 1 else s.mod.ladderHeartbeat) ∧
      (∀ i, u = .memoryController i → t.mod.warmPending = true ∧ t.mgmt.warmResets.get 0 2 = s.mgmt.warmResets.get 0 2 + 1 ∧ s.keepsBut t [.mod, .mgmt]) ∧
      (∀ last, (∀ i, u ≠ .memoryController i) → s.mod.unitResets.find (unitKey u) = some last → s.now < last + 60000000000 →
        t.isFenced u = true ∧ t.mod.fences.find (unitKey u) = some (8, 3)) ∧
      ((∀ last, s.mod.unitResets.find (unitKey u) = some last → last + 60000000000 ≤ s.now) → (∀ i, u ≠ .memoryController i) →
        t.mod.unitResets = s.mod.unitResets.set (unitKey u) s.now ∧ t.mod.fencedUnits = s.mod.fencedUnits ∧
        (u = .trellis → ∀ p, (t.plot p).ahead = [] ∧ ∀ st ∈ (t.plot p).running, st.building = none) ∧
        (u = .tierMover → t.mem.moveQueue = s.mem.moving ++ s.mem.moveQueue ∧ t.mem.moving = [] ∧ t.mem.bytes = s.mem.bytes) ∧
        (u = .orangery → t.mem.moveQueue = s.mem.moving.filter (fun x => x.purpose.cls == 2) ++ s.mem.moveQueue ∧
          t.mem.moving = s.mem.moving.filter (fun x => x.purpose.cls != 2)) ∧
        (∀ i, u = .portEngine i → (s.port i).linkUp = true → (t.port i).linkUp = false ∧ (t.port i).peerValid = false) ∧
        (∀ k, u = .terraceSequencer k → ∀ i, t.pav i = if i / 64 = k then (s.pav i).reset s.now else s.pav i) ∧
        (∀ i, u = .cascade i → (∀ p ∈ tenantPlots, (s.plot p).groups = []) → t.plots = s.plots ∧ s.keepsBut t [.mod]))) ∧
  (∀ (s : State) (u : HwUnit), (s.bothy.ready = false ∨ unitBeats u = false ∨ s.isFenced u = true) → exec (.heartbeatTimeout u) s = .next s) ∧
  (∀ (s : State) (pair : Nat),
    (s.gatehouse.halted = false → bitOf s.bothy.pairsUp pair = true → s.mod.warmPending = false → ∃ t, exec (.gatehouseWatchdog pair) s = .next t ∧
      t.mod = { s.mod with ladderGatehouse := if s.mod.ladderGatehouse < 65535 then s.mod.ladderGatehouse + 1 else s.mod.ladderGatehouse, warmPending := true } ∧
      t.mgmt.warmResets.get 0 1 = s.mgmt.warmResets.get 0 1 + 1 ∧ s.keepsBut t [.mod, .mgmt]) ∧
    ((s.gatehouse.halted = true ∨ bitOf s.bothy.pairsUp pair = false) → exec (.gatehouseWatchdog pair) s = .next s)) ∧
  (∀ (s : State) (i : Nat), s.gatehouse.halted = false → s.mod.warmPending = false → ∃ t, exec (.lockStepMismatch (.bothyPair i)) s = .next t ∧
    t.mod = { s.mod with warmPending := true } ∧ t.mgmt.warmResets.get 0 0 = s.mgmt.warmResets.get 0 0 + 1 ∧ s.keepsBut t [.mod, .mgmt]) ∧
  (∀ (s : State), ∃ t, exec (.lockStepMismatch .gatehouse) s = .next t ∧ t.gatehouse = { s.gatehouse with halted := true } ∧
    t.bothy = { s.bothy with ready := false, paused := false, pairsUp := 0, takeOver := none } ∧ t.mod.state = 6 ∧ t.mod.alertLow = true ∧
    (s.mod.state ≠ 6 → t.mod.faultLow = true) ∧ t.plots = State.reset.plots ∧ t.mem = s.mem ∧ (∀ i, (t.port i).linkUp = false)) ∧
  (∀ (s : State) (u : HwUnit), u ≠ .gatehouse → (∀ i, u ≠ .bothyPair i) → exec (.lockStepMismatch u) s = .next s) ∧
  (∀ (s : State), exec .trngHealthFail s = .next { s with
    gatehouse := { s.gatehouse with trngOk := false, err := setFlag s.gatehouse.err 0 } })

/-- With a command at the front of the queue, a step is exec of that command on the state whose queue is the rest; no command touches the
queue, so it is the same of every command. -/
def Obligations.StepRunsFrontCommand : Prop :=
  ∀ (c : Instr) (rest : List Instr) (s : State), s.pending = c :: rest → step s = exec c { s with pending := rest }

/-- The empty queue stands for a tick of the 100 MHz clock (the model's choice: the table has no row for a tick; the assumption log says
so). The counter counts from the module's leaving module reset, with its rails and its reference on, and wraps at 2^64. At the end of a
millisecond the measured energy that no plot is attributed is shared out (R356), which changes accounts alone; and
10 ms after its last packet a recovery session is sent an acknowledgement (R440). -/
def Obligations.IdleTick : Prop :=
  (∀ s : State, s.pending = [] → s.mgmt.recovery.active = false → s.mod.resetHigh = true → s.mod.rails = true → s.mod.refclk = true →
    (s.mod.tick + 1).toNat % 100000 ≠ 0 →
    step s = .next { s with mod := { s.mod with tick := s.mod.tick + 1 } }) ∧
  (∀ s : State, s.pending = [] → s.mgmt.recovery.active = false → s.mod.resetHigh = true → s.mod.rails = true → s.mod.refclk = true →
    (s.mod.tick + 1).toNat % 100000 = 0 →
    ∃ t, step s = .next t ∧ (∀ p, { t.plot p with account := Account.init } = { s.plot p with account := Account.init }) ∧
      { t with plots := s.plots } = { s with mod := { s.mod with tick := s.mod.tick + 1 } } ∧
      ((∀ p ∈ tenantPlots, (s.plot p).state = 0) →
        (t.plot 0).account.energyShare = (s.plot 0).account.energyShare +
          BitVec.ofNat 64 (s.mod.inputWatts - Config.attributedEnergy 0 (s.mod.tick + 1).toNat))) ∧
  (∀ (s : State) (x : RecSession), s.pending = [] → s.mgmt.recovery.active = true → s.mgmt.recovery.session = some x →
    s.mod.resetHigh = true → s.mod.rails = true → s.mod.refclk = true → (s.mod.tick + 1).toNat % 100000 ≠ 0 →
    (x.lastTick + 1000000 = (s.mod.tick + 1).toNat → x.packets % 16 ≠ 0 → x.next ≠ x.len →
      step s = .next { s with mod := { s.mod with tick := s.mod.tick + 1 }, sent := s.sent ++ [.recovery 0x05 x.id (natLE 8 x.next)] }) ∧
    (x.lastTick + 1000000 ≠ (s.mod.tick + 1).toNat →
      step s = .next { s with mod := { s.mod with tick := s.mod.tick + 1 } })) ∧
  (∀ s : State, s.pending = [] → (s.mod.resetHigh = false ∨ s.mod.rails = false ∨ s.mod.refclk = false) → step s = .next s)

/-- Reset memory lists nothing, which is canonical; the model's queue of commands is empty. -/
def Obligations.ResetMeetsInvariant : Prop :=
  Machine.Inv State.reset ∧ State.reset.pending = [] ∧ (∀ a, State.reset.mem.read a = 0)

/-- From every state whose memory is canonical (addresses strictly rising, no entry that reads as an unlisted byte does), whatever
command stands at the front, the next state's memory is canonical. -/
def Obligations.EveryStepKeepsInvariant : Prop :=
  ∀ s t : State, Machine.Inv s → step s = .next t → Machine.Inv t

/-- The module has an effect for every command in every state: what a chapter forbids, it answers with a status or drops. So every step
answers a next state too. -/
def Obligations.NoCommandStops : Prop :=
  (∀ (c : Instr) (s : State), ∃ t, exec c s = .next t) ∧ ∀ s : State, ∃ t, step s = .next t

/-- For 1 to 65,536 members and an exponent byte E at least that of the element: a finite element of magnitude m × 2^e converts to a signed
word of magnitude below 2^(64 − h) in units of 2^L. A sum of at most M such words is their exact sum, below 2^63, in any order. The table
sums of a tile, its own words and its children's, are word by word the sums, in any order of the children. -/
def Obligations.RxSumsAreExact : Prop :=
  (∀ m : Nat, 1 ≤ m → m ≤ 65536 → headroom m = (if m = 1 then 0 else Nat.log2 (m - 1) + 1) + 1) ∧
  (∀ (m e : Nat) (r x : W32), 1 ≤ m → m ≤ 65536 → e ≤ 254 → finite32 x = true → expField x ≤ e →
    (rxIn (rxL e m) r x).toInt.natAbs < 2 ^ (64 - headroom m)) ∧
  (∀ (m : Nat) (ws : List W64), 1 ≤ m → m ≤ 65536 → ws.length ≤ m → (∀ w ∈ ws, w.toInt.natAbs < 2 ^ (64 - headroom m)) →
    ws.sum.toInt = (ws.map BitVec.toInt).sum ∧ (ws.map BitVec.toInt).sum.natAbs < 2 ^ 63 ∧ ∀ vs : List W64, vs.Perm ws → vs.sum = ws.sum) ∧
  (∀ (t : Tile) (cs ds : List Nat) (k : Nat),
    (t.subtotal cs).get 0 k = t.words.get 0 k + (cs.map (fun c => (t.childWords c).get 0 k)).sum ∧
    (ds.Perm cs → (t.subtotal ds).get 0 k = (t.subtotal cs).get 0 k))

/-- A box element (j0, j1, j2, j3) is in bounds exactly when 0 ≤ ORIGIN_d + j_d < DIM_d in each dimension, and then it stands for that
tensor element; two tensors of the same dimensions, whatever their base and strides, agree on it. An element one past the end of a row is
out of bounds though its address lies in the next row. -/
def Obligations.BoxBounds : Prop :=
  (∀ (v : View) (t : Tensor) (j : List Nat),
    ((v.inBounds t j).isSome = true ↔ ∀ d < 4, 0 ≤ v.origins.getD d 0 + (j.getD d 0 : Nat) ∧ v.origins.getD d 0 + (j.getD d 0 : Nat) < (t.dims.getD d 0 : Nat)) ∧
    (∀ i, v.inBounds t j = some i → i.length = 4 ∧ ∀ d < 4, (i.getD d 0 : Int) = v.origins.getD d 0 + (j.getD d 0 : Nat))) ∧
  (∀ (v : View) (t u : Tensor) (j : List Nat), t.dims = u.dims → v.inBounds t j = v.inBounds u j) ∧
  (∀ (s : State) (cx : OpCtx) (v : View) (t : Tensor) (j : List Nat), v.inBounds t j = none →
    s.viewElem cx t v j = { code := v.fill % 2 ^ formatBits t.fmt, scale := 127, poisoned := false }) ∧
  (∀ (v : View) (t : Tensor), v.origins = [0, 0, 0, 0] → t.fmt = 4 → t.strides.getD 1 0 = t.dims.getD 0 0 →
    v.inBounds t [t.dims.getD 0 0, 0, 0, 0] = none ∧
    t.rowAddr [0, 0, 0, 0] + (elemPlace t.fmt (t.dims.getD 0 0)).1 = t.rowAddr [0, 1, 0, 0])

/-- For every format, of 32, 16, 8, 6 or 4 bits: after a box of a tensor in local store is written, each element in bounds reads as the code
written, cut to the format's width, and each element of the tensor outside the box reads as before. Rows must not overlap, nor the scale
plane of an MX format the rows (R138 refuses other tensors). -/
def Obligations.LocalStoreBoxes : Prop :=
  ∀ (s t : State) (cx : OpCtx) (x : Tensor) (v : View) (es : List Elem), x.mem = 3 → es.length = v.size →
    (∀ i j : List Nat, (∀ d < 4, i.getD d 0 < x.dims.getD d 0) → (∀ d < 4, j.getD d 0 < x.dims.getD d 0) →
      (i.getD 1 0 = j.getD 1 0 ∧ i.getD 2 0 = j.getD 2 0 ∧ i.getD 3 0 = j.getD 3 0) ∨
      x.rowAddr i + rowBytes x.fmt (x.dims.getD 0 0) ≤ x.rowAddr j ∨ x.rowAddr j + rowBytes x.fmt (x.dims.getD 0 0) ≤ x.rowAddr i) →
    (isMx x.fmt = true → ∀ i j : List Nat, (∀ d < 4, i.getD d 0 < x.dims.getD d 0) → (∀ d < 4, j.getD d 0 < x.dims.getD d 0) →
      x.scaleAddr i < x.rowAddr j ∨ x.rowAddr j + rowBytes x.fmt (x.dims.getD 0 0) ≤ x.scaleAddr i) →
    t = s.commitStore cx.pav (s.stageBox cx x v es Staged.none) →
    (∀ (n : Nat) (e : Elem) (i : List Nat), n < v.size → es[n]? = some e → v.inBounds x (v.index n) = some i →
      (t.tensorElem cx x i).code = e.code % 2 ^ formatBits x.fmt) ∧
    (∀ i : List Nat, i.length = 4 → (∀ d < 4, i.getD d 0 < x.dims.getD d 0) → (∀ n < v.size, v.inBounds x (v.index n) ≠ some i) →
      (t.tensorElem cx x i).code = (s.tensorElem cx x i).code) ∧
    s.otherPavs t cx.pav ∧ s.keepsBut t [.pavs]

/-- The controller (stacks 0 to 11, then the 24 channels as 12 to 35) and the local address of every address of the HBM ranges and of the
Cold Frame; and each local address below 80 GiB of each stack belongs to exactly one address of the map, and none above. -/
def Obligations.MemoryInterleaving : Prop :=
  (∀ T o : Nat, T < 2 → o < 480 * 2 ^ 30 →
    controllerOf (T * (480 * 2 ^ 30) + o) = 6 * T + o / 4096 % 6 ∧
    localAddress (T * (480 * 2 ^ 30) + o) = o / 4096 / 6 * 4096 + o % 4096) ∧
  (∀ o : Nat, o < 1152 * 2 ^ 30 →
    controllerOf (0x10000000000 + o) = 12 + o / 4096 % 24 ∧ localAddress (0x10000000000 + o) = o / 4096 / 24 * 4096 + o % 4096) ∧
  (∀ a : Nat, isHbm a = true → controllerOf a < 12 ∧ localAddress a < 80 * 2 ^ 30) ∧
  (∀ stack l : Nat, stack < 12 → l < 80 * 2 ^ 30 →
    ∃ a, isHbm a = true ∧ controllerOf a = stack ∧ localAddress a = l ∧
      ∀ b, isHbm b = true → controllerOf b = stack → localAddress b = l → b = a)

/-- Each request either posts ST_OK records alone, or is refused with a status of its rows in Table PLT-10, and then its completion is all
that changes. A wrong LENGTH, and PLOT_OPEN or PLOT_CLOSE posted outside plot 0's area, are refused as the slot is taken, so they
never reach the commands; ST_TIMEOUT is MESSAGE_TIMEOUT's (R366, R342, Table ERR-4). -/
def Obligations.RefusedPlotMessages : Prop :=
  (∀ (s : State) (p op : Nat) (c : Instr) (refusals : List Nat) (r : Req) (banks : List SramBank),
    (op, c, refusals) ∈ [(opPlotOpen, .plotOpen, [stNotPermitted, stNoMemory, stShareExceeded]), (opPlotClose, (.plotClose banks), [stNotPermitted])] ∧ p = 0 ∨
      (op, c, refusals) ∈ [(opAccountRead, .accountReadPlot p, [stNotPermitted]), (opAccountRead, .accountReadAdapter p, [stNotPermitted])] →
    Turn s p op r →
    ∃ t, exec c s = .next t ∧
      ((∀ x ∈ (t.plot p).mail.backlog, x ∈ (s.plot p).mail.backlog ∨ x.opcode ≠ op ∨ x.status = 0) ∨
       ∃ st ∈ refusals, t.plot p = (s.plot p).answered r st 0 0 [] ∧ s.otherPlots t p ∧ s.keepsBut t [.plots])) ∧
  (∀ (s : State) (r : Req) (banks : List SramBank), (Turn s 0 opPlotOpen r ∧ (fieldAt r.payload 0 1 = 0 ∨ 16 < fieldAt r.payload 0 1 ∨ (s.plot (fieldAt r.payload 0 1)).state ≠ 0) →
      ∃ t, exec .plotOpen s = .next t ∧ t.plot 0 = (s.plot 0).answered r stNotPermitted 0 0 [] ∧ s.otherPlots t 0 ∧ s.keepsBut t [.plots]) ∧
    (Turn s 0 opPlotClose r ∧ (fieldAt r.payload 0 1 = 0 ∨ 16 < fieldAt r.payload 0 1 ∨ (s.plot (fieldAt r.payload 0 1)).state = 0) →
      ∃ t, exec (.plotClose banks) s = .next t ∧ t.plot 0 = (s.plot 0).answered r stNotPermitted 0 0 [] ∧ s.otherPlots t 0 ∧ s.keepsBut t [.plots])) ∧
  (∀ (s : State) (p : Nat) (r : Req), Turn s p opAccountRead r → fieldAt r.payload 8 4 = 0 →
    (fieldAt r.payload 0 1 = 0 → ∃ t, exec (.accountReadPlot p) s = .next t ∧ t.plot p = (s.plot p).answered r stNotPermitted 0 0 [] ∧
      s.otherPlots t p ∧ s.keepsBut t [.plots]) ∧
    (fieldAt r.payload 0 1 = 1 → ∃ t, exec (.accountReadAdapter p) s = .next t ∧ t.plot p = (s.plot p).answered r stNotPermitted 0 0 [] ∧
      s.otherPlots t p ∧ s.keepsBut t [.plots]))

/-- The scan of a tile without poison, the exponent of a subnormal or a zero, the join of wave entries over any members in any order, the
conversion with the wave's exponent, and the bound: a finite element of exponent field e is m × 2^k with m × 2^(k + 149) < 2^(e + 23) (both
sides times 2^149), and L + 64 − h is E − 126. An element that the tile does not list is +0.0. -/
def Obligations.ExponentOfATile : Prop :=
  (∀ t : Tile, t.poison = [] →
    (∀ x ∈ t.data, finite32 x.2 = true → expField x.2 ≤ t.scan.e) ∧
    (t.scan.e = 0 ∨ ∃ x ∈ t.data, finite32 x.2 = true ∧ expField x.2 = t.scan.e)) ∧
  (∀ x : W32, x.toNat % 2 ^ 31 < 2 ^ 23 → expField x = 0) ∧
  (∀ (w : WaveEntry) (ws : List WaveEntry),
    (∀ x ∈ w :: ws, x.e ≤ (ws.foldl WaveEntry.join w).e) ∧ (∃ x ∈ w :: ws, x.e = (ws.foldl WaveEntry.join w).e)) ∧
  (∀ (t : Tile) (seed step rank m : Nat) (w : WaveEntry) (x : Nat × W32), x ∈ t.data → t.poison = [] →
    (x.1, rxIn (rxL w.e m) (t.word seed step rank x.1) x.2) ∈ t.convert seed step rank m w) ∧
  (∀ x : W32, finite32 x = true → ∃ neg m k, f32 x = .fin neg m k ∧ -149 ≤ k ∧ m * 2 ^ (k + 149).toNat < 2 ^ (expField x + 23)) ∧
  (∀ e m : Nat, rxL e m + 64 - headroom m = (e : Int) - 126)

/-- The descriptor checks of PLAN_LOAD (R106, R380). A flawed plan is refused with the code, the descriptor and the
place of its first flaw, and memory is as it was; an accepted one has no descriptor that breaks a check. In a training plan a
written view of a base weight breaks one (R179); so does a COPY whose block needs more credits than a write queue holds
(R18), and a STREAM whose tensor stands in another format than the descriptor's (R35), for which the model chooses the
code DE_TENSOR_CLASS, INT8 tensors with and without a zero point apart (log 115). -/
def Obligations.PlanChecks : Prop :=
  (∀ (s : State) (p : Nat) (r : Req) (b : Binding) (x : Mem × List Run × List Nat) (f : Flaw),
    Turn s p opPlanLoad r →
    s.inWindows p (fieldAt r.payload 0 8) (max (fieldAt r.payload 8 8) 1) = true →
    (s.plot p).binding = some b →
    let im := s.mem.readBytes (fieldAt r.payload 0 8) (fieldAt r.payload 8 8)
    let h := parseHeader im
    let dir := directory im (min h.sections 519)
    let pl := buildPlan im ((s.plot p).nextPlan + 1) (fieldAt r.payload 0x10 8)
    firstChecks im (fieldAt r.payload 8 8) = none →
    h.baseFp = b.fp ∧ h.firstLayer = b.firstLayer ∧ h.lastLayer = b.lastLayer →
    s.groupsCheck p h = none → s.needFenced h.need = false → s.planResources p h dir = some x →
    s.headerChecks p b im = none → directoryFlaw dir (fieldAt r.payload 8 8) = none →
    s.descFlaw p pl = some f →
    ∃ t, exec (.planLoad p) s = .next t ∧ t.plot p = (s.plot p).answered r f.status f.dcode f.detail f.body ∧
      s.otherPlots t p ∧ s.keepsBut t [.plots]) ∧
  (∀ (s : State) (p : Nat) (pl : Plan) (e : Nat × List Bytes) (k : Nat), s.descFlaw p pl = none → e ∈ pl.streams →
    k < e.2.length →
    s.descCodes p pl pl.spanSignals (e.1 / 3) (e.1 % 3) k (e.2.getD k []) (e.2.getD (k + 1) []) = []) ∧
  (∀ (s : State) (p : Nat) (pl : Plan) (inSpan : Bool) (u : Use) (v : Bytes), pl.header.workload = 0 → u.dest = true →
    u.index ≠ noView → pl.views[u.index]? = some v →
    (s.plot p).isBase pl (parseView v).tensor = false ∨ 0x0A ∈ s.useCodes p pl inSpan u) ∧
  (∀ (s : State) (p : Nat) (pl : Plan) (signals : List Nat) (pav i : Nat) (d next : Bytes), dType d = 0x20 →
    pl.reservationHolds (fieldAt d 0x0C 4) = false → 0x09 ∈ s.descCodes p pl signals pav 2 i d next) ∧
  (∀ (s : State) (p : Nat) (pl : Plan) (signals : List Nat) (pav i : Nat) (d next : Bytes), dType d = 2 →
    (pl.viewAt (fieldAt d 8 4)).2.fmt ≠ fieldAt d 0x0C 1 →
    ¬((pl.viewAt (fieldAt d 8 4)).2.fmt ∈ [4, 5] ∧ fieldAt d 0x0C 1 ∈ [4, 5]) →
    0x08 ∈ s.descCodes p pl signals pav 0 i d next)

/-- The checks of R215 and R216: what a checked transfer delivers, that they catch a change of one byte or of one bit, after
which the retry gives the same bits (R214), and that the residues that an adder carries are those of its sums. -/
def Obligations.TransferChecks : Prop :=
  (∀ (ws d : NMap W64) (ups : Upsets) (n : Nat), crcTransfer ws ups = some (d, n) →
    n ≤ 3 ∧ d = hitBytes ws (ups.getD n []) ∧ crc32c (tileBytes d) = crc32c (tileBytes ws) ∧
    ∀ k < n, crc32c (tileBytes (hitBytes ws (ups.getD k []))) ≠ crc32c (tileBytes ws)) ∧
  (∀ (ws : NMap W64) (ups : Upsets), crcTransfer ws ups = none ↔
    ∀ k < 4, crc32c (tileBytes (hitBytes ws (ups.getD k []))) ≠ crc32c (tileBytes ws)) ∧
  (∀ (ws : NMap W64) (byte change : Nat), byte < 65536 → change % 256 ≠ 0 → crcTransfer ws [[(byte, change)]] = some (ws, 1)) ∧
  (∀ (ws : NMap W64) (carried : Nat → List Nat) (word bit : Nat), word < 8192 → bit < 64 → (∀ i < 16, carried i = residuesOf ws i) →
    checkedSum ws carried [] = some (ws, 0) ∧ checkedSum ws carried [[(word, 2 ^ bit)]] = some (ws, 1) ∧
    checkedSum ws carried (List.replicate 4 [(word, 2 ^ bit)]) = none) ∧
  (∀ (a b : NMap W64) (i : Nat), (b.map (·.1)).Nodup →
    (∀ k, -(2 ^ 63 : Int) ≤ (a.get 0 k).toInt + (b.get 0 k).toInt ∧ (a.get 0 k).toInt + (b.get 0 k).toInt < 2 ^ 63) →
    residuesOf (addWords a b) i = addResidues (residuesOf a i) (residuesOf b i))

/-- The frames of a relay transfer, and how far its batches go: all that is left, or whole batches up to the first that finds no
buffers. -/
def Obligations.RelaySending : Prop :=
  (∀ (s : State) (p : Nat) (g : Group) (st : Step) (pl : Plan) (r : RelaySend) (ls : List Loc),
    ls = s.viewPlaces { plot := p, pav := 0, lanes := [] } (pl.viewAt r.view).2 (pl.viewAt r.view).1 →
    ((s.relayFrames p g st pl r).map (·.payload)).flatten = ls.map (s.locByte 0) ∧
    ∀ (i : Nat) (f : Frame), (s.relayFrames p g st pl r)[i]? = some f →
      f.kind = 5 ∧ f.vc = 3 ∧ f.step = st.step ∧ f.groupId = g.groupId ∧ f.generation = g.generation ∧ f.seq = r.microbatch ∧
      f.tensor = r.tensor ∧ f.tile = i ∧ f.frameIdx = i % 8 ∧ f.frameIdx < f.frameCnt ∧ f.frameCnt ≤ 8 ∧
      0 < f.payload.length ∧ f.payload.length ≤ 8192 ∧
      (f.poison = true ↔ ∃ x ∈ (ls.drop (8192 * i)).take 8192, s.locPoison 0 x = true)) ∧
  (∀ (s t : State) (p dest n : Nat) (route : List Nat) (fs : List Frame), s.sendBatches p dest route fs.length fs = (t, n) →
    n ≤ fs.length ∧ (n = fs.length ∨ (n % 8 = 0 ∧ t.creditsFree p dest route ((fs.drop n).take 8) = false)) ∧
    t.sent.length = s.sent.length + n ∧ s.keepsBut t [.plots, .ports, .sent] ∧ s.otherPlots t p)
end

