-- ==== Sys2Proof/Laws/State.lean ====
section
/-! SUPPORT. What each update of the state leaves in each field: one lemma per field per update, and the tables that
the state is made of. -/

namespace Sys2Proof.Machine

/-! ### State.updPlot -/

@[simp] theorem State.updPlot_pending (s : State) (p : Nat) (f : Plot → Plot) : (s.updPlot p f).pending = s.pending := rfl
@[simp] theorem State.updPlot_mod (s : State) (p : Nat) (f : Plot → Plot) : (s.updPlot p f).mod = s.mod := rfl
@[simp] theorem State.updPlot_mem (s : State) (p : Nat) (f : Plot → Plot) : (s.updPlot p f).mem = s.mem := rfl
@[simp] theorem State.updPlot_plots (s : State) (p : Nat) (f : Plot → Plot) : (s.updPlot p f).plots = s.plots.modify Plot.init p f := rfl
@[simp] theorem State.updPlot_bothy (s : State) (p : Nat) (f : Plot → Plot) : (s.updPlot p f).bothy = s.bothy := rfl
@[simp] theorem State.updPlot_pavs (s : State) (p : Nat) (f : Plot → Plot) : (s.updPlot p f).pavs = s.pavs := rfl
@[simp] theorem State.updPlot_engines (s : State) (p : Nat) (f : Plot → Plot) : (s.updPlot p f).engines = s.engines := rfl
@[simp] theorem State.updPlot_ports (s : State) (p : Nat) (f : Plot → Plot) : (s.updPlot p f).ports = s.ports := rfl
@[simp] theorem State.updPlot_orangery (s : State) (p : Nat) (f : Plot → Plot) : (s.updPlot p f).orangery = s.orangery := rfl
@[simp] theorem State.updPlot_trellis (s : State) (p : Nat) (f : Plot → Plot) : (s.updPlot p f).trellis = s.trellis := rfl
@[simp] theorem State.updPlot_gatehouse (s : State) (p : Nat) (f : Plot → Plot) : (s.updPlot p f).gatehouse = s.gatehouse := rfl
@[simp] theorem State.updPlot_host (s : State) (p : Nat) (f : Plot → Plot) : (s.updPlot p f).host = s.host := rfl
@[simp] theorem State.updPlot_mgmt (s : State) (p : Nat) (f : Plot → Plot) : (s.updPlot p f).mgmt = s.mgmt := rfl
@[simp] theorem State.updPlot_free (s : State) (p : Nat) (f : Plot → Plot) : (s.updPlot p f).free = s.free := rfl
@[simp] theorem State.updPlot_sent (s : State) (p : Nat) (f : Plot → Plot) : (s.updPlot p f).sent = s.sent := rfl

/-! ### State.updPav -/

@[simp] theorem State.updPav_pending (s : State) (i : Nat) (f : Pavilion → Pavilion) : (s.updPav i f).pending = s.pending := rfl
@[simp] theorem State.updPav_mod (s : State) (i : Nat) (f : Pavilion → Pavilion) : (s.updPav i f).mod = s.mod := rfl
@[simp] theorem State.updPav_mem (s : State) (i : Nat) (f : Pavilion → Pavilion) : (s.updPav i f).mem = s.mem := rfl
@[simp] theorem State.updPav_plots (s : State) (i : Nat) (f : Pavilion → Pavilion) : (s.updPav i f).plots = s.plots := rfl
@[simp] theorem State.updPav_bothy (s : State) (i : Nat) (f : Pavilion → Pavilion) : (s.updPav i f).bothy = s.bothy := rfl
@[simp] theorem State.updPav_pavs (s : State) (i : Nat) (f : Pavilion → Pavilion) : (s.updPav i f).pavs = s.pavs.modify Pavilion.init i f := rfl
@[simp] theorem State.updPav_engines (s : State) (i : Nat) (f : Pavilion → Pavilion) : (s.updPav i f).engines = s.engines := rfl
@[simp] theorem State.updPav_ports (s : State) (i : Nat) (f : Pavilion → Pavilion) : (s.updPav i f).ports = s.ports := rfl
@[simp] theorem State.updPav_orangery (s : State) (i : Nat) (f : Pavilion → Pavilion) : (s.updPav i f).orangery = s.orangery := rfl
@[simp] theorem State.updPav_trellis (s : State) (i : Nat) (f : Pavilion → Pavilion) : (s.updPav i f).trellis = s.trellis := rfl
@[simp] theorem State.updPav_gatehouse (s : State) (i : Nat) (f : Pavilion → Pavilion) : (s.updPav i f).gatehouse = s.gatehouse := rfl
@[simp] theorem State.updPav_host (s : State) (i : Nat) (f : Pavilion → Pavilion) : (s.updPav i f).host = s.host := rfl
@[simp] theorem State.updPav_mgmt (s : State) (i : Nat) (f : Pavilion → Pavilion) : (s.updPav i f).mgmt = s.mgmt := rfl
@[simp] theorem State.updPav_free (s : State) (i : Nat) (f : Pavilion → Pavilion) : (s.updPav i f).free = s.free := rfl
@[simp] theorem State.updPav_sent (s : State) (i : Nat) (f : Pavilion → Pavilion) : (s.updPav i f).sent = s.sent := rfl

/-! ### State.updEngine -/

@[simp] theorem State.updEngine_pending (s : State) (i : Nat) (f : Engine → Engine) : (s.updEngine i f).pending = s.pending := rfl
@[simp] theorem State.updEngine_mod (s : State) (i : Nat) (f : Engine → Engine) : (s.updEngine i f).mod = s.mod := rfl
@[simp] theorem State.updEngine_mem (s : State) (i : Nat) (f : Engine → Engine) : (s.updEngine i f).mem = s.mem := rfl
@[simp] theorem State.updEngine_plots (s : State) (i : Nat) (f : Engine → Engine) : (s.updEngine i f).plots = s.plots := rfl
@[simp] theorem State.updEngine_bothy (s : State) (i : Nat) (f : Engine → Engine) : (s.updEngine i f).bothy = s.bothy := rfl
@[simp] theorem State.updEngine_pavs (s : State) (i : Nat) (f : Engine → Engine) : (s.updEngine i f).pavs = s.pavs := rfl
@[simp] theorem State.updEngine_engines (s : State) (i : Nat) (f : Engine → Engine) : (s.updEngine i f).engines = s.engines.modify Engine.init i f := rfl
@[simp] theorem State.updEngine_ports (s : State) (i : Nat) (f : Engine → Engine) : (s.updEngine i f).ports = s.ports := rfl
@[simp] theorem State.updEngine_orangery (s : State) (i : Nat) (f : Engine → Engine) : (s.updEngine i f).orangery = s.orangery := rfl
@[simp] theorem State.updEngine_trellis (s : State) (i : Nat) (f : Engine → Engine) : (s.updEngine i f).trellis = s.trellis := rfl
@[simp] theorem State.updEngine_gatehouse (s : State) (i : Nat) (f : Engine → Engine) : (s.updEngine i f).gatehouse = s.gatehouse := rfl
@[simp] theorem State.updEngine_host (s : State) (i : Nat) (f : Engine → Engine) : (s.updEngine i f).host = s.host := rfl
@[simp] theorem State.updEngine_mgmt (s : State) (i : Nat) (f : Engine → Engine) : (s.updEngine i f).mgmt = s.mgmt := rfl
@[simp] theorem State.updEngine_free (s : State) (i : Nat) (f : Engine → Engine) : (s.updEngine i f).free = s.free := rfl
@[simp] theorem State.updEngine_sent (s : State) (i : Nat) (f : Engine → Engine) : (s.updEngine i f).sent = s.sent := rfl

/-! ### State.updPort -/

@[simp] theorem State.updPort_pending (s : State) (i : Nat) (f : Port → Port) : (s.updPort i f).pending = s.pending := rfl
@[simp] theorem State.updPort_mod (s : State) (i : Nat) (f : Port → Port) : (s.updPort i f).mod = s.mod := rfl
@[simp] theorem State.updPort_mem (s : State) (i : Nat) (f : Port → Port) : (s.updPort i f).mem = s.mem := rfl
@[simp] theorem State.updPort_plots (s : State) (i : Nat) (f : Port → Port) : (s.updPort i f).plots = s.plots := rfl
@[simp] theorem State.updPort_bothy (s : State) (i : Nat) (f : Port → Port) : (s.updPort i f).bothy = s.bothy := rfl
@[simp] theorem State.updPort_pavs (s : State) (i : Nat) (f : Port → Port) : (s.updPort i f).pavs = s.pavs := rfl
@[simp] theorem State.updPort_engines (s : State) (i : Nat) (f : Port → Port) : (s.updPort i f).engines = s.engines := rfl
@[simp] theorem State.updPort_ports (s : State) (i : Nat) (f : Port → Port) : (s.updPort i f).ports = s.ports.modify Port.init i f := rfl
@[simp] theorem State.updPort_orangery (s : State) (i : Nat) (f : Port → Port) : (s.updPort i f).orangery = s.orangery := rfl
@[simp] theorem State.updPort_trellis (s : State) (i : Nat) (f : Port → Port) : (s.updPort i f).trellis = s.trellis := rfl
@[simp] theorem State.updPort_gatehouse (s : State) (i : Nat) (f : Port → Port) : (s.updPort i f).gatehouse = s.gatehouse := rfl
@[simp] theorem State.updPort_host (s : State) (i : Nat) (f : Port → Port) : (s.updPort i f).host = s.host := rfl
@[simp] theorem State.updPort_mgmt (s : State) (i : Nat) (f : Port → Port) : (s.updPort i f).mgmt = s.mgmt := rfl
@[simp] theorem State.updPort_free (s : State) (i : Nat) (f : Port → Port) : (s.updPort i f).free = s.free := rfl
@[simp] theorem State.updPort_sent (s : State) (i : Nat) (f : Port → Port) : (s.updPort i f).sent = s.sent := rfl

/-! ### State.updMem -/

@[simp] theorem State.updMem_pending (s : State) (f : Mem → Mem) : (s.updMem f).pending = s.pending := rfl
@[simp] theorem State.updMem_mod (s : State) (f : Mem → Mem) : (s.updMem f).mod = s.mod := rfl
@[simp] theorem State.updMem_mem (s : State) (f : Mem → Mem) : (s.updMem f).mem = f s.mem := rfl
@[simp] theorem State.updMem_plots (s : State) (f : Mem → Mem) : (s.updMem f).plots = s.plots := rfl
@[simp] theorem State.updMem_bothy (s : State) (f : Mem → Mem) : (s.updMem f).bothy = s.bothy := rfl
@[simp] theorem State.updMem_pavs (s : State) (f : Mem → Mem) : (s.updMem f).pavs = s.pavs := rfl
@[simp] theorem State.updMem_engines (s : State) (f : Mem → Mem) : (s.updMem f).engines = s.engines := rfl
@[simp] theorem State.updMem_ports (s : State) (f : Mem → Mem) : (s.updMem f).ports = s.ports := rfl
@[simp] theorem State.updMem_orangery (s : State) (f : Mem → Mem) : (s.updMem f).orangery = s.orangery := rfl
@[simp] theorem State.updMem_trellis (s : State) (f : Mem → Mem) : (s.updMem f).trellis = s.trellis := rfl
@[simp] theorem State.updMem_gatehouse (s : State) (f : Mem → Mem) : (s.updMem f).gatehouse = s.gatehouse := rfl
@[simp] theorem State.updMem_host (s : State) (f : Mem → Mem) : (s.updMem f).host = s.host := rfl
@[simp] theorem State.updMem_mgmt (s : State) (f : Mem → Mem) : (s.updMem f).mgmt = s.mgmt := rfl
@[simp] theorem State.updMem_free (s : State) (f : Mem → Mem) : (s.updMem f).free = s.free := rfl
@[simp] theorem State.updMem_sent (s : State) (f : Mem → Mem) : (s.updMem f).sent = s.sent := rfl

/-! ### State.updMod -/

@[simp] theorem State.updMod_pending (s : State) (f : Mod → Mod) : (s.updMod f).pending = s.pending := rfl
@[simp] theorem State.updMod_mod (s : State) (f : Mod → Mod) : (s.updMod f).mod = f s.mod := rfl
@[simp] theorem State.updMod_mem (s : State) (f : Mod → Mod) : (s.updMod f).mem = s.mem := rfl
@[simp] theorem State.updMod_plots (s : State) (f : Mod → Mod) : (s.updMod f).plots = s.plots := rfl
@[simp] theorem State.updMod_bothy (s : State) (f : Mod → Mod) : (s.updMod f).bothy = s.bothy := rfl
@[simp] theorem State.updMod_pavs (s : State) (f : Mod → Mod) : (s.updMod f).pavs = s.pavs := rfl
@[simp] theorem State.updMod_engines (s : State) (f : Mod → Mod) : (s.updMod f).engines = s.engines := rfl
@[simp] theorem State.updMod_ports (s : State) (f : Mod → Mod) : (s.updMod f).ports = s.ports := rfl
@[simp] theorem State.updMod_orangery (s : State) (f : Mod → Mod) : (s.updMod f).orangery = s.orangery := rfl
@[simp] theorem State.updMod_trellis (s : State) (f : Mod → Mod) : (s.updMod f).trellis = s.trellis := rfl
@[simp] theorem State.updMod_gatehouse (s : State) (f : Mod → Mod) : (s.updMod f).gatehouse = s.gatehouse := rfl
@[simp] theorem State.updMod_host (s : State) (f : Mod → Mod) : (s.updMod f).host = s.host := rfl
@[simp] theorem State.updMod_mgmt (s : State) (f : Mod → Mod) : (s.updMod f).mgmt = s.mgmt := rfl
@[simp] theorem State.updMod_free (s : State) (f : Mod → Mod) : (s.updMod f).free = s.free := rfl
@[simp] theorem State.updMod_sent (s : State) (f : Mod → Mod) : (s.updMod f).sent = s.sent := rfl

/-! ### State.updMail -/

@[simp] theorem State.updMail_pending (s : State) (p : Nat) (f : Mailbox → Mailbox) : (s.updMail p f).pending = s.pending := rfl
@[simp] theorem State.updMail_mod (s : State) (p : Nat) (f : Mailbox → Mailbox) : (s.updMail p f).mod = s.mod := rfl
@[simp] theorem State.updMail_mem (s : State) (p : Nat) (f : Mailbox → Mailbox) : (s.updMail p f).mem = s.mem := rfl
@[simp] theorem State.updMail_plots (s : State) (p : Nat) (f : Mailbox → Mailbox) : (s.updMail p f).plots = s.plots.modify Plot.init p (fun q => { q with mail := f q.mail }) := rfl
@[simp] theorem State.updMail_bothy (s : State) (p : Nat) (f : Mailbox → Mailbox) : (s.updMail p f).bothy = s.bothy := rfl
@[simp] theorem State.updMail_pavs (s : State) (p : Nat) (f : Mailbox → Mailbox) : (s.updMail p f).pavs = s.pavs := rfl
@[simp] theorem State.updMail_engines (s : State) (p : Nat) (f : Mailbox → Mailbox) : (s.updMail p f).engines = s.engines := rfl
@[simp] theorem State.updMail_ports (s : State) (p : Nat) (f : Mailbox → Mailbox) : (s.updMail p f).ports = s.ports := rfl
@[simp] theorem State.updMail_orangery (s : State) (p : Nat) (f : Mailbox → Mailbox) : (s.updMail p f).orangery = s.orangery := rfl
@[simp] theorem State.updMail_trellis (s : State) (p : Nat) (f : Mailbox → Mailbox) : (s.updMail p f).trellis = s.trellis := rfl
@[simp] theorem State.updMail_gatehouse (s : State) (p : Nat) (f : Mailbox → Mailbox) : (s.updMail p f).gatehouse = s.gatehouse := rfl
@[simp] theorem State.updMail_host (s : State) (p : Nat) (f : Mailbox → Mailbox) : (s.updMail p f).host = s.host := rfl
@[simp] theorem State.updMail_mgmt (s : State) (p : Nat) (f : Mailbox → Mailbox) : (s.updMail p f).mgmt = s.mgmt := rfl
@[simp] theorem State.updMail_free (s : State) (p : Nat) (f : Mailbox → Mailbox) : (s.updMail p f).free = s.free := rfl
@[simp] theorem State.updMail_sent (s : State) (p : Nat) (f : Mailbox → Mailbox) : (s.updMail p f).sent = s.sent := rfl

/-! ### State.charge -/

@[simp] theorem State.charge_pending (s : State) (p : Nat) (f : Account → Account) : (s.charge p f).pending = s.pending := rfl
@[simp] theorem State.charge_mod (s : State) (p : Nat) (f : Account → Account) : (s.charge p f).mod = s.mod := rfl
@[simp] theorem State.charge_mem (s : State) (p : Nat) (f : Account → Account) : (s.charge p f).mem = s.mem := rfl
@[simp] theorem State.charge_plots (s : State) (p : Nat) (f : Account → Account) : (s.charge p f).plots = s.plots.modify Plot.init p (fun q => { q with account := f q.account }) := rfl
@[simp] theorem State.charge_bothy (s : State) (p : Nat) (f : Account → Account) : (s.charge p f).bothy = s.bothy := rfl
@[simp] theorem State.charge_pavs (s : State) (p : Nat) (f : Account → Account) : (s.charge p f).pavs = s.pavs := rfl
@[simp] theorem State.charge_engines (s : State) (p : Nat) (f : Account → Account) : (s.charge p f).engines = s.engines := rfl
@[simp] theorem State.charge_ports (s : State) (p : Nat) (f : Account → Account) : (s.charge p f).ports = s.ports := rfl
@[simp] theorem State.charge_orangery (s : State) (p : Nat) (f : Account → Account) : (s.charge p f).orangery = s.orangery := rfl
@[simp] theorem State.charge_trellis (s : State) (p : Nat) (f : Account → Account) : (s.charge p f).trellis = s.trellis := rfl
@[simp] theorem State.charge_gatehouse (s : State) (p : Nat) (f : Account → Account) : (s.charge p f).gatehouse = s.gatehouse := rfl
@[simp] theorem State.charge_host (s : State) (p : Nat) (f : Account → Account) : (s.charge p f).host = s.host := rfl
@[simp] theorem State.charge_mgmt (s : State) (p : Nat) (f : Account → Account) : (s.charge p f).mgmt = s.mgmt := rfl
@[simp] theorem State.charge_free (s : State) (p : Nat) (f : Account → Account) : (s.charge p f).free = s.free := rfl
@[simp] theorem State.charge_sent (s : State) (p : Nat) (f : Account → Account) : (s.charge p f).sent = s.sent := rfl

/-! ### State.emit -/

@[simp] theorem State.emit_pending (s : State) (o : Sent) : (s.emit o).pending = s.pending := rfl
@[simp] theorem State.emit_mod (s : State) (o : Sent) : (s.emit o).mod = s.mod := rfl
@[simp] theorem State.emit_mem (s : State) (o : Sent) : (s.emit o).mem = s.mem := rfl
@[simp] theorem State.emit_plots (s : State) (o : Sent) : (s.emit o).plots = s.plots := rfl
@[simp] theorem State.emit_bothy (s : State) (o : Sent) : (s.emit o).bothy = s.bothy := rfl
@[simp] theorem State.emit_pavs (s : State) (o : Sent) : (s.emit o).pavs = s.pavs := rfl
@[simp] theorem State.emit_engines (s : State) (o : Sent) : (s.emit o).engines = s.engines := rfl
@[simp] theorem State.emit_ports (s : State) (o : Sent) : (s.emit o).ports = s.ports := rfl
@[simp] theorem State.emit_orangery (s : State) (o : Sent) : (s.emit o).orangery = s.orangery := rfl
@[simp] theorem State.emit_trellis (s : State) (o : Sent) : (s.emit o).trellis = s.trellis := rfl
@[simp] theorem State.emit_gatehouse (s : State) (o : Sent) : (s.emit o).gatehouse = s.gatehouse := rfl
@[simp] theorem State.emit_host (s : State) (o : Sent) : (s.emit o).host = s.host := rfl
@[simp] theorem State.emit_mgmt (s : State) (o : Sent) : (s.emit o).mgmt = s.mgmt := rfl
@[simp] theorem State.emit_free (s : State) (o : Sent) : (s.emit o).free = s.free := rfl
@[simp] theorem State.emit_sent (s : State) (o : Sent) : (s.emit o).sent = s.sent ++ [o] := rfl

/-! ### State.draw -/

@[simp] theorem State.draw_pending (s : State) (w : Nat) : (s.draw w).2.pending = s.pending := rfl
@[simp] theorem State.draw_mod (s : State) (w : Nat) : (s.draw w).2.mod = s.mod := rfl
@[simp] theorem State.draw_mem (s : State) (w : Nat) : (s.draw w).2.mem = s.mem := rfl
@[simp] theorem State.draw_plots (s : State) (w : Nat) : (s.draw w).2.plots = s.plots := rfl
@[simp] theorem State.draw_bothy (s : State) (w : Nat) : (s.draw w).2.bothy = s.bothy := rfl
@[simp] theorem State.draw_pavs (s : State) (w : Nat) : (s.draw w).2.pavs = s.pavs := rfl
@[simp] theorem State.draw_engines (s : State) (w : Nat) : (s.draw w).2.engines = s.engines := rfl
@[simp] theorem State.draw_ports (s : State) (w : Nat) : (s.draw w).2.ports = s.ports := rfl
@[simp] theorem State.draw_orangery (s : State) (w : Nat) : (s.draw w).2.orangery = s.orangery := rfl
@[simp] theorem State.draw_trellis (s : State) (w : Nat) : (s.draw w).2.trellis = s.trellis := rfl
@[simp] theorem State.draw_gatehouse (s : State) (w : Nat) : (s.draw w).2.gatehouse = s.gatehouse := rfl
@[simp] theorem State.draw_host (s : State) (w : Nat) : (s.draw w).2.host = s.host := rfl
@[simp] theorem State.draw_mgmt (s : State) (w : Nat) : (s.draw w).2.mgmt = s.mgmt := rfl
@[simp] theorem State.draw_free (s : State) (w : Nat) : (s.draw w).2.free = s.free + 1 := rfl
@[simp] theorem State.draw_sent (s : State) (w : Nat) : (s.draw w).2.sent = s.sent := rfl

/-! ### State.drawBytes -/

@[simp] theorem State.drawBytes_pending (s : State) (n : Nat) : (s.drawBytes n).2.pending = s.pending := rfl
@[simp] theorem State.drawBytes_mod (s : State) (n : Nat) : (s.drawBytes n).2.mod = s.mod := rfl
@[simp] theorem State.drawBytes_mem (s : State) (n : Nat) : (s.drawBytes n).2.mem = s.mem := rfl
@[simp] theorem State.drawBytes_plots (s : State) (n : Nat) : (s.drawBytes n).2.plots = s.plots := rfl
@[simp] theorem State.drawBytes_bothy (s : State) (n : Nat) : (s.drawBytes n).2.bothy = s.bothy := rfl
@[simp] theorem State.drawBytes_pavs (s : State) (n : Nat) : (s.drawBytes n).2.pavs = s.pavs := rfl
@[simp] theorem State.drawBytes_engines (s : State) (n : Nat) : (s.drawBytes n).2.engines = s.engines := rfl
@[simp] theorem State.drawBytes_ports (s : State) (n : Nat) : (s.drawBytes n).2.ports = s.ports := rfl
@[simp] theorem State.drawBytes_orangery (s : State) (n : Nat) : (s.drawBytes n).2.orangery = s.orangery := rfl
@[simp] theorem State.drawBytes_trellis (s : State) (n : Nat) : (s.drawBytes n).2.trellis = s.trellis := rfl
@[simp] theorem State.drawBytes_gatehouse (s : State) (n : Nat) : (s.drawBytes n).2.gatehouse = s.gatehouse := rfl
@[simp] theorem State.drawBytes_host (s : State) (n : Nat) : (s.drawBytes n).2.host = s.host := rfl
@[simp] theorem State.drawBytes_mgmt (s : State) (n : Nat) : (s.drawBytes n).2.mgmt = s.mgmt := rfl
@[simp] theorem State.drawBytes_free (s : State) (n : Nat) : (s.drawBytes n).2.free = s.free + 1 := rfl
@[simp] theorem State.drawBytes_sent (s : State) (n : Nat) : (s.drawBytes n).2.sent = s.sent := rfl

end Sys2Proof.Machine

namespace Sys2Proof

/-! ### Tables -/

theorem NMap.get_set_self {V : Type} (d v : V) (m : NMap V) (i : Nat) : NMap.get d (m.set i v) i = v := by
  induction m with
  | nil => simp [NMap.set, NMap.get]
  | cons e m ih =>
    obtain ⟨k, w⟩ := e
    simp only [NMap.set]
    split
    · simp [NMap.get]
    · split
      · simp [NMap.get]
      · simp [NMap.get, *]

theorem NMap.get_set_ne {V : Type} (d v : V) (m : NMap V) (i j : Nat) (h : j ≠ i) : NMap.get d (m.set i v) j = NMap.get d m j := by
  induction m with
  | nil => simp [NMap.set, NMap.get, h]
  | cons e m ih =>
    obtain ⟨k, w⟩ := e
    simp only [NMap.set]
    split
    · simp [NMap.get, h]
    · split
      · next hk => subst hk; simp [NMap.get, h]
      · simp [NMap.get, ih]

@[simp] theorem NMap.get_modify_self {V : Type} (d : V) (m : NMap V) (i : Nat) (f : V → V) :
    NMap.get d (m.modify d i f) i = f (NMap.get d m i) := NMap.get_set_self d _ m i

theorem NMap.get_modify_ne {V : Type} (d : V) (m : NMap V) (i j : Nat) (f : V → V) (h : j ≠ i) :
    NMap.get d (m.modify d i f) j = NMap.get d m j := NMap.get_set_ne d _ m i j h

end Sys2Proof

namespace Sys2Proof.Machine

/-- The plot that an update changes. -/
@[simp] theorem State.plot_updPlot_self (s : State) (p : Nat) (f : Plot → Plot) : (s.updPlot p f).plot p = f (s.plot p) :=
  NMap.get_modify_self Plot.init s.plots p f

/-- Every other plot. -/
theorem State.plot_updPlot_ne (s : State) (p q : Nat) (f : Plot → Plot) (h : q ≠ p) : (s.updPlot p f).plot q = s.plot q :=
  NMap.get_modify_ne Plot.init s.plots p q f h

@[simp] theorem State.plot_updMail_self (s : State) (p : Nat) (f : Mailbox → Mailbox) :
    (s.updMail p f).plot p = { s.plot p with mail := f (s.plot p).mail } := State.plot_updPlot_self s p _

theorem State.plot_updMail_ne (s : State) (p q : Nat) (f : Mailbox → Mailbox) (h : q ≠ p) : (s.updMail p f).plot q = s.plot q :=
  State.plot_updPlot_ne s p q _ h

@[simp] theorem State.plot_charge_self (s : State) (p : Nat) (f : Account → Account) :
    (s.charge p f).plot p = { s.plot p with account := f (s.plot p).account } := State.plot_updPlot_self s p _

@[simp] theorem State.pav_updPav_self (s : State) (i : Nat) (f : Pavilion → Pavilion) : (s.updPav i f).pav i = f (s.pav i) :=
  NMap.get_modify_self Pavilion.init s.pavs i f

theorem State.pav_updPav_ne (s : State) (i j : Nat) (f : Pavilion → Pavilion) (h : j ≠ i) : (s.updPav i f).pav j = s.pav j :=
  NMap.get_modify_ne Pavilion.init s.pavs i j f h

@[simp] theorem State.engine_updEngine_self (s : State) (i : Nat) (f : Engine → Engine) : (s.updEngine i f).engine i = f (s.engine i) :=
  NMap.get_modify_self Engine.init s.engines i f

theorem State.engine_updEngine_ne (s : State) (i j : Nat) (f : Engine → Engine) (h : j ≠ i) :
    (s.updEngine i f).engine j = s.engine j := NMap.get_modify_ne Engine.init s.engines i j f h

@[simp] theorem State.port_updPort_self (s : State) (i : Nat) (f : Port → Port) : (s.updPort i f).port i = f (s.port i) :=
  NMap.get_modify_self Port.init s.ports i f

theorem State.port_updPort_ne (s : State) (i j : Nat) (f : Port → Port) (h : j ≠ i) : (s.updPort i f).port j = s.port j :=
  NMap.get_modify_ne Port.init s.ports i j f h

/-! ### What an update of one table leaves of the others -/

@[simp] theorem State.pav_updPlot (s : State) (p : Nat) (f : Plot → Plot) (k : Nat) : (s.updPlot p f).pav k = s.pav k := rfl
@[simp] theorem State.engine_updPlot (s : State) (p : Nat) (f : Plot → Plot) (k : Nat) : (s.updPlot p f).engine k = s.engine k := rfl
@[simp] theorem State.port_updPlot (s : State) (p : Nat) (f : Plot → Plot) (k : Nat) : (s.updPlot p f).port k = s.port k := rfl
@[simp] theorem State.plot_updPav (s : State) (i : Nat) (f : Pavilion → Pavilion) (k : Nat) : (s.updPav i f).plot k = s.plot k := rfl
@[simp] theorem State.engine_updPav (s : State) (i : Nat) (f : Pavilion → Pavilion) (k : Nat) : (s.updPav i f).engine k = s.engine k := rfl
@[simp] theorem State.port_updPav (s : State) (i : Nat) (f : Pavilion → Pavilion) (k : Nat) : (s.updPav i f).port k = s.port k := rfl
@[simp] theorem State.plot_updEngine (s : State) (i : Nat) (f : Engine → Engine) (k : Nat) : (s.updEngine i f).plot k = s.plot k := rfl
@[simp] theorem State.pav_updEngine (s : State) (i : Nat) (f : Engine → Engine) (k : Nat) : (s.updEngine i f).pav k = s.pav k := rfl
@[simp] theorem State.port_updEngine (s : State) (i : Nat) (f : Engine → Engine) (k : Nat) : (s.updEngine i f).port k = s.port k := rfl
@[simp] theorem State.plot_updPort (s : State) (i : Nat) (f : Port → Port) (k : Nat) : (s.updPort i f).plot k = s.plot k := rfl
@[simp] theorem State.pav_updPort (s : State) (i : Nat) (f : Port → Port) (k : Nat) : (s.updPort i f).pav k = s.pav k := rfl
@[simp] theorem State.engine_updPort (s : State) (i : Nat) (f : Port → Port) (k : Nat) : (s.updPort i f).engine k = s.engine k := rfl
@[simp] theorem State.plot_updMem (s : State) (f : Mem → Mem) (k : Nat) : (s.updMem f).plot k = s.plot k := rfl
@[simp] theorem State.pav_updMem (s : State) (f : Mem → Mem) (k : Nat) : (s.updMem f).pav k = s.pav k := rfl
@[simp] theorem State.engine_updMem (s : State) (f : Mem → Mem) (k : Nat) : (s.updMem f).engine k = s.engine k := rfl
@[simp] theorem State.port_updMem (s : State) (f : Mem → Mem) (k : Nat) : (s.updMem f).port k = s.port k := rfl
@[simp] theorem State.plot_updMod (s : State) (f : Mod → Mod) (k : Nat) : (s.updMod f).plot k = s.plot k := rfl
@[simp] theorem State.pav_updMod (s : State) (f : Mod → Mod) (k : Nat) : (s.updMod f).pav k = s.pav k := rfl
@[simp] theorem State.engine_updMod (s : State) (f : Mod → Mod) (k : Nat) : (s.updMod f).engine k = s.engine k := rfl
@[simp] theorem State.port_updMod (s : State) (f : Mod → Mod) (k : Nat) : (s.updMod f).port k = s.port k := rfl
@[simp] theorem State.pav_updMail (s : State) (p : Nat) (f : Mailbox → Mailbox) (k : Nat) : (s.updMail p f).pav k = s.pav k := rfl
@[simp] theorem State.engine_updMail (s : State) (p : Nat) (f : Mailbox → Mailbox) (k : Nat) : (s.updMail p f).engine k = s.engine k := rfl
@[simp] theorem State.port_updMail (s : State) (p : Nat) (f : Mailbox → Mailbox) (k : Nat) : (s.updMail p f).port k = s.port k := rfl
@[simp] theorem State.pav_charge (s : State) (p : Nat) (f : Account → Account) (k : Nat) : (s.charge p f).pav k = s.pav k := rfl
@[simp] theorem State.engine_charge (s : State) (p : Nat) (f : Account → Account) (k : Nat) : (s.charge p f).engine k = s.engine k := rfl
@[simp] theorem State.port_charge (s : State) (p : Nat) (f : Account → Account) (k : Nat) : (s.charge p f).port k = s.port k := rfl
@[simp] theorem State.plot_emit (s : State) (o : Sent) (k : Nat) : (s.emit o).plot k = s.plot k := rfl
@[simp] theorem State.pav_emit (s : State) (o : Sent) (k : Nat) : (s.emit o).pav k = s.pav k := rfl
@[simp] theorem State.engine_emit (s : State) (o : Sent) (k : Nat) : (s.emit o).engine k = s.engine k := rfl
@[simp] theorem State.port_emit (s : State) (o : Sent) (k : Nat) : (s.emit o).port k = s.port k := rfl
@[simp] theorem State.plot_draw (s : State) (w k : Nat) : (s.draw w).2.plot k = s.plot k := rfl
@[simp] theorem State.plot_drawBytes (s : State) (n k : Nat) : (s.drawBytes n).2.plot k = s.plot k := rfl
@[simp] theorem State.pav_draw (s : State) (w k : Nat) : (s.draw w).2.pav k = s.pav k := rfl
@[simp] theorem State.pav_drawBytes (s : State) (n k : Nat) : (s.drawBytes n).2.pav k = s.pav k := rfl
@[simp] theorem State.engine_draw (s : State) (w k : Nat) : (s.draw w).2.engine k = s.engine k := rfl
@[simp] theorem State.engine_drawBytes (s : State) (n k : Nat) : (s.drawBytes n).2.engine k = s.engine k := rfl
@[simp] theorem State.port_draw (s : State) (w k : Nat) : (s.draw w).2.port k = s.port k := rfl
@[simp] theorem State.port_drawBytes (s : State) (n k : Nat) : (s.drawBytes n).2.port k = s.port k := rfl

end Sys2Proof.Machine
end

