-- ==== Sys2Proof/Laws/Completion.lean ====
section
/-! SUPPORT. Requests and records: what serving, completing, refusing and telling a plot do, said once. -/

namespace Sys2Proof.Machine

/-- A command whose turn has come does its work, when the request names its operation. -/
theorem State.serve_turn {s : State} {p opcode : Nat} {r : Req} (h : Turn s p opcode r) (sel : Bytes → Bool)
    (work : Req → State → State) : s.serve p opcode sel work = if sel r.payload = true then work r s else s := by
  simp only [State.serve, h.2.1, h.2.2.1, h.2.2.2, true_and, and_true]

/-- Putting a request into another phase leaves whether its plot is OPEN. -/
@[simp] theorem State.isOpen_setPhase (s : State) (p slot q : Nat) (ph : Phase) : (s.setPhase p slot ph).isOpen q = s.isOpen q := by
  by_cases hq : q = p
  · subst hq; simp [State.isOpen, State.setPhase]
  · simp [State.isOpen, State.setPhase, State.plot_updMail_ne _ _ _ _ hq]

@[simp] theorem State.setPhase_pending (s : State) (p slot : Nat) (ph : Phase) : (s.setPhase p slot ph).pending = s.pending := rfl
@[simp] theorem State.setPhase_mod (s : State) (p slot : Nat) (ph : Phase) : (s.setPhase p slot ph).mod = s.mod := rfl
@[simp] theorem State.setPhase_mem (s : State) (p slot : Nat) (ph : Phase) : (s.setPhase p slot ph).mem = s.mem := rfl
@[simp] theorem State.setPhase_bothy (s : State) (p slot : Nat) (ph : Phase) : (s.setPhase p slot ph).bothy = s.bothy := rfl
@[simp] theorem State.setPhase_pavs (s : State) (p slot : Nat) (ph : Phase) : (s.setPhase p slot ph).pavs = s.pavs := rfl
@[simp] theorem State.setPhase_engines (s : State) (p slot : Nat) (ph : Phase) : (s.setPhase p slot ph).engines = s.engines := rfl
@[simp] theorem State.setPhase_ports (s : State) (p slot : Nat) (ph : Phase) : (s.setPhase p slot ph).ports = s.ports := rfl
@[simp] theorem State.setPhase_orangery (s : State) (p slot : Nat) (ph : Phase) : (s.setPhase p slot ph).orangery = s.orangery := rfl
@[simp] theorem State.setPhase_trellis (s : State) (p slot : Nat) (ph : Phase) : (s.setPhase p slot ph).trellis = s.trellis := rfl
@[simp] theorem State.setPhase_gatehouse (s : State) (p slot : Nat) (ph : Phase) : (s.setPhase p slot ph).gatehouse = s.gatehouse := rfl
@[simp] theorem State.setPhase_host (s : State) (p slot : Nat) (ph : Phase) : (s.setPhase p slot ph).host = s.host := rfl
@[simp] theorem State.setPhase_mgmt (s : State) (p slot : Nat) (ph : Phase) : (s.setPhase p slot ph).mgmt = s.mgmt := rfl
@[simp] theorem State.setPhase_free (s : State) (p slot : Nat) (ph : Phase) : (s.setPhase p slot ph).free = s.free := rfl
@[simp] theorem State.setPhase_sent (s : State) (p slot : Nat) (ph : Phase) : (s.setPhase p slot ph).sent = s.sent := rfl

@[simp] theorem State.post_pending (s : State) (p : Nat) (r : Rec) : (s.post p r).pending = s.pending := by unfold State.post; split <;> rfl
@[simp] theorem State.post_mod (s : State) (p : Nat) (r : Rec) : (s.post p r).mod = s.mod := by unfold State.post; split <;> rfl
@[simp] theorem State.post_mem (s : State) (p : Nat) (r : Rec) : (s.post p r).mem = s.mem := by unfold State.post; split <;> rfl
@[simp] theorem State.post_bothy (s : State) (p : Nat) (r : Rec) : (s.post p r).bothy = s.bothy := by unfold State.post; split <;> rfl
@[simp] theorem State.post_pavs (s : State) (p : Nat) (r : Rec) : (s.post p r).pavs = s.pavs := by unfold State.post; split <;> rfl
@[simp] theorem State.post_engines (s : State) (p : Nat) (r : Rec) : (s.post p r).engines = s.engines := by unfold State.post; split <;> rfl
@[simp] theorem State.post_ports (s : State) (p : Nat) (r : Rec) : (s.post p r).ports = s.ports := by unfold State.post; split <;> rfl
@[simp] theorem State.post_orangery (s : State) (p : Nat) (r : Rec) : (s.post p r).orangery = s.orangery := by unfold State.post; split <;> rfl
@[simp] theorem State.post_trellis (s : State) (p : Nat) (r : Rec) : (s.post p r).trellis = s.trellis := by unfold State.post; split <;> rfl
@[simp] theorem State.post_gatehouse (s : State) (p : Nat) (r : Rec) : (s.post p r).gatehouse = s.gatehouse := by unfold State.post; split <;> rfl
@[simp] theorem State.post_host (s : State) (p : Nat) (r : Rec) : (s.post p r).host = s.host := by unfold State.post; split <;> rfl
@[simp] theorem State.post_mgmt (s : State) (p : Nat) (r : Rec) : (s.post p r).mgmt = s.mgmt := by unfold State.post; split <;> rfl
@[simp] theorem State.post_free (s : State) (p : Nat) (r : Rec) : (s.post p r).free = s.free := by unfold State.post; split <;> rfl
@[simp] theorem State.post_sent (s : State) (p : Nat) (r : Rec) : (s.post p r).sent = s.sent := by unfold State.post; split <;> rfl

@[simp] theorem State.completeWith_pending (s : State) (p : Nat) (r : Req) (a b c : Nat) (d : Bytes) :
    (s.completeWith p r a b c d).pending = s.pending := by simp [State.completeWith]
@[simp] theorem State.completeWith_mod (s : State) (p : Nat) (r : Req) (a b c : Nat) (d : Bytes) :
    (s.completeWith p r a b c d).mod = s.mod := by simp [State.completeWith]
@[simp] theorem State.completeWith_mem (s : State) (p : Nat) (r : Req) (a b c : Nat) (d : Bytes) :
    (s.completeWith p r a b c d).mem = s.mem := by simp [State.completeWith]
@[simp] theorem State.completeWith_bothy (s : State) (p : Nat) (r : Req) (a b c : Nat) (d : Bytes) :
    (s.completeWith p r a b c d).bothy = s.bothy := by simp [State.completeWith]
@[simp] theorem State.completeWith_pavs (s : State) (p : Nat) (r : Req) (a b c : Nat) (d : Bytes) :
    (s.completeWith p r a b c d).pavs = s.pavs := by simp [State.completeWith]
@[simp] theorem State.completeWith_engines (s : State) (p : Nat) (r : Req) (a b c : Nat) (d : Bytes) :
    (s.completeWith p r a b c d).engines = s.engines := by simp [State.completeWith]
@[simp] theorem State.completeWith_ports (s : State) (p : Nat) (r : Req) (a b c : Nat) (d : Bytes) :
    (s.completeWith p r a b c d).ports = s.ports := by simp [State.completeWith]
@[simp] theorem State.completeWith_orangery (s : State) (p : Nat) (r : Req) (a b c : Nat) (d : Bytes) :
    (s.completeWith p r a b c d).orangery = s.orangery := by simp [State.completeWith]
@[simp] theorem State.completeWith_trellis (s : State) (p : Nat) (r : Req) (a b c : Nat) (d : Bytes) :
    (s.completeWith p r a b c d).trellis = s.trellis := by simp [State.completeWith]
@[simp] theorem State.completeWith_gatehouse (s : State) (p : Nat) (r : Req) (a b c : Nat) (d : Bytes) :
    (s.completeWith p r a b c d).gatehouse = s.gatehouse := by simp [State.completeWith]
@[simp] theorem State.completeWith_host (s : State) (p : Nat) (r : Req) (a b c : Nat) (d : Bytes) :
    (s.completeWith p r a b c d).host = s.host := by simp [State.completeWith]
@[simp] theorem State.completeWith_mgmt (s : State) (p : Nat) (r : Req) (a b c : Nat) (d : Bytes) :
    (s.completeWith p r a b c d).mgmt = s.mgmt := by simp [State.completeWith]
@[simp] theorem State.completeWith_free (s : State) (p : Nat) (r : Req) (a b c : Nat) (d : Bytes) :
    (s.completeWith p r a b c d).free = s.free := by simp [State.completeWith]
@[simp] theorem State.completeWith_sent (s : State) (p : Nat) (r : Req) (a b c : Nat) (d : Bytes) :
    (s.completeWith p r a b c d).sent = s.sent := by simp [State.completeWith]

theorem State.ok_eq (s : State) (p : Nat) (r : Req) (body : Bytes) : s.ok p r body = s.completeWith p r 0 0 0 body := rfl

theorem State.refuse_eq (s : State) (p : Nat) (r : Req) (st : Nat) : s.refuse p r st = s.completeWith p r st 0 0 [] := rfl

/-- A completion of an OPEN plot's request: the request is completed and its record stands last in the backlog. -/
theorem State.plot_completeWith_self (s : State) (p : Nat) (r : Req) (a b c : Nat) (d : Bytes) (h : s.isOpen p = true) :
    (s.completeWith p r a b c d).plot p = (s.plot p).answered r a b c d := by
  simp only [State.completeWith, State.post, State.isOpen_setPhase, h, if_true, State.plot_updMail_self]
  simp [State.setPhase, Plot.answered, Mailbox.answered, Mailbox.closed]

/-- A completion leaves every other plot. -/
theorem State.plot_completeWith_ne (s : State) (p q : Nat) (r : Req) (a b c : Nat) (d : Bytes) (h : q ≠ p) :
    (s.completeWith p r a b c d).plot q = s.plot q := by
  simp only [State.completeWith, State.post]
  split <;> simp [State.setPhase, State.plot_updMail_ne _ _ _ _ h]

/-- An unsolicited record of a plot whose backlog has room. -/
theorem State.unsolicited_hears (s : State) (p source : Nat) (body : Bytes) (h : Hears s p) :
    s.unsolicited p source body = s.updMail p (fun m => { m with backlog := m.backlog ++ [unsolicitedRec source body] }) := by
  simp [State.unsolicited, State.post, h.1, h.2]

theorem State.plot_unsolicited_self (s : State) (p source : Nat) (body : Bytes) (h : Hears s p) :
    (s.unsolicited p source body).plot p = (s.plot p).told source body := by
  rw [State.unsolicited_hears s p source body h]; simp [Plot.told]

/-- An unsolicited record leaves every other plot. -/
theorem State.plot_unsolicited_ne (s : State) (p q source : Nat) (body : Bytes) (h : q ≠ p) :
    (s.unsolicited p source body).plot q = s.plot q := by
  unfold State.unsolicited State.post
  split
  · split
    · exact State.plot_updMail_ne _ _ _ _ h
    · rfl
  · split
    · exact State.plot_updMail_ne s p q (fun m => { m with
        lost := m.lost + 1, lostNew := m.lostNew + 1,
        lostFirst := if m.lostNew = 0 then s.mod.tick else m.lostFirst, lostLast := s.mod.tick }) h
    · rfl

end Sys2Proof.Machine
end

