-- ==== Sys2Proof/Laws/Memory.lean ====
section
/-! SUPPORT. Memory: reading after writing, and the canonical form that every operation keeps. -/

namespace Sys2Proof.Machine

/-! ### Reading after writing -/

theorem cellGet_cellPut_self (m : List Host.Cell) (a : Nat) (v : Byte) (h : cellsWf m = true) : cellGet (cellPut m a v) a = v := by
  induction m with
  | nil => unfold cellPut; split <;> simp_all [cellGet]
  | cons c m ih =>
    obtain ⟨k, w⟩ := c
    have hm : cellsWf m = true := by
      cases m with
      | nil => rfl
      | cons d m => simp only [cellsWf, Bool.and_eq_true] at h; exact h.2
    have rise : ∀ (l : List Host.Cell) (b : Nat), (∀ c ∈ l, b < c.1) → cellGet l b = 0 := by
      intro l b hl
      induction l with
      | nil => rfl
      | cons d l ihl =>
        have := hl d (by simp)
        simp only [cellGet]
        rw [if_neg (by omega)]
        exact ihl (fun c hc => hl c (by simp [hc]))
    have above : ∀ (l : List Host.Cell) (c : Host.Cell), cellsWf (c :: l) = true → ∀ d ∈ l, c.1 < d.1 := by
      intro l
      induction l with
      | nil => simp
      | cons e l ihl =>
        intro c hc d hd
        simp only [cellsWf, Bool.and_eq_true, decide_eq_true_eq] at hc
        rcases List.mem_cons.1 hd with rfl | hd
        · exact hc.1.2
        · exact lt_trans hc.1.2 (ihl e hc.2 d hd)
    have hab := above m (k, w) h
    simp only [cellPut]
    split
    · next hlt =>
      split
      · next hv =>
        subst hv
        apply rise
        intro c hc
        rcases List.mem_cons.1 hc with rfl | hc
        · exact hlt
        · exact lt_trans hlt (hab c hc)
      · simp [cellGet]
    · split
      · next heq =>
        subst heq
        split
        · next hv => subst hv; exact rise m a hab
        · simp [cellGet]
      · next h1 h2 => simp only [cellGet, if_neg h2]; exact ih hm

theorem cellGet_cellPut_ne (m : List Host.Cell) (a b : Nat) (v : Byte) (h : b ≠ a) : cellGet (cellPut m a v) b = cellGet m b := by
  induction m with
  | nil => unfold cellPut; split <;> simp_all [cellGet]
  | cons c m ih =>
    obtain ⟨k, w⟩ := c
    simp only [cellPut]
    split
    · split <;> simp_all [cellGet]
    · split
      · next heq => subst heq; split <;> simp_all [cellGet]
      · simp only [cellGet]; rw [ih]

/-! ### The canonical form -/

/-- The canonical form, said of addresses: they rise strictly, and no listed byte is zero. -/
theorem cellsWf_iff (m : List Host.Cell) :
    cellsWf m = true ↔ (m.map (·.1)).Pairwise (· < ·) ∧ ∀ c ∈ m, c.2 ≠ 0 := by
  induction m with
  | nil => simp [cellsWf]
  | cons c m ih =>
    cases m with
    | nil => simp [cellsWf]
    | cons d m =>
      simp only [cellsWf, Bool.and_eq_true, decide_eq_true_eq, bne_iff_ne, ne_eq, ih]
      constructor
      · rintro ⟨⟨h1, h2⟩, h3, h4⟩
        refine ⟨?_, ?_⟩
        · simp only [List.map_cons, List.pairwise_cons] at h3 ⊢
          refine ⟨?_, h3⟩
          intro x hx
          rcases List.mem_cons.1 hx with rfl | hx
          · exact h2
          · exact lt_trans h2 (h3.1 x hx)
        · intro x hx
          rcases List.mem_cons.1 hx with rfl | hx
          · exact h1
          · exact h4 x hx
      · rintro ⟨h1, h2⟩
        simp only [List.map_cons, List.pairwise_cons] at h1
        refine ⟨⟨h2 c (by simp), h1.1 d.1 (by simp)⟩, ?_, fun x hx => h2 x (by simp [hx])⟩
        simpa only [List.map_cons, List.pairwise_cons] using h1.2

/-- Every address that a put leaves listed was listed or is the one put. -/
theorem cellPut_addr (m : List Host.Cell) (a : Nat) (v : Byte) : ∀ c ∈ cellPut m a v, c.1 = a ∨ c ∈ m := by
  induction m with
  | nil => unfold cellPut; split <;> simp
  | cons e m ih =>
    obtain ⟨k, w⟩ := e
    simp only [cellPut]
    split
    · split <;> simp_all
    · split
      · split <;> simp_all
      · intro c hc
        rcases List.mem_cons.1 hc with rfl | hc
        · simp
        · rcases ih c hc with h | h
          · exact .inl h
          · exact .inr (by simp [h])

theorem cellPut_wf (m : List Host.Cell) (a : Nat) (v : Byte) (h : cellsWf m = true) : cellsWf (cellPut m a v) = true := by
  induction m with
  | nil => unfold cellPut; split <;> simp_all [cellsWf]
  | cons e m ih =>
    obtain ⟨k, w⟩ := e
    have hm : cellsWf m = true := by
      rw [cellsWf_iff] at h ⊢
      simp only [List.map_cons, List.pairwise_cons] at h
      exact ⟨h.1.2, fun c hc => h.2 c (by simp [hc])⟩
    have ih := ih hm
    simp only [cellPut]
    split
    · next hlt =>
      split
      · exact h
      · next hv =>
        rw [cellsWf_iff] at h ⊢
        simp only [List.map_cons, List.pairwise_cons] at h ⊢
        refine ⟨⟨?_, h.1⟩, ?_⟩
        · intro x hx
          rcases List.mem_cons.1 hx with rfl | hx
          · exact hlt
          · exact lt_trans hlt (h.1.1 x hx)
        · intro c hc
          rcases List.mem_cons.1 hc with rfl | hc
          · exact hv
          · exact h.2 c hc
    · split
      · next heq =>
        subst heq
        split
        · exact hm
        · next hv =>
          rw [cellsWf_iff] at h ⊢
          simp only [List.map_cons, List.pairwise_cons] at h ⊢
          refine ⟨h.1, ?_⟩
          intro c hc
          rcases List.mem_cons.1 hc with rfl | hc
          · exact hv
          · exact h.2 c (by simp [hc])
      · next h1 h2 =>
        rw [cellsWf_iff] at h ih ⊢
        simp only [List.map_cons, List.pairwise_cons] at h ⊢
        refine ⟨⟨?_, ih.1⟩, ?_⟩
        · intro x hx
          obtain ⟨c, hc, rfl⟩ := List.mem_map.1 hx
          rcases cellPut_addr m a v c hc with hca | hc'
          · rw [hca]; show k < a; omega
          · exact h.1.1 c.1 (List.mem_map.2 ⟨c, hc', rfl⟩)
        · intro c hc
          rcases List.mem_cons.1 hc with rfl | hc
          · exact h.2 (k, w) (by simp)
          · exact ih.2 c hc

theorem cellPutAll_wf (bs : Bytes) (m : List Host.Cell) (a : Nat) (h : cellsWf m = true) : cellsWf (cellPutAll m a bs) = true := by
  induction bs generalizing m a with
  | nil => exact h
  | cons b bs ih => exact ih _ _ (cellPut_wf m a b h)

theorem cellPutCells_wf (cs : List Host.Cell) (m : List Host.Cell) (h : cellsWf m = true) : cellsWf (cellPutCells m cs) = true := by
  induction cs generalizing m with
  | nil => exact h
  | cons c cs ih => exact ih _ (cellPut_wf m c.1 c.2 h)

theorem cellFilter_wf (m : List Host.Cell) (f : Host.Cell → Bool) (h : cellsWf m = true) : cellsWf (m.filter f) = true := by
  rw [cellsWf_iff] at h ⊢
  refine ⟨?_, fun c hc => h.2 c (List.mem_filter.1 hc).1⟩
  exact h.1.sublist (List.filter_sublist.map _)

theorem cellZero_wf (m : List Host.Cell) (a n : Nat) (h : cellsWf m = true) : cellsWf (cellZero m a n) = true := cellFilter_wf m _ h

/-! ### Writing memory -/

theorem Mem.write_wf (m : Mem) (a : Nat) (bs : Bytes) (h : m.wf = true) : (m.write a bs).wf = true := cellPutAll_wf bs _ a h

theorem Mem.zero_wf (m : Mem) (a n : Nat) (h : m.wf = true) : (m.zero a n).wf = true := cellZero_wf _ a n h

theorem Mem.zeroRun_wf (m : Mem) (r : Run) (h : m.wf = true) : (m.zeroRun r).wf = true := Mem.zero_wf m _ _ h

@[simp] theorem Mem.poisonLine_bytes (m : Mem) (l : Nat) : (m.poisonLine l).bytes = m.bytes := by
  unfold Mem.poisonLine; split <;> rfl

theorem Mem.issue_wf (m : Mem) (w : LineWrite) (h : m.wf = true) : (m.issue w).wf = true := by
  have hb := cellPutCells_wf w.bytes m.bytes h
  unfold Mem.issue
  simp only
  split
  · simpa [Mem.wf] using hb
  · split <;> simpa [Mem.wf] using hb

@[simp] theorem Mem.enqueue_bytes (m : Mem) (ws : List LineWrite) : (m.enqueue ws).bytes = m.bytes := rfl

/-! ### What a write leaves to read -/

/-- The bytes that a put of a string leaves at an address outside it. -/
theorem cellGet_cellPutAll_outside (bs : Bytes) (m : List Host.Cell) (a b : Nat) (h : b < a ∨ a + bs.length ≤ b) :
    cellGet (cellPutAll m a bs) b = cellGet m b := by
  induction bs generalizing m a with
  | nil => rfl
  | cons x bs ih =>
    have hne : b ≠ a := by
      rcases h with h | h
      · omega
      · simp only [List.length_cons] at h; omega
    have : cellGet (cellPutAll (cellPut m a x) (a + 1) bs) b = cellGet (cellPut m a x) b := by
      apply ih
      rcases h with h | h
      · left; omega
      · right; simp only [List.length_cons] at h; omega
    simp only [cellPutAll]
    rw [this, cellGet_cellPut_ne _ _ _ _ hne]

/-- A string that has been put reads back. -/
theorem cellGet_cellPutAll_inside (bs : Bytes) (m : List Host.Cell) (a i : Nat) (hw : cellsWf m = true) (hi : i < bs.length) :
    cellGet (cellPutAll m a bs) (a + i) = bs.getD i 0 := by
  induction bs generalizing m a i with
  | nil => simp at hi
  | cons x bs ih =>
    simp only [cellPutAll]
    cases i with
    | zero =>
      rw [cellGet_cellPutAll_outside _ _ _ _ (by left; omega), Nat.add_zero, cellGet_cellPut_self _ _ _ hw]
      rfl
    | succ i =>
      have := ih (cellPut m a x) (a + 1) i (cellPut_wf m a x hw) (by simpa using hi)
      rw [show a + (i + 1) = a + 1 + i by omega, this]
      rfl

/-! ### Reading after writing and after zeroing -/

theorem NMap.get_mapVals {V W : Type} (m : NMap V) (f : V → W) (d : V) (e : W) (h : f d = e) (i : Nat) :
    NMap.get e (m.mapVals f) i = f (NMap.get d m i) := by
  induction m with
  | nil => simp [NMap.mapVals, NMap.get, h]
  | cons x m ih =>
    obtain ⟨k, v⟩ := x
    simp only [NMap.mapVals, List.map_cons, NMap.get] at ih ⊢
    split
    · rfl
    · exact ih

/-- A cell under `overlay` keeps its address. -/
@[simp] theorem overlay_fst (a n : Nat) (new : Nat → Byte) (c : Host.Cell) : (overlay a n new c).1 = c.1 := by
  unfold overlay; split <;> rfl

/-- What a queue holds for an address once the writes of a range take new values. -/
theorem queuedByte_map (q : List LineWrite) (g : LineWrite → LineWrite) (a n : Nat) (new : Nat → Byte) (b : Nat)
    (hg : ∀ w, (g w).bytes = w.bytes.map (overlay a n new)) :
    queuedByte (q.map g) b = (queuedByte q b).map (fun v => (overlay a n new (b, v)).2) := by
  induction q with
  | nil => rfl
  | cons w q ih =>
    simp only [List.map_cons, queuedByte, ih, hg, List.find?_map]
    cases queuedByte q b with
    | some v => rfl
    | none =>
      simp only [Option.map_none]
      have he : ((fun (c : Host.Cell) => c.1 == b) ∘ overlay a n new) = (fun c => c.1 == b) := by funext c; simp
      rw [he]
      cases h : w.bytes.find? (fun c => c.1 == b) with
      | none => rfl
      | some c =>
        have hb : c.1 = b := by simpa using List.find?_some h
        obtain ⟨k, v⟩ := c
        obtain rfl : k = b := hb
        rfl

/-- Outside the range `overlay` changes nothing. -/
theorem overlay_outside (a n : Nat) (new : Nat → Byte) (b : Nat) (v : Byte) (h : b < a ∨ a + n ≤ b) :
    overlay a n new (b, v) = (b, v) := by
  unfold overlay; rw [if_neg]; simp only; omega

/-- Inside the range it gives the new value. -/
theorem overlay_inside (a n : Nat) (new : Nat → Byte) (b : Nat) (v : Byte) (h1 : a ≤ b) (h2 : b < a + n) :
    overlay a n new (b, v) = (b, new (b - a)) := by
  unfold overlay; rw [if_pos ⟨h1, h2⟩]

/-- What a memory reads outside a range whose queued bytes take new values. -/
theorem queuedByte_overlay_outside (m : Mem) (g : LineWrite → LineWrite) (a n : Nat) (new : Nat → Byte) (b : Nat)
    (hg : ∀ w, (g w).bytes = w.bytes.map (overlay a n new)) (h : b < a ∨ a + n ≤ b) :
    queuedByte ((m.queues.mapVals (fun q => q.map g)).get [] (controllerOf b)) b =
      queuedByte (m.queues.get [] (controllerOf b)) b := by
  rw [NMap.get_mapVals _ _ [] [] rfl, queuedByte_map _ _ a n new b hg]
  cases queuedByte (NMap.get [] m.queues (controllerOf b)) b with
  | none => rfl
  | some v => simp [overlay_outside a n new b v h]

/-- And inside it: the new value, whether the byte was queued or not, once the device holds it. -/
theorem queuedByte_overlay_inside (m : Mem) (g : LineWrite → LineWrite) (a n : Nat) (new : Nat → Byte) (b : Nat) (x : Byte)
    (hg : ∀ w, (g w).bytes = w.bytes.map (overlay a n new)) (h1 : a ≤ b) (h2 : b < a + n) (hx : x = new (b - a)) :
    (queuedByte ((m.queues.mapVals (fun q => q.map g)).get [] (controllerOf b)) b).getD x = x := by
  rw [NMap.get_mapVals _ _ [] [] rfl, queuedByte_map _ _ a n new b hg]
  cases queuedByte (NMap.get [] m.queues (controllerOf b)) b with
  | none => rfl
  | some v => simp [overlay_inside a n new b v h1 h2, hx]

/-- Zeroing a range leaves every byte outside it. -/
theorem Mem.read_zero_outside (m : Mem) (a n b : Nat) (h : b < a ∨ a + n ≤ b) : (m.zero a n).read b = m.read b := by
  have hb : (decide (a ≤ b) && decide (b < a + n)) = false := by
    rcases h with h | h
    · simp [Nat.not_le.mpr h]
    · simp [Nat.not_lt.mpr h]
  have hz : cellGet (cellZero m.bytes a n) b = cellGet m.bytes b := by
    unfold cellZero
    induction m.bytes with
    | nil => rfl
    | cons c l ih =>
      obtain ⟨k, v⟩ := c
      simp only [List.filter_cons]
      split
      · simp only [cellGet, ih]
      · next hk =>
        have : b ≠ k := by rintro rfl; simp [hb] at hk
        simp only [cellGet, this, if_false, ih]
  unfold Mem.read Mem.zero
  simp only [hz]
  rw [queuedByte_overlay_outside m _ a n (fun _ => 0) b (fun _ => rfl) h]

/-- A zeroed range reads zero. -/
theorem Mem.read_zero_inside (m : Mem) (a n b : Nat) (h1 : a ≤ b) (h2 : b < a + n) : (m.zero a n).read b = 0 := by
  have hb : (decide (a ≤ b) && decide (b < a + n)) = true := by simp [h1, h2]
  have hz : cellGet (cellZero m.bytes a n) b = 0 := by
    unfold cellZero
    induction m.bytes with
    | nil => rfl
    | cons c l ih =>
      obtain ⟨k, v⟩ := c
      simp only [List.filter_cons]
      split
      · next hk =>
        have : b ≠ k := by rintro rfl; simp [hb] at hk
        simp only [cellGet, this, if_false, ih]
      · exact ih
  unfold Mem.read Mem.zero
  simp only [hz]
  exact queuedByte_overlay_inside m _ a n (fun _ => 0) b 0 (fun _ => rfl) h1 h2 rfl

/-- A write leaves every byte outside it. -/
theorem Mem.read_write_outside (m : Mem) (a b : Nat) (bs : Bytes) (h : b < a ∨ a + bs.length ≤ b) :
    (m.write a bs).read b = m.read b := by
  unfold Mem.read Mem.write
  simp only [cellGet_cellPutAll_outside bs m.bytes a b h]
  rw [queuedByte_overlay_outside m _ a bs.length (fun i => bs.getD i 0) b (fun _ => rfl) h]

/-- A byte written reads as it was written. -/
theorem Mem.read_write_inside (m : Mem) (a i : Nat) (bs : Bytes) (hw : m.wf = true) (hi : i < bs.length) :
    (m.write a bs).read (a + i) = bs.getD i 0 := by
  unfold Mem.read Mem.write
  simp only [cellGet_cellPutAll_inside bs m.bytes a i hw hi]
  exact queuedByte_overlay_inside m _ a bs.length (fun i => bs.getD i 0) (a + i) (bs.getD i 0) (fun _ => rfl) (by omega) (by omega) (by simp)

end Sys2Proof.Machine
end

