-- ==== Sys2Proof/Tests/Slice0.lean ====
section
/-! SUPPORT. Tests: for each statement's hypotheses, states and operands that meet them; the checks of WellFormed; the
worked examples of the spec; and a few single commands. -/

open Sys2Proof Sys2Proof.Machine

namespace Sys2Proof.Tests

-- One proof at a time: each is evaluated by the kernel.
set_option Elab.async false

/-- A tenant plot's reservations, for the tests. -/
def cfg : PlotConfig :=
  { PlotConfig.init with weight := 1, hbm0 := 64, hbm1 := 64, cf := 64, seqQuota := 64, residentQuota := 8, groups := 4 }

/-- The module after reset, READY, with plot 1 open and one window. -/
def up : State :=
  { State.reset with
    bothy := { Bothy.init with ready := true, pairsUp := 15 }
    plots := [(0, { Plot.init with state := 1 }),
              (1, { Plot.init with state := 1, cfg := cfg, windows := [(0, { tier := 0, first := 0, count := 8 })] })]
    mem := { Mem.init with ready := true, granted := [{ tier := 0, first := 0, count := 8 }] } }

/-- A request of slot 0. -/
def req (opcode : Nat) (payload : Bytes) : Req :=
  { slot := 0, opcode := opcode, tag := 7, vector := 255, payload := payload, since := 0, phase := .taken, waits := [], tally := 0 }

/-- A state whose plot holds a request of slot 0. -/
def holding (s : State) (p opcode : Nat) (payload : Bytes) : State :=
  s.updMail p (fun m => { m with held := [req opcode payload] })

/-- The binding of the tests: no layers. -/
def bind0 : Binding := { fp := 9, manifest := [], firstLayer := 0, lastLayer := 0, res0 := 0, res1 := 0, cat := 0 }

/-- A plan of inference with no section: its header alone. -/
def image0 : Bytes :=
  natLE 4 0x4C503359 ++ natLE 2 1 ++ [1, 0] ++ natLE 8 0x100 ++ natLE 32 9 ++ natLE 4 0 ++ [1, 0, 0xFF, 0] ++ natLE 24 0 ++
  natLE 4 1 ++ natLE 4 16 ++ natLE 2 16 ++ [1, 1] ++ natLE 2 100 ++ natLE 4 0 ++ natLE 2 0 ++ natLE 4 0 ++ natLE 8 0x200000 ++
  natLE 144 0

/-- A step that has just begun. -/
def step0 (s : State) : Step := Step.begin s 1 (buildPlan image0 1 0) (req opStepRun (natLE 8 1 ++ natLE 8 5))

/-- A sequence's entry with every field clear. -/
def seq0 : SeqEntry :=
  { seqId := 0, state := 1, kind := 1, adapterGone := false, paused := false, editPending := false, retirePending := false,
    spilled := false, reportPending := false, nextValid := false, kvFmt := 1, gen := 0, adapter := 0xFFFFFFFF, firstStep := 0,
    lastServed := 0, prevServed := 0, ctx := 0, pendingToks := 0, maxLen := 64, generated := 0, inAddr := 0, outAddr := 0,
    ptRoot := 0x2000, openBlock := 0, dataIndex := 0, userTag := 0, hbmBlocks := 1, cfBlocks := 0, deferrals := 0, ringLen := 0,
    nextInput := 0, reportKind := 0, reportStep := 0, reportOrder := 0, reserved := [] }

/-- Plot 1 with a window of one granule for its key-value pool. -/
def pooled0 : State := up.updPlot 1 (fun q => { q with windows := q.windows ++ [(1, { tier := 0, first := 8, count := 1 })] })

/-- A group of plot 1 with GROUP_ID 5: this module, whose FABRIC_ID is 0, has a rank, and modules 11 and 12 are the others. -/
def groupAs (kind rank state : Nat) : Group :=
  { handle := 1, groupId := 5, kind := kind, jobTag := 77, digest := 0, window := 8, generation := 1, state := state,
    live := if rank = 0 then [0, 11, 12] else [11, 0, 12], lost := [], answered := [], heard := [], pauseTicks := [],
    joinTick := 0, regroupTick := 0, timeoutS := 10, joinSlot := none, early := [], suspended := false, peerReleased := false }

/-- A frame of that group from module 11. -/
def frameOf (kind vc rank step : Nat) (payload : Bytes) : Frame :=
  { dst := 0, dstPort := 3, src := 11, srcPort := 2, fcsOk := true, tagOk := true, kind := kind, vc := vc, frameIdx := 0, frameCnt := 1, groupId := 5,
    generation := 1, senderRank := rank, step := step, seq := 0, e := 0, nonfinite := false, poison := false, resent := false,
    mM1 := 2, c := 0, dropped := 0, adapter := 0, tensor := 0, keyEpoch := 0, tile := 0, linkSeq := 9, payload := payload,
    residues := [] }

/-- A state whose port 3 is up towards module 11, and whose plot 1 holds the group. -/
def linked (s : State) (g : Group) : State :=
  (s.updPort 3 (fun t => { t with linkUp := true, peerId := 11, peerValid := true })).updPlot 1 (fun q => { q with groups := [g] })

/-- A frame of VC0 of module 11 over port 3. -/
def link3 : Link := { port := 3, src := 11, srcPort := 2, fcsOk := true, tagOk := true, keyEpoch := 0, linkSeq := 9 }

/-- A partnership of plot 1 with module 11. -/
def partner0 : Partner :=
  { handle := 2, role := 0, formed := true, slot := none, startTick := 0, interval := 10, lossBound := 0, plan := 1, peer := 11,
    addr := 0x100000, len := 4096, jobTag := 77, state := partnerIdle, images := [none, none], newest := 0, streamStep := none,
    streamCursor := 0, streamBytes := 0, owed := none, imageBytes := 4096, image := [], kept := [], got := [], heard := 0 }

/-- Plot 1 bound, with a plan of inference, in HBM and Cold Frame windows, and a link to module 11. -/
def partnering (ps : List (Nat × Partner)) : State :=
  linked (up.updPlot 1 (fun q => { q with
    binding := some bind0, plans := [(1, buildPlan image0 1 0)], partners := ps
    windows := q.windows ++ [(1, { tier := 3, first := 0, count := 8 })] })) (groupAs 0 0 groupActive)

/-- The plan of inference `image0` with Bower group 5. -/
def imageBower : Bytes := image0.take 0x3C ++ natLE 4 5 ++ image0.drop 0x40

/-- An image of a class, of an SVN. -/
def image (cls svn : Nat) : Image :=
  { cls := cls, version := 7, svn := svn, stateVersion := 9999, stateMin := 0, digest := 5, bytes := [] }

/-- The module with an image staged in every class. -/
def updating : State :=
  { up with
    mod := { up.mod with state := 3 }
    mgmt := { up.mgmt with classes := fwClasses.map (fun c => (c, { FwClass.init with bankA := .image (image c 3), bankB := .image (image c 2) })) } }

/-- The same without a tenant plot. -/
def vacant : State := { updating with plots := [(0, { Plot.init with state := 1 })] }

/-- A boot at which everything holds. -/
def soundBoot : BootReport :=
  { hbmFailed := 0, cfFailed := 0, hbmMs := 0, lpddrMs := 0, badPavilions := [], badUnits := 0, katOk := true, trngOk := true, banksOk := 255,
    inTime := true, debugToken := false, signer := 0, keyParity := false, failedBanks := [] }

/-- The record of the message that an update posted, in plot 0's completion ring. -/
def recorded (s : State) : State :=
  let s := s.updMail 0 (fun m => { m with head := 1 })
  { s with mem := s.mem.write ((s.plot 0).ringBase 0) (natLE 8 0 ++ natLE 4 9 ++ natLE 52 0) }

/-- The Gatehouse up, with a connection that has been negotiated, and a large answer that waits. -/
def talking (conn : Nat) : State :=
  { up with
    gatehouse := { up.gatehouse with
      bootOk := true, trngOk := true
      conns := [(conn, { SpdmConn.init with versionAsked := true, version := 0x13, negotiated := true, chunkHandle := 1, chunkNext := 2
                                            chunk := [7], responseHandle := 3, response := [1] })] }
    host := { up.host with linkTraining := true, vfs := [(1, { Vf.init with enabled := true })] } }

/-- Sessions 1 to `n`, the first one's FINISH done or not. -/
def inSession (n : Nat) (done : Bool) : State :=
  { talking 0 with
    gatehouse := { (talking 0).gatehouse with
      sessions := (List.range n).map (fun i => { id := i + 1, finished := done, secret := 9, keyGen := 0, lastBeat := 0 }) } }

/-- A descriptor of a type with fields at their places. -/
def desc (type : Nat) (fields : List (Nat × Nat × Nat)) : Bytes :=
  fields.foldl (fun b f => b.take f.1 ++ natLE f.2.1 f.2.2 ++ b.drop (f.1 + f.2.1)) (natLE 1 type ++ natLE 1 3 ++ natLE 62 0)

/-- That descriptor in a queue. -/
def queued (type : Nat) (fields : List (Nat × Nat × Nat)) (run : Bool) : QDesc :=
  { plot := 1, plan := 1, index := 0, bytes := desc type fields, iter := 0, started := run, executed := run, startTick := 0, waited := 0, failed := false }

/-- A plan with streams on Pavilion 5, spans and semaphore 0. -/
def planned (streams : List (Nat × List Bytes)) (spans : List Bytes) : Plan :=
  { buildPlan image0 1 0 with streams := streams, spans := spans, sems := [0] }

/-- Plot 1 holding Pavilion 5 with a running step of that plan, and what the Pavilion's queues hold. -/
def running (pl : Plan) (f : Pavilion → Pavilion) : State :=
  (up.updPlot 1 (fun q => { q with
    binding := some bind0, plans := [(1, pl)], running := [{ step0 up with plan := 1 }], sched := { q.sched with grant := 2 ^ 128 - 1 } })).updPav 5
      (fun v => f { v with context := 1 })

/-- The records of a tensor of 8-bit integers, 2 by 2, in the local store, and of the view of all of it. -/
def tensor0 : Bytes := natLE 16 0 ++ [3, 4, 2, 0] ++ natLE 4 2 ++ natLE 4 2 ++ natLE 4 1 ++ natLE 4 1 ++ natLE 4 0 ++ natLE 6 2 ++ natLE 2 0 ++ natLE 6 4 ++ natLE 2 0 ++ natLE 6 4 ++ natLE 2 0
def view0 : Bytes := natLE 24 0 ++ natLE 4 2 ++ natLE 4 2 ++ natLE 4 1 ++ natLE 4 1 ++ natLE 24 0

/-- A tenant's area with a posted request of slot 3. -/
def posted : State :=
  up.updMail 1 (fun m => { m with slots := cellPutAll m.slots (slotBase 3) [0x5A, 0xFF, 0x03, 0x01, 9, 0, 0, 0, 8, 0, 1] })

theorem witness_mailboxScan : posted.bothy.ready = true ∧ posted.bothy.paused = false ∧ posted.takesFrom 1 = true ∧
    (∀ h ∈ (posted.plot 1).mail.held, h.slot ≠ 3) ∧ cellGet (posted.plot 1).mail.slots (slotBase 3) = ownerPosted := by
  decide +kernel

/-- A tenant whose backlog holds one record, its ring nearly full. -/
def backlogged : State :=
  up.updMail 1 (fun m => { m with backlog := [unsolicitedRec 0x800F [1, 2]], head := 4095 })

theorem witness_completionRecordWrite : backlogged.mem.wf = true ∧
    (backlogged.plot 1).mail.backlog = unsolicitedRec 0x800F [1, 2] :: [] ∧ backlogged.takesFrom 1 = true ∧
    ((backlogged.plot 1).mail.head - (backlogged.plot 1).mail.tail).toNat < 4096 := by decide +kernel

theorem witness_mailboxOpen : backlogged.isOpen 1 = true := by decide +kernel

/-- A tenant's MEM_SCRUB, taken at tick 0, at a tick. -/
def aged (tick : W64) : State := (holding up 1 opMemScrub []).updMod (fun m => { m with tick := tick })

theorem witness_messageTimeout : (aged 100000001).isOpen 1 = true ∧
    ((aged 100000001).plot 1).mail.held.find? (fun h => h.slot == 0 && h.phase == .taken) = some (req opMemScrub []) ∧
    (req opMemScrub []).limit = some 100000000 ∧ (req opMemScrub []).since + 100000000 < (aged 100000001).now ∧
    (aged 100000000).now ≤ (req opMemScrub []).since + 100000000 := by decide +kernel

theorem witness_registerWrite_window : up.mem.wf = true ∧ inMailbox 1 0xFFFFFF = false ∧
    up.inWindows 1 0xFFFFFF ([7] : Bytes).length = true ∧ (up.plot 1).state ≠ 0 ∧ 0x7FFF + ([7] : Bytes).length ≤ 0x8000 := by
  decide +kernel

/-- Plot 1 attached-confidential, its function in a TDISP state. -/
def confidential (tdi : Nat) : State :=
  let s := up.updPlot 1 (fun q => { q with cfg := { q.cfg with driver := 2 } })
  { s with host := { s.host with vfs := s.host.vfs.set 1 { Vf.init with enabled := true, tdi := tdi } } }

theorem witness_confidential : (up.plot 1).cfg.driver ≠ 2 ∧
    (∀ s ∈ [confidential 1], (s.plot 1).cfg.driver = 2 ∧ s.confidentialRun 1 = false ∧ inMailbox 1 0xFFFFFF = false ∧
      s.inWindows 1 0xFFFFFF ([7] : Bytes).length = true) ∧ (confidential 2).confidentialRun 1 = true := by decide +kernel

theorem witness_addressFault : up.inWindows 1 0x1000000 1 = false ∧ inMailbox 1 0x1000000 = false := by decide +kernel

theorem witness_plotQuery : Turn (holding up 0 opPlotQuery [16]) 0 opPlotQuery (req opPlotQuery [16]) ∧
    queryTarget 0 (fieldAt [16] 0 1) = some 16 := by decide +kernel

theorem witness_moduleInfo : (holding up 1 opModuleInfo (natLE 8 0xFFFC00)).mem.wf = true ∧
    Turn (holding up 1 opModuleInfo (natLE 8 0xFFFC00)) 1 opModuleInfo (req opModuleInfo (natLE 8 0xFFFC00)) ∧
    (holding up 1 opModuleInfo (natLE 8 0xFFFC00)).inWindows 1 (fieldAt (natLE 8 0xFFFC00) 0 8) 1024 = true ∧
    Turn (holding up 0 opModuleInfo []) 0 opModuleInfo (req opModuleInfo []) ∧ fieldAt [] 0 8 = 0 := by decide +kernel

/-- ACCOUNT_READ of one record to the end of window 0. -/
def accountRead (cls : Nat) : Bytes := natLE 8 cls ++ natLE 8 1 ++ natLE 8 (0x1000000 - 192)

theorem witness_accountRead : Turn (holding up 1 opAccountRead (accountRead 0)) 1 opAccountRead (req opAccountRead (accountRead 0)) ∧
    fieldAt (accountRead 0) 0 1 = 0 ∧ fieldAt (accountRead 0) 8 4 ≠ 0 ∧
    (holding up 1 opAccountRead (accountRead 0)).inWindows 1 (fieldAt (accountRead 0) 0x10 8) 192 = true ∧
    Turn (holding up 1 opAccountRead (accountRead 1)) 1 opAccountRead (req opAccountRead (accountRead 1)) ∧
    fieldAt (accountRead 1) 0 1 = 1 ∧
    (((holding up 1 opAccountRead (accountRead 1)).plot 1).adapters.map (·.2)).filter
      (fun a => decide (fieldAt (accountRead 1) 4 4 ≤ a.handle)) = [] ++ [] ∧
    (holding up 1 opAccountRead (accountRead 1)).inWindows 1 (fieldAt (accountRead 1) 0x10 8) 0 = true := by decide +kernel

/-- PLOT_OPEN of plot 16 with one granule of HBM 0 for its completion ring. -/
def openPayload : Bytes :=
  [16, 0, 0, 1] ++ natLE 4 385 ++ natLE 4 384 ++ natLE 4 0 ++ List.replicate 44 0

theorem witness_plotOpen :
    Turn (holding up 0 opPlotOpen openPayload) 0 opPlotOpen (req opPlotOpen openPayload) ∧
    (holding up 0 opPlotOpen openPayload).openStatus (fieldAt openPayload 0 1) (configAt openPayload) = none ∧
    ((holding up 0 opPlotOpen openPayload).mem.grantRuns (configAt openPayload).wants).isSome = true ∧
    (holding up 0 opPlotOpen openPayload).slotsFit (configAt openPayload) = true := by decide +kernel

theorem witness_plotClose :
    Turn (holding up 0 opPlotClose [1]) 0 opPlotClose (req opPlotClose [1]) ∧ 1 ≤ fieldAt [1] 0 1 ∧ fieldAt [1] 0 1 ≤ 16 ∧
    (holding up 0 opPlotClose [1]).isOpen (fieldAt [1] 0 1) = true ∧
    ((holding up 0 opPlotClose [1]).plot (fieldAt [1] 0 1)).allRuns ≠ [] ∧
    ((holding up 0 opPlotClose [1]).pav 127).context = 0 := by decide +kernel

/-- A run that waits for zeroing, and a host port out of reset. -/
def zeroing : State :=
  { up with mem := { up.mem with zeroing := [{ run := { tier := 3, first := 557055, count := 1 }, plot := 2, closing := true }] }
            host := { up.host with perstHigh := true } }

theorem witness_granuleZeroingDone : zeroing.mem.zeroing[0]? =
    some { run := { tier := 3, first := 557055, count := 1 }, plot := 2, closing := true } ∧
    zeroing.mem.stopped (Run.base { tier := 3, first := 557055, count := 1 }) (Run.bytes { tier := 3, first := 557055, count := 1 }) = false ∧
    zeroing.host.perstHigh = true := by decide +kernel

/-- A queued line of HBM stack 0, and two moves that wait inside the plot's window, the second of the higher class. -/
def traffic : State :=
  let a := Run.base { tier := 0, first := 0, count := 8 }
  { up with mem := { up.mem with
      queues := [(0, [{ line := 3, plot := 1, bytes := [(192, 5)], poisoned := true }])]
      moveQueue := [{ plot := 1, purpose := .promotion 2, src := a + 0x100000, dst := a + 0x200000, len := 4096, discard := false },
                    { plot := 1, purpose := .spill 0 0, src := a + 0x1000, dst := a + 0x300000, len := 4096, discard := false }] } }

theorem witness_memoryWriteRetire : traffic.mem.queues.get [] 0 = { line := 3, plot := 1, bytes := [(192, 5)], poisoned := true } :: [] ∧
    traffic.mem.stackTripped.contains 0 = false ∧ traffic.unitFenced 30 = false ∧
    ({ traffic.mem with stackTripped := [5] } : Mem).stackTripped.contains 5 = true := by decide +kernel

theorem witness_tierMove : ∃ m, nextMove traffic.mem.moveQueue = some m ∧ traffic.moveFits m = true ∧
    traffic.mem.creditsHeld (controllerOf m.dst) + 64 ≤ queueLines (controllerOf m.dst) :=
  ⟨{ plot := 1, purpose := .spill 0 0, src := Run.base { tier := 0, first := 0, count := 8 } + 0x1000
     dst := Run.base { tier := 0, first := 0, count := 8 } + 0x300000, len := 4096, discard := false }, by decide +kernel⟩

/-- A started spill, or a started promotion, of plot 1. -/
def moving (pu : MoveFor) : State :=
  ({ up with mem := { up.mem with moving := [{ plot := 1, purpose := pu, src := 0x1000, dst := 0x3000, len := 4096, discard := false }] } }).updPlot 1
    (fun q => { q with seqs := [(0, seq0)] })

theorem witness_moveRetire : (moving (.promotion 2)).mem.wf = true ∧ (moving (.promotion 2)).mem.queues = [] ∧
    (moving (.promotion 2)).mem.moving = [{ plot := 1, purpose := .promotion 2, src := 0x1000, dst := 0x3000, len := 4096, discard := false }] ∧
    (moving (.spill 0 0)).mem.moving = [{ plot := 1, purpose := .spill 0 0, src := 0x1000, dst := 0x3000, len := 4096, discard := false }] ∧
    (moving (.spill 0 0)).mem.stopped 0x1000 4096 = false ∧ (moving (.spill 0 0)).mem.stopped 0x3000 4096 = false ∧
    ((moving (.spill 0 0)).plot 1).seqs.find 0 = some seq0 := by decide +kernel

theorem witness_kvSpill :
    spillPlan (pooled0.plot 1) [(4096, 4096)] (pooled0.spillable 1) (pooled0.plot 1).kvAlloc [] = some [] := by decide +kernel

theorem witness_patrolScrub : up.mem.patrolEnable = true ∧ up.mem.ready = true ∧
    up.mem.stopped (0x40000 * 64) 64 = false ∧ isMemory (0x40000 * 64) = true ∧
    granuleOf (0x40000 * 64) = some (0, 8) ∧ (∀ p ∈ tenantPlots, up.inWindows p (0x40000 * 64) 64 = false) := by decide +kernel

/-- PLAN_LOAD of the image at 1 MiB. -/
def loading : State :=
  let s := holding (up.updPlot 1 (fun q => { q with binding := some bind0, cfg := { q.cfg with hbm0 := 400 } })) 1 opPlanLoad
    (natLE 8 0x100000 ++ natLE 8 0x100 ++ natLE 16 0)
  s.updMem (fun m => m.write 0x100000 image0)

theorem witness_planLoad :
    Turn loading 1 opPlanLoad (req opPlanLoad (natLE 8 0x100000 ++ natLE 8 0x100 ++ natLE 16 0)) ∧
    loading.inWindows 1 0x100000 0x100 = true ∧ (loading.plot 1).binding = some bind0 ∧
    firstChecks (loading.mem.readBytes 0x100000 0x100) 0x100 = none ∧
    (parseHeader (loading.mem.readBytes 0x100000 0x100)).baseFp = bind0.fp ∧
    (parseHeader (loading.mem.readBytes 0x100000 0x100)).firstLayer = bind0.firstLayer ∧
    (parseHeader (loading.mem.readBytes 0x100000 0x100)).lastLayer = bind0.lastLayer ∧
    loading.groupsCheck 1 (parseHeader (loading.mem.readBytes 0x100000 0x100)) = none ∧
    loading.needFenced (parseHeader (loading.mem.readBytes 0x100000 0x100)).need = false ∧
    (loading.planResources 1 (parseHeader (loading.mem.readBytes 0x100000 0x100)) []).isSome = true ∧
    loading.headerChecks 1 bind0 (loading.mem.readBytes 0x100000 0x100) = none ∧ directoryFlaw [] 0x100 = none ∧
    loading.descFlaw 1 (buildPlan (loading.mem.readBytes 0x100000 0x100) 1 0) = none ∧
    loading.tablesFlaw 1 (buildPlan (loading.mem.readBytes 0x100000 0x100) 1 0) [] = none := by decide +kernel

/-- A loaded plan that is idle. -/
def dropping : State :=
  holding (up.updPlot 1 (fun q => { q with plans := [(1, buildPlan image0 1 0)] })) 1 opPlanDrop (natLE 8 1)

theorem witness_planDrop : Turn dropping 1 opPlanDrop (req opPlanDrop (natLE 8 1)) ∧
    (dropping.plot 1).plans.find (fieldAt (natLE 8 1) 0 4) = some (buildPlan image0 1 0) ∧
    (dropping.plot 1).planActive (fieldAt (natLE 8 1) 0 4) = false ∧
    (dropping.plot 1).policyNames (fieldAt (natLE 8 1) 0 4) = false := by decide +kernel

/-- A bound plot with a loaded plan and a request. -/
def planOnly (opcode : Nat) (payload : Bytes) : State :=
  holding (up.updPlot 1 (fun q => { q with binding := some bind0, plans := [(1, buildPlan image0 1 0)] })) 1 opcode payload

/-- Its STEP_RUN in wait. -/
def stepQueued : State := (planOnly opStepRun (natLE 8 1 ++ natLE 8 5)).setPhase 1 0 .started

theorem witness_stepRun : Turn (planOnly opStepRun (natLE 8 1 ++ natLE 8 5)) 1 opStepRun (req opStepRun (natLE 8 1 ++ natLE 8 5)) ∧
    ((planOnly opStepRun (natLE 8 1 ++ natLE 8 5)).plot 1).plans.find 1 = some (buildPlan image0 1 0) := by decide +kernel

theorem witness_stepStart : (stepQueued.plot 1).plans.find 1 = some (buildPlan image0 1 0) ∧
    (stepQueued.plot 1).queuedFor 1 = [{ req opStepRun (natLE 8 1 ++ natLE 8 5) with phase := .started }] ∧
    (stepQueued.plot 1).runOf 1 = none ∧ stepQueued.bothy.takeOver = none ∧ stepQueued.startStatus 1 (buildPlan image0 1 0) 5 = none ∧
    stepBacklog ≤ (stepQueued.plot 1).backlogFree ∧ (stepQueued.plot 1).bindHeld = false ∧ (stepQueued.plot 1).serving = [] ∧
    (stepQueued.plot 1).partners = [] := by decide +kernel

/-- Its plan stepRunning, with one list made. -/
def stepRunning (opcode : Nat) (payload : Bytes) : State :=
  (planOnly opcode payload).updPlot 1 (fun q => { q with running := [{ step0 up with lists :=
    [{ step := 5, microbatch := 0, buffer := 0, rowsTotal := 0, deferred := 0, useClock := 1, dataIndexMax := 0, seqs := [],
       laneGroups := [], tileGroups := [], selects := [] }] }] })

theorem witness_stepEnd : (stepRunning opStepAbort (natLE 8 1)).isOpen 1 = true ∧
    (((stepRunning opStepAbort (natLE 8 1)).plot 1).runOf 1).isSome = true ∧
    ((stepRunning opStepAbort (natLE 8 1)).plot 1).plans.find 1 = some (buildPlan image0 1 0) ∧
    (((stepRunning opStepAbort (natLE 8 1)).plot 1).runOf 1).all
      (fun st => (stepRunning opStepAbort (natLE 8 1)).stepFinished 1 (buildPlan image0 1 0) st && st.skipSet.isNone && !st.stopped) = true := by
  decide +kernel

theorem witness_stepAbort : Turn (planOnly opStepAbort (natLE 8 1)) 1 opStepAbort (req opStepAbort (natLE 8 1)) ∧
    ((planOnly opStepAbort (natLE 8 1)).plot 1).runOf 1 = none ∧
    Turn (stepRunning opStepAbort (natLE 8 1)) 1 opStepAbort (req opStepAbort (natLE 8 1)) := by decide +kernel

/-- An adapter of plot 1 in a state. -/
def adapter0 (st : AdapterState) : Adapter := { newAdapter [] 3 false with state := st, nexpert := 4, residency := .resident, resAddr := 0x400000 }

/-- A bound plot with that adapter and a request. -/
def adapting (st : AdapterState) (opcode : Nat) (payload : Bytes) : State :=
  holding (up.updPlot 1 (fun q => { q with binding := some bind0, adapters := [(3, adapter0 st)], keys := [(0, { keyId := 1, key := 1 })] }))
    1 opcode payload

/-- A bundle's header for a record of one byte. -/
def bundle0 : Bytes :=
  natLE 4 0x31424C53 ++ natLE 2 1 ++ [3, 0] ++ natLE 32 0 ++ natLE 8 1 ++ natLE 16 0

/-- ADAPTER_REGISTER of handle 5 from a bundle at 1 MiB. -/
def registering : State :=
  (adapting .registered opAdapterRegister (natLE 8 5 ++ natLE 8 0x100000 ++ natLE 16 81)).updMem (fun m => m.write 0x100000 bundle0)

theorem witness_adapterRegister :
    Turn registering 1 opAdapterRegister (req opAdapterRegister (natLE 8 5 ++ natLE 8 0x100000 ++ natLE 16 81)) ∧
    (registering.plot 1).binding = some bind0 ∧ (registering.plot 1).adapters.find 5 = none ∧
    (registering.plot 1).adapters.length < 65536 ∧ registering.inWindows 1 0x100000 81 = true ∧
    (registering.plot 1).keys.find 0 = some { keyId := 1, key := 1 } ∧ registering.mem.poisonedIn 0x100000 64 = false ∧
    fieldAt (registering.mem.readBytes 0x100000 64) 0x30 4 = 0 ∧
    bundleHolds (registering.mem.readBytes 0x100000 64) 81 3 3 = true := by decide +kernel

/-- ADAPTER_ADMIT of handle 3, every slot left to the module. -/
def admitPayload : Bytes := [3, 0, 0, 0, 0, 0xFF, 0, 0, 0xFF, 0xFF, 0xFF, 0xFF, 0, 0, 0, 0]

theorem witness_adapterAdmit :
    Turn (adapting .registered opAdapterAdmit admitPayload) 1 opAdapterAdmit (req opAdapterAdmit admitPayload) ∧
    ((adapting .registered opAdapterAdmit admitPayload).plot 1).adapters.find 3 = some (adapter0 .registered) ∧
    (∀ e < 4, fieldAt admitPayload (8 + e) 1 = 0xFF) ∧ fieldAt admitPayload 5 1 = 0xFF ∧
    ((adapting .registered opAdapterAdmit admitPayload).plot 1).cfg.residentQuota ≠ 0 ∧
    ((adapting .registered opAdapterAdmit admitPayload).plot 1).couldFit bind0 (adapter0 .registered).recordBytes = true ∧
    (grantSlots (((adapting .registered opAdapterAdmit admitPayload).plot 1).slotsHeld 3) (List.replicate 4 0xFF) []).isSome = true := by
  decide +kernel

theorem witness_adapterEvict :
    (∀ fl ∈ ([0, 1, 2, 4] : List Byte), ∀ st ∈ [AdapterState.admitted, .registered],
      Turn (adapting st opAdapterEvict ([3, 0, 0, 0, fl, 0, 0, 0])) 1 opAdapterEvict (req opAdapterEvict ([3, 0, 0, 0, fl, 0, 0, 0])) ∧
      ((adapting st opAdapterEvict ([3, 0, 0, 0, fl, 0, 0, 0])).plot 1).mail.held = [req opAdapterEvict ([3, 0, 0, 0, fl, 0, 0, 0])]) ∧
    ((adapting .admitted opAdapterEvict []).plot 1).adapters.find 3 = some (adapter0 .admitted) ∧
    ((adapting .admitted opAdapterEvict []).plot 1).binding ≠ none ∧
    ((adapting .admitted opAdapterEvict []).plot 1).seqPinned 3 = false ∧ ((adapting .admitted opAdapterEvict []).plot 1).planPinned 3 = false ∧
    ((adapting .admitted opAdapterEvict []).plot 1).onList 3 = false ∧ ((adapting .admitted opAdapterEvict []).plot 1).onBuilding 3 = false ∧
    (adapter0 .admitted).handle = 3 ∧ (adapter0 .admitted).train = false ∧ (adapter0 .admitted).leaving = false := by decide +kernel

/-- A BASE_BIND with fingerprint zero, and the same held. -/
def binding0 : State :=
  holding (up.updPlot 1 (fun q => { q with binding := some bind0 })) 1 opBaseBind (natLE 64 0)

theorem witness_baseBind : Turn binding0 1 opBaseBind (req opBaseBind (natLE 64 0)) ∧ (binding0.plot 1).running = [] ∧
    fieldAt (natLE 64 0) 0 32 = 0 ∧ (binding0.plot 1).binding ≠ none ∧
    Turn (binding0.updPlot 1 (fun q => { q with running := [step0 up] })) 1 opBaseBind (req opBaseBind (natLE 64 0)) ∧
    ((binding0.updPlot 1 (fun q => { q with running := [step0 up] })).plot 1).running ≠ [] := by decide +kernel

theorem witness_baseBindApply : (binding0.setPhase 1 0 .started).isOpen 1 = true ∧
    ((binding0.setPhase 1 0 .started).plot 1).mail.held.find? (fun h => h.opcode == opBaseBind && h.phase == .started) =
      some { req opBaseBind (natLE 64 0) with phase := .started } ∧
    (binding0.setPhase 1 0 .started).appendingFor 1 = false := by decide +kernel

/-- An admitted adapter whose record is not resident, with a place in window 0. -/
def prefetching (k quota : Nat) : State :=
  up.updPlot 1 (fun q => { q with
    binding := some { bind0 with res1 := 0xFFFF }, cfg := { q.cfg with residentQuota := quota }
    adapters := [(3, { newAdapter [] 3 false with state := .admitted, prefetch := k })] })

theorem witness_adapterPrefetch : ((prefetching 1 8).plot 1).adapters.find 3 = some { newAdapter [] 3 false with state := .admitted, prefetch := 1 } ∧
    (prefetching 1 8).unitFenced 29 = false ∧ ((prefetching 1 8).plot 1).recordsHeld < ((prefetching 1 8).plot 1).cfg.residentQuota ∧
    (((prefetching 1 8).plot 1).residentPlace { bind0 with res1 := 0xFFFF } 0 65536).isSome = true ∧
    ((prefetching 1 0).plot 1).cfg.residentQuota ≤ ((prefetching 1 0).plot 1).recordsHeld ∧
    ((prefetching 1 0).plot 1).nextEviction = none ∧
    ((prefetching 3 8).plot 1).adapters.find 3 = some { newAdapter [] 3 false with state := .admitted, prefetch := 3 } := by
  decide +kernel

/-- An active sequence of plot 1, index 0 and incarnation 1, with a request of it. -/
def editing (opcode : Nat) (payload : Bytes) : State :=
  holding (up.updPlot 1 (fun q => { q with
    binding := some bind0, seqs := [(0, { seq0 with seqId := 2 ^ 20, maxLen := 128, ctx := 10, state := seqActive })], incarnations := [(0, 1)] })) 1 opcode payload

/-- SEQ_EDIT of that sequence. -/
def edit (op arg0 arg1 : Nat) : Bytes := natLE 4 (2 ^ 20) ++ natLE 4 op ++ natLE 8 arg0 ++ natLE 4 arg1 ++ natLE 12 0

theorem witness_seqEdit :
    (∀ x ∈ [(1, 0x100000, 118), (2, 10, 0), (2, 0, 0), (3, 11, 0), (3, 262144, 0), (4, 0xFFFFFFFF, 0), (5, 0, 0), (6, 0, 0), (7, 0, 0)],
      EditNow (editing opSeqEdit (edit x.1 x.2.1 x.2.2)) 1 opSeqEdit (req opSeqEdit (edit x.1 x.2.1 x.2.2))
        { seq0 with seqId := 2 ^ 20, maxLen := 128, ctx := 10, state := seqActive } ∧ fieldAt (edit x.1 x.2.1 x.2.2) 4 1 = x.1) ∧
    (editing opSeqEdit (edit 1 0x100000 118)).inWindows 1 0x100000 (4 * 118) = true ∧
    ((editing opSeqEdit (edit 4 0xFFFFFFFF 0)).plot 1).adapterCheck 1 (0xFFFFFFFF % 2 ^ 32) = none ∧
    EditNow (editing opSeqRetire (natLE 8 (2 ^ 20))) 1 opSeqRetire (req opSeqRetire (natLE 8 (2 ^ 20)))
      { seq0 with seqId := 2 ^ 20, maxLen := 128, ctx := 10, state := seqActive } := by decide +kernel

theorem witness_seqEditDeferred :
    ((editing opSeqEdit (edit 5 0 0)).updPlot 1 (fun q => { q with running := [step0 up] })).isOpen 1 = true ∧
    ((((editing opSeqEdit (edit 5 0 0)).updPlot 1 (fun q => { q with running := [step0 up] })).plot 1).deferredFor (2 ^ 20)) = (0, false) := by
  decide +kernel

/-- SEQ_ADMIT of a TRAIN sequence of adapter 3, or of a GENERATE sequence without an adapter. -/
def admitSeq (kind : Nat) : Bytes :=
  if kind = 0 then [0, 0, 0, 0] ++ natLE 4 3 ++ natLE 8 0 ++ natLE 8 0x100000 ++ natLE 4 1 ++ natLE 36 0
  else [1, 1, 0, 0] ++ natLE 4 0xFFFFFFFF ++ natLE 8 0 ++ natLE 8 0x100000 ++ natLE 4 1 ++ natLE 4 2 ++ natLE 8 0x110000 ++ natLE 24 0

/-- A plot that can take both. -/
def admitting (kind : Nat) : State :=
  holding (pooled0.updPlot 1 (fun q => { q with
    binding := some bind0, adapters := [(3, { newAdapter [] 3 true with state := .admitted })] })) 1 opSeqAdmit (admitSeq kind)

theorem witness_seqAdmit : (∀ k < 2, Turn (admitting k) 1 opSeqAdmit (req opSeqAdmit (admitSeq k)) ∧
    (admitting k).admitCheck 1 (admitSeq k) = none ∧ ((admitting k).plot 1).freeSeq = some 0 ∧ fieldAt (admitSeq k) 0 1 = k) ∧
    (((admitting 1).kvTake 1 kvHbmWindow tableBytes tableBytes).bind
      (fun x => x.2.kvTake 1 kvHbmWindow (((admitting 1).plot 1).blockBytes 1) 4096)).isSome = true := by decide +kernel

/-- MEM_MAP of two granules of Terrace 0. -/
def mapTwo : Bytes := [0, 0, 0, 0] ++ natLE 4 2 ++ natLE 8 0

/-- MEM_SCRUB of granules 1 to 3 of window 0. -/
def scrubThree : Bytes := natLE 4 0 ++ natLE 4 1 ++ natLE 4 3 ++ natLE 4 0

/-- Plot 1 with window 5 besides, of two granules. -/
def twoWindows : State := up.updPlot 1 (fun q => { q with windows := q.windows ++ [(5, { tier := 0, first := 20, count := 2 })] })

/-- A line of the second window waits in its controller's queue. -/
def queuedWindow : State :=
  twoWindows.updMem (fun m => { m with queues := [(4, [{ line := 20 * 2097152 / 64 , plot := 1, bytes := [(20 * 2097152, 1)], poisoned := false }])] })

theorem witness_memMap : (holding up 1 opMemMap mapTwo).memMessageBusy 1 = false ∧
    Turn (holding up 1 opMemMap mapTwo) 1 opMemMap (req opMemMap mapTwo) ∧
    (match (holding up 1 opMemMap mapTwo).placeWindow 1 0 2 0 with
     | .ok (w, run) => decide (w = 1 ∧ run = { tier := 0, first := 8, count := 2 })
     | .error _ => false) = true := by decide +kernel

theorem witness_memUnmap : ∀ x ∈ [(twoWindows, false), (queuedWindow, true)],
    (holding x.1 1 opMemUnmap (natLE 8 5)).memMessageBusy 1 = false ∧
    Turn (holding x.1 1 opMemUnmap (natLE 8 5)) 1 opMemUnmap (req opMemUnmap (natLE 8 5)) ∧
    ((holding x.1 1 opMemUnmap (natLE 8 5)).plot 1).windows.find 5 = some { tier := 0, first := 20, count := 2 } ∧
    ((holding x.1 1 opMemUnmap (natLE 8 5)).plot 1).windowBusy { tier := 0, first := 20, count := 2 } = false ∧
    (holding x.1 1 opMemUnmap (natLE 8 5)).mem.holdsWrites 1 { tier := 0, first := 20, count := 2 } = x.2 := by decide +kernel

theorem witness_memScrub : (holding up 1 opMemScrub scrubThree).memMessageBusy 1 = false ∧
    Turn (holding up 1 opMemScrub scrubThree) 1 opMemScrub (req opMemScrub scrubThree) ∧
    ((holding up 1 opMemScrub scrubThree).plot 1).windows.find 0 = some { tier := 0, first := 0, count := 8 } ∧
    fieldAt scrubThree 4 4 + fieldAt scrubThree 8 4 ≤ 8 ∧
    (holding up 1 opMemScrub scrubThree).mem.stopped 2097152 (3 * 2097152) = false ∧
    ({ up.mem with stackTripped := [0] } : Mem).stopped 2097152 64 = false ∧
    ({ up.mem with stackTripped := [2] } : Mem).stopped 2097152 64 = true := by decide +kernel

theorem witness_refusedMemory :
    (∀ x ∈ [[4, 0, 0, 0] ++ natLE 4 1 ++ natLE 8 0, [3, 0, 0, 0] ++ natLE 4 0 ++ natLE 8 0, natLE 4 0 ++ natLE 4 262145 ++ natLE 8 0],
      (holding up 1 opMemMap x).memMessageBusy 1 = false ∧ Turn (holding up 1 opMemMap x) 1 opMemMap (req opMemMap x) ∧
      (3 < fieldAt x 0 1 ∨ fieldAt x 4 4 = 0 ∨ 262144 < fieldAt x 4 4)) ∧
    (∀ op ∈ [opMemUnmap, opMemScrub], Turn (holding up 1 op (natLE 16 4095)) 1 op (req op (natLE 16 4095)) ∧
      ((holding up 1 op (natLE 16 4095)).plot 1).windows.find (fieldAt (natLE 16 4095) 0 2) = none) ∧
    Turn (holding up 1 opMemUnmap (natLE 8 0)) 1 opMemUnmap (req opMemUnmap (natLE 8 0)) ∧
    ((holding up 1 opMemUnmap (natLE 8 0)).plot 1).windows.find 0 = some { tier := 0, first := 0, count := 8 } ∧
    ((holding up 1 opMemUnmap (natLE 8 0)).plot 1).windowBusy { tier := 0, first := 0, count := 8 } = true := by decide +kernel

/-- The plan and its step. -/
def plan0 : Plan := buildPlan image0 1 0

/-- Plot 1 runs one step of a plan of inference over one active sequence. -/
def listRunning (b : Option Building) (dropped : List Nat) : State :=
  pooled0.updPlot 1 (fun q => { q with
    binding := some bind0, plans := [(1, plan0)], incarnations := [(0, 1)]
    seqs := [(0, { seq0 with seqId := 2 ^ 20, state := seqActive, pendingToks := 3, inAddr := 0x100000, openBlock := 0x3000, ctx := 62 })]
    running := [{ step0 up with building := b, droppedMbs := dropped }] })

theorem witness_listSelection : ∀ d ∈ [[], [0]], (listRunning none d).unitFenced 28 = false ∧
    ((listRunning none d).plot 1).runOf 1 = some { step0 up with building := none, droppedMbs := d } ∧
    ((listRunning none d).plot 1).plans.find 1 = some plan0 ∧ ((listRunning none d).plot 1).bowerOf plan0 = none ∧
    (step0 up).stopped = false ∧ (step0 up).ended = false ∧ (step0 up).lists.length < plan0.listsOf ∧
    d.contains (step0 up).lists.length = !d.isEmpty := by decide +kernel

/-- The same plot, the step's only list published. -/
def listDone : State :=
  (listRunning none []).updPlot 1 (fun q => { q with running := [{ step0 up with lists := [WorkList.blank 5 0] }] })

theorem witness_listSelection_ahead : listDone.unitFenced 28 = false ∧
    (listDone.plot 1).runOf 1 = some { step0 up with lists := [WorkList.blank 5 0] } ∧ (listDone.plot 1).plans.find 1 = some plan0 ∧
    (listDone.plot 1).bowerOf plan0 = none ∧ (step0 up).building = none ∧ (step0 up).stopped = false ∧ (step0 up).ended = false ∧
    plan0.listsOf ≤ [WorkList.blank 5 0].length ∧ (listDone.plot 1).ahead.find 1 = none := by decide +kernel

/-- The list of that step, its candidates known. -/
def building0 : Building := { Building.init 0 with cands := [2 ^ 20], complete := true }

theorem witness_listClose :
    ((listRunning (some building0) []).plot 1).runOf 1 = some { step0 up with building := some building0 } ∧
    ((listRunning (some building0) []).plot 1).plans.find 1 = some plan0 ∧ plan0.handle = 1 ∧
    ((listRunning (some building0) []).plot 1).bowerOf plan0 = none ∧ (step0 up).stopped = false ∧
    building0.complete = true ∧ building0.closed = false ∧ (listRunning (some building0) []).appendingFor 1 = false := by decide +kernel
/-- The same plot runs the step in a Bower of three, where module 11 is the parent. -/
def inBower (b : Option Building) : State :=
  linked ((listRunning b []).updPlot 1 (fun q => { q with plans := [(1, buildPlan imageBower 1 0)] })) (groupAs 1 1 groupActive)

theorem witness_candidates : ∃ g u, (inBower none).arrive 3 (frameOf 7 2 0 5 (natLE 4 (2 ^ 20))) = .taken 1 g u ∧
    (u.plot 1).running = [{ step0 up with building := none }] ∧ (step0 up).step = 5 ∧ (step0 up).lists.length = 0 ∧
    (u.plot 1).plans.find (step0 up).plan = some (buildPlan imageBower 1 0) ∧
    (buildPlan imageBower 1 0).header.bgroup = g.groupId := ⟨_, _, rfl, by decide +kernel⟩

theorem witness_readyset : ∃ g u, (inBower (some building0)).arrive 3 (frameOf 8 2 0 5 [1]) = .taken 1 g u ∧
    (u.plot 1).running = [{ step0 up with building := some building0 }] ∧ g.parent u.fabric = some 0 := ⟨_, _, rfl, by decide +kernel⟩

/-- A seal job of two rows that fills the open block of sequence 0. -/
def sealing : AppendJob := { plot := 1, index := 0, area := 0x400000, nextRow := 0, left := 2, step := 5, sampled := 0, stop := false }

/-- The sequence of that job. -/
def sealed0 : SeqEntry :=
  { seq0 with seqId := 2 ^ 20, state := seqListed, pendingToks := 3, inAddr := 0x100000, openBlock := 0x3000, ctx := 62, maxLen := 128
              reserved := [0x5000] }

/-- Plot 1 with that job under way. -/
def appending : State :=
  { (listRunning none []).updPlot 1 (fun q => { q with seqs := [(0, sealed0)], running := [] }) with
    trellis := { up.trellis with appending := [sealing] } }

theorem witness_sealJob : appending.trellis.appending.find? (fun j => j.plot == 1) = some sealing ∧
    (appending.plot 1).seqs.find sealing.index = some sealed0 ∧ (appending.plot 1).binding = some bind0 ∧
    sealing.left = sealing.chunk sealed0.ctx ∧ sealing.left < sealed0.pendingToks ∧ sealed0.ctx + sealing.left < sealed0.maxLen ∧
    (appending.plot 1).mail.held = [] ∧ appending.mem.wf = true ∧ sealed0.state = seqListed ∧
    appending.mem.poisonedIn sealed0.openBlock (kvBlockBytes bind0 1) = false ∧
    0x5000 + (appending.mem.sealedBlock bind0 sealed0.kvFmt sealed0.openBlock false).length ≤ 0x5000 + 4096 ∧
    sealed0.openBlock + kvBlockBytes bind0 1 ≤ 0x5000 ∧ sealed0.ptRoot + 512 ≤ 0x5000 ∧
    appending.mem.pteSlot sealed0.ptRoot sealed0.sealedPages = none := by decide +kernel

/-- GROUP_JOIN of reduction group 5 of job 77 with a roster of three, or of one. -/
def joinBody (m : Nat) : Bytes :=
  natLE 4 5 ++ [0, 10] ++ natLE 2 8 ++ natLE 4 m ++ natLE 4 0 ++ natLE 8 77 ++ natLE 8 0x100000 ++ natLE 32 0

/-- The bytes of that roster: this module, 11 and 12. -/
def rosterBytes : List Host.Cell := [(0x100008, 11), (0x100010, 12)]

/-- Plot 1 with room for a group, towards modules 11 and 12. -/
def joinable : State :=
  (((up.updPort 3 (fun t => { t with linkUp := true, peerId := 11, peerValid := true })).updPort 4 (fun t =>
    { t with linkUp := true, peerId := 12, peerValid := true })).updPlot 1 (fun q => { q with
      cfg := { q.cfg with retainMib := 8, rxVc1 := 32, rxVc2 := 32, rxVc3 := 32 } })).updMem (fun m => { m with bytes := rosterBytes })

theorem witness_groupJoin : ∀ m ∈ [1, 3],
    Turn (holding joinable 1 opGroupJoin (joinBody m)) 1 opGroupJoin (req opGroupJoin (joinBody m)) ∧
    (holding joinable 1 opGroupJoin (joinBody m)).joinStatus 1 (req opGroupJoin (joinBody m)) = none ∧
    (holding joinable 1 opGroupJoin (joinBody m)).freeGroup = some 0 ∧
    ((holding joinable 1 opGroupJoin (joinBody m)).plot 1).mail.held.find? (fun x => x.slot == 0) = some (req opGroupJoin (joinBody m)) := by decide +kernel

/-- A forming group of which module 12 has answered, with its request. -/
def forming : Group := { groupAs 0 0 groupForming with joinSlot := some 0, answered := [12] }

/-- Module 11's handshake of that group, with a KIND. -/
def greeting (kind : Nat) : Handshake :=
  { src := 11, groupId := 5, kind := kind, members := 3, jobTag := 77, digest := 0, rank := 1, generation := 1, lost := [], released := false }

theorem witness_groupHandshake :
    let s := holding (linked up forming) 1 opGroupJoin (joinBody 3)
    Arrives s link3 ∧ s.isOpen 1 = true ∧ (s.plot 1).groupOf 1 = some forming ∧ (s.plot 1).groupById 5 = some forming ∧
    s.heldIn 1 0 = some (req opGroupJoin (joinBody 3)) ∧ (∀ k ∈ [0, 1], (greeting k).src ∈ forming.neighbours s.fabric) ∧
    (∀ f ∈ forming.neighbours s.fabric, s.paired f = true) ∧ (greeting 0).kind = forming.kind ∧ (greeting 1).kind ≠ forming.kind ∧ (greeting 0).members = forming.size ∧
    (greeting 0).rank = forming.rankOf 11 ∧ (∀ k ∈ [0, 1], (greeting k).generation = forming.generation) ∧ (∀ f ∈ forming.neighbours s.fabric, f = 11 ∨ f ∈ forming.answered) := by decide +kernel

theorem witness_groupsOnlyOf (g : Group) (op : Nat) (pl : Bytes) : (holding (linked up g) 1 op pl).groupsOnlyOf 1 := by
  intro q hq
  simp only [holding, linked, State.updMail, State.plot_updPlot_ne _ _ _ _ hq]
  rcases Nat.lt_or_ge q 2 with h | h
  · obtain rfl : q = 0 := by omega
    exact ⟨rfl, rfl⟩
  · have : ((up.updPort 3 (fun t => { t with linkUp := true, peerId := 11, peerValid := true })).plot q) = Plot.init := by
      obtain ⟨k, rfl⟩ := Nat.exists_eq_add_of_le h
      simp [State.plot, NMap.get, up]; omega
    rw [this]; exact ⟨rfl, rfl⟩

theorem witness_groupJoinTimeout :
    let s := holding { linked up forming with mod := { up.mod with tick := 2000000000 } } 1 opGroupJoin (joinBody 3)
    s.isOpen 1 = true ∧ (s.plot 1).groupOf 1 = some forming ∧ forming.joinTick + forming.timeoutS * 100000000 ≤ s.now ∧
    s.heldIn 1 0 = some (req opGroupJoin (joinBody 3)) := by decide +kernel

theorem witness_groupLeave :
    let s := holding (linked up (groupAs 0 0 groupActive)) 1 opGroupLeave (natLE 8 1)
    Turn s 1 opGroupLeave (req opGroupLeave (natLE 8 1)) ∧ (s.plot 1).groupOf (fieldAt (natLE 8 1) 0 2) = some (groupAs 0 0 groupActive) ∧
    (s.plot 1).plansNaming 5 = [] ∧ (∀ f ∈ [11], s.portTo f ≠ none) ∧
    (let d := holding (linked up (groupAs 0 0 groupDissolved)) 1 opGroupLeave (natLE 8 1)
     Turn d 1 opGroupLeave (req opGroupLeave (natLE 8 1)) ∧ ((d.plot 1).groupOf 1).map (·.state) = some groupDissolved) ∧
    ((s.updPlot 1 (fun q => { q with plans := [(1, buildPlan imageBower 1 0)] })).plot 1).plansNaming 5 ≠ [] := by decide +kernel

/-- ROUTE_SET: module 11 through port 3, and the entry of module 12 deleted. -/
def routeBody : Bytes := [2] ++ natLE 7 0 ++ natLE 8 11 ++ natLE 2 8 ++ natLE 6 0 ++ natLE 8 12 ++ natLE 2 0 ++ natLE 6 0

theorem witness_routeSet :
    let s := holding (linked up (groupAs 0 0 groupActive)) 1 opRouteSet routeBody
    Turn s 1 opRouteSet (req opRouteSet routeBody) ∧ fieldAt routeBody 0 1 = 2 ∧
    (∀ i < 2, (routeEntry routeBody i).2 < 4096 ∧ ((routeEntry routeBody i).2 = 0 ∨ s.portLeads 3 (routeEntry routeBody i).1 = true)) ∧
    (routesAfter routeBody (s.plot 1).routes).length ≤ 256 := by decide +kernel

/-- Plot 1 with a group of three heard long ago. -/
def silent (st : Nat) (susp : Bool) : State :=
  { linked up { groupAs 0 0 st with heard := [(11, 0), (12, 29000000)], suspended := susp } with mod := { up.mod with tick := 30000000 } }

/-- That group. -/
def silentGroup (st : Nat) (susp : Bool) : Group := { groupAs 0 0 st with heard := [(11, 0), (12, 29000000)], suspended := susp }

theorem witness_heartbeats : (silent groupSuspect false).bothy.ready = true ∧ (silent groupSuspect false).bothy.paused = false ∧
    (silent groupSuspect false).bothy.lastBeat + heartbeatTicks ≤ (silent groupSuspect false).now ∧ Arrives (silent groupSuspect false) link3 ∧
    ((silent groupSuspect false).plot 1).groups = [silentGroup groupSuspect false] ∧
    11 ∈ (silentGroup groupSuspect false).neighbours (silent groupSuspect false).fabric := by decide +kernel

theorem witness_heartbeatReceive :
    let s := (silent groupSuspect false).updPort 4 (fun t => { t with linkUp := true, peerId := 12, peerValid := true })
    ∀ n ∈ (silentGroup groupSuspect false).neighbours s.fabric, s.route 1 n ≠ [] ∧
      (n = 11 ∨ s.now < (silentGroup groupSuspect false).heard.get 0 n + suspectTicks) := by decide +kernel

theorem witness_leaseLapse : ∀ x ∈ [(groupActive, false), (groupSuspect, false), (groupRecompacting, false), (groupActive, true)],
    ((silent x.1 x.2).plot 1).groupOf 1 = some (silentGroup x.1 x.2) ∧ ((silent x.1 x.2).plot 1).groupById 5 = some (silentGroup x.1 x.2) ∧
    ((silent x.1 x.2).plot 1).plans = [] ∧ ((silent x.1 x.2).plot 1).running = [] ∧ ((silent x.1 x.2).plot 1).policies = [] ∧
    ((silent x.1 x.2).plot 1).fills = [] ∧ ((silent x.1 x.2).plot 1).serving = [] ∧ ((silent x.1 x.2).plot 1).partners = [] ∧
    11 ∈ (silentGroup x.1 x.2).neighbours (silent x.1 x.2).fabric ∧ 11 ∈ (silentGroup x.1 x.2).live ∧ 11 ≠ (silent x.1 x.2).fabric ∧
    (silentGroup x.1 x.2).heard.find 11 = some 0 ∧ 0 + leaseTicks + 0 ≤ (silent x.1 x.2).now ∧
    1 ∈ (silentGroup x.1 x.2).neighbourRanks (silent x.1 x.2).fabric ∧ (silentGroup x.1 x.2).at 1 = 11 ∧
    (silentGroup x.1 x.2).joinSlot = none ∧ (silentGroup x.1 x.2).regroupTick + leaseTicks ≤ (silent x.1 x.2).now := by decide +kernel

theorem witness_joinLapse :
    let g : Group := { silentGroup groupForming false with joinSlot := some 0 }
    let s := holding ((silent groupForming false).updPlot 1 (fun q => { q with groups := [g] })) 1 opGroupJoin []
    s.isOpen 1 = true ∧ (s.plot 1).groupOf 1 = some g ∧ s.heldIn 1 0 = some (req opGroupJoin []) ∧ 11 ∈ g.neighbours s.fabric ∧
    g.heard.find 11 = some 0 ∧ leaseTicks ≤ s.now := by decide +kernel

theorem witness_loss : ∀ st ∈ [groupActive, groupForming], Arrives (silent st false) link3 ∧
    ((silent st false).plot 1).groupOf 1 = some (silentGroup st false) ∧ ((silent st false).plot 1).groupById 5 = some (silentGroup st false) ∧
    (silentGroup st false).at 1 ∈ (silentGroup st false).live ∧ (silentGroup st false).at 1 ≠ (silent st false).fabric ∧
    0 < (silentGroup st false).generation := by decide +kernel

theorem witness_loss_unknown : Arrives (up.updPort 3 (fun t => { t with linkUp := true })) link3 ∧
    (∀ q < 2, ((up.updPort 3 (fun t => { t with linkUp := true })).plot q).groups = [] ∧
      ((up.updPort 3 (fun t => { t with linkUp := true })).plot q).fills = []) := by decide +kernel

theorem witness_partnerLapse :
    let s := (silent groupActive false).updPlot 1 (fun q => { q with partners := [(2, partner0)] })
    (s.plot 1).fills = [] ∧ (s.plot 1).serving = [] ∧ (s.plot 1).partners = [(2, partner0)] ∧ partner0.handle = 2 ∧ partner0.state < 2 ∧
    partner0.heard + leaseTicks ≤ s.now := by decide +kernel

theorem witness_memberLost :
    let s := holding (silent groupActive false) 1 opMemberLost (natLE 8 11)
    Turn s 1 opMemberLost (req opMemberLost (natLE 8 11)) ∧ s.edgesWith 1 (fieldAt (natLE 8 11) 0 8) = [silentGroup groupActive false] := by
  decide +kernel

/-- SNAPSHOT_BEGIN with a role. -/
def beginBody (role : Nat) : Bytes :=
  natLE 2 role ++ natLE 2 10 ++ natLE 4 0 ++ natLE 8 1 ++ natLE 8 11 ++ natLE 8 (if role = 1 then 0x11000000000 else 0x100000) ++
  natLE 8 0x10000 ++ natLE 8 77 ++ natLE 16 0

theorem witness_snapshotBegin : ∀ k ∈ [0, 1], ∀ s ∈ [holding (partnering []) 1 opSnapshotBegin (beginBody k)],
    Turn s 1 opSnapshotBegin (req opSnapshotBegin (beginBody k)) ∧ fieldAt (beginBody k) 0 1 = k ∧
    (s.plot 1).plans.find (fieldAt (beginBody k) 8 4) = some (buildPlan image0 1 0) ∧ (s.plot 1).runOf 1 = none ∧
    fieldAt (beginBody k) 2 2 ≠ 0 ∧ fieldAt (beginBody k) 4 4 = 0 ∧
    (k = 0 → s.inHbmWindows 1 (fieldAt (beginBody k) 0x18 8) (fieldAt (beginBody k) 0x20 8) = true) ∧
    (k = 1 → s.inColdWindows 1 (fieldAt (beginBody k) 0x18 8) (fieldAt (beginBody k) 0x20 8) = true) ∧
    s.keysTo 1 11 = true ∧ (s.plot 1).imageBytes bind0 (buildPlan image0 1 0) ≤ 0x10000 ∧ (s.plot 1).freePartner = some 0 := by
  decide +kernel

theorem witness_snapshotBeginEnd :
    Turn (holding (partnering [(2, partner0)]) 1 opSnapshotBegin (beginBody 2)) 1 opSnapshotBegin (req opSnapshotBegin (beginBody 2)) ∧
    partner0.peer = fieldAt (beginBody 2) 0x10 8 ∧ partner0.jobTag = fieldAt (beginBody 2) 0x28 8 := by decide +kernel

theorem witness_partnershipFormed : ∀ x ∈ [{ partner0 with formed := false, slot := some 0 }],
    ∀ s ∈ [holding { partnering [(2, x)] with mod := { up.mod with tick := 30000000 } } 1 opSnapshotBegin (beginBody 0)],
    s.isOpen 1 = true ∧ (s.plot 1).partners.find 2 = some x ∧ (1 : Nat) ≠ x.role ∧ s.paired x.peer = true ∧
    s.heldIn 1 0 = some (req opSnapshotBegin (beginBody 0)) ∧ x.handle = 2 ∧ x.startTick + leaseTicks ≤ s.now := by decide +kernel

theorem witness_snapshotQuery :
    let s := holding (partnering [(2, partner0)]) 1 opSnapshotQuery (natLE 8 2)
    Turn s 1 opSnapshotQuery (req opSnapshotQuery (natLE 8 2)) ∧ (s.plot 1).partners.find (fieldAt (natLE 8 2) 0 2) = some partner0 := by
  decide +kernel

/-- A keeper that streams step 5. -/
def keeper : Partner := { partner0 with role := 1, len := 65536, streamStep := some 5, images := [some (4, 0), none] }

theorem witness_snapshot : ∀ c ∈ [1, 4], ∀ f ∈ [{ frameOf 9 3 0 5 [1, 2] with seq := 77, c := c }],
    (∃ u v x, (partnering [(2, keeper)]).arriveBare 3 f = (some u, v) ∧
      tenantPlots.findSome? (fun p => ((u.plot p).partners.find? (fun e => e.2.formed && e.2.role == 1 &&
        e.2.state != partnerOrphaned && e.2.peer == f.src && e.2.jobTag % 2 ^ 32 == f.seq)).map (fun e => (p, e.2))) = some (1, x) ∧
      x.streamStep = some f.step ∧ x.got.contains f.tile = false ∧ 8192 * f.tile + f.payload.length ≤ x.len / 2) ∧
    (partnering [(2, keeper)]).mem.wf = true := by
  intro c hc f hf
  obtain rfl : f = _ := List.mem_singleton.mp hf
  exact ⟨⟨_, _, { keeper with heard := 0 }, rfl, by simp only [List.mem_cons, List.not_mem_nil, or_false] at hc; rcases hc with rfl | rfl <;> decide +kernel⟩, by decide +kernel⟩

theorem witness_partnerRestoreRequest : ∀ k ∈ [0, 1], Arrives (partnering [(2, keeper)]) link3 ∧
    tenantPlots.findSome? (fun p => ((((partnering [(2, keeper)]).heardOn link3).plot p).partners.find? (fun e =>
      e.2.formed && e.2.role == 1 && e.2.peer == link3.src && e.2.jobTag == 77)).map (fun e => (p, e.2))) = some (1, keeper) ∧
    ((keeper.images.getD k none).isNone = (k == 1)) := by decide +kernel

theorem witness_snapshotDone : ∀ x ∈ [{ partner0 with streamStep := some 5 }],
    ((partnering [(2, x)]).plot 1).partners.find 2 = some x ∧ x.role = 0 ∧ x.image.length ≤ x.streamBytes ∧ x.owed = none ∧
    ((partnering [(2, x)]).plot 1).plans.find x.plan = some (buildPlan image0 1 0) ∧ Hears (partnering [(2, x)]) 1 := by decide +kernel

/-- RESTORE from device memory at 1 MiB, or from module 11. -/
def restoreBody (src : Nat) : Bytes := natLE 2 src ++ [0xFF, 0] ++ natLE 4 1 ++ natLE 8 (if src = 1 then 0x100000 else 11) ++ natLE 16 0

theorem witness_restore : ∀ k ∈ [0, 1], ∀ s ∈ [(holding (partnering []) 1 opRestore (restoreBody k)).updMem (fun m => { m with bytes := [(0x100048, 192)] })],
    Turn s 1 opRestore (req opRestore (restoreBody k)) ∧ fieldAt (restoreBody k) 0 1 = k ∧ fieldAt (restoreBody k) 2 1 = 0xFF ∧
    (s.plot 1).plans.find (fieldAt (restoreBody k) 4 4) = some (buildPlan image0 1 0) ∧ (s.plot 1).running = [] ∧
    (s.plot 1).fillOf 1 3 = none ∧ s.inWindows 1 0x100000 128 = true ∧ s.mem.readNat (0x100000 + 0x48) 8 = 192 ∧
    s.paired 11 = true := by decide +kernel

/-- SURVIVE_POLICY ARM of plan 1, of one member, with nothing to absorb. -/
def armBody : Bytes :=
  natLE 4 0 ++ natLE 4 1 ++ natLE 8 0 ++ [1, 1, 0, 1, 0, 0, 0, 0] ++ natLE 2 0 ++ natLE 2 0 ++ natLE 4 0xFFFFFFFF ++ natLE 64 0 ++
  (List.replicate 256 0xFF) ++ natLE 32 0

theorem witness_survivePolicyArm :
    Turn (holding (partnering []) 1 opSurvivePolicy armBody) 1 opSurvivePolicy (req opSurvivePolicy armBody) ∧ fieldAt armBody 0 1 = 0 ∧
    (holding (partnering []) 1 opSurvivePolicy armBody).armStatus 1 (policyAt armBody) = none := by decide +kernel

theorem witness_survivePolicyOps : ∀ k ∈ [1, 2],
    Turn (holding (partnering []) 1 opSurvivePolicy (natLE 4 k ++ natLE 4 1 ++ natLE 8 0)) 1 opSurvivePolicy
      (req opSurvivePolicy (natLE 4 k ++ natLE 4 1 ++ natLE 8 0)) ∧
    (((partnering []).plot 1).plans.find (fieldAt (natLE 4 k ++ natLE 4 1 ++ natLE 8 0) 4 4)).isSome = true := by decide +kernel

/-- FILL of 8 KiB at 1 MiB, or REINSTATE, from module 11. -/
def fillBody (k : Nat) : Bytes :=
  natLE 4 k ++ natLE 4 1 ++ natLE 8 0 ++ [0, if k = 3 then 1 else 0, 1, 0, 0, 0, 0, 0] ++ natLE 8 0x100000 ++
  natLE 8 (if k = 3 then 8192 else 11) ++ natLE 8 11 ++ natLE 64 0

theorem witness_survivePolicyFill : ∀ k ∈ [3, 4], ∀ s ∈ [holding (partnering []) 1 opSurvivePolicy (fillBody k)],
    Turn s 1 opSurvivePolicy (req opSurvivePolicy (fillBody k)) ∧ fieldAt (fillBody k) 0 1 = k ∧
    s.fillHolds 1 (fillAt (req opSurvivePolicy (fillBody k)) (if k = 3 then 0 else 2) s.now) = true ∧
    (fillAt (req opSurvivePolicy (fillBody k)) (if k = 3 then 0 else 2) s.now).sources = [11] ∧ s.portTo 11 ≠ none ∧ s.keysTo 1 11 = true ∧ s.paired 11 = true ∧
    (s.plot 1).plans.find (fillAt (req opSurvivePolicy (fillBody k)) 0 s.now).plan = some (buildPlan image0 1 0) := by decide +kernel

/-- A fill of that area under way. -/
def filling (len : Nat) : FillState :=
  { plan := 1, use := 0, stage := 0, dst := 0x100000, len := len, parts := [], frames := none, bad := false, sources := [11], ports := 1,
    slot := some 0, heard := 0, origin := none }

/-- A frame of it. -/
def fillPart : Frame := { frameOf 10 3 0 0 [1, 2, 3] with c := 2 }

theorem witness_fill : ∀ len ∈ [4096, 16384],
    ∀ s ∈ [holding ((partnering []).updPlot 1 (fun q => { q with fills := [filling len] })) 1 opSurvivePolicy (fillBody 3)],
    ∃ u v, s.arriveBare 3 fillPart = (some u, v) ∧ s.mem.wf = true ∧
      tenantPlots.findSome? (fun p => ((u.plot p).fills.find? (fun x => x.accepts fillPart)).map (fun x => (p, x))) = some (1, filling len) ∧
      (u.plot 1).fills = [filling len] ∧ 8192 * fillPart.tile < len ∧
      u.inWindows 1 ((filling len).dst + 8192 * fillPart.tile) (fillPart.payload.take len).length = true ∧
      s.heldIn 1 0 = some (req opSurvivePolicy (fillBody 3)) ∧
      ((({ filling len with frames := some 2, parts := [(0, [])] } : FillState).done < len) ↔ len = 16384) := by
  intro len hl s hs
  obtain rfl : s = _ := List.mem_singleton.mp hs
  refine ⟨_, _, rfl, ?_⟩
  simp only [List.mem_cons, List.not_mem_nil, or_false] at hl
  rcases hl with rfl | rfl <;> decide +kernel

/-- A policy under which this module has absorbed stage 1 and has promoted its mirror. -/
def absorbing : Policy :=
  { policyAt armBody with members := 2, state := 2, absorbedStage := 1, retired := true, promoted := 1, mirrorAddr := 0x10000000000, mirrorLen := 4096 }

theorem witness_copies : ∀ s ∈ [(partnering []).updPlot 1 (fun q => { q with policies := [(1, absorbing)] })], ∀ u ∈ [s.heardOn link3],
    Arrives s link3 ∧ u.askedGroup 5 77 = some (1, groupAs 0 0 groupActive) ∧ (u.plot 1).baseArea 1 ≠ none ∧
    (u.plot 1).binding = some bind0 ∧
    (u.plot 1).holdsStage 1 = true ∧ u.keysTo 1 link3.src = true ∧ u.paired link3.src = true ∧ (u.plot 1).absorbedStage = some 1 ∧ bind0.fp ≠ 8 ∧
    (s.plot 1).policies.find 1 = some absorbing ∧ absorbing.plan = 1 ∧ (s.plot 1).runOf absorbing.activePlan = none := by decide +kernel

/-- The module with its Gatehouse's random source sound. -/
def keyed : State := { up with gatehouse := { up.gatehouse with trngOk := true } }

theorem witness_attestGet : (holding keyed 1 opAttestGet (natLE 8 0 ++ natLE 8 0x100000 ++ natLE 48 5)).mem.wf = true ∧
    Turn (holding keyed 1 opAttestGet (natLE 8 0 ++ natLE 8 0x100000 ++ natLE 48 5)) 1 opAttestGet
      (req opAttestGet (natLE 8 0 ++ natLE 8 0x100000 ++ natLE 48 5)) ∧
    (holding keyed 1 opAttestGet []).inWindows 1 0x100000 16384 = true ∧
    Turn (holding keyed 0 opAttestGet (natLE 16 0 ++ natLE 48 5)) 0 opAttestGet (req opAttestGet (natLE 16 0 ++ natLE 48 5)) ∧
    keyed.gatehouse.trngOk = true := by decide +kernel

/-- KEY_INSTALL with an operation, of slot 3: a source at 1 MiB of a length, a destination at 2 MiB. -/
def keyBody (op len : Nat) : Bytes := [BitVec.ofNat 8 op, 3] ++ natLE 6 0 ++ natLE 8 (if op = 3 then 0 else 0x100000) ++ natLE 8 len ++
  natLE 8 (if op = 3 then 0 else 0x200000)

/-- The head of a blob of one key, in attested mode (0) or device-set mode (1), in device memory at 1 MiB. -/
def blobCells (mode : Nat) : List Host.Cell :=
  [(0x100000, 0x57), (0x100001, 0x4B), (0x100002, 0x42), (0x100003, 0x31), (0x100004, 1)] ++ (if mode = 1 then [(0x100006, 1)] else []) ++
  [(0x100008, 9), (0x100038, 1)]

theorem witness_keyInstall : ∀ mode < 2, ∀ s ∈ [(holding keyed 1 opKeyInstall (keyBody 0 1244)).updMem (fun m => { m with bytes := blobCells mode })],
    Turn s 1 opKeyInstall (req opKeyInstall (keyBody 0 1244)) ∧ fieldAt (keyBody 0 1244) 1 1 = 3 ∧ fieldAt (keyBody 0 1244) 0x10 8 = 1244 ∧
    s.inWindows 1 0x100000 1244 = true ∧ s.mem.poisonedIn 0x100000 1244 = false ∧ blobHolds (s.mem.readBytes 0x100000 1244) 1244 = true := by
  decide +kernel

theorem witness_keyDelete : ∀ s ∈ [holding keyed 1 opKeyInstall (keyBody 1 0)],
    Turn s 1 opKeyInstall (req opKeyInstall (keyBody 1 0)) ∧ fieldAt (keyBody 1 0) 0 1 = 1 ∧ s.gatehouse.trngOk = true ∧
    (holding up 1 opKeyInstall (keyBody 1 0)).gatehouse.trngOk = up.gatehouse.trngOk := by decide +kernel

theorem witness_keyUnseal : ∀ s ∈ [(holding (keyed.updPlot 1 (fun q => { q with keys := [(3, { keyId := 9, key := 1 })] })) 1 opKeyInstall (keyBody 2 128)).updMem
      (fun m => { m with bytes := [(0x100006, 1), (0x100028, 16)] })],
    s.mem.wf = true ∧ Turn s 1 opKeyInstall (req opKeyInstall (keyBody 2 128)) ∧ fieldAt (keyBody 2 128) 0 1 = 2 ∧
    s.inWindows 1 0x100000 128 = true ∧ s.mem.poisonedIn 0x100000 64 = false ∧ fieldAt (s.mem.readBytes 0x100000 64) 0x28 8 = 16 ∧
    s.inWindows 1 0x200000 16 = true ∧ overlap 0x100000 128 0x200000 16 = false ∧ fieldAt (s.mem.readBytes 0x100000 64) 6 1 = 1 ∧
    (s.plot 1).keys.find 3 = some { keyId := 9, key := 1 } ∧ fieldAt (s.mem.readBytes 0x100000 64) 0x30 4 ≤ s.svnGatehouse := by decide +kernel

theorem witness_hallAnchor : ∀ s ∈ [holding { keyed with plots := [(0, { Plot.init with state := 1 })] } 0 opKeyInstall (keyBody 3 0)],
    Turn s 0 opKeyInstall (req opKeyInstall (keyBody 3 0)) ∧ fieldAt (keyBody 3 0) 0 1 = 3 ∧ fieldAt (keyBody 3 0) 8 8 = 0 ∧
    fieldAt (keyBody 3 0) 0x18 8 = 0 ∧ s.tenantOpen = false := by decide +kernel

/-- TELEMETRY_READ of a class with CONSUME, of a plot and a selector, to an address with room. -/
def readBody (cls consume named sel dst room : Nat) : Bytes :=
  natLE 1 cls ++ natLE 1 consume ++ natLE 2 named ++ natLE 4 sel ++ natLE 8 dst ++ natLE 8 room ++ natLE 8 0

theorem witness_telemetry : ∀ cls ∈ [1, 2, 3, 4, 5],
    Turn (holding up 0 opTelemetryRead (readBody cls 1 0 0 0 0x80000)) 0 opTelemetryRead (req opTelemetryRead (readBody cls 1 0 0 0 0x80000)) ∧
    fieldAt (readBody cls 1 0 0 0 0x80000) 0 1 = cls ∧ fieldAt (readBody cls 1 0 0 0 0x80000) 2 1 = 0 ∧
    fieldAt (readBody cls 1 0 0 0 0x80000) 8 8 = 0 ∧ 524288 ≤ fieldAt (readBody cls 1 0 0 0 0x80000) 0x10 8 := by decide +kernel

theorem witness_stepData : ∀ cls ∈ [6, 7], ∀ consume < 2,
    ∀ s ∈ [holding (up.updPlot 1 (fun q => { q with ratios := [(3, 1, 0, 0)] })) 1 opTelemetryRead (readBody cls consume 0 0xFFFFFFFF 0x100000 4096)],
    s.mem.wf = true ∧ Turn s 1 opTelemetryRead (req opTelemetryRead (readBody cls consume 0 0xFFFFFFFF 0x100000 4096)) ∧
    fieldAt (readBody cls consume 0 0xFFFFFFFF 0x100000 4096) 0 1 = cls ∧ s.inWindows 1 0x100000 4096 = true ∧
    Turn (holding up 0 opTelemetryRead (readBody cls 0 16 0xFFFFFFFF 0 4096)) 0 opTelemetryRead
      (req opTelemetryRead (readBody cls 0 16 0xFFFFFFFF 0 4096)) ∧
    fieldAt (readBody cls 0 16 0xFFFFFFFF 0 4096) 2 1 = 16 := by decide +kernel

/-- BELVEDERE_CFG with flags and STALL_STEPS. -/
def belBody (flags stall : Nat) : Bytes := natLE 2 flags ++ natLE 2 0 ++ natLE 4 0 ++ natLE 4 0 ++ natLE 2 stall ++ natLE 18 0

theorem witness_belvedereCfg : (∀ k ∈ [(0, 1), (0, 0), (1, 0)],
      Turn (holding up 1 opBelvedereCfg (belBody k.1 k.2)) 1 opBelvedereCfg (req opBelvedereCfg (belBody k.1 k.2)) ∧
      bitOf (fieldAt (belBody k.1 k.2) 0 1) 0 = decide (k.1 = 1)) ∧
    (parseBel (belBody 0 1)).holds = true ∧ (parseBel (belBody 0 0)).holds = false := by decide +kernel

/-- A plan of training of adapter 3. -/
def planTrain : Plan := { buildPlan image0 1 0 with header := { (buildPlan image0 1 0).header with workload := 0 }, adapters := [3] }

/-- Its step, whose tiles have all landed, with adapter 3 in the skip set. -/
def stepTrain : Step := { step0 up with skipSet := some [3] }

theorem witness_optimiserUpdate : ∀ s ∈ [up.updPlot 1 (fun q => { q with
      binding := some bind0, plans := [(1, planTrain)], adapters := [(3, newAdapter [] 3 true)], running := [stepTrain] })],
    (s.plot 1).runOf 1 = some stepTrain ∧ (s.plot 1).plans.find 1 = some planTrain ∧ planTrain.handle = 1 ∧
    planTrain.header.workload = 0 ∧ stepTrain.landed = true ∧ stepTrain.stopped = false ∧ stepTrain.updated = [] ∧ stepTrain.skipped = [] ∧
    (s.plot 1).binding ≠ none ∧ planTrain.adapters = [3] ∧ (s.plot 1).adapters.find 3 = some (newAdapter [] 3 true) := by decide +kernel

/-- FW_STAGE, or FW_ACTIVATE with an operation, of a class. -/
def stageBody (cls : Nat) : Bytes := [0, BitVec.ofNat 8 cls] ++ natLE 6 0 ++ natLE 8 0 ++ natLE 32 0
def activateBody (op cls flags : Nat) : Bytes := [BitVec.ofNat 8 op, BitVec.ofNat 8 cls, BitVec.ofNat 8 flags] ++ natLE 13 0

theorem witness_fwStage : ∀ s ∈ [holding updating 0 opFwStage (stageBody 4)],
    Turn s 0 opFwStage (req opFwStage (stageBody 4)) ∧ fieldAt (stageBody 4) 1 1 = 4 ∧ s.fwBusy (req opFwStage (stageBody 4)) = false ∧
    ({ s with mod := { s.mod with warmPending := true } } : State).fwBusy (req opFwStage (stageBody 4)) = true := by decide +kernel

theorem witness_fwActivate : ∀ c ∈ fwClasses, ∀ s ∈ [holding vacant 0 opFwActivate (activateBody 0 c 0)],
    Turn s 0 opFwActivate (req opFwActivate (activateBody 0 c 0)) ∧ fieldAt (activateBody 0 c 0) 1 1 = c ∧
    s.fwBusy (req opFwActivate (activateBody 0 c 0)) = false ∧ s.staged c = some (image c 2) ∧ s.openPlots = [] ∧ s.tenantOpen = false ∧
    s.gatehouse.halted = false ∧ s.mod.warmPending = false ∧ (s.plot 0).mail.held = [req opFwActivate (activateBody 0 c 0)] ∧
    s.bothy.takeOver = none ∧ (image c 2).stateMin ≤ s.stateVersion ∧ s.stateVersion ≤ (image c 2).stateVersion ∧
    up.staged c = none ∧ updating.openPlots ≠ [] := by decide +kernel

theorem witness_fwCommit : ∀ s ∈ [holding updating 0 opFwActivate (activateBody 1 4 0)],
    Turn s 0 opFwActivate (req opFwActivate (activateBody 1 4 0)) ∧ s.fwBusy (req opFwActivate (activateBody 1 4 0)) = false ∧ s.mod.state = 3 ∧
    (∀ c ∈ groupOf 4, (s.fwClass c).trial = false ∧ s.svn 4 ≤ s.svn c) ∧ s.fusedSvn 4 < s.svn 4 ∧
    Turn (holding updating 0 opFwQuery (natLE 8 3)) 0 opFwQuery (req opFwQuery (natLE 8 3)) := by decide +kernel

theorem witness_takeOver : ∀ s ∈ [holding { updating with bothy := { up.bothy with takeOver := some 0 } } 0 opFwActivate (activateBody 0 2 0)],
    s.bothy.takeOver = some 0 ∧ s.staged 2 = some (image 2 2) ∧ s.bothy.paused = false ∧ (∀ p ∈ tenantPlots, (s.plot p).running = []) ∧
    s.plotMoving = false ∧ s.isOpen 0 = true ∧ s.heldIn 0 0 = some (req opFwActivate (activateBody 0 2 0)) := by decide +kernel

theorem witness_bootsWell : updating.bootsWell soundBoot ∧ (∀ c ∈ fwClasses, (updating.fwClass c).switchWaits = false) ∧
    updating.mgmt.recovery.revertTicks = [] := by unfold State.bootsWell; decide +kernel

/-- The module with its pins as a step of a power-up or reset leaves them. -/
def pins (rails refclk resetHigh warm : Bool) : State :=
  { updating with mod := { updating.mod with rails := rails, refclk := refclk, resetHigh := resetHigh, warmPending := warm } }

theorem witness_boots : (∀ s ∈ [pins true true false false, pins true false true false, pins true true true true], s.bootsWell soundBoot) ∧
    (∀ l ∈ [[], [SramBank.store 5 3], [SramBank.glasshouse 1 3]], ∀ k : Bool, (pins true true true true).bootsWell { soundBoot with failedBanks := l, keyParity := k } ∧
      (pins true true true false).bootsWell { soundBoot with failedBanks := l, keyParity := k }) ∧
    (pins true true true false).mod.warmPending = false ∧ ({ pins true true true false with gatehouse := { updating.gatehouse with bootOk := true } } : State).gatehouse.bootOk = true ∧
    (pins true true true true).gatehouse.halted = false ∧ { soundBoot with katOk := false }.katOk = false ∧
    (pins false true false false).mod.rails = false := by unfold State.bootsWell; decide +kernel

/-- Class 2 on trial in bank A, which does not verify, after two reverts or none. -/
def onTrial (ticks : List Nat) : State :=
  { pins true true true false with
    mod := { (pins true true true false).mod with state := 1 }
    mgmt := { updating.mgmt with
      classes := updating.mgmt.classes.set 2 { updating.fwClass 2 with trial := true }
      recovery := { updating.mgmt.recovery with revertTicks := ticks } } }

theorem witness_trialRevert : ∀ l ∈ [[], [0, 0]], ((onTrial l).fwClass 2).trial = true ∧ ((onTrial l).fwClass 2).switchWaits = false ∧
    ((onTrial l).fwClass 2).running ≤ 1 ∧ bankHolds { soundBoot with banksOk := 251 } 2 ((onTrial l).fwClass 2).other = true ∧
    (∀ d ∈ fwClasses, d ≠ 2 → ((onTrial l).fwClass d).trial = false ∧ ((onTrial l).fwClass d).switchWaits = false ∧
      bankHolds { soundBoot with banksOk := 251 } d ((onTrial l).fwClass d).running = true) ∧
    (onTrial l).mgmt.recovery.requested = false ∧ (onTrial l).mgmt.recovery.revertTicks = l ∧ (onTrial l).now < 360000000000 := by
  decide +kernel

/-- The module with the limiter asserted at tick 0 and 10 ms gone. -/
def limited (on : Bool) : State := { updating with mod := { updating.mod with rails := true, limiter := on, limiterTick := 0, tick := 1000000 } }

theorem witness_limiter : (limited false).mod.rails = true ∧ (limited false).mod.limiter = false ∧ (limited true).mod.limiter = true ∧
    (limited true).mod.limiterTick + 1000000 ≤ (limited true).now ∧ (limited true).isOpen 1 = true ∧ (limited true).isOpen 2 = false := by
  decide +kernel

/-- Pavilion 5 owned by a plot, at a step, tripped or not, at a tick. -/
def hot (owner step : Nat) (tripped : Bool) : State :=
  { (up.updPav 5 (fun v => { v with context := owner, step := step, nextStep := step, tripped := tripped })) with
    mod := { up.mod with modesApplied := true, tick := 20000, unitResets := [(6, 10)] } }

theorem witness_temperatures : (hot 1 12 false).steadyNow = false ∧ ((hot 1 12 false).pav 5).droop = false ∧ 6 < ((hot 1 7 false).pav 5).nextStep ∧ (hot 1 7 false).mod.modesApplied = true ∧ (hot 1 7 false).mod.steady = false ∧
    ((hot 1 7 false).pav 5).lastThermal = 0 ∧ ((hot 1 7 false).pav 5).nextStep < 12 ∧
    ((hot 1 7 false).pav 5).lastThermal + 10000 ≤ (hot 1 7 false).now ∧ ((hot 1 7 false).pav 5).tripped = false ∧
    ((hot 0 7 true).pav 5).tripped = true ∧ (hot 0 7 true).mod.warmPending = false ∧ (hot 0 7 true).isFenced (.pavilion 5) = false ∧
    (hot 0 7 true).mod.unitResets.find 5 = none ∧ (hot 0 7 true).mod.unitResets.find 6 = some 10 ∧
    (hot 0 7 true).now < 10 + fenceTicks ∧ (hot 0 7 true).mem.stackTripped.contains 3 = false ∧
    ({ (hot 0 7 true) with mod := { up.mod with steady := true, modesApplied := true } } : State).steadyNow = true ∧
    ({ up with mem := { up.mem with stackTripped := [3] } } : State).mem.stackTripped.contains 3 = true := by decide +kernel

/-- The module running, out of reset, with an event that waits. -/
def bmc : State :=
  { up with
    mod := { up.mod with rails := true, refclk := true, resetHigh := true, alertLow := true, state := 3, inputWatts := 900 }
    mgmt := { up.mgmt with eventReceiver := some 8, events := [(6, 3)] } }

theorem witness_managementBus : bmc.bmcUp = true ∧ bmc.serviceUp = true ∧ bmc.mgmt.eventReceiver = some 8 ∧ bmc.mgmt.events = (6, 3) :: [] ∧
    ({ bmc with bothy := Bothy.init } : State).bmcUp = true ∧ ({ bmc with bothy := Bothy.init } : State).serviceUp = false ∧
    ({ bmc with mgmt := Mgmt.init } : State).mgmt.events = [] := by decide +kernel

/-- The module running, with a PLDM update in a stage. -/
def pldmAt (stage : Nat) : State :=
  { up with
    mod := { up.mod with rails := true, refclk := true, resetHigh := true, state := 3 }
    mgmt := { up.mgmt with pldm := { active := true, cls := 2, size := 4, received := [1, 2], stage := stage, tag := 9, applied := [3] } } }

theorem witness_pldmUpdate : ∀ n ∈ [1, 2, 3, 4, 5], (pldmAt n).bmcUp = true ∧ (pldmAt n).serviceUp = true ∧
    (pldmAt n).mgmt.pldm.active = true ∧ (pldmAt n).mgmt.pldm.stage = n ∧ (pldmAt n).freeSlot = some 0 ∧ (pldmAt n).mgmt.pldm.applied = [3] ∧
    (pldmAt n).mgmt.pldm.received.length + [3].length < (pldmAt n).mgmt.pldm.size ∧
    (pldmAt n).mgmt.pldm.received.length + [3, 4].length = (pldmAt n).mgmt.pldm.size ∧ 7 ≠ (pldmAt n).mgmt.pldm.received.length := by
  decide +kernel

theorem witness_requestUpdate : ∀ s ∈ [{ pldmAt 1 with mgmt := up.mgmt }], s.bmcUp = true ∧ s.serviceUp = true ∧
    s.mgmt.pldm.active = false ∧ s.redfishUpdating = false := by decide +kernel

theorem witness_applyComplete : ((recorded (pldmAt 5)).postedRecord 9).isSome = true := by decide +kernel

/-- The module with an account of each role, logged in as sessions 1, 2 and 3, and one that must change its password as session 4. -/
def portal : State :=
  { vacant with
    mgmt := { vacant.mgmt with
      accounts := [0, 1, 2, 3].map (fun n =>
        { name := n, password := some (natLE 12 n), role := n % 3, changeRequired := n == 3, failures := 4, lockedUntil := 0 })
      sessions := [(1, 0), (2, 1), (3, 2), (4, 3)], nextSession := 5, subs := [7], nextSub := 8 } }

theorem witness_roles : ∀ r ∈ [0, 1, 2], portal.serviceUp = true ∧
    (∃ a ∈ portal.mgmt.accountOf (r + 1), a.changeRequired = false ∧ a.role ≤ r ∧ a.lockedUntil ≤ portal.now) := by decide +kernel

theorem witness_portal : portal.openPlots = [] ∧ portal.tenantOpen = false ∧ updating.tenantOpen = true ∧ 5 ≠ updating.mod.modeBits ∧
    7 ∈ portal.mgmt.subs ∧ 6 ∉ portal.mgmt.subs ∧ (portal.fwClass 4).switchWaits = false ∧ portal.gatehouse.halted = false ∧
    portal.mod.warmPending = false ∧ portal.staged 4 = some (image 4 2) ∧
    (∃ a ∈ portal.mgmt.accountOf 4, a.changeRequired = true ∧ a.name = 3 ∧ a.role = 0) := by decide +kernel

theorem witness_redfishSession : ∃ a ∈ portal.mgmt.accounts.find? (fun x => x.name == 2),
    a.lockedUntil ≤ portal.now ∧ a.password.getD Config.labelPassword = natLE 12 2 ∧ a.password.getD Config.labelPassword ≠ [] := by
  exact ⟨_, rfl, by decide +kernel⟩

/-- The module with an account of each role, logged in as sessions 1, 2 and 3, with a task whose message has completed. -/
def office : State :=
  { (recorded up) with
    mgmt := { up.mgmt with
      accounts := [0, 1, 2].map (fun n => { name := n, password := some [], role := n, changeRequired := false, failures := 0, lockedUntil := 0 })
      sessions := [(1, 0), (2, 1), (3, 2)], nextSession := 4, tasks := [{ id := 3, opcode := opFwStage, tag := 9 }], nextTask := 4 } }

theorem witness_tasks : office.freeSlot = some 0 ∧ office.bothy.ready = true ∧ office.serviceUp = true ∧
    ({ office with bothy := { office.bothy with ready := false } } : State).bothy.ready = false ∧
    (∀ r ∈ [0, 1, 2], ∃ a ∈ office.mgmt.accountOf (r + 1), a.changeRequired = false ∧ a.role = r) ∧ office.mgmt.accountOf 9 = none := by
  decide +kernel

theorem witness_redfishTaskDone : office.mgmt.tasks.find? (fun t => t.id == 3) = some { id := 3, opcode := opFwStage, tag := 9 } ∧
    (office.postedRecord 9).isSome = true ∧ (∀ x ∈ office.mgmt.tasks, x.id ≠ 4) := by decide +kernel

/-- The ROM in recovery, with what a session has pushed, and the session that is open. -/
def rescue (pushed : List Nat) (session : Option RecSession) : State :=
  { updating with
    mod := { updating.mod with state := 5, tick := 3000000000 }
    mgmt := { updating.mgmt with recovery := { updating.mgmt.recovery with active := true, reason := 1, session := session, pushed := pushed } } }

/-- A session of class 2 with two of three bytes. -/
def session0 : RecSession :=
  { id := 4, cls := 2, len := 3, digest := 5, next := 2, data := [1, 2], lastTick := 0, packets := 15 }

theorem witness_recovery : (rescue [2] none).mgmt.recovery.active = true ∧ (rescue [2] none).mgmt.recovery.session = none ∧
    (rescue [] none).mgmt.recovery.pushed = [] ∧ (rescue [2] none).mgmt.recovery.pushed ≠ [] ∧
    (rescue [] (some session0)).mgmt.recovery.session = some session0 ∧ session0.next + [3].length ≤ session0.len ∧
    session0.lastTick + 3000000000 ≤ (rescue [] (some session0)).now ∧ 1 ≠ session0.next ∧
    ({ rescue [] (some session0) with mod := up.mod } : State).now < session0.lastTick + 3000000000 ∧ 5 ≠ session0.id ∧
    up.mgmt.recovery.active = false := by decide +kernel

theorem witness_recoveryReboot :
    ((rescue [2] none).mgmt.recovery.pushed.foldl (fun x c => x.updClass c (fun y => { y with switchWaits := true })) (rescue [2] none)).bootsWell
      soundBoot := by unfold State.bootsWell; decide +kernel

theorem witness_spdm : ∀ c ∈ [0, 1], (talking c).spdmUp c = true ∧ ((talking c).conn c).versionAsked = true ∧ ((talking c).conn c).version ≠ 0 ∧
    ((talking c).conn c).negotiated = true ∧ ((talking c).conn c).chunkNext ≠ 0 ∧ 0 * Config.spdmTransfer < ((talking c).conn c).response.length ∧
    (talking c).gatehouse.trngOk = true ∧ ((talking 0).conn 5).versionAsked = false ∧ ((talking 0).conn 5).negotiated = false ∧
    (talking 0).spdmUp 5 = true ∧ up.spdmUp c = false := by
  intro c hc
  rcases List.mem_pair.mp hc with rfl | rfl <;> simp only [Nat.zero_mul] <;> decide +kernel

theorem witness_certificate : 0 < (talking 0).certChain.length ∧ (1 ≠ 0 ∨ (talking 0).certChain.length ≤ 0) := by
  refine ⟨?_, Or.inl (by decide)⟩
  simp [State.certChain, natLE]

theorem witness_sessions : ∀ s ∈ [inSession 1 true, inSession 1 false], s.spdmUp 0 = true ∧ (s.conn 0).negotiated = true ∧
    s.gatehouse.trngOk = true ∧ s.session 2 = none ∧ (∀ j < 1, s.session (j + 1) ≠ none) ∧ (∃ x ∈ s.session 1, x.secret = 9) ∧
    s.streamFree 1 5 = true ∧ s.streamFree 0 5 = false ∧ (∀ i < 4, (inSession 4 true).session (i + 1) ≠ none) ∧
    (talking 1).spdmUp 1 = true ∧ ((talking 1).conn 1).negotiated = true := by decide +kernel

theorem witness_finished : (∃ x ∈ (inSession 1 true).session 1, x.finished = true) ∧ (∃ x ∈ (inSession 1 false).session 1, x.finished = false) := by
  decide +kernel

/-- A virtual function's interface in a state, with a plot of a confidential host. -/
def interface (tdi : Nat) : State :=
  { ((inSession 1 true).updPlot 1 (fun q => { q with cfg := { q.cfg with driver := 2 } })) with
    host := { up.host with linkTraining := true, vfs := [(1, { Vf.init with enabled := true, tdi := tdi, stream := some 4 })] } }

theorem witness_interfaces : ∀ n ∈ [0, 1, 2, 3], (interface n).spdmUp 0 = true ∧ ((interface n).host.vfs.get Vf.init 1).enabled = true ∧
    ((interface n).host.vfs.get Vf.init 1).tdi = n ∧ ((interface n).host.vfs.get Vf.init 1).stream ≠ none ∧
    (interface n).gatehouse.sessions.any (·.finished) = true ∧ (interface n).isOpen 1 = true ∧ ((interface n).plot 1).cfg.driver = 2 ∧
    ((interface n).host.vfs.get Vf.init 2).enabled = false := by decide +kernel

/-- An anchor, and a frame of module 11 that meets it. -/
def anchor0 : Anchor := { digest := 5, issuers := [6], minGatehouse := 1, minBothy := 1, acceptEs := false }
def keyx0 (form : KeyxForm) (keys : List (Nat × Nat × Nat × Nat)) (acks : List (Nat × Nat)) : Keyx :=
  { form := form, anchorDigest := 5, fabricId := 11, issuer := 6, chainOk := true, svnGatehouse := 1, svnBothy := 1, debugUnlocked := false,
    engineeringSample := false, ek := [1], nonce := [2], ct := [3], sigOk := true, portKeys := keys, acks := acks }

/-- Hall mode with an anchor, port 3 up with its key, and the entry of module 11 in a state. -/
def hall (peers : List Peer) (waits : List Nat) : State :=
  { (up.updPort 3 (fun t => { t with
      linkUp := true, txKey := some (1, 2, 1), newKey := if waits = [] then none else some (3, 4, 2), rekeyWaits := waits, keyFrames := 2 ^ 36 })) with
    mod := { up.mod with hall := true, anchor := some anchor0, tick := 25000000 }
    gatehouse := { up.gatehouse with trngOk := true, peers := peers } }

theorem witness_keyx : ∀ s ∈ [hall [] []], Exchanging s link3 (keyx0 .offer [] []) ∧ s.peer 11 = none ∧ s.gatehouse.peers.length < 1024 ∧
    s.portTo 11 = some 3 ∧ anchor0.accepts (keyx0 .offer [] []) = true ∧
    anchor0.accepts { keyx0 .offer [] [] with debugUnlocked := true } = false := by decide +kernel

theorem witness_noHoldings : (hall [] []).noHoldings := by unfold State.noHoldings; decide +kernel

theorem witness_accept : ∀ e ∈ [{ Peer.fresh 11 with offered := true, peerOffer := [9] }],
    (hall [e] []).gatehouse.peers.find? (fun x => !x.used && x.fabricId == 11) = some e ∧ e.done = false ∧ e.offered = true ∧
    e.peerOffer ≠ [] := by decide +kernel

theorem witness_rekey : ∀ e ∈ [{ Peer.fresh 11 with done := true }],
    (hall [e] []).gatehouse.peers.find? (fun x => !x.used && x.fabricId == 11) = some e ∧ e.done = true ∧
    ((hall [e] []).port 3).txKey = some (1, 2, 1) ∧ ((hall [e] []).port 3).newKey = none ∧ 2 ^ 36 ≤ ((hall [e] []).port 3).keyFrames ∧
    ((hall [e] [11]).port 3).newKey = some (3, 4, 2) ∧ 11 ∈ ((hall [e] [11]).port 3).rekeyWaits ∧
    ((hall [e] [11]).port 3).rekeyWaits.filter (· != 11) = [] ∧ ((hall [e] [11, 12]).port 3).rekeyWaits.filter (· != 11) ≠ [] ∧
    ((hall [e] [11]).port 3).rekeyTick + 25000000 ≤ (hall [e] [11]).now ∧ ((hall [e] []).port 4).keyFrames < 2 ^ 36 ∧
    (hall [e] []).now < ((hall [e] []).port 4).keyTick + 360000000000 := by decide +kernel

theorem witness_descriptorFetch : ∀ pl ∈ [planned [(15, [desc 0x30 []])] []], ∀ s ∈ [running pl id], s.pavDown 5 = false ∧ s.slotsHeld 0 < 2048 ∧
    ((s.pav 5).queue 0).length < queueDepth 0 ∧ s.fetchPlan 5 0 = some (1, pl) ∧ (s.pav 5).switchPending = false ∧
    (s.plot 1).holdsNeed pl.header.need = true ∧ (∀ st ∈ (s.plot 1).running, st.droppedMbs = []) ∧ s.copyPoisoned pl = false ∧ pl.damaged = false := by
  decide +kernel

theorem witness_semaphores : ∀ d ∈ [queued 0x30 [(0x0C, 4, 1)] false, queued 0x31 [(0x0C, 4, 1)] false, queued 0x30 [] false],
    ∀ s ∈ [running (planned [(15, [d.bytes])] []) (fun v => { v with array := [d] })],
    Heads s 5 0 (dType d.bytes) d [] ∧ (s.planOf d).isSome = true ∧ ([] : List HwFault).contains .semParity = false ∧
    [HwFault.semParity].contains .semParity = true ∧ s.iterOf 5 0 d = none ∧
    ((s.plot 1).sem 0 - 1).toInt < 0 ∧ 0 ≤ ((s.plot 1).sem 0 - 0).toInt := by decide +kernel

theorem witness_descriptorRetire : ∀ d ∈ [queued 3 [(0x0D, 1, 0x10)] true],
    ∀ s ∈ [running (planned [] []) (fun v => { v with array := [d] })], (s.pav 5).queue 0 = [d] ∧ d.executed = true ∧
    bitOf (fieldAt d.bytes 0x0D 1) 4 = true ∧ s.planOf d = some (planned [] []) ∧ (s.plot d.plot).bowerOf (planned [] []) = none := by decide +kernel

theorem witness_goesOn : ((running (planned [] []) id).plot 1).goesOn := by unfold Plot.goesOn; decide +kernel

/-- A LANE span of the ARRAY queue of Pavilion 5, with one descriptor, and a list with one lane group. -/
def span0 : Bytes := [0, 0, 5, 0] ++ natLE 12 0 ++ natLE 2 1 ++ natLE 46 0

theorem witness_spanIteration : ∀ pl ∈ [planned [(15, [desc 0x31 []])] [span0]],
    (∀ n ∈ [0, 1], ∀ s ∈ [running pl (fun v => { v with
        positions := v.positions.set (posKey 1 1 0) n, span := some { plot := 1, plan := 1, span := 0, iter := 0, total := 2 } })],
      (s.plot 1).plans.find 1 = some pl ∧ (parseSpan (pl.spans.getD 0 [])).queues = [0] ∧ (s.pav 5).position 1 1 0 = n) ∧
    (((List.range pl.spans.length).zip (pl.spans.map parseSpan)).find? (fun e =>
      e.2.pav == 5 && ((running pl id).pav 5).before 1 pl e.2 && e.2.queues.any (((running pl id).pav 5).atFirst 1 pl e.2)) =
      some (0, parseSpan span0)) := by decide +kernel
/-- A list with one lane group of width 0. -/
def list0 : WorkList :=
  { step := 5, microbatch := 0, buffer := 0, rowsTotal := 1, deferred := 0, useClock := 0, dataIndexMax := 0, seqs := [], selects := []
    laneGroups := [{ firstRow := 0, rows := 1, firstTg := 0, tgs := 0, width := 0, lanes := [], ptrs := [], slotLane := [] }], tileGroups := [] }

theorem witness_openSpan : ∀ s ∈ [(running (planned [] [span0]) id).updPlot 1 (fun q => { q with running := [{ step0 up with plan := 1, lists := [list0] }] })],
    s.listFor 1 (planned [] [span0]) 0 = some list0 ∧ (parseSpan span0).iterations list0 ≠ [] := by
  intro s hs
  rw [List.mem_singleton.mp hs]
  refine ⟨?_, by decide +kernel⟩
  show [list0][Config.listOf 1 0 % 1]? = some list0
  rw [Nat.mod_one]; rfl

/-- The descriptors of a command: a load of the view, a pass of it, and a drain into gradient tile 0; each has run or not. -/
def command (loaded passed tile : Bool) : List QDesc :=
  [{ queued 1 [(1, 1, 1), (0x0C, 1, 4), (0x0D, 1, 1), (0x0E, 1, 1), (0x10, 4, noView)] loaded with index := 0 },
   { queued 2 [(1, 1, 0), (0x0C, 1, 4), (0x10, 4, 2), (0x1C, 4, noView), (0x20, 4, noView)] passed with index := 1 },
   { queued 3 [(1, 1, 2), (0x0D, 1, if tile then 8 else 0)] false with index := 2 }]

/-- Pavilion 5 with that command, its store and what the array holds. -/
def arrayOf (loaded passed tile : Bool) (tiles : Nat) : State :=
  running { planned [] [] with tensors := [tensor0], views := [view0] } (fun v => { v with
    array := command loaded passed tile
    store := [(0, 1), (1, 2), (2, 3), (3, 4)]
    par := { v.par with
      begun := passed
      shadow := if loaded && !passed then [(0, BlockWeights.clear 128)] else []
      pass := if passed then [(0, [{ adapter := noAdapter, sums := [0x3F800000], dropped := false, select := 0, rowScale := 0
                                     zeroPoint := none, poisoned := false }])] else [] }
    gbuf := (List.range tiles).map (fun i => GTile.fresh 1 1 (i + 1) i) })

theorem witness_wload : ((arrayOf false false true 0).pav 5).nextLoad = some (0, (command false false true).getD 0 (queued 0 [] false), command false false true) ∧
    (arrayOf false false true 0).pavDown 5 = false ∧ up.pavDown 5 = false ∧ ((arrayOf false false true 0).pav 5).nextReload = none ∧
    (arrayOf false false true 0).loadWalks 5 ((command false false true).getD 0 (queued 0 [] false)) = false ∧
    (arrayOf false false true 0).loadEmpty 5 ((command false false true).getD 0 (queued 0 [] false)) = false ∧
    (∀ f ∈ [HwFault.weightParity, .colsumParity, .deskewEcc, .feedParity], ((faultFlag f).map (·.1)) = some 1) := by
  decide +kernel

/-- The same pass without a load, for which a load of before is reissued. -/
def reloading : State := (arrayOf true false true 0).updPav 5 (fun v => { v with array := v.array.tail, reload := v.array.take 1 })

theorem witness_reload : reloading.pavDown 5 = false ∧ (reloading.pav 5).nextReload = (command true false true).head? := by decide +kernel

theorem witness_stream : (((arrayOf true false true 0).pav 5).nextStream.map (·.1)) = some 1 ∧ ((arrayOf true false true 0).pav 5).par.shadow ≠ [] ∧ ((arrayOf true false true 0).pav 5).ownsShadow = true ∧
    (BlockWeights.clear 128).laneWidth = 0 ∧ (∃ e ∈ ((arrayOf true false true 0).pav 5).nextStream, (arrayOf true false true 0).streamRows 5 e.2 = 2) := by
  decide +kernel

theorem witness_drain : (∃ e ∈ ((arrayOf true true true 0).pav 5).nextDrain, e.1 = 2 ∧ bitOf (fieldAt e.2.bytes 0x0D 1) 3 = true ∧
    ((arrayOf true true true 0).pav 5).tileFor e.2.plot e.2.plan (fieldAt e.2.bytes 0x18 2) = none) ∧
    ((arrayOf true true true 0).pav 5).par.pass.get [] 0 ≠ [] ∧ ((arrayOf true true true 0).pav 5).par.begun = true ∧
    ((arrayOf true true true 0).pav 5).resident.length < 64 ∧ (arrayOf true true true 0).fillPoisoned 5 1 1 0 = false := by decide +kernel

theorem witness_drainStore : (∃ e ∈ ((arrayOf true true false 0).pav 5).nextDrain, e.1 = 2 ∧ bitOf (fieldAt e.2.bytes 0x0D 1) 3 = false) ∧
    (∀ s ∈ [(arrayOf true true true 0).updPav 5 (fun v => { v with par := { v.par with pass := [] } })],
      (s.pav 5).par.pass.get [] 0 = [] ∧ (s.pav 5).nextDrain.isSome = true) := by decide +kernel

theorem witness_gbufSpill : ((arrayOf true true true 64).pav 5).missing (plotOf (command true true true)) (tilesOf (command true true true)) = [(1, 0)] ∧
    64 < ((arrayOf true true true 64).pav 5).resident.length + 1 ∧
    (∃ g ∈ ((arrayOf true true true 64).pav 5).victim, g.handle = 1 ∧
      (∀ b ∈ [false, true], (arrayOf true true true 64).mem.room (g.lines ((arrayOf true true true 64).slotOf 5 g) 1 b) = true ∧
        (arrayOf true true true 64).exitWants (g.lines ((arrayOf true true true 64).slotOf 5 g) 1 b) = false)) ∧
    ((arrayOf true true true 63).pav 5).resident.length + 1 ≤ 64 := by decide +kernel

theorem witness_down : ({ up with mod := { up.mod with fencedPav0 := 0x20 } } : State).pavDown 5 = true := by decide +kernel

/-- Pavilion 5 with a RILL or MOVE descriptor at the head of its queue, and views 0 to 2: 2 by 2 bytes in the local store, the
Glasshouse and HBM. -/
def engineOf (queue : Nat) (d : QDesc) : State :=
  running { planned [] [] with
    tensors := [3, 1, 0].map (fun m => tensor0.take 16 ++ natLE 1 m ++ tensor0.drop 17)
    views := [0, 1, 2].map (fun i => natLE 4 i ++ view0.drop 4) } (fun v => v.setQueue queue [d])

theorem witness_vprog : ∀ n ∈ [0, 4], ∀ d ∈ [queued 0x10 [(0x0C, 4, n), (0x10, 4, noView), (0x14, 4, noView), (0x18, 4, noView), (0x1C, 4, noView),
      (0x20, 4, noView), (0x24, 4, noView)] false], Heads (engineOf 1 d) 5 1 0x10 d [] ∧ ((engineOf 1 d).planOf d).isSome = true ∧
    fieldAt d.bytes 0x0C 4 = n ∧ (engineOf 1 d).vprogArgs 5 d = [] := by decide +kernel

theorem witness_scale : ∀ x ∈ [(4, 0), (4, 1), (4, 2), (0x10, 0)], ∀ d ∈ [queued 0x11 [(0x18, 1, x.1), (0x19, 1, x.2), (0x14, 4, noView)] false],
    Heads (engineOf 1 d) 5 1 0x11 d [] ∧ isPage x.1 = (x.1 == 0x10) ∧ ((engineOf 1 d).viewOf 5 1 d (fieldAt d.bytes 8 4)).1.size = 4 ∧
    ((engineOf 1 { d with bytes := d.bytes.take 8 ++ natLE 4 9 ++ d.bytes.drop 12 }).viewOf 5 1 d 9).1.size = 0 := by decide +kernel

theorem witness_copy : ∀ x ∈ [(0, 3), (1, 1), (2, 0)], ∀ d ∈ [queued 0x20 [(0x0C, 4, x.1), (0x10, 1, 0xE4)] false],
    Heads (engineOf 2 d) 5 2 0x20 d [] ∧ ((engineOf 2 d).viewOf 5 2 d x.1).2.mem = x.2 ∧ (engineOf 2 d).mem.room (Staged.none.lines 1) = true ∧
    (engineOf 2 d).exitWants (Staged.none.lines 1) = false ∧
    (∀ cx ∈ [(engineOf 2 d).ctxOf 5 2 d], ∀ src ∈ [(engineOf 2 d).viewOf 5 2 d 0], (engineOf 2 d).viewStopped cx src = false ∧
      (engineOf 2 d).badRecords 1 ((engineOf 2 d).viewPlaces cx src.2 src.1) = []) := by
  decide +kernel

/-- A copy into the local store from a poisoned line of the record of adapter 3. -/
def poisonedCopy : State :=
  ((engineOf 2 (queued 0x20 [(8, 4, 2), (0x0C, 4, 0), (0x10, 1, 0xE4)] false)).updPlot 1 (fun q => { q with
    adapters := [(3, { newAdapter [] 3 false with catAddr := 64 })]
    plans := q.plans.map (fun e => (e.1, { e.2 with tensors := e.2.tensors.map (fun b => natLE 16 64 ++ b.drop 16) })) })).updMem
      (fun m => { m with poison := [1] })

theorem witness_copyPoison : ∀ d ∈ (poisonedCopy.pav 5).queue 2, Heads poisonedCopy 5 2 0x20 d [] ∧
    (poisonedCopy.viewOf 5 2 d 0).2.mem = 3 ∧
    (∀ cx ∈ [poisonedCopy.ctxOf 5 2 d], ∀ src ∈ [poisonedCopy.viewOf 5 2 d 2], poisonedCopy.viewStopped cx src = false ∧
      poisonedCopy.badRecords 1 (poisonedCopy.viewPlaces cx src.2 src.1) = [3]) := by decide +kernel

/-- A plan that needs Pavilions 0 to 7. -/
def needy : Plan := { planned [] [] with header := { (planned [] []).header with need := 255 } }

/-- Plot 1 with a running step of that plan that was redone so often, and with a grant; plot 2 the same. -/
def sliced (redos grant grant2 : Nat) : State :=
  let q := { (up.plot 1) with binding := some bind0, plans := [(1, needy)], running := [{ step0 up with plan := 1, redos := redos, earlyDue := redos != 0 }] }
  { up with
    mod := { up.mod with tick := 2000000, sliceUs := 10000, sliceNext := 10000 }
    plots := [(0, up.plot 0), (1, { q with sched := { q.sched with grant := grant } }),
              (2, { q with sched := { q.sched with grant := grant2 } })] }

theorem witness_sliceBoundary : (sliced 0 0 0).mod.sliceUs * 100 ≠ 0 ∧ ((sliced 0 0 0).mod.lastBoundary / 1000000 + 1) * 1000000 ≤ (sliced 0 0 0).now ∧
    ({ sliced 0 0 0 with mod := { up.mod with sliceUs := 10000 } } : State).now < 1000000 := by decide +kernel

theorem witness_plotReady : ∀ g ∈ [0, 255], 1 ∈ tenantPlots ∧ ((sliced 0 0 g).plot 1).need = 255 ∧ ((sliced 0 0 g).plot 1).holdsNeed 255 = false ∧
    ((sliced 0 0 g).standing.filter (fun x => x.1 != 1)).foldl (fun m x => m ||| x.2) 0 = g ∧
    (∀ q ∈ tenantPlots, ((sliced 0 0 g).plot q).need ≠ 0 ∨ ((sliced 0 0 g).plot q).sched.grant = 0) := by decide +kernel

theorem witness_earlyBoundary : ((sliced 1 0 255).plot 1).need = 255 ∧ (∃ st ∈ ((sliced 1 0 255).plot 1).running, st.earlyDue = true) ∧
    (∀ st ∈ ((sliced 0 0 0).plot 1).running, st.earlyDue = false) := by
  decide +kernel

theorem witness_plotSwitch : ∀ a ∈ [0, 2], ∀ s ∈ [(sliced 0 255 0).updPav 5 (fun v => { v with context := a, granted := 1, switchPending := true })],
    (s.pav 5).switchPending = true ∧ s.atBoundary 5 = true ∧ (s.pav 5).context = a ∧ (s.pav 5).granted = 1 ∧ a ≠ 1 := by decide +kernel

/-- A tile of a step in a phase, of gradient tile 0 of Pavilion 5. -/
def tileIn (phase : Nat) : Tile :=
  { seq := 0, pav := 5, gtile := 0, adapter := 7, tensor := 1, indexBase := 0, dstView := 0, data := [(0, 0x3F800000)], poison := [],
    phase := phase, count := 1, dropped := 0, routes := [], own := waveEntryAt [] 0, childWaves := [], sentWave := false,
    final := some { waveEntryAt [] 0 with e := 127, c := 1 }, finalSent := [], words := [], childFrames := [], upSent := phase == 5, total := []
    totalResidues := [], downHeld := [], downSent := [], exitLines := [], retries := [], failed := none }

/-- Plot 1 with a running step of a plan whose reduction group is 5 or none, with a tile, and the group in which this module
has a rank. -/
def cascadingTile (rgroup rank : Nat) (t : Tile) : State :=
  let pl := { planned [] [] with header := { (planned [] []).header with rgroup := rgroup } }
  (linked (running pl (fun v => { v with gbuf := [{ GTile.fresh 1 1 0 0 with cascade := true }] })) (groupAs 0 rank groupActive)).updPlot 1 (fun q =>
    { q with running := [{ step0 up with plan := 1, tiles := [t] }] })

def cascading (rgroup rank phase : Nat) : State := cascadingTile rgroup rank (tileIn phase)

/-- The CRC is linear, bit by bit. -/
theorem crcBit_xor (x y : Nat) : crcBit (x ^^^ y) = crcBit x ^^^ crcBit y := by
  have h2 : (x ^^^ y) / 2 = x / 2 ^^^ y / 2 := by
    simpa [Nat.shiftRight_eq_div_pow] using Nat.shiftRight_xor_distrib (a := x) (b := y) (i := 1)
  have hm : (x ^^^ y) % 2 = (x + y) % 2 := Nat.xor_mod_two_eq
  unfold crcBit
  rw [h2, hm]
  rcases Nat.mod_two_eq_zero_or_one x with hx | hx <;> rcases Nat.mod_two_eq_zero_or_one y with hy | hy <;>
    simp [hx, hy, Nat.add_mod, Nat.xor_assoc, Nat.xor_comm, Nat.xor_left_comm]

/-- A last byte that differs gives another CRC. -/
theorem crc_last (l : Bytes) : crc32c (l ++ [1]) ≠ crc32c (l ++ [0]) := by
  have h (c : Nat) : crcByte c 1 = crcByte c 0 ^^^ crcByte 0 1 := by simp [crcByte, crcBit_xor]
  intro e
  have e : crcByte (l.foldl crcByte 0xFFFFFFFF) 1 = crcByte (l.foldl crcByte 0xFFFFFFFF) 0 := by
    unfold crc32c at e
    rw [List.foldl_append, List.foldl_append] at e
    exact Nat.xor_left_inj.mp e
  rw [h] at e
  generalize crcByte (l.foldl crcByte 0xFFFFFFFF) 0 = c at e
  have e : c ^^^ (c ^^^ crcByte 0 1) = c ^^^ c := congrArg (c ^^^ ·) e
  rw [← Nat.xor_assoc, Nat.xor_self, Nat.zero_xor] at e
  exact absurd e (by decide)

/-- Words that are zero but for the last. -/
theorem get_last (v : W64) (n : Nat) (h : n ≠ 8191) : NMap.get (0 : W64) [(8191, v)] n = 0 := by
  unfold NMap.get
  rw [if_neg h]
  rfl

theorem get_none (n : Nat) : NMap.get (0 : W64) [] n = 0 := rfl
theorem zero_nat : (0 : W64).toNat = 0 := rfl

/-- The bytes of such words. -/
theorem bytes_last (v : W64) : tileBytes [(8191, v)] =
    (((List.range 15).map (wordPayload [])).flatten ++ ((List.range 511).map (fun _ => natLE 8 0)).flatten) ++ natLE 8 v.toNat := by
  have f (i : Nat) (h : i < 15) : wordPayload [(8191, v)] i = wordPayload [] i := by
    exact congrArg List.flatten (List.map_congr_left (fun k hk => by
      rw [get_last v _ (by have := List.mem_range.mp hk; omega), get_none]))
  have m : (List.range 15).map (wordPayload [(8191, v)]) = (List.range 15).map (wordPayload []) :=
    List.map_congr_left (fun i hi => f i (List.mem_range.mp hi))
  have z : (List.range 511).map (fun k => natLE 8 (NMap.get (0 : W64) [(8191, v)] (512 * 15 + k)).toNat) =
      (List.range 511).map (fun _ => natLE 8 0) :=
    List.map_congr_left (fun k hk => by rw [get_last v _ (by have := List.mem_range.mp hk; omega), zero_nat])
  have w : wordPayload [(8191, v)] 15 = ((List.range 511).map (fun _ => natLE 8 0)).flatten ++ natLE 8 v.toNat := by
    unfold wordPayload
    rw [List.range_succ (n := 511), List.map_append, z, List.flatten_append]
    rfl
  unfold tileBytes
  rw [show tileFrames = 15 + 1 from rfl, List.range_succ, List.map_append, m, List.flatten_append, List.append_assoc]
  rw [List.map_cons, List.map_nil, List.flatten_cons, List.flatten_nil, List.append_nil, w]

/-- Four attempts whose last byte has changed on its way. -/
theorem transfer_fails : crcTransfer [(8191, 0)] (List.replicate 4 [(65535, 1)]) = none := by
  have e : hitBytes [(8191, 0)] [(65535, 1)] = [(8191, 0x0100000000000000)] := by decide +kernel
  have d : crc32c (tileBytes [(8191, 0x0100000000000000)]) ≠ crc32c (tileBytes [(8191, 0)]) := by
    rw [bytes_last, bytes_last]
    generalize ((List.range 15).map (wordPayload [])).flatten ++ ((List.range 511).map (fun _ => natLE 8 0)).flatten = l
    have a : l ++ natLE 8 (0x0100000000000000 : W64).toNat = (l ++ List.replicate 7 0) ++ [1] := by
      rw [show natLE 8 (0x0100000000000000 : W64).toNat = List.replicate 7 0 ++ [1] by decide +kernel, List.append_assoc]
    have b : l ++ natLE 8 (0 : W64).toNat = (l ++ List.replicate 7 0) ++ [0] := by
      rw [show natLE 8 (0 : W64).toNat = List.replicate 7 0 ++ [0] by decide +kernel, List.append_assoc]
    rw [a, b]
    exact crc_last _
  have n : passes (fun h => h.isEmpty || crc32c (tileBytes (hitBytes [(8191, 0)] h)) == crc32c (tileBytes [(8191, 0)]))
      (List.replicate 4 [(65535, 1)]) = none := by
    unfold passes
    rw [List.find?_eq_none]
    intro k hk
    have : k < 4 := List.mem_range.mp hk
    rw [show (List.replicate 4 [(65535, 1)]).getD k [] = [(65535, 1)] by interval_cases k <;> rfl]
    show ¬(false || crc32c (tileBytes (hitBytes [(8191, 0)] [(65535, 1)])) == crc32c (tileBytes [(8191, 0)])) = true
    rw [e, Bool.false_or, beq_iff_eq]
    exact d
  unfold crcTransfer
  rw [n]
  rfl

theorem witness_tileHandoff : ∀ s ∈ [cascading 0 0 0], (∃ x ∈ s.handedOff 5, x.1.plot = 1 ∧ x.2.1.plan = 1 ∧ x.2.1 ∈ (s.plot 1).running ∧ x.2.2 ∈ x.2.1.tiles ∧
      (s.plot 1).running.filter (fun y => y.plan == 1) = [x.2.1] ∧ x.2.1.tiles.filter (fun u => u.seq == x.2.2.seq) = [x.2.2]) ∧
    ((s.plot 1).plans.find 1).isSome = true ∧ up.handedOff 5 = none := by decide +kernel

/-- A tile whose words are zero, and its state. -/
def zeroTile : Tile := { tileIn 3 with data := [(8191, 0)] }

theorem witness_tileConvert : ∀ s ∈ [cascading 0 0 3, cascadingTile 5 0 zeroTile], ∃ fl ∈ s.flowOf 1 1, ∃ t, (s.tilesOf 1 1).filter (fun u => u.seq == 0) = [t] ∧
    t.phase = 3 ∧ t.failed = none ∧ t.final.isSome = true ∧ (∀ x ∈ s.tilesOf 1 1, x.failed = none) ∧
    fl.group.size = (if s = cascading 0 0 3 then 1 else 3) := by
  intro s hs
  simp only [List.mem_cons, List.not_mem_nil, or_false] at hs
  rcases hs with rfl | rfl
  · exact ⟨_, rfl, _, rfl, by decide +kernel⟩
  · exact ⟨_, rfl, _, rfl, by decide +kernel⟩

/-- Its transfer fails when four attempts meet a fault, and holds without one. -/
theorem witness_crcTransfer : (zeroTile.data.filter (fun e => !zeroTile.elementPoisoned e.1)).map (fun e => (e.1, rxIn (rxL 127 3) 0 e.2)) = [(8191, 0)] ∧
    crcTransfer [(8191, 0)] (List.replicate 4 [(65535, 1)]) = none ∧ crcTransfer [(8191, 0)] [] = some ([(8191, 0)], 0) :=
  ⟨by decide +kernel, transfer_fails, rfl⟩

theorem witness_checkFails : ∀ p ∈ tenantPlots, (up.plot p).groups = [] := by decide +kernel

/-- A frame of a kind for each of the commands, whose lines hold. -/
def sound (f : Frame) : Frame := { f with residues := List.replicate 64 0 }

theorem witness_cascadeFrames : ∀ k ∈ [2, 3, 4], ∀ r ∈ [0, 1], ∀ q ∈ [0, 5], ∀ f ∈ [frameOf k 1 0 5 [], sound (frameOf k 1 0 5 [])],
    ∃ s, (cascading q r 4).arrive 3 f = .taken 1 { groupAs 0 r groupActive with heard := [(11, 0)] } s ∧
      (s.plot 1).groups = [{ groupAs 0 r groupActive with heard := [(11, 0)] }] ∧
      ((s.plot 1).reducing { groupAs 0 r groupActive with heard := [(11, 0)] }).isSome = (q == 5) := by
  intro k hk r hr q hq f hf
  simp only [List.mem_cons, List.not_mem_nil, or_false] at hk hr hq hf
  rcases hk with rfl | rfl | rfl <;> rcases hr with rfl | rfl <;> rcases hq with rfl | rfl <;> rcases hf with rfl | rfl <;> exact ⟨_, rfl, rfl, rfl⟩

/-- Frames that are dropped or come again. -/
theorem witness_unusable : ((cascading 5 0 4).port 3).linkUp = true ∧ { frameOf 3 1 1 5 [] with fcsOk := false }.fcsOk = false ∧
    (cascading 5 0 4).badLink (linkOf (frameOf 3 1 1 5 []) 3) false = none ∧
    (cascading 5 0 4).groupFor 5 11 = some (1, groupAs 0 0 groupActive) ∧ { frameOf 3 1 1 5 [] with generation := 0 }.generation < 1 ∧
    ((cascading 5 0 4).updPort 3 (fun x => { x with seen := [frameKey (frameOf 3 1 1 5 [])] })).seenBefore (frameOf 3 1 1 5 []) = true := by
  decide +kernel

theorem witness_cascadeSteps : ∀ r ∈ [0, 1], ∀ s ∈ [cascading 5 r 4], (s.plot 1).groups = [groupAs 0 r groupActive] ∧
    ((s.plot 1).reducing (groupAs 0 r groupActive)).isSome = true ∧ (s.plot 1).running.all (fun st => st.step == 5) = true ∧
    ((cascading 0 r 4).plot 1).reducing (groupAs 0 r groupActive) = none ∧ (up.port 3).linkUp = false := by decide +kernel

theorem witness_parents : (groupAs 0 1 groupActive).parent (cascading 5 1 4).fabric = some 0 ∧
    (groupAs 0 0 groupActive).children (cascading 5 0 4).fabric = [1, 2] ∧
    (groupAs 0 0 groupActive).parent (cascading 5 0 4).fabric = none ∧
    (frameOf 2 1 0 5 (waveEntryAt [] 0).bytes).payload.length = 16 ∧ (tileIn 5).upSent = true ∧ 0 ∉ (tileIn 5).downHeld ∧ 3 ≤ { tileIn 4 with retries := [(retryKey (frameOf 3 1 1 5 []), 3)] }.retries.get 0 (retryKey (frameOf 3 1 1 5 [])) ∧
    linesHold (sound (frameOf 3 1 1 5 [])) = true ∧ linesHold (frameOf 3 1 1 5 []) = false := by decide +kernel

/-- Port 3 up to module 11 with a retained frame to it, sent so long ago and so often, and a frame to acknowledge. -/
def retaining (attempts : Nat) : State :=
  { (up.updPort 3 (fun t => { t with
      linkUp := true, peerId := 11, peerValid := true, toAck := [(11, 9)]
      retention := [{ frame := frameOf 3 1 1 5 [1], body := none, route := [3, 4], dest := 11, plot := 1, sentTick := 0, attempts := attempts }] })) with
    mod := { up.mod with tick := 2000 } }

/-- The same with a second port to module 11, or with a frame of VC0 that waits. -/
def twoWays : State := (retaining 8).updPort 4 (fun t => { t with linkUp := true, peerId := 11, peerValid := true })
def waitingFrame : State := (retaining 1).updPort 3 (fun t => { t with waiting := [{ frame := blankFrame 0, body := some .heartbeat, route := [3], dest := 11, plot := 0, sentTick := 0, attempts := 1 }] })

theorem witness_links : ∀ n ∈ [1, 8], ((retaining n).port 3).linkUp = true ∧ (∀ p ∈ tenantPlots, ((retaining n).plot p).groups = []) ∧
    (retaining n).unitFenced 19 = false ∧ ((retaining n).port 4).linkUp = false ∧ (retaining n).mod.hall = false ∧ ((retaining n).port 3).toAck ≠ [] ∧
    Arrives (retaining n) link3 ∧ (retaining n).badLink link3 true = none ∧ ((retaining n).port 3).waiting = [] ∧
    ((retaining n).port 3).retention.any (fun x => x.frame.seq == 0 && x.frame.frameIdx == 0 && x.frame.groupId == 5 && x.dest == link3.src && x.frame.kind == 3) = true ∧
    (∃ r ∈ (retaining n).dueFrame 3, r.body = none ∧ r.attempts = n ∧ 3 ∈ (retaining n).waysOf r ∧ ((retaining n).waysOf r).filter (· != 3) = [] ∧
      (twoWays.waysOf r).filter (· != 3) = [4]) ∧ (twoWays.dueFrame 3).isSome = true ∧
    (retaining n).dueFrame 4 = none ∧ ((retaining n).port 4).toAck = [] := by decide +kernel

theorem witness_waiting : (waitingFrame.port 3).waiting.length = 1 ∧ waitingFrame.controlFree 3 11 = true ∧
    waitingFrame.badLink { link3 with fcsOk := false } (!waitingFrame.holdsKeys 11) = some none := by decide +kernel

theorem witness_hallLinks : ∀ s ∈ [{ up with mod := { up.mod with hall := true, anchor := some { digest := 5, issuers := [], minGatehouse := 0, minBothy := 0, acceptEs := false } }
                                             gatehouse := { up.gatehouse with trngOk := true } }],
    s.mod.anchor ≠ none ∧ s.gatehouse.trngOk = true ∧ (s.port 3).linkUp = false ∧ s.unitFenced 19 = false ∧
    ({ up with mod := { up.mod with fencedUnits := 0x80000 } } : State).unitFenced 19 = true := by decide +kernel

/-- Plot 1 with a Bower of two modules and a running step of a plan that names it and one relay buffer. -/
def bowering (rank : Nat) : State :=
  let pl := { planned [] [] with
    header := { (planned [] []).header with bgroup := 5 }
    tensors := [tensor0.take 16 ++ natLE 1 0 ++ tensor0.drop 17], views := [view0], relays := [natLE 64 0], adapters := [4] }
  linked (running pl id) { groupAs 1 0 groupActive with live := if rank = 0 then [0, 11] else [11, 0] }

theorem witness_linkDown : ∀ s ∈ [bowering 0], (s.port 3).peerId = 11 ∧ (∀ q ∈ tenantPlots, q ≠ 1 → (s.plot q).groups = []) ∧
    (∃ g ∈ (s.plot 1).groups, g.neighbours s.fabric = [11] ∧ g.state = groupActive) ∧ bitOf ((s.plot 1).routeMask 11) 3 = true ∧
    (∀ j < 12, j ≠ 3 → s.portLeads j 11 = false) := by decide +kernel

/-- The Bower of those states, its neighbour just heard. -/
def heardBower (rank : Nat) : Group :=
  { groupAs 1 0 groupActive with live := if rank = 0 then [0, 11] else [11, 0], heard := [(11, 0)] }

/-- What an accepted frame was taken for. -/
def takenOf : Arrival → Option (Nat × Group × State)
  | .taken p g s => some (p, g, s)
  | _ => none

theorem takenOf_some {a : Arrival} {x : Nat × Group × State} (h : takenOf a = some x) : a = .taken x.1 x.2.1 x.2.2 := by
  cases a with
  | taken p g s => rw [← Option.some.inj h]
  | _ => cases h

theorem witness_bowerFrames : ∀ r ∈ [0, 1], ∀ k ∈ [5, 6], (takenOf ((bowering r).arrive 3 (frameOf k 1 (1 - r) 5 []))).any (fun x =>
    x.1 == 1 && x.2.1 == heardBower r && (x.2.2.plot 1).groups == [heardBower r] && ((x.2.2.plot 1).bowering (heardBower r)).any (fun y =>
    (x.2.2.plot 1).running == [y.1] && y.1.step == 5 && y.1.skipSet == none && y.1.childSkips == [] &&
    y.2.relayFor 0 0 == some (0, 0) && !y.1.relayed.contains (0, 0, 0))) = true := by decide +kernel

theorem witness_bowerRanks : ({ groupAs 1 0 groupActive with live := [11, 0] } : Group).parent (bowering 1).fabric = some 0 ∧
    1 ∈ ({ groupAs 1 0 groupActive with live := [0, 11] } : Group).children (bowering 0).fabric := by decide +kernel

/-- The module at 30 s, with Pavilion 5's queues since tick 0 as they are given, and its last reset. -/
def wedged (last : Option Nat) (v : Pavilion → Pavilion) : State :=
  { running (planned [] []) v with
    mod := { (running (planned [] []) v).mod with
      tick := 3000000000
      unitResets := match last with | some x => [(5, x), (156, x), (158, x)] | none => [] } }

theorem witness_watchdog : ∀ q ∈ [Queue.rill, Queue.move], ∀ s ∈ [wedged none (fun v => v.setQueue (queueNum q) [queued 0x20 [] false])],
    s.pavDown 5 = false ∧ (s.pav 5).queue (queueNum q) = [queued 0x20 [] false] ∧ isSem (queued 0x20 [] false).bytes = false ∧
    (queued 0x20 [] false).startTick + 200000 ≤ s.now := by decide +kernel

theorem witness_arrayWatchdog : ∀ s ∈ [wedged none (fun v => { v with array := [queued 3 [] false] })], s.pavDown 5 = false ∧ s.commandLate 5 0 = true ∧
    s.commandLate 5 1 = false := by decide +kernel

theorem witness_waitLimit : ∀ q ∈ [Queue.array, Queue.rill, Queue.move], ∀ d ∈ [queued 0x30 [] false, { queued 0x30 [] false with started := true }],
    ∀ s ∈ [wedged none (fun v => v.setQueue (queueNum q) [d])], Heads s 5 (queueNum q) 0x30 d [] ∧ (s.pav 5).context = d.plot ∧
    ∃ pl ∈ s.planOf d, d.startTick + pl.header.waitTicks ≤ s.now + d.waited ∧
      ({ s with mod := { s.mod with tick := 0 } } : State).now + d.waited < d.startTick + pl.header.waitTicks := by decide +kernel

theorem witness_terraceTimeout : ∀ l ∈ [none, some 0], ∀ s ∈ [wedged l (fun v => { v with array := [queued 3 [] false] })],
    s.pavDown 5 = false ∧ s.mod.warmPending = false ∧ (s.pav 5).lastRetire + 1200000000 ≤ s.now ∧
    (∃ d ∈ (s.pav 5).array ++ (s.pav 5).rill ++ (s.pav 5).move, d.startTick + 1200000000 ≤ s.now) ∧ s.mod.unitResets.find 5 = l ∧ s.now < 60000000000 ∧
    (s.pav 6).lastRetire + 1200000000 ≤ s.now ∧ (s.pav 6).array = [] := by decide +kernel

theorem witness_heartbeat : ∀ l ∈ [none, some 0], ∀ s ∈ [wedged l id], ∀ u ∈ [HwUnit.trellis, .tierMover, .orangery, .portEngine 3, .terraceSequencer 0, .cascade 2, .memoryController 4],
    unitOk u = true ∧ s.bothy.ready = true ∧ unitBeats u = true ∧ s.isFenced u = false ∧ s.gatehouse.halted = false ∧
    ((s.updPort 3 (fun t => { t with linkUp := true })).port 3).linkUp = true ∧ (∀ p ∈ tenantPlots, (s.plot p).groups = []) ∧
    bitOf s.bothy.pairsUp 2 = true ∧ unitBeats .gatehouse = false ∧ s.mod.state ≠ 6 ∧ (s.pav 5).switchPending = false := by decide +kernel

theorem witness_frontCommand : ({ up with pending := [.mailboxScan, .trngHealthFail] } : State).pending = .mailboxScan :: [.trngHealthFail] := by
  decide +kernel

/-- A module that runs, at a tick. -/
def ticking (n : W64) : State :=
  { up with mod := { up.mod with resetHigh := true, rails := true, refclk := true, tick := n } }

theorem witness_idleTick : (∀ s ∈ [ticking 5, ticking 99999],
      s.pending = [] ∧ s.mod.resetHigh = true ∧ s.mod.rails = true ∧ s.mod.refclk = true) ∧
    ((ticking 5).mod.tick + 1).toNat % 100000 ≠ 0 ∧ ((ticking 99999).mod.tick + 1).toNat % 100000 = 0 ∧
    (∀ p ∈ tenantPlots, (({ ticking 99999 with plots := State.reset.plots } : State).plot p).state = 0) ∧
    (∀ s ∈ [ticking 1000004], ∀ x ∈ [({ id := 1, cls := 1, len := 9000, digest := 0, next := 1024, data := [], lastTick := 5, packets := 1 } : RecSession)],
      s.pending = [] ∧ x.lastTick + 1000000 = (s.mod.tick + 1).toNat ∧ x.packets % 16 ≠ 0 ∧ x.next ≠ x.len ∧
      (s.mod.tick + 1).toNat % 100000 ≠ 0) ∧ (ticking 5).mgmt.recovery.active = false ∧
    State.reset.pending = [] ∧ State.reset.mod.resetHigh = false := by decide +kernel

theorem witness_invariant : Machine.Inv up ∧ Machine.Inv vacant ∧ Machine.Inv (updating) := by
  unfold Machine.Inv; decide +kernel

theorem witness_rxElements : finite32 0x3F800000 = true ∧ finite32 0x7F7FFFFF = true ∧ expField 0x7F7FFFFF ≤ 254 ∧ expField 0x3F800000 ≤ 254 := by
  decide +kernel

theorem witness_rxBound : (rxIn (rxL 254 65536) 0 0x7F7FFFFF).toInt.natAbs < 2 ^ (64 - headroom 65536) ∧
    (rxIn (rxL 254 1) 0 0x7F7FFFFF).toInt.natAbs < 2 ^ (64 - headroom 1) := by decide +kernel

theorem witness_rxSums : ∀ ws ∈ [[rxIn (rxL 254 1) 0 0x7F7FFFFF]], ws.length ≤ 1 ∧ ws.Perm ws := by
  intro ws h; simp only [List.mem_cons, List.not_mem_nil, or_false] at h; subst h; exact ⟨Nat.le_refl 1, List.Perm.refl _⟩

theorem witness_boxBounds : ∀ t ∈ [(buildPlan image0 1 0)].map (fun pl => ({ pl with tensors := [tensor0], views := [view0] } : Plan)),
    ((t.viewAt 0).1.inBounds (t.viewAt 0).2 [1, 1, 0, 0]).isSome = true ∧ (t.viewAt 0).1.inBounds (t.viewAt 0).2 [2, 0, 0, 0] = none ∧
    (t.viewAt 0).1.origins = [0, 0, 0, 0] ∧ (t.viewAt 0).2.fmt = 4 ∧ (t.viewAt 0).2.strides.getD 1 0 = (t.viewAt 0).2.dims.getD 0 0 := by
  decide +kernel

/-- A tensor of 3 by 2 elements of a format in local store, rows of four bytes apart, its scale plane behind them. -/
def tile0 (fmt : Nat) : Tensor :=
  (planned [] []).viewAt 0 |>.2 |> fun t => { t with
    base := 0, scaleBase := 64, fmt := fmt, mem := 3, dims := [3, 2, 1, 1], strides := [0, 16, 0, 0] }

theorem witness_localStore : ∀ f ∈ [0, 1, 4, 6, 0x0A, 0x0C], (tile0 f).mem = 3 ∧ rowBytes f 3 ≤ 16 ∧ formatBits f ≤ 32 ∧
    (tile0 f).rowAddr [0, 1, 0, 0] = 16 ∧ (tile0 f).scaleAddr [2, 1, 0, 0] = 65 ∧
    (∀ i ∈ [0, 1, 2], ∀ j ∈ [0, 1], ∀ k ∈ [0, 1, 2], ∀ l ∈ [0, 1], j = l ∨ (tile0 f).rowAddr [i, j, 0, 0] + rowBytes f 3 ≤ (tile0 f).rowAddr [k, l, 0, 0] ∨
      (tile0 f).rowAddr [k, l, 0, 0] + rowBytes f 3 ≤ (tile0 f).rowAddr [i, j, 0, 0]) ∧
    ((planned [] []).viewAt 0).1.size ≤ 6 := by decide +kernel

theorem witness_interleaving : isHbm 0xEFFFFFFFFF = true ∧ controllerOf 0xEFFFFFFFFF = 11 ∧ localAddress 0xEFFFFFFFFF = 80 * 2 ^ 30 - 1 ∧
    isHbm 0xF000000000 = false ∧ controllerOf 0x10000000000 = 12 := by decide +kernel

theorem witness_refusedPlots : (∀ op ∈ [opPlotOpen, opPlotClose], Turn (holding up 0 op (natLE 128 17)) 0 op (req op (natLE 128 17)) ∧
      16 < fieldAt (natLE 128 17) 0 1) ∧
    (∀ n ∈ [0, 1], Turn (holding up 1 opAccountRead (natLE 32 n)) 1 opAccountRead (req opAccountRead (natLE 32 n)) ∧
      fieldAt (natLE 32 n) 8 4 = 0 ∧ fieldAt (natLE 32 n) 0 1 = n) := by decide +kernel

/-- A tile with a number, an infinity and a subnormal. -/
def tileOf3 : Tile :=
  { seq := 0, pav := 5, gtile := 0, adapter := 4, tensor := 0, indexBase := 0, dstView := 0
    data := [(0, 0x3F800000), (1, 0x7F800000), (2, 1)], poison := [], phase := 1, count := 1, dropped := 0, routes := []
    own := { seq := 0, e := 0, c := 0, dropped := 0, nonfinite := false, poison := false }
    childWaves := [], sentWave := false, final := none, finalSent := [], words := [], childFrames := [], upSent := false
    total := [], totalResidues := [], downHeld := [], downSent := [], exitLines := [], retries := [], failed := none }

theorem witness_tileExponent : tileOf3.poison = [] ∧ finite32 0x3F800000 = true ∧ finite32 0x7F800000 = false ∧ tileOf3.scan.e = 127 ∧
    (1 : W32).toNat % 2 ^ 31 < 2 ^ 23 := by decide +kernel

/-- An image with one section, a MOVE stream of Pavilion 5 that holds a WLOAD. -/
def flawed : Bytes :=
  image0.take 8 ++ natLE 8 0x180 ++ (image0.drop 0x10).take 0x54 ++ natLE 4 1 ++ (image0.take 0x100).drop 0x68 ++
  natLE 2 3 ++ natLE 2 5 ++ natLE 4 1 ++ natLE 8 0x140 ++ natLE 48 0 ++ desc 1 []

/-- PLAN_LOAD of it at 1 MiB. -/
def loadingFlawed : State :=
  let s := holding (up.updPlot 1 (fun q => { q with binding := some bind0, cfg := { q.cfg with hbm0 := 400 } })) 1 opPlanLoad
    (natLE 8 0x100000 ++ natLE 8 0x180 ++ natLE 16 0)
  s.updMem (fun m => m.write 0x100000 flawed)

theorem witness_planFlaw :
    Turn loadingFlawed 1 opPlanLoad (req opPlanLoad (natLE 8 0x100000 ++ natLE 8 0x180 ++ natLE 16 0)) ∧
    loadingFlawed.inWindows 1 0x100000 0x180 = true ∧ (loadingFlawed.plot 1).binding = some bind0 ∧
    firstChecks flawed 0x180 = none ∧ loadingFlawed.mem.readBytes 0x100000 0x180 = flawed ∧
    (parseHeader flawed).baseFp = bind0.fp ∧ (parseHeader flawed).firstLayer = bind0.firstLayer ∧
    (parseHeader flawed).lastLayer = bind0.lastLayer ∧ loadingFlawed.groupsCheck 1 (parseHeader flawed) = none ∧
    loadingFlawed.needFenced (parseHeader flawed).need = false ∧
    (loadingFlawed.planResources 1 (parseHeader flawed) (directory flawed 1)).isSome = true ∧
    loadingFlawed.headerChecks 1 bind0 flawed = none ∧ directoryFlaw (directory flawed 1) 0x180 = none ∧
    loadingFlawed.descFlaw 1 (buildPlan flawed 1 0) = some { dcode := 1, detail := 0, body := [] } := by decide +kernel

/-- A plan whose one stream waits for its own semaphore. -/
def waits : Plan :=
  let pl := buildPlan image0 1 0
  { pl with header := { pl.header with sems0 := 1 }, streams := [(17, [desc 0x30 []])] }

theorem witness_planSound : up.descFlaw 1 waits = none ∧ (17, [desc 0x30 []]) ∈ waits.streams ∧ 0 < [desc 0x30 []].length := by
  decide +kernel

/-- A plan with one tensor and a view of it. -/
def weighted : Plan := { buildPlan image0 1 0 with tensors := [tensor0], views := [view0] }

theorem witness_useOfBase :
    ({ weighted with header := { weighted.header with workload := 0 } } : Plan).header.workload = 0 ∧
    weighted.views[0]? = some view0 ∧ (0 : Nat) ≠ noView := by decide +kernel

/-- A COPY into the Cold Frame of 129 rows that all lie in channel 0. -/
def wide : Plan :=
  { buildPlan image0 1 0 with
    tensors := [natLE 8 0x11000000000 ++ natLE 8 0 ++ [0, 0, 2, 0] ++ natLE 4 1 ++ natLE 4 129 ++ natLE 4 1 ++ natLE 4 1 ++ natLE 4 0 ++
      natLE 6 98304 ++ natLE 2 0 ++ natLE 6 0x1000000 ++ natLE 2 0 ++ natLE 6 0x1000000 ++ natLE 2 0]
    views := [natLE 24 0 ++ natLE 4 1 ++ natLE 4 129 ++ natLE 4 1 ++ natLE 4 1 ++ natLE 24 0] }

theorem witness_reservation : dType (desc 0x20 []) = 0x20 ∧ wide.reservationHolds (fieldAt (desc 0x20 []) 0x0C 4) = false := by
  decide +kernel

theorem witness_classes : dType (desc 2 [(0x0C, 1, 1)]) = 2 ∧
    (weighted.viewAt (fieldAt (desc 2 [(0x0C, 1, 1)]) 8 4)).2.fmt ≠ fieldAt (desc 2 [(0x0C, 1, 1)]) 0x0C 1 ∧
    ¬((weighted.viewAt (fieldAt (desc 2 [(0x0C, 1, 1)]) 8 4)).2.fmt ∈ [4, 5] ∧ fieldAt (desc 2 [(0x0C, 1, 1)]) 0x0C 1 ∈ [4, 5]) := by
  decide +kernel

theorem witness_crcHolds : crcTransfer [(0, 5)] [] = some ([(0, 5)], 0) := rfl

theorem witness_changes : (0 < 65536 ∧ 1 % 256 ≠ 0) ∧ (65535 < 65536 ∧ 255 % 256 ≠ 0) ∧ (8191 < 8192 ∧ 63 < 64) ∧
    (∀ i < 16, residuesOf [(0, (5 : W64))] i = residuesOf [(0, (5 : W64))] i) := by
  refine ⟨by decide, by decide, by decide, fun _ _ => rfl⟩

theorem witness_residues : ((([(0, -1)] : NMap W64)).map (·.1)).Nodup ∧ ∀ k, -(2 ^ 63 : Int) ≤ (NMap.get (0 : W64) [(0, 1)] k).toInt + (NMap.get (0 : W64) [(0, -1)] k).toInt ∧
    (NMap.get (0 : W64) [(0, 1)] k).toInt + (NMap.get (0 : W64) [(0, -1)] k).toInt < 2 ^ 63 := by
  refine ⟨by decide, fun k => ?_⟩
  by_cases h : k = 0
  · subst h; decide
  · have e (v : W64) : NMap.get (0 : W64) [(0, v)] k = 0 := by
      unfold NMap.get
      rw [if_neg h]
      rfl
    rw [e, e]; decide

/-- A port with buffers for relay frames, and nine of them to send. -/
def relaying (rx : Nat) : State :=
  (linked up (groupAs 1 0 groupActive)).updPlot 1 (fun q => { q with cfg := { q.cfg with rxVc3 := rx } })

def nine : List Frame := (List.range 9).map (fun i => { frameOf 5 3 0 5 [1] with frameIdx := i % 8 })

theorem witness_batches : ((relaying 32).sendBatches 1 11 [3] nine.length nine).2 = 9 ∧ ((relaying 17).sendBatches 1 11 [3] nine.length nine).2 = 8 ∧
    ((relaying 15).sendBatches 1 11 [3] nine.length nine).2 = 0 := by decide +kernel

/-! ### The checks of WellFormed: each refuses an ill-formed term -/

theorem test_wf_plot : (Instr.planLoad 17).wf = false ∧ (Instr.planLoad 16).wf = true := by decide
theorem test_wf_pavilion : (Instr.wload 128 []).wf = false ∧ (Instr.wload 127 []).wf = true := by decide
theorem test_wf_port : (Instr.linkDown 12).wf = false ∧ (Instr.linkDown 11).wf = true := by decide
theorem test_wf_engine : (Instr.cscErrWrite 14 0).wf = false ∧ (Instr.cscErrWrite 13 0).wf = true := by decide
theorem test_wf_controller : (Instr.memoryWriteRetire 36).wf = false ∧ (Instr.memoryWriteRetire 35).wf = true := by decide
theorem test_wf_stack : (Instr.refresh2x 12 85).wf = false ∧ (Instr.refresh2x 11 85).wf = true := by decide
theorem test_wf_function : (Instr.functionLevelReset 17).wf = false ∧ (Instr.functionLevelReset 0).wf = true := by decide
theorem test_wf_connection : (Instr.getVersion 3).wf = false ∧ (Instr.getVersion 2).wf = true := by decide
theorem test_wf_class : (Instr.passComponentTable 0).wf = false ∧ (Instr.passComponentTable 5).wf = false ∧
    (Instr.passComponentTable 4).wf = true := by decide
theorem test_wf_word : (Instr.modModeWrite (2 ^ 64)).wf = false ∧ (Instr.modModeWrite (2 ^ 64 - 1)).wf = true := by decide
theorem test_wf_agent : (Instr.registerWrite (.plot 17) 0 []).wf = false ∧ (Instr.registerWrite .lodge 0 []).wf = true := by decide
theorem test_wf_unit : (Instr.lockStepMismatch (.bothyPair 4)).wf = false ∧ (Instr.heartbeatTimeout (.terraceSequencer 2)).wf = false ∧
    (Instr.lockStepMismatch .gatehouse).wf = true := by decide
theorem test_wf_pair : (Instr.gatehouseWatchdog 4).wf = false ∧ (Instr.gatehouseWatchdog 3).wf = true := by decide
theorem test_wf_slot : (Instr.messageTimeout 1 32).wf = false ∧ (Instr.messageTimeout 1 31).wf = true := by decide
theorem test_wf_fabricId : (Instr.hello ⟨0, 1, 1, true, true, 0, 1⟩ (some (2 ^ 36))).wf = false ∧
    (Instr.hello ⟨0, 1, 1, true, true, 0, 1⟩ (some (2 ^ 36 - 1))).wf = true := by decide
theorem test_wf_frame : (Instr.up 3 { frameOf 3 4 1 5 [] with vc := 4 } ⟨[], [], []⟩).wf = false ∧
    (Instr.up 3 (frameOf 3 1 1 5 []) ⟨[], [], []⟩).wf = true := by decide +kernel

/-! ### Worked examples of the spec -/

/-- 02_number_formats, the example after R59: the generator's word and the element's RX64 word. -/
theorem test_rx64Example : ctrRandom 0x0000000700000019 0x203 5000 0x41 3 1234 = 0x2B9CDA7C ∧ rxL 0x7A 8 = -64 ∧
    rxIn (rxL 0x7A 8) 0x2B9CDA7C 0x26C00064 = 0x6001 := by decide +kernel

/-- 02_number_formats, the example of R44: a slice that holds 5.0 alone has X = −5. -/
theorem test_zeroPointExample : zeroPointExponent (f32 0x40A00000) = -5 := by decide +kernel

/-- 06_memory, the example after R156: the address lies in stack 2, at its local address. -/
theorem test_interleaveExample : controllerOf 0x412C4F80 = 2 ∧ localAddress 0x412C4F80 = 0x0ADCBF80 := by decide

/-- 08_cascade, the example after R216: the residues of two lines and of their sum. -/
theorem test_residueExample : residueOf [90113] = 24578 ∧ residueOf [-70000] = 61070 ∧ residueOf [20113] = (24578 + 61070) % 65535 ∧
    residueOf [1068689] = 20129 := by decide +kernel

/-- 14_bothy_interface, the example after R376: the header bytes of slot 5 spell STEP_RUN, a TAG and VECTOR 3. -/
theorem test_slotHeaderExample : ∀ h ∈ [([0x5A, 0x03, 0x10, 0x03, 0x35, 0x0C, 0x00, 0x00, 0x10, 0x00, 0x03, 0x00] : Bytes)],
    fieldAt h 2 2 = opStepRun ∧ fieldAt h 4 4 = 0xC35 ∧ fieldAt h 8 2 = 16 ∧ fieldAt h 10 1 = 3 := by decide

/-- 02_number_formats, Table NUM-1: one rounds to itself, and a tie goes to even. -/
theorem test_fadd : fadd 0x3F800000 0x33800000 = 0x3F800000 ∧ fadd 0x3F800001 0x33800000 = 0x3F800002 := by decide +kernel

/-! ### Single commands -/

/-- HELLO brings a link up and sends the module's own FABRIC_ID (R224), then keeps its peer's. -/
theorem test_hello : ∀ t ∈ (match exec (.hello ⟨3, 11, 3, true, true, 0, 1⟩ (some 11)) up with | .next t => [t] | _ => []),
    (t.port 3).linkUp = true ∧ (t.port 3).peerId = 11 ∧
      t.sent.any (fun x => match x with | .control 3 _ (.hello 0) => true | _ => false) = true := by decide +kernel

/-- An error register clears the flags written as 1 alone. -/
theorem test_w1c : ∀ t ∈ (match exec (.gthErrWrite 1) { up with gatehouse := { up.gatehouse with err := 3 } } with | .next t => [t] | _ => []),
    t.gatehouse.err = 2 := by decide +kernel

/-- A tick counts. -/
theorem test_tick : ∀ t ∈ (match step { up with mod := { up.mod with resetHigh := true, rails := true, refclk := true } } with | .next t => [t] | _ => []),
    t.mod.tick = up.mod.tick + 1 := by decide +kernel

/-- No word of the table spells a command, and withFetchWord leaves the state. -/
theorem test_noWords : decodeTableWord 8 3 = none ∧ (State.reset.withFetchWord 8 3).pending = [] := by decide +kernel

end Sys2Proof.Tests
end

/-! The statements of the family 01_architecture: the settings' writes (O3) and the idle tick (O44). -/

namespace Sys2Proof.Machine

/-! ### What a command leaves -/

theorem State.keepsBut.refl (s : State) (l : List Piece) : s.keepsBut s l := by
  intro x _
  cases x <;> rfl

theorem State.keepsBut.trans {s t u : State} {l : List Piece} (hst : s.keepsBut t l) (htu : t.keepsBut u l) :
    s.keepsBut u l := by
  intro x hx
  have h₁ := hst x hx
  have h₂ := htu x hx
  cases x <;> exact h₂.trans h₁

theorem State.keepsBut.mono {s t : State} {l l' : List Piece} (h : s.keepsBut t l) (hl : l ⊆ l') : s.keepsBut t l' :=
  fun x hx => h x (fun hm => hx (hl hm))

theorem State.keepsBut_updMod (s : State) (f : Mod → Mod) : s.keepsBut (s.updMod f) [.mod] := by
  intro x hx
  cases x <;> simp_all [State.agree]

theorem State.keepsBut_updMem (s : State) (f : Mem → Mem) : s.keepsBut (s.updMem f) [.mem] := by
  intro x hx
  cases x <;> simp_all [State.agree]

theorem State.keepsBut_updPav (s : State) (i : Nat) (f : Pavilion → Pavilion) : s.keepsBut (s.updPav i f) [.pavs] := by
  intro x hx
  cases x <;> simp_all [State.agree]

/-! ### The same update of several Pavilions -/

theorem State.keepsBut_foldl_updPav (is : List Nat) (f : Pavilion → Pavilion) (s : State) :
    s.keepsBut (is.foldl (fun t i => t.updPav i f) s) [.pavs] :=
  List.foldlRecOn (motive := fun t => s.keepsBut t [.pavs]) is _ (.refl s _)
    (fun t ht i _ => ht.trans (t.keepsBut_updPav i f))

theorem State.pav_foldl_updPav {is : List Nat} (hn : is.Nodup) (f : Pavilion → Pavilion) (s : State) (j : Nat) :
    (is.foldl (fun t i => t.updPav i f) s).pav j = if j ∈ is then f (s.pav j) else s.pav j := by
  induction is generalizing s with
  | nil => simp
  | cons i is ih =>
    obtain ⟨hi, hn⟩ := List.nodup_cons.1 hn
    rw [List.foldl_cons, ih hn]
    by_cases hj : j = i
    · subst hj
      simp [hi]
    · simp [hj, State.pav_updPav_ne]

/-! ### The modes (R29) -/

theorem State.keepsBut_setClocks (s : State) : s.keepsBut s.setClocks [.pavs] := State.keepsBut_foldl_updPav _ _ s

@[simp] theorem State.setClocks_mod (s : State) : s.setClocks.mod = s.mod := s.keepsBut_setClocks .mod (by decide)

@[simp] theorem State.setClocks_mem (s : State) : s.setClocks.mem = s.mem := s.keepsBut_setClocks .mem (by decide)

/-- The clock policy reaches every Pavilion that the module has (R121). -/
theorem State.pav_setClocks (s : State) (i : Nat) : s.setClocks.pav i =
    if i < 128 then { s.pav i with step := s.mod.policyStep, nextStep := s.mod.policyStep } else s.pav i := by
  rw [State.setClocks, State.pav_foldl_updPav List.nodup_range]
  simp only [List.mem_range]

/-- The module's registers once MOD_MODE has taken a value. -/
def Mod.withModes (m : Mod) (value : Nat) : Mod :=
  { m with hall := value.testBit 0, steady := value.testBit 1, partition := value.testBit 2 }

/-- Before bring-up has applied the modes, a write of MOD_MODE sets the register alone. -/
theorem State.setModes_notApplied {s : State} (h : s.mod.modesApplied = false) (value : Nat) :
    s.setModes value = s.updMod (fun m => m.withModes value) := if_neg (by simp [h])

/-- From then on the clocks and the partition follow it at once. (What this leaves in a field is read off by `rw`, which
does not unfold the 128 updates of `setClocks`.) -/
theorem State.setModes_applied {s : State} (h : s.mod.modesApplied = true) (value : Nat) :
    s.setModes value = (s.updMod (fun m => m.withModes value)).setClocks.updMem
      (fun m => { m with partitionInForce := value.testBit 2 }) := if_pos h

theorem State.setModes_mod (s : State) (value : Nat) : (s.setModes value).mod = s.mod.withModes value := by
  cases h : s.mod.modesApplied with
  | false => rw [State.setModes_notApplied h, State.updMod_mod]
  | true => rw [State.setModes_applied h, State.updMem_mod, State.setClocks_mod, State.updMod_mod]

theorem State.setModes_mem (s : State) (value : Nat) : (s.setModes value).mem =
    if s.mod.modesApplied then { s.mem with partitionInForce := value.testBit 2 } else s.mem := by
  cases h : s.mod.modesApplied with
  | false =>
    rw [State.setModes_notApplied h]
    rfl
  | true =>
    rw [State.setModes_applied h, State.updMem_mem, State.setClocks_mem]
    rfl

theorem State.pav_setModes (s : State) (value i : Nat) : (s.setModes value).pav i =
    if s.mod.modesApplied ∧ i < 128 then
      { s.pav i with step := if value.testBit 1 then 10 else 12, nextStep := if value.testBit 1 then 10 else 12 }
    else s.pav i := by
  cases h : s.mod.modesApplied with
  | false => simp [State.setModes_notApplied h]
  | true =>
    rw [State.setModes_applied h, State.pav_updMem, State.pav_setClocks]
    simp only [true_and]
    rfl

theorem State.keepsBut_setModes (s : State) (value : Nat) : s.keepsBut (s.setModes value) [.mod, .mem, .pavs] := by
  have hmod := (s.keepsBut_updMod (fun m => m.withModes value)).mono (l' := [.mod, .mem, .pavs]) (by simp)
  cases h : s.mod.modesApplied with
  | false =>
    rw [State.setModes_notApplied h]
    exact hmod
  | true =>
    rw [State.setModes_applied h]
    exact (hmod.trans ((State.keepsBut_setClocks _).mono (by simp))).trans ((State.keepsBut_updMem _ _).mono (by simp))

/-! ### Settings' writes -/

theorem exec_modModeWrite (s : State) (value : Nat) :
    exec (.modModeWrite value) s = .next (if s.tenantOpen then s else s.setModes value) := by
  show execModModeWrite value s = _
  unfold execModModeWrite
  split <;> rfl

theorem exec_modFabricIdWrite (s : State) (value : Nat) : exec (.modFabricIdWrite value) s =
    .next (if s.tenantOpen then s else s.updMod (fun m => { m with fabricId := value % 2 ^ 36 })) := by
  show execModFabricIdWrite value s = _
  unfold execModFabricIdWrite
  split <;> rfl

theorem exec_modPatrolCfgWrite (s : State) (value : Nat) : exec (.modPatrolCfgWrite value) s = .next (s.setPatrol value) := rfl

theorem exec_modSchedCfgWrite (s : State) (value : Nat) : exec (.modSchedCfgWrite value) s = .next (s.setSlice value) := rfl

/-- Table MEM-11. -/
theorem State.setPatrol_mem (s : State) (value : Nat) : (s.setPatrol value).mem = { s.mem with
    patrolHours := if 4 ≤ value % 256 ∧ value % 256 ≤ 168 then value % 256 else s.mem.patrolHours
    patrolEnable := value.testBit 16 } := by
  simp [State.setPatrol, bitsOf, bitOf]

/-- Table PLT-8. -/
theorem State.setSlice_eq_updMod (s : State) (value : Nat) : s.setSlice value = s.updMod (fun m => { m with
    sliceNext := if 1000 ≤ value % 131072 ∧ value % 131072 ≤ 100000 then value % 131072 else m.sliceNext }) := by
  simp only [State.setSlice, bitsOf, Nat.pow_zero, Nat.div_one, Nat.reducePow]
  split <;> rfl

/-- Settles O3: each write is one update of its registers; of the modes, MOD_MODE's clocks reach the 128 Pavilions. -/
theorem settingWrites : Obligations.SettingWrites := by
  refine ⟨fun s value => ?mode, fun s value => ?fabricId, fun s value => ?patrol, fun s value => ?slice⟩
  case mode =>
    refine ⟨_, exec_modModeWrite s value, ?_⟩
    split
    · exact ⟨rfl, State.keepsBut.refl s _⟩
    · exact ⟨⟨s.setModes_mod value, s.setModes_mem value, s.pav_setModes value⟩, s.keepsBut_setModes value⟩
  case fabricId =>
    refine ⟨_, exec_modFabricIdWrite s value, ?_⟩
    split
    · exact ⟨rfl, State.keepsBut.refl s _⟩
    · exact ⟨rfl, s.keepsBut_updMod _⟩
  case patrol => exact ⟨_, exec_modPatrolCfgWrite s value, s.setPatrol_mem value, s.keepsBut_updMem _⟩
  case slice =>
    refine ⟨_, exec_modSchedCfgWrite s value, ?_⟩
    rw [State.setSlice_eq_updMod]
    exact ⟨rfl, s.keepsBut_updMod _⟩

/-! ### The millisecond's energy (R356) -/

/-- Two states hold the same but for the accounts of their plots. -/
def State.sameButAccounts (s t : State) : Prop :=
  (∀ p, { t.plot p with account := Account.init } = { s.plot p with account := Account.init }) ∧ { t with plots := s.plots } = s

theorem State.sameButAccounts.trans {s t u : State} (hst : s.sameButAccounts t) (htu : t.sameButAccounts u) :
    s.sameButAccounts u := by
  obtain ⟨hplots, hrest⟩ := hst
  obtain ⟨hplots', hrest'⟩ := htu
  refine ⟨fun p => (hplots' p).trans (hplots p), ?_⟩
  rw [← hrest'] at hrest
  exact hrest

theorem State.sameButAccounts_charge (s : State) (p : Nat) (f : Account → Account) : s.sameButAccounts (s.charge p f) := by
  refine ⟨fun q => ?_, rfl⟩
  by_cases hq : q = p
  · subst hq
    simp
  · rw [State.charge, State.plot_updPlot_ne s p q _ hq]

theorem State.sameButAccounts_shareEnergy (s : State) : s.sameButAccounts s.shareEnergy :=
  List.foldlRecOn (motive := fun t => s.sameButAccounts t) _ _ (s.sameButAccounts_charge 0 _)
    (fun t ht e _ => ht.trans (t.sameButAccounts_charge e.1 _))

/-- With every tenant plot CLOSED no plot has held ticks, and plot 0 takes all that is not attributed to it. -/
theorem State.energyShare_shareEnergy_of_closed (s : State) (h : ∀ p ∈ tenantPlots, (s.plot p).state = 0) :
    (s.shareEnergy.plot 0).account.energyShare =
      (s.plot 0).account.energyShare + BitVec.ofNat 64 (s.mod.inputWatts - Config.attributedEnergy 0 s.now) := by
  have hnone : tenantPlots.filter (fun p => (s.plot p).state != 0) = [] :=
    List.filter_eq_nil_iff.2 (fun p hp => by simp [h p hp])
  simp [State.shareEnergy, hnone, State.addEnergy]

/-! ### The tick (R12) -/

/-- The state once MOD_TICK has counted. -/
def State.ticked (s : State) : State := { s with mod := { s.mod with tick := s.mod.tick + 1 } }

theorem step_empty {s : State} (h : s.pending = []) : step s = .next s.idle := by
  simp only [step, h]

theorem State.idle_off {s : State} (h : s.mod.resetHigh = false ∨ s.mod.rails = false ∨ s.mod.refclk = false) : s.idle = s := by
  rcases h with h | h | h <;> simp [State.idle, h]

@[simp] theorem State.recoveryAck_mod (s : State) : s.recoveryAck.mod = s.mod := by
  unfold State.recoveryAck
  split
  · split <;> rfl
  · rfl

theorem State.recoveryAck_inactive {s : State} (h : s.mgmt.recovery.active = false) : s.recoveryAck = s := by
  simp [State.recoveryAck, h]

theorem State.recoveryAck_session {s : State} {x : RecSession} (ha : s.mgmt.recovery.active = true)
    (hx : s.mgmt.recovery.session = some x) : s.recoveryAck =
      if x.lastTick + 1000000 = s.now ∧ x.packets % 16 ≠ 0 ∧ x.next ≠ x.len then s.emit (.recovery 0x05 x.id (natLE 8 x.next))
      else s := by
  simp only [State.recoveryAck, ha, hx]
  rfl

/-- A module that runs counts, recovery may owe its acknowledgement, and the end of a millisecond shares the energy. -/
theorem State.idle_running {s : State} (hreset : s.mod.resetHigh = true) (hrails : s.mod.rails = true)
    (href : s.mod.refclk = true) : s.idle = if (s.mod.tick + 1).toNat % 100000 = 0
      then s.ticked.recoveryAck.shareEnergy else s.ticked.recoveryAck := by
  have hnow : (s.mod.tick + 1).toNat = s.ticked.recoveryAck.now := by
    rw [State.now, State.recoveryAck_mod]
    rfl
  rw [hnow]
  exact if_pos (by simp [hreset, hrails, href])

/-- Settles O44: a running module counts; the millisecond's sharing charges accounts, and recovery's acknowledgement is one
packet sent. -/
theorem idleTick : Obligations.IdleTick := by
  refine ⟨fun s hp ha hreset hrails href h => ?within, fun s hp ha hreset hrails href h => ?atEnd,
    fun s x hp ha hx hreset hrails href h => ⟨fun hdue hpackets hnext => ?ack, fun hdue => ?noAck⟩, fun s hp h => ?off⟩
  case within =>
    rw [step_empty hp, State.idle_running hreset hrails href, if_neg h, State.recoveryAck_inactive (s := s.ticked) ha]
    rfl
  case atEnd =>
    obtain ⟨hplots, hrest⟩ := s.ticked.sameButAccounts_shareEnergy
    refine ⟨s.ticked.shareEnergy, ?_, hplots, hrest, s.ticked.energyShare_shareEnergy_of_closed⟩
    rw [step_empty hp, State.idle_running hreset hrails href, if_pos h, State.recoveryAck_inactive (s := s.ticked) ha]
  case ack =>
    rw [step_empty hp, State.idle_running hreset hrails href, if_neg h, State.recoveryAck_session (s := s.ticked) ha hx,
      if_pos ⟨hdue, hpackets, hnext⟩]
    rfl
  case noAck =>
    rw [step_empty hp, State.idle_running hreset hrails href, if_neg h, State.recoveryAck_session (s := s.ticked) ha hx,
      if_neg (fun hall => hdue hall.1)]
    rfl
  case off => rw [step_empty hp, State.idle_off h]

end Sys2Proof.Machine

/-! The statements of the family 02_number_formats: RX64's sums (O48) and the exponent of a tile (O53). -/

namespace Sys2Proof.Machine

/-! ### The value of a finite FP32 pattern -/

/-- A subnormal or a zero is a 23-bit multiple of 2^-149; a normal is a 24-bit multiple of a unit that its exponent field
gives. -/
theorem f32_of_finite {x : W32} (h : finite32 x = true) : ∃ neg m k, f32 x = .fin neg m k ∧
    ((expField x = 0 ∧ m < 2 ^ 23 ∧ k = -149) ∨ (1 ≤ expField x ∧ m < 2 ^ 24 ∧ k = (expField x : Int) - 150)) := by
  have hef : x.toNat % 2 ^ 31 / 2 ^ 23 = expField x := by simp only [expField]; omega
  have hmf : x.toNat % 2 ^ 31 % 2 ^ 23 < 2 ^ 23 := Nat.mod_lt _ (by decide)
  have hdec : f32 x = finiteCode fmtFp32 x.toNat := by
    by_cases htop : x.toNat % 2 ^ 31 ≤ fmtFp32.top
    · exact if_pos htop
    · have hspecial : f32 x = if x.toNat % 2 ^ 31 = fmtFp32.top + 1 then .inf (bitOf x.toNat 31) else .nan :=
        (if_neg htop).trans (if_neg (by decide))
      rw [finite32, hspecial] at h
      split at h <;> cases h
  have hfc : finiteCode fmtFp32 x.toNat =
      if expField x = 0 then .fin (bitOf x.toNat 31) (x.toNat % 2 ^ 31 % 2 ^ 23) (-149)
      else .fin (bitOf x.toNat 31) (2 ^ 23 + x.toNat % 2 ^ 31 % 2 ^ 23) ((expField x : Int) - 127 - 23) := by
    rw [← hef]
    rfl
  rw [hdec, hfc]
  split
  · next h0 => exact ⟨_, _, _, rfl, .inl ⟨h0, hmf, rfl⟩⟩
  · next h0 => exact ⟨_, _, _, rfl, .inr ⟨by omega, by omega, by omega⟩⟩

/-- The bound of R56: an element of exponent field e is below 2^(e - 126), said with both sides times 2^149. -/
theorem f32_below_of_finite {x : W32} (h : finite32 x = true) :
    ∃ neg m k, f32 x = .fin neg m k ∧ -149 ≤ k ∧ m * 2 ^ (k + 149).toNat < 2 ^ (expField x + 23) := by
  obtain ⟨neg, m, k, hx, ⟨he, hm, rfl⟩ | ⟨he, hm, rfl⟩⟩ := f32_of_finite h
  · exact ⟨neg, m, _, hx, le_rfl, by simpa [he] using hm⟩
  · refine ⟨neg, m, _, hx, by omega, ?_⟩
    have hk : ((expField x : Int) - 150 + 149).toNat = expField x - 1 := by omega
    calc m * 2 ^ ((expField x : Int) - 150 + 149).toNat
        < 2 ^ 24 * 2 ^ (expField x - 1) := by rw [hk]; exact Nat.mul_lt_mul_of_pos_right hm (by positivity)
      _ = 2 ^ (expField x + 23) := by rw [← pow_add]; congr 1; omega

theorem expField_of_subnormal {x : W32} (h : x.toNat % 2 ^ 31 < 2 ^ 23) : expField x = 0 := by
  simp only [expField]
  omega

/-! ### The headroom (R55) -/

theorem headroom_eq {m : Nat} (h : 1 ≤ m) : headroom m = (if m = 1 then 0 else Nat.log2 (m - 1) + 1) + 1 := by
  have hone : m ≤ 1 ↔ m = 1 := by omega
  simp only [headroom, clog2, hone]

theorem one_le_headroom (m : Nat) : 1 ≤ headroom m := Nat.le_add_left 1 _

/-- 65,536 members need 17 bits. -/
theorem headroom_le {m : Nat} (h : m ≤ 65536) : headroom m ≤ 17 := by
  unfold headroom clog2
  split
  · omega
  · next hm =>
    have := (Nat.log2_lt (n := m - 1) (k := 16) (by omega)).2 (by omega)
    omega

/-- The members' count fits into the headroom's bits but one. -/
theorem le_two_pow_headroom (m : Nat) : m ≤ 2 ^ (headroom m - 1) := by
  simp only [headroom, Nat.add_sub_cancel]
  unfold clog2
  split
  · omega
  · have := Nat.lt_log2_self (n := m - 1)
    omega

/-! ### The entry conversion (R57) -/

theorem roundQuot_word_le (r n d : Nat) : roundQuot (.word r) n d ≤ n / d + 1 := by
  simp only [roundQuot]
  split <;> omega

/-- The magnitude that the entry conversion gives m × 2^e in units of 2^l. -/
def rxMagnitude (l : Int) (r : W32) (m : Nat) (e : Int) : Nat :=
  if 0 ≤ e - l then m * 2 ^ (e - l).toNat else roundQuot (.word r.toNat) m (2 ^ (-(e - l)).toNat)

theorem rxIn_fin {x : W32} {neg : Bool} {m : Nat} {e : Int} (h : f32 x = .fin neg m e) (l : Int) (r : W32) :
    rxIn l r x = if neg then -(BitVec.ofNat 64 (rxMagnitude l r m e)) else BitVec.ofNat 64 (rxMagnitude l r m e) := by
  unfold rxIn
  rw [h]
  rfl

/-- A conversion to the right of the unit is exact; one to its left gives a word below the mantissa's range. -/
theorem rxMagnitude_lt {l e : Int} {r : W32} {m b n : Nat} (hm : m < 2 ^ b) (hexact : 0 ≤ e - l → b + (e - l).toNat ≤ n)
    (hround : b < n) : rxMagnitude l r m e < 2 ^ n := by
  unfold rxMagnitude
  split
  · next hsh =>
    calc m * 2 ^ (e - l).toNat < 2 ^ b * 2 ^ (e - l).toNat := Nat.mul_lt_mul_of_pos_right hm (by positivity)
      _ = 2 ^ (b + (e - l).toNat) := (pow_add _ _ _).symm
      _ ≤ 2 ^ n := Nat.pow_le_pow_right (by decide) (hexact hsh)
  · next hsh =>
    calc roundQuot (.word r.toNat) m (2 ^ (-(e - l)).toNat)
        ≤ m / 2 ^ (-(e - l)).toNat + 1 := roundQuot_word_le _ _ _
      _ ≤ m + 1 := Nat.add_le_add_right (Nat.div_le_self _ _) 1
      _ ≤ 2 ^ b := hm
      _ < 2 ^ n := Nat.pow_lt_pow_right (by decide) hround

theorem natAbs_toInt_signed_ofNat {q : Nat} (h : q < 2 ^ 63) (neg : Bool) :
    (if neg then -(BitVec.ofNat 64 q) else BitVec.ofNat 64 q).toInt.natAbs = q := by
  have hpos : (BitVec.ofNat 64 q).toInt = q := by
    rw [BitVec.toInt_eq_toNat_of_lt (by rw [BitVec.toNat_ofNat]; omega), BitVec.toNat_ofNat]
    omega
  have hneg : (-(BitVec.ofNat 64 q)).toInt = -(q : Int) := by
    rw [BitVec.toInt_neg, hpos, Int.bmod_def]
    omega
  cases neg <;> simp [hpos, hneg]

theorem natAbs_rxIn_lt {m e : Nat} {r x : W32} (hm : m ≤ 65536) (hfin : finite32 x = true) (he : expField x ≤ e) :
    (rxIn (rxL e m) r x).toInt.natAbs < 2 ^ (64 - headroom m) := by
  have h1 := one_le_headroom m
  have h17 := headroom_le hm
  have hmag : ∃ neg a k, f32 x = .fin neg a k ∧ rxMagnitude (rxL e m) r a k < 2 ^ (64 - headroom m) := by
    obtain ⟨neg, a, k, hx, ⟨hf, ha, hk⟩ | ⟨hf, ha, hk⟩⟩ := f32_of_finite hfin
    · exact ⟨neg, a, k, hx, rxMagnitude_lt ha (by simp only [rxL]; omega) (by omega)⟩
    · exact ⟨neg, a, k, hx, rxMagnitude_lt ha (by simp only [rxL]; omega) (by omega)⟩
  obtain ⟨neg, a, k, hx, hlt⟩ := hmag
  have h63 : 2 ^ (64 - headroom m) ≤ 2 ^ 63 := Nat.pow_le_pow_right (by decide) (by omega)
  rw [rxIn_fin hx, natAbs_toInt_signed_ofNat (lt_of_lt_of_le hlt h63)]
  exact hlt

/-! ### Sums of words -/

/-- Words of magnitude at most b add up without overflow while their count times b is below 2^63. -/
theorem toInt_sum_of_natAbs_le {ws : List W64} {b : Nat} (hb : ∀ w ∈ ws, w.toInt.natAbs ≤ b) (hlen : ws.length * b < 2 ^ 63) :
    ws.sum.toInt = (ws.map BitVec.toInt).sum ∧ (ws.map BitVec.toInt).sum.natAbs ≤ ws.length * b := by
  induction ws with
  | nil => simp
  | cons w ws ih =>
    have hw := hb w (by simp)
    have hmul : (w :: ws).length * b = ws.length * b + b := by simp [Nat.succ_mul]
    obtain ⟨hsum, hle⟩ := ih (fun v hv => hb v (by simp [hv])) (by omega)
    simp only [List.sum_cons, List.map_cons, BitVec.toInt_add, hsum, Int.bmod_def]
    omega

/-- A sum over the members of a tree is exact (R58). -/
theorem rxSum_exact {m : Nat} {ws : List W64} (hm : m ≤ 65536) (hlen : ws.length ≤ m)
    (hws : ∀ w ∈ ws, w.toInt.natAbs < 2 ^ (64 - headroom m)) :
    ws.sum.toInt = (ws.map BitVec.toInt).sum ∧ (ws.map BitVec.toInt).sum.natAbs < 2 ^ 63 := by
  have h1 := one_le_headroom m
  have h17 := headroom_le hm
  have hpow : 2 ^ (headroom m - 1) * 2 ^ (64 - headroom m) = 2 ^ 63 := by rw [← pow_add]; congr 1; omega
  have hbound : ws.length * (2 ^ (64 - headroom m) - 1) < 2 ^ 63 := by
    calc ws.length * (2 ^ (64 - headroom m) - 1)
        ≤ 2 ^ (headroom m - 1) * (2 ^ (64 - headroom m) - 1) := Nat.mul_le_mul_right _ (hlen.trans (le_two_pow_headroom m))
      _ < 2 ^ (headroom m - 1) * 2 ^ (64 - headroom m) :=
          Nat.mul_lt_mul_of_pos_left (Nat.sub_lt (by positivity) one_pos) (by positivity)
      _ = 2 ^ 63 := hpow
  obtain ⟨hsum, hle⟩ := toInt_sum_of_natAbs_le (fun w hw => Nat.le_sub_one_of_lt (hws w hw)) hbound
  exact ⟨hsum, lt_of_le_of_lt hle hbound⟩

/-! ### Sums of word tables -/

/-- A put lists the keys that stood there and its own. -/
theorem mem_keys_set {V : Type} (m : NMap V) (i : Nat) (v : V) (k : Nat) :
    k ∈ (NMap.set m i v).map (·.1) ↔ k = i ∨ k ∈ m.map (·.1) := by
  induction m with
  | nil => simp [NMap.set]
  | cons e m ih =>
    obtain ⟨j, w⟩ := e
    simp only [NMap.set]
    split
    · simp
    · split
      · next hij => subst hij; simp
      · simp only [List.map_cons, List.mem_cons, ih]
        exact or_left_comm

/-- The keys of a table rise strictly, so each is listed once. -/
def KeysRise {V : Type} (m : NMap V) : Prop := (m.map (·.1)).Pairwise (· < ·)

theorem keysRise_set {V : Type} {m : NMap V} (h : KeysRise m) (i : Nat) (v : V) : KeysRise (m.set i v) := by
  induction m with
  | nil => exact List.pairwise_singleton _ _
  | cons e m ih =>
    obtain ⟨j, w⟩ := e
    obtain ⟨hj, hm⟩ := List.pairwise_cons.1 h
    simp only [NMap.set]
    split
    · next hij => exact List.pairwise_cons.2 ⟨List.forall_mem_cons.2 ⟨hij, fun k hk => hij.trans (hj k hk)⟩, h⟩
    · split
      · next heq => exact heq ▸ h
      · refine List.pairwise_cons.2 ⟨fun k hk => ?_, ih hm⟩
        rcases (mem_keys_set m i v k).1 hk with rfl | hk
        · show j < k
          omega
        · exact hj k hk

theorem keysRise_addWords {a : NMap W64} (h : KeysRise a) (b : NMap W64) : KeysRise (addWords a b) :=
  List.foldlRecOn (motive := KeysRise) b _ h (fun _ hm _ _ => keysRise_set hm _ _)

theorem get_eq_zero_of_not_mem {m : NMap W64} {k : Nat} (h : k ∉ m.map (·.1)) : m.get 0 k = 0 := by
  induction m with
  | nil => rfl
  | cons e m ih =>
    obtain ⟨hne, hm⟩ := not_or.1 (List.mem_cons.not.1 h)
    exact (if_neg hne).trans (ih hm)

/-- Each word of a sum of tables is the sum of their words. -/
theorem get_addWords (a : NMap W64) {b : NMap W64} (h : (b.map (·.1)).Nodup) (k : Nat) :
    (addWords a b).get 0 k = a.get 0 k + b.get 0 k := by
  induction b generalizing a with
  | nil => exact (BitVec.add_zero _).symm
  | cons e b ih =>
    obtain ⟨j, w⟩ := e
    obtain ⟨hj, hb⟩ := List.nodup_cons.1 h
    show (addWords (a.modify 0 j (· + w)) b).get 0 k = _
    rw [ih _ hb]
    have hcons : NMap.get 0 ((j, w) :: b) k = if k = j then w else NMap.get 0 b k := rfl
    by_cases hk : k = j
    · subst hk
      rw [NMap.get_modify_self, hcons, if_pos rfl, get_eq_zero_of_not_mem hj]
      exact BitVec.add_zero _
    · rw [NMap.get_modify_ne _ _ _ _ _ hk, hcons, if_neg hk]

theorem Tile.keysRise_childWords (t : Tile) (child : Nat) : KeysRise (t.childWords child) :=
  List.foldlRecOn (motive := KeysRise) _ _ List.Pairwise.nil (fun _ hm b _ => keysRise_addWords hm b)

theorem Tile.get_subtotal (t : Tile) (cs : List Nat) (k : Nat) :
    (t.subtotal cs).get 0 k = t.words.get 0 k + (cs.map (fun c => (t.childWords c).get 0 k)).sum := by
  have hfold (a : NMap W64) : (cs.foldl (fun a c => addWords a (t.childWords c)) a).get 0 k =
      a.get 0 k + (cs.map (fun c => (t.childWords c).get 0 k)).sum := by
    induction cs generalizing a with
    | nil => exact (BitVec.add_zero _).symm
    | cons c cs ih =>
      have hnodup := (t.keysRise_childWords c).imp Nat.ne_of_lt
      rw [List.foldl_cons, ih, get_addWords a hnodup, List.map_cons, List.sum_cons, BitVec.add_assoc]
  exact hfold t.words

/-- Settles O48: elements stay below the headroom, so the members' sums cannot overflow; the tables add word by word. -/
theorem rxSumsAreExact : Obligations.RxSumsAreExact := by
  refine ⟨fun m h1 _ => headroom_eq h1, fun m e r x _ hm _ hfin he => natAbs_rxIn_lt hm hfin he,
    fun m ws _ hm hlen hws => ?_, fun t cs ds k => ⟨t.get_subtotal cs k, fun hperm => ?_⟩⟩
  · obtain ⟨hsum, hlt⟩ := rxSum_exact hm hlen hws
    exact ⟨hsum, hlt, fun vs hvs => hvs.sum_eq⟩
  · rw [t.get_subtotal, t.get_subtotal, (hperm.map _).sum_eq]

/-! ### The exponent of a tile (R56, R211) -/

theorem foldl_max_le_iff {α : Type} (f : α → Nat) (l : List α) (a b : Nat) :
    l.foldl (fun m x => max m (f x)) a ≤ b ↔ a ≤ b ∧ ∀ x ∈ l, f x ≤ b := by
  induction l generalizing a with
  | nil => simp
  | cons x l ih => simp [ih, and_assoc]

/-- A maximum is attained. -/
theorem foldl_max_attained {α : Type} (f : α → Nat) (l : List α) (a : Nat) :
    l.foldl (fun m x => max m (f x)) a = a ∨ ∃ x ∈ l, f x = l.foldl (fun m x => max m (f x)) a := by
  induction l generalizing a with
  | nil => exact .inl rfl
  | cons x l ih =>
    simp only [List.foldl_cons, List.mem_cons, exists_eq_or_imp]
    rcases ih (max a (f x)) with h | h
    · rw [h]
      omega
    · exact .inr (.inr h)

/-- With no poisoned line no element is left out. -/
theorem Tile.filter_notPoisoned {t : Tile} (h : t.poison = []) :
    t.data.filter (fun e => !t.elementPoisoned e.1) = t.data :=
  List.filter_eq_self.2 (fun _ _ => by simp [Tile.elementPoisoned, h])

theorem Tile.scan_e {t : Tile} (h : t.poison = []) :
    t.scan.e = (t.data.filter (fun x => finite32 x.2)).foldl (fun m x => max m (expField x.2)) 0 := by
  rw [List.foldl_filter]
  simp only [Tile.scan, Tile.filter_notPoisoned h]

theorem WaveEntry.e_foldl_join (w : WaveEntry) (ws : List WaveEntry) :
    (ws.foldl WaveEntry.join w).e = ws.foldl (fun m x => max m x.e) w.e := by
  induction ws generalizing w with
  | nil => rfl
  | cons x ws ih => exact ih (w.join x)

theorem Tile.mem_convert {t : Tile} (h : t.poison = []) {x : Nat × W32} (hx : x ∈ t.data) (seed step rank m : Nat)
    (w : WaveEntry) : (x.1, rxIn (rxL w.e m) (t.word seed step rank x.1) x.2) ∈ t.convert seed step rank m w := by
  simp only [Tile.convert, Tile.filter_notPoisoned h]
  exact List.mem_map_of_mem hx

/-- Settles O53: the scan and the wave are maxima, and a pattern's exponent field bounds its value. -/
theorem exponentOfATile : Obligations.ExponentOfATile := by
  refine ⟨fun t hp => ⟨fun x hx hfin => ?above, ?attained⟩, fun x => expField_of_subnormal,
    fun w ws => ⟨?joinAbove, ?joinAttained⟩, fun t seed step rank m w x hx hp => Tile.mem_convert hp hx seed step rank m w,
    fun x => f32_below_of_finite, fun e m => by simp only [rxL]; omega⟩
  case above =>
    have hmax := ((foldl_max_le_iff _ _ _ _).1 (Tile.scan_e hp).ge).2
    exact hmax x (List.mem_filter.2 ⟨hx, hfin⟩)
  case attained =>
    rw [Tile.scan_e hp]
    refine (foldl_max_attained _ _ 0).imp_right (fun ⟨x, hx, he⟩ => ?_)
    obtain ⟨hmem, hfin⟩ := List.mem_filter.1 hx
    exact ⟨x, hmem, hfin, he⟩
  case joinAbove =>
    rw [WaveEntry.e_foldl_join]
    exact List.forall_mem_cons.2 ((foldl_max_le_iff _ ws w.e _).1 le_rfl)
  case joinAttained =>
    rw [WaveEntry.e_foldl_join]
    simp only [List.mem_cons, exists_eq_or_imp]
    exact (foldl_max_attained WaveEntry.e ws w.e).imp_left Eq.symm

end Sys2Proof.Machine

/-! What the runs of a Pavilion's descriptors have in common: the frame of a change, the queues, and the checks that fail. -/

namespace Sys2Proof

theorem NMap.find_set_self {V : Type} (m : NMap V) (i : Nat) (v : V) : NMap.find (m.set i v) i = some v := by
  induction m with
  | nil => simp [NMap.set, NMap.find]
  | cons e m ih =>
    obtain ⟨k, w⟩ := e
    simp only [NMap.set]
    split
    · simp [NMap.find]
    · split
      · simp [NMap.find]
      · simp [NMap.find, *]

theorem NMap.get_of_find {V : Type} {m : NMap V} {i : Nat} {v : V} (h : NMap.find m i = some v) (d : V) : NMap.get d m i = v := by
  induction m with
  | nil => cases h
  | cons e m ih =>
    obtain ⟨k, w⟩ := e
    simp only [NMap.find, NMap.get] at h ⊢
    split
    · next hk => exact Option.some.inj ((if_pos hk).symm.trans h)
    · next hk => exact ih ((if_neg hk).symm.trans h)

theorem NMap.find_modify_self {V : Type} (d : V) (m : NMap V) (i : Nat) (f : V → V) :
    NMap.find (m.modify d i f) i = some (f (NMap.get d m i)) := NMap.find_set_self m i _

/-- The update of one place of a list, as the model writes it. -/
theorem map_zip_range_eq_modify {α : Type} (l : List α) (i : Nat) (f : α → α) :
    ((List.range l.length).zip l).map (fun e => if e.1 = i then f e.2 else e.2) = l.modify i f := by
  apply List.ext_getElem
  · simp
  · intro j h₁ h₂
    simp [List.getElem_modify, eq_comm]

end Sys2Proof

namespace Sys2Proof.Machine

/-! ### The frame of a change -/

/-- A change touches no plot but one, no Pavilion but one, and no part of the state but those named. -/
def State.within (s t : State) (p pav : Nat) (l : List Piece) : Prop :=
  s.otherPlots t p ∧ s.otherPavs t pav ∧ s.keepsBut t l

theorem State.within.refl (s : State) (p pav : Nat) (l : List Piece) : s.within s p pav l :=
  ⟨fun _ _ => rfl, fun _ _ => rfl, .refl s l⟩

theorem State.within.trans {s t u : State} {p pav : Nat} {l : List Piece} (hst : s.within t p pav l)
    (htu : t.within u p pav l) : s.within u p pav l := by
  obtain ⟨hplots, hpavs, hkeep⟩ := hst
  obtain ⟨hplots', hpavs', hkeep'⟩ := htu
  exact ⟨fun q hq => (hplots' q hq).trans (hplots q hq), fun i hi => (hpavs' i hi).trans (hpavs i hi), hkeep.trans hkeep'⟩

theorem State.within.mono {s t : State} {p pav : Nat} {l l' : List Piece} (h : s.within t p pav l) (hl : l ⊆ l') :
    s.within t p pav l' := ⟨h.1, h.2.1, h.2.2.mono hl⟩

theorem State.keepsBut_updPlot (s : State) (p : Nat) (f : Plot → Plot) : s.keepsBut (s.updPlot p f) [.plots] := by
  intro x hx
  cases x <;> simp_all [State.agree]

theorem State.within_updPav (s : State) (p pav : Nat) (f : Pavilion → Pavilion) : s.within (s.updPav pav f) p pav [.pavs] :=
  ⟨fun _ _ => rfl, fun i hi => s.pav_updPav_ne pav i f hi, s.keepsBut_updPav pav f⟩

theorem State.within_updPlot (s : State) (p pav : Nat) (f : Plot → Plot) : s.within (s.updPlot p f) p pav [.plots] :=
  ⟨fun q hq => s.plot_updPlot_ne p q f hq, fun _ _ => rfl, s.keepsBut_updPlot p f⟩

theorem State.within_charge (s : State) (p pav : Nat) (f : Account → Account) : s.within (s.charge p f) p pav [.plots] :=
  s.within_updPlot p pav _

theorem State.within_updMem (s : State) (p pav : Nat) (f : Mem → Mem) : s.within (s.updMem f) p pav [.mem] :=
  ⟨fun _ _ => rfl, fun _ _ => rfl, s.keepsBut_updMem f⟩

theorem State.otherPavs_of_pavs_eq {s t : State} (h : t.pavs = s.pavs) (pav : Nat) : s.otherPavs t pav :=
  fun i _ => by simp only [State.pav, h]

theorem State.otherPavs.trans {s t u : State} {pav : Nat} (hst : s.otherPavs t pav) (htu : t.otherPavs u pav) :
    s.otherPavs u pav := fun i hi => (htu i hi).trans (hst i hi)

/-! ### Queues -/

@[simp] theorem Pavilion.queue_setQueue_self (v : Pavilion) (k : Nat) (l : List QDesc) : (v.setQueue k l).queue k = l := by
  simp only [Pavilion.setQueue, Pavilion.queue]
  split_ifs <;> rfl

/-- Apart from its queues a Pavilion stays as it is. -/
theorem Pavilion.setQueue_eq (v : Pavilion) (k : Nat) (l : List QDesc) : v.setQueue k l = { v with
    array := if k = 0 then l else v.array, rill := if k = 1 then l else v.rill
    move := if k = 0 ∨ k = 1 then v.move else l } := by
  unfold Pavilion.setQueue
  split_ifs <;> simp_all

@[simp] theorem Pavilion.setQueue_par (v : Pavilion) (k : Nat) (l : List QDesc) : (v.setQueue k l).par = v.par := by
  rw [Pavilion.setQueue_eq]
@[simp] theorem Pavilion.setQueue_store (v : Pavilion) (k : Nat) (l : List QDesc) : (v.setQueue k l).store = v.store := by
  rw [Pavilion.setQueue_eq]
@[simp] theorem Pavilion.setQueue_storePoison (v : Pavilion) (k : Nat) (l : List QDesc) : (v.setQueue k l).storePoison = v.storePoison := by
  rw [Pavilion.setQueue_eq]
@[simp] theorem Pavilion.setQueue_gbuf (v : Pavilion) (k : Nat) (l : List QDesc) : (v.setQueue k l).gbuf = v.gbuf := by
  rw [Pavilion.setQueue_eq]
@[simp] theorem Pavilion.setQueue_ctr (v : Pavilion) (k : Nat) (l : List QDesc) : (v.setQueue k l).ctr = v.ctr := by
  rw [Pavilion.setQueue_eq]
@[simp] theorem Pavilion.setQueue_err (v : Pavilion) (k : Nat) (l : List QDesc) : (v.setQueue k l).err = v.err := by
  rw [Pavilion.setQueue_eq]
@[simp] theorem Pavilion.setQueue_rillBusy (v : Pavilion) (k : Nat) (l : List QDesc) : (v.setQueue k l).rillBusy = v.rillBusy := by
  rw [Pavilion.setQueue_eq]
@[simp] theorem Pavilion.setQueue_rillHist (v : Pavilion) (k : Nat) (l : List QDesc) : (v.setQueue k l).rillHist = v.rillHist := by
  rw [Pavilion.setQueue_eq]
@[simp] theorem Pavilion.setQueue_reload (v : Pavilion) (k : Nat) (l : List QDesc) : (v.setQueue k l).reload = v.reload := by
  rw [Pavilion.setQueue_eq]

/-! ### The end of a descriptor's run -/

/-- A descriptor that has run. -/
def QDesc.done (d : QDesc) (now : Nat) : QDesc :=
  { d with started := true, executed := true, startTick := if d.started then d.startTick else now }

theorem Pavilion.headDone_eq (v : Pavilion) (k : Nat) (d : QDesc) (rest : List QDesc) (now : Nat) :
    v.headDone k d rest now = v.setQueue k (d.done now :: rest) := rfl

theorem State.updDesc_eq (s : State) (pav k i : Nat) (f : QDesc → QDesc) :
    s.updDesc pav k i f = s.updPav pav (fun v => v.setQueue k ((v.queue k).modify i f)) := by
  simp only [State.updDesc, map_zip_range_eq_modify]

theorem State.markDone_eq (s : State) (pav k i : Nat) :
    s.markDone pav k i = s.updPav pav (fun v => v.setQueue k ((v.queue k).modify i (·.done s.now))) :=
  s.updDesc_eq pav k i _

theorem State.within_markDone (s : State) (p pav k i : Nat) : s.within (s.markDone pav k i) p pav [.pavs] := by
  rw [State.markDone_eq]
  exact s.within_updPav p pav _

theorem State.pav_markDone (s : State) (pav k i : Nat) : (s.markDone pav k i).pav pav =
    (s.pav pav).setQueue k (((s.pav pav).queue k).modify i (·.done s.now)) := by
  rw [State.markDone_eq, State.pav_updPav_self]

/-! ### Splits and stores -/

theorem State.within_countSplits (s : State) (p pav n : Nat) : s.within (s.countSplits pav n) p pav [.pavs] :=
  s.within_updPav p pav _

theorem State.within_commitStore (s : State) (p pav : Nat) (g : Staged) : s.within (s.commitStore pav g) p pav [.pavs] :=
  s.within_updPav p pav _

theorem State.pav_countSplits (s : State) (pav n : Nat) : (s.countSplits pav n).pav pav = { s.pav pav with
    ctr := { (s.pav pav).ctr with misaligned := (s.pav pav).ctr.misaligned + BitVec.ofNat 64 n } } := s.pav_updPav_self pav _

theorem State.pav_commitStore (s : State) (pav : Nat) (g : Staged) : (s.commitStore pav g).pav pav = { s.pav pav with
    store := g.bytes.foldl (fun m e => m.set e.1 e.2) (s.pav pav).store
    storePoison := g.marks (s.pav pav).storePoison } := s.pav_updPav_self pav _

/-- An empty stage clears no mark. -/
theorem Staged.marks_none (old : List Nat) : Staged.none.marks old = old := by
  simp [Staged.marks, Staged.none, Staged.inLine]

theorem State.pav_commitStore_none (s : State) (pav : Nat) : (s.commitStore pav Staged.none).pav pav = s.pav pav := by
  rw [State.pav_commitStore, Staged.marks_none]
  rfl

/-! ### Checks that fail (R123) -/

/-- A change that only tells: records, logs and events. -/
def State.tells (s t : State) : Prop := s.keepsBut t [.plots, .bothy, .mgmt, .sent] ∧
  ∀ p, (t.plot p).plans = (s.plot p).plans ∧ ∀ h, ((t.plot p).runOf h).map (·.lists) = ((s.plot p).runOf h).map (·.lists)

theorem State.tells.refl (s : State) : s.tells s := ⟨.refl s _, fun _ => ⟨rfl, fun _ => rfl⟩⟩

theorem State.tells.trans {s t u : State} (hst : s.tells t) (htu : t.tells u) : s.tells u := by
  obtain ⟨hkeep, hplots⟩ := hst
  obtain ⟨hkeep', hplots'⟩ := htu
  refine ⟨hkeep.trans hkeep', fun p => ?_⟩
  obtain ⟨hplans, hlists⟩ := hplots p
  obtain ⟨hplans', hlists'⟩ := hplots' p
  exact ⟨hplans'.trans hplans, fun h => (hlists' h).trans (hlists h)⟩

theorem State.tells_of_plots_eq {s t : State} (hkeep : s.keepsBut t [.bothy, .mgmt, .sent]) : s.tells t := by
  have hplots : t.plots = s.plots := hkeep .plots (by decide)
  exact ⟨hkeep.mono (by simp), fun p => by simp [State.plot, hplots]⟩

/-- An update of one plot that leaves its plans and the lists of its steps. -/
theorem State.tells_updPlot (s : State) (p : Nat) {f : Plot → Plot} (hplans : ∀ q, (f q).plans = q.plans)
    (hlists : ∀ q h, ((f q).runOf h).map (·.lists) = (q.runOf h).map (·.lists)) : s.tells (s.updPlot p f) := by
  refine ⟨(s.keepsBut_updPlot p f).mono (by simp), fun i => ?_⟩
  by_cases hi : i = p
  · subst hi
    rw [State.plot_updPlot_self]
    exact ⟨hplans _, hlists _⟩
  · rw [State.plot_updPlot_ne _ _ _ _ hi]
    exact ⟨rfl, fun _ => rfl⟩

theorem State.tells_updMail (s : State) (p : Nat) (f : Mailbox → Mailbox) : s.tells (s.updMail p f) :=
  s.tells_updPlot p (fun _ => rfl) (fun _ _ => rfl)

theorem State.tells_post (s : State) (p : Nat) (r : Rec) : s.tells (s.post p r) := by
  unfold State.post
  split
  · exact s.tells_updMail p _
  · exact .refl s

theorem State.tells_unsolicited (s : State) (p source : Nat) (body : Bytes) : s.tells (s.unsolicited p source body) := by
  unfold State.unsolicited
  split
  · exact s.tells_post p _
  · split
    · refine State.tells.trans (s.tells_updMail p (fun m => { m with
        lost := m.lost + 1, lostNew := m.lostNew + 1,
        lostFirst := if m.lostNew = 0 then s.mod.tick else m.lostFirst, lostLast := s.mod.tick }))
        (State.tells_of_plots_eq (fun x hx => ?_))
      cases x <;> simp_all [State.agree]
    · exact .refl s

theorem State.tells_logError (s : State) (p : Nat) (e : ErrRec) : s.tells (s.logError p e) := by
  refine State.tells_of_plots_eq (fun x hx => ?_)
  unfold State.logError State.notify
  cases x <;> split <;> simp_all [State.agree]

/-- A step once an error of a plan has been merged into its errors. -/
def Step.withError (t : Step) (plan : Nat) (e : ErrRec) : Step :=
  if t.plan = plan then { t with errors := mergeError t.errors e } else t

theorem Step.withError_plan (t : Step) (plan : Nat) (e : ErrRec) : (t.withError plan e).plan = t.plan := by
  unfold Step.withError
  split <;> rfl

theorem Step.withError_lists (t : Step) (plan : Nat) (e : ErrRec) : (t.withError plan e).lists = t.lists := by
  unfold Step.withError
  split <;> rfl

/-- A plot once a step of it has met an error. -/
def Plot.withError (q : Plot) (plan : Nat) (e : ErrRec) : Plot :=
  { q with running := q.running.map (·.withError plan e) }

theorem Plot.lists_runOf_withError (q : Plot) (plan h : Nat) (e : ErrRec) :
    ((q.withError plan e).runOf h).map (·.lists) = (q.runOf h).map (·.lists) := by
  simp only [Plot.runOf, Plot.withError, List.find?_map, Function.comp_def, Step.withError_plan, Option.map_map,
    Step.withError_lists]

/-- What an error of a plot does: it is logged; then its record is posted, alone or with the merge into its step, or the
record that stands is counted up. -/
theorem State.raise_eq (s : State) (p : Nat) (e : ErrRec) :
    (∃ body, s.raise p e = (s.logError p e).unsolicited p srcError body) ∨
    ∃ plan, ∃ u : State, u = (s.logError p e).updPlot p (fun q => q.withError plan e.shown) ∧
      (s.raise p e = u ∨ (∃ f, s.raise p e = u.updMail p f) ∨ ∃ body, s.raise p e = u.unsolicited p srcError body) := by
  cases hrun : ((s.logError p e).plot p).running.find? (fun st => st.step == e.shown.step) with
  | none =>
    refine .inl ⟨e.shown.body, ?_⟩
    simp only [State.raise, hrun]
  | some st =>
    refine .inr ⟨st.plan, _, rfl, ?_⟩
    simp only [State.raise, hrun]
    split_ifs
    · exact .inr (.inl ⟨_, rfl⟩)
    · exact .inr (.inr ⟨_, rfl⟩)
    · exact .inl rfl

theorem State.tells_raise (s : State) (p : Nat) (e : ErrRec) : s.tells (s.raise p e) := by
  have hlog := s.tells_logError p e
  rcases s.raise_eq p e with ⟨body, heq⟩ | ⟨plan, u, rfl, heq⟩
  · rw [heq]
    exact hlog.trans (State.tells_unsolicited _ _ _ _)
  · have hmerge := hlog.trans ((s.logError p e).tells_updPlot p (f := fun q => q.withError plan e.shown) (fun _ => rfl)
      (fun q h => q.lists_runOf_withError plan h _))
    rcases heq with heq | ⟨f, heq⟩ | ⟨body, heq⟩
    · rw [heq]
      exact hmerge
    · rw [heq]
      exact hmerge.trans (State.tells_updMail _ _ _)
    · rw [heq]
      exact hmerge.trans (State.tells_unsolicited _ _ _ _)

theorem State.tells.pavs {s t : State} (h : s.tells t) : t.pavs = s.pavs := h.1 .pavs (by decide)
theorem State.tells.mem {s t : State} (h : s.tells t) : t.mem = s.mem := h.1 .mem (by decide)

theorem State.meetFaults_nil (s : State) (pav k i : Nat) (d : QDesc) : s.meetFaults pav k i d [] = s := rfl

theorem unitFault_nil : unitFault [] = false := rfl

theorem unitFault_single {f : HwFault} {x : Nat × Nat} (h : faultFlag f = some x) : unitFault [f] = true := by
  simp [unitFault, h]

/-- A failed check of the Pavilion's own leaves memory alone; it sets its flag and the descriptor's mark, and tells. -/
theorem State.meetFaults_single {f : HwFault} {x : Nat × Nat} (h : faultFlag f = some x) (s : State) (pav k i : Nat) (d : QDesc) :
    ((s.updPav pav (·.flag x)).updDesc pav k i (fun e => { e with failed := true })).tells (s.meetFaults pav k i d [f]) := by
  have hmem : s.memoryFault f = s := by
    cases f with
    | memory line => cases h
    | glasshouse line => cases h
    | _ => rfl
  simp only [State.meetFaults, List.foldl_cons, List.foldl_nil, hmem, List.filterMap_cons, List.filterMap_nil, h]
  exact State.tells_raise _ _ _

theorem State.tells.pav {s t : State} (h : s.tells t) (i : Nat) : t.pav i = s.pav i := by
  simp only [State.pav, h.pavs]

theorem State.pav_meetFaults_single {f : HwFault} {x : Nat × Nat} (h : faultFlag f = some x) (s : State) (pav k i : Nat)
    (d : QDesc) : (s.meetFaults pav k i d [f]).pav pav =
      ((s.pav pav).flag x).setQueue k ((((s.pav pav).flag x).queue k).modify i (fun e => { e with failed := true })) := by
  rw [(State.meetFaults_single h s pav k i d).pav, State.updDesc_eq, State.pav_updPav_self, State.pav_updPav_self]

theorem State.otherPavs_meetFaults_single {f : HwFault} {x : Nat × Nat} (h : faultFlag f = some x) (s : State) (pav k i : Nat)
    (d : QDesc) : s.otherPavs (s.meetFaults pav k i d [f]) pav := by
  refine State.otherPavs.trans (fun j hj => ?_) (State.otherPavs_of_pavs_eq (State.meetFaults_single h s pav k i d).pavs pav)
  rw [State.updDesc_eq, State.pav_updPav_ne _ _ _ _ hj, State.pav_updPav_ne _ _ _ _ hj]

@[simp] theorem Pavilion.queue_flag (v : Pavilion) (x : Nat × Nat) (k : Nat) : (v.flag x).queue k = v.queue k := by
  unfold Pavilion.flag
  split <;> rfl

end Sys2Proof.Machine

/-! The Rill's and the MOVE queue's descriptors: VPROG, SCALE and COPY (O38). -/

namespace Sys2Proof.Machine

/-! ### Heads of queues -/

theorem State.headOf_of_heads {s : State} {pav k type : Nat} {d : QDesc} {rest : List QDesc} (h : Heads s pav k type d rest) :
    s.headOf pav k type = some d := by
  obtain ⟨hup, hq, ht, hx⟩ := h
  simp [State.headOf, hq, ht, hx, hup]

theorem State.headOf_of_down {s : State} {pav : Nat} (h : s.pavDown pav = true) (k type : Nat) : s.headOf pav k type = none := by
  unfold State.headOf
  split <;> simp [h]

/-- The head of a queue once it has run. -/
theorem State.queue_markDone_head {t : State} {pav k : Nat} {d : QDesc} {rest : List QDesc}
    (h : (t.pav pav).queue k = d :: rest) : ((t.markDone pav k 0).pav pav).queue k = d.done t.now :: rest := by
  rw [State.pav_markDone, Pavilion.queue_setQueue_self, h]
  rfl

theorem State.within.now {s t : State} {p pav : Nat} {l : List Piece} (h : s.within t p pav l) (hl : .mod ∉ l) : t.now = s.now :=
  congrArg (fun m : Mod => m.tick.toNat) (h.2.2 .mod hl)

theorem State.within.pav {s t : State} {p pav : Nat} {l : List Piece} (h : s.within t p pav l) (hl : .pavs ∉ l) (i : Nat) :
    t.pav i = s.pav i := by
  simp only [State.pav, show t.pavs = s.pavs from h.2.2 .pavs hl]

/-! ### A stage written to the local store, with what the descriptor counts -/

/-- A stage goes to the local store; its split accesses and its own events are counted. -/
def State.writeStore (s : State) (pav : Nat) (g : Staged) (splits : Nat) (count : PavCounters → PavCounters) : State :=
  ((s.commitStore pav g).countSplits pav splits).updPav pav (fun v => { v with ctr := count v.ctr })

theorem State.within_writeStore (s : State) (p pav : Nat) (g : Staged) (n : Nat) (c : PavCounters → PavCounters) :
    s.within (s.writeStore pav g n c) p pav [.pavs] :=
  (s.within_commitStore p pav g).trans ((State.within_countSplits _ p pav n).trans (State.within_updPav _ p pav _))

theorem State.pav_writeStore (s : State) (pav : Nat) (g : Staged) (n : Nat) (c : PavCounters → PavCounters) :
    (s.writeStore pav g n c).pav pav = { s.pav pav with
      store := ((s.commitStore pav g).pav pav).store, storePoison := ((s.commitStore pav g).pav pav).storePoison
      ctr := c { (s.pav pav).ctr with misaligned := (s.pav pav).ctr.misaligned + BitVec.ofNat 64 n } } := by
  rw [State.writeStore, State.pav_updPav_self, State.pav_countSplits, State.pav_commitStore]

/-- A program's run is a stage written and counted; with no output the stage is empty. -/
theorem State.runProgram_eq (s : State) (pav : Nat) (d : QDesc) (program : Bytes) (fault : Bool) : ∃ g n c,
    s.runProgram pav d program fault = s.writeStore pav g n c ∧
    (∀ x, (c x).elements = x.elements + BitVec.ofNat 64 (fieldAt d.bytes 0x0C 4)) ∧
    (programOutputs (Config.rillProgram program (fieldAt d.bytes 8 4)) (s.vprogArgs pav d) = [] → g = Staged.none) := by
  refine ⟨_, _, fun c => { c with
    elements := c.elements + BitVec.ofNat 64 (fieldAt d.bytes 0x0C 4)
    special := c.special + BitVec.ofNat 64 _, srDraws := c.srDraws + BitVec.ofNat 64 _ }, rfl, fun _ => rfl, fun h => ?_⟩
  rw [h]
  rfl

theorem State.sealPass_eq (s : State) (pav : Nat) (d : QDesc) (fault : Bool) : ∃ g n c,
    s.sealPass pav d fault = s.writeStore pav g n c ∧ ∀ x, (c x).elements = x.elements :=
  ⟨_, _, fun c => { c with rillNonfinite := c.rillNonfinite + BitVec.ofNat 64 _ }, rfl, fun _ => rfl⟩

theorem State.convertPass_eq (s : State) (pav : Nat) (d : QDesc) (fault : Bool) : ∃ g n c,
    s.convertPass pav d fault = s.writeStore pav g n c ∧ ∀ x, (c x).elements = x.elements :=
  ⟨_, _, fun c => { c with srDraws := c.srDraws + BitVec.ofNat 64 _ }, rfl, fun _ => rfl⟩

/-- The words that a scale pass reads. -/
def State.scaleWords (s : State) (pav : Nat) (d : QDesc) : List (W32 × Bool) :=
  s.viewWords (s.ctxOf pav 1 d) (s.viewOf pav 1 d (fieldAt d.bytes 8 4))

/-- A plot once a scale pass has added its tile's histogram (R196). -/
def Plot.withTileHist (q : Plot) (d : QDesc) (h : TileHist) : Plot :=
  { q with histLive := q.histLive.modify AbsHist.zeroed (fieldAt d.bytes 0x1A 2) (fun a => a.add h (bitOf (fieldAt d.bytes 0x19 1) 2)) }

/-- The elements that a scale pass leaves out of its statistics are counted. -/
def PavCounters.withNonfinite (n : Nat) (c : PavCounters) : PavCounters :=
  { c with rillNonfinite := c.rillNonfinite + BitVec.ofNat 64 n }

theorem Plot.find_histLive_withTileHist (q : Plot) (d : QDesc) (h : TileHist) :
    (q.withTileHist d h).histLive.find (fieldAt d.bytes 0x1A 2) =
      some ((q.histLive.get AbsHist.zeroed (fieldAt d.bytes 0x1A 2)).add h (bitOf (fieldAt d.bytes 0x19 1) 2)) :=
  NMap.find_modify_self AbsHist.zeroed q.histLive _ (fun a : AbsHist => a.add h (bitOf (fieldAt d.bytes 0x19 1) 2))

/-- A scale pass writes its records, counts, and adds its tile's histogram where MODE asks for it. -/
theorem State.scalePass_eq (s : State) (pav : Nat) (d : QDesc) (fault : Bool) : ∃ g n,
    s.scalePass pav d fault =
      let t := s.writeStore pav g n (.withNonfinite ((s.scaleWords pav d).filter (fun e => !sound e)).length)
      if bitOf (fieldAt d.bytes 0x19 1) 1 then t.updPlot d.plot (·.withTileHist d (tileHist (s.scaleWords pav d))) else t :=
  ⟨_, _, rfl⟩

/-! ### What a RILL descriptor may change in its Pavilion -/

/-- Apart from the local store, the counters and the state of the Rill a Pavilion stays as it is. -/
def Pavilion.rillChange (v w : Pavilion) : Prop :=
  { w with store := v.store, storePoison := v.storePoison, ctr := v.ctr, rillBusy := v.rillBusy, rillHist := v.rillHist
           rillStoch := v.rillStoch } = v

theorem Pavilion.rillChange.queue {v w : Pavilion} (h : v.rillChange w) (k : Nat) : w.queue k = v.queue k := by
  have heq := congrArg (fun x : Pavilion => x.queue k) h
  exact heq

theorem Pavilion.rillChange.par {v w : Pavilion} (h : v.rillChange w) : w.par = v.par := by
  have heq := congrArg (fun x : Pavilion => x.par) h
  exact heq

theorem Pavilion.rillChange.gbuf {v w : Pavilion} (h : v.rillChange w) : w.gbuf = v.gbuf := by
  have heq := congrArg (fun x : Pavilion => x.gbuf) h
  exact heq

theorem Pavilion.rillChange.err {v w : Pavilion} (h : v.rillChange w) : w.err = v.err := by
  have heq := congrArg (fun x : Pavilion => x.err) h
  exact heq

theorem State.rillChange_writeStore (s : State) (pav : Nat) (g : Staged) (n : Nat) (c : PavCounters → PavCounters) :
    (s.pav pav).rillChange ((s.writeStore pav g n c).pav pav) := by
  rw [State.pav_writeStore]
  rfl

/-! ### VPROG -/

/-- What a VPROG does before it is done. -/
def State.vprogRun (s : State) (pav : Nat) (d : QDesc) (pl : Plan) (bad : Bool) : State :=
  (if fieldAt d.bytes 0x0C 4 = 0 then s else s.runProgram pav d pl.program bad).updPav pav (fun v => { v with
    rillBusy := true
    rillStoch := fieldAt d.bytes 0x0C 4 != 0 &&
      (programOutputs (Config.rillProgram pl.program (fieldAt d.bytes 8 4)) (s.vprogArgs pav d)).any (fun o => mayDraw o.1 o.2.2.fmt) })

theorem exec_vprog {s : State} {pav : Nat} {d : QDesc} {rest : List QDesc} {pl : Plan} (h : Heads s pav 1 0x10 d rest)
    (hpl : s.planOf d = some pl) (fs : List HwFault) : exec (.vprog pav fs) s =
      .next (((s.meetFaults pav 1 0 d fs).vprogRun pav d pl (unitFault fs)).markDone pav 1 0) := by
  show execVprog pav fs s = _
  simp only [execVprog, State.headOf_of_heads h, hpl]
  rfl

theorem exec_vprog_sound {s : State} {pav : Nat} {d : QDesc} {rest : List QDesc} {pl : Plan} (h : Heads s pav 1 0x10 d rest)
    (hpl : s.planOf d = some pl) : exec (.vprog pav []) s = .next ((s.vprogRun pav d pl false).markDone pav 1 0) :=
  exec_vprog h hpl []

theorem State.within_runProgram (s : State) (p pav : Nat) (d : QDesc) (program : Bytes) (fault : Bool) :
    s.within (s.runProgram pav d program fault) p pav [.pavs] := by
  obtain ⟨g, n, c, heq, _⟩ := s.runProgram_eq pav d program fault
  rw [heq]
  exact s.within_writeStore p pav g n c

theorem State.rillChange_runProgram (s : State) (pav : Nat) (d : QDesc) (program : Bytes) (fault : Bool) :
    (s.pav pav).rillChange ((s.runProgram pav d program fault).pav pav) := by
  obtain ⟨g, n, c, heq, _⟩ := s.runProgram_eq pav d program fault
  rw [heq]
  exact s.rillChange_writeStore pav g n c

theorem State.elements_runProgram (s : State) (pav : Nat) (d : QDesc) (program : Bytes) (fault : Bool) :
    ((s.runProgram pav d program fault).pav pav).ctr.elements =
      (s.pav pav).ctr.elements + BitVec.ofNat 64 (fieldAt d.bytes 0x0C 4) := by
  obtain ⟨g, n, c, heq, helem, _⟩ := s.runProgram_eq pav d program fault
  rw [heq, State.pav_writeStore]
  exact helem _

/-- A program whose outputs no operand of the VPROG takes leaves the local store. -/
theorem State.store_runProgram_of_unnamed {s : State} {pav : Nat} {d : QDesc} {program : Bytes}
    (h : ∀ a ∈ s.vprogArgs pav d, ∀ o ∈ Config.rillProgram program (fieldAt d.bytes 8 4), o.arg ≠ a.1) (fault : Bool) :
    ((s.runProgram pav d program fault).pav pav).store = (s.pav pav).store ∧
    ((s.runProgram pav d program fault).pav pav).storePoison = (s.pav pav).storePoison := by
  have hnone : programOutputs (Config.rillProgram program (fieldAt d.bytes 8 4)) (s.vprogArgs pav d) = [] := by
    refine List.filterMap_eq_nil_iff.2 (fun o ho => ?_)
    rw [List.find?_eq_none.2 (fun a ha => by simpa using (h a ha o ho).symm)]
    rfl
  obtain ⟨g, n, c, heq, _, hg⟩ := s.runProgram_eq pav d program fault
  rw [heq, State.pav_writeStore, hg hnone, State.pav_commitStore_none]
  exact ⟨rfl, rfl⟩

theorem State.within_vprogRun (s : State) (p pav : Nat) (d : QDesc) (pl : Plan) (bad : Bool) :
    s.within (s.vprogRun pav d pl bad) p pav [.pavs] := by
  unfold State.vprogRun
  split
  · exact s.within_updPav p pav _
  · exact (s.within_runProgram p pav d _ bad).trans (State.within_updPav _ p pav _)

theorem State.rillChange_vprogRun (s : State) (pav : Nat) (d : QDesc) (pl : Plan) (bad : Bool) :
    (s.pav pav).rillChange ((s.vprogRun pav d pl bad).pav pav) := by
  rw [State.vprogRun, State.pav_updPav_self]
  split
  · rfl
  · exact s.rillChange_runProgram pav d pl.program bad

/-! ### SCALE -/

/-- The pass of a SCALE. -/
def State.scaleWork (s : State) (pav : Nat) (d : QDesc) (bad : Bool) : State :=
  if (s.viewOf pav 1 d (fieldAt d.bytes 8 4)).1.size = 0 then s
  else if isPage (fieldAt d.bytes 0x18 1) then s.sealPass pav d bad
  else if bitOf (fieldAt d.bytes 0x19 1) 0 then s.convertPass pav d bad
  else s.scalePass pav d bad

/-- What a SCALE does before it is done. -/
def State.scaleRun (s : State) (pav : Nat) (d : QDesc) (bad : Bool) : State :=
  (s.scaleWork pav d bad).updPav pav (fun v => { v with
    rillBusy := true
    rillHist := bitOf (fieldAt d.bytes 0x19 1) 1 && !bitOf (fieldAt d.bytes 0x19 1) 0 && !isPage (fieldAt d.bytes 0x18 1)
    rillStoch := bitOf (fieldAt d.bytes 0x19 1) 0 && bitOf (fieldAt d.bytes 0x19 1) 2 && !isPage (fieldAt d.bytes 0x18 1)
    ctr := { v.ctr with
      elements := v.ctr.elements + BitVec.ofNat 64 (s.viewOf pav 1 d (fieldAt d.bytes 8 4)).1.size } })

theorem exec_scale {s : State} {pav : Nat} {d : QDesc} {rest : List QDesc} (h : Heads s pav 1 0x11 d rest)
    (fs : List HwFault) : exec (.scale pav fs) s =
      .next (((s.meetFaults pav 1 0 d fs).scaleRun pav d (unitFault fs)).markDone pav 1 0) := by
  show execScale pav fs s = _
  simp only [execScale, State.headOf_of_heads h]
  rfl

theorem exec_scale_sound {s : State} {pav : Nat} {d : QDesc} {rest : List QDesc} (h : Heads s pav 1 0x11 d rest) :
    exec (.scale pav []) s = .next ((s.scaleRun pav d false).markDone pav 1 0) := exec_scale h []

/-- A SCALE does nothing, or writes a stage and counts; a scale pass may add to its plot's histograms as well. -/
theorem State.scaleWork_cases (s : State) (pav : Nat) (d : QDesc) (bad : Bool) : s.scaleWork pav d bad = s ∨
    ∃ g n c, (∀ x, (c x).elements = x.elements) ∧ (s.scaleWork pav d bad = s.writeStore pav g n c ∨
      ∃ f, s.scaleWork pav d bad = (s.writeStore pav g n c).updPlot d.plot f) := by
  unfold State.scaleWork
  split_ifs
  · exact .inl rfl
  · obtain ⟨g, n, c, heq, hc⟩ := s.sealPass_eq pav d bad
    exact .inr ⟨g, n, c, hc, .inl heq⟩
  · obtain ⟨g, n, c, heq, hc⟩ := s.convertPass_eq pav d bad
    exact .inr ⟨g, n, c, hc, .inl heq⟩
  · obtain ⟨g, n, heq⟩ := s.scalePass_eq pav d bad
    refine .inr ⟨g, n, .withNonfinite ((s.scaleWords pav d).filter (fun e => !sound e)).length, fun _ => rfl, ?_⟩
    rw [heq]
    split
    · exact .inr ⟨_, rfl⟩
    · exact .inl rfl

theorem State.within_scaleWork (s : State) (pav : Nat) (d : QDesc) (bad : Bool) :
    s.within (s.scaleWork pav d bad) d.plot pav [.plots, .pavs] := by
  have hstore (g n c) := (s.within_writeStore d.plot pav g n c).mono (l' := [.plots, .pavs]) (by simp)
  rcases s.scaleWork_cases pav d bad with heq | ⟨g, n, c, _, heq | ⟨f, heq⟩⟩
  · rw [heq]
    exact .refl s _ _ _
  · rw [heq]
    exact hstore g n c
  · rw [heq]
    exact (hstore g n c).trans ((State.within_updPlot _ _ pav f).mono (by simp))

theorem State.scaleWork_pav (s : State) (pav : Nat) (d : QDesc) (bad : Bool) :
    (s.pav pav).rillChange ((s.scaleWork pav d bad).pav pav) ∧
    ((s.scaleWork pav d bad).pav pav).ctr.elements = (s.pav pav).ctr.elements := by
  have hstore (g n c) (hc : ∀ x : PavCounters, (c x).elements = x.elements) :
      (s.pav pav).rillChange ((s.writeStore pav g n c).pav pav) ∧
      ((s.writeStore pav g n c).pav pav).ctr.elements = (s.pav pav).ctr.elements := by
    refine ⟨s.rillChange_writeStore pav g n c, ?_⟩
    rw [State.pav_writeStore]
    exact hc _
  rcases s.scaleWork_cases pav d bad with heq | ⟨g, n, c, hc, heq | ⟨f, heq⟩⟩
  · rw [heq]
    exact ⟨rfl, rfl⟩
  · rw [heq]
    exact hstore g n c hc
  · rw [heq]
    exact hstore g n c hc

theorem State.within_scaleRun (s : State) (pav : Nat) (d : QDesc) (bad : Bool) :
    s.within (s.scaleRun pav d bad) d.plot pav [.plots, .pavs] :=
  (s.within_scaleWork pav d bad).trans ((State.within_updPav _ _ pav _).mono (by simp))

theorem State.pav_scaleRun (s : State) (pav : Nat) (d : QDesc) (bad : Bool) :
    (s.scaleRun pav d bad).pav pav = { (s.scaleWork pav d bad).pav pav with
      rillBusy := true
      rillHist := bitOf (fieldAt d.bytes 0x19 1) 1 && !bitOf (fieldAt d.bytes 0x19 1) 0 && !isPage (fieldAt d.bytes 0x18 1)
      rillStoch := bitOf (fieldAt d.bytes 0x19 1) 0 && bitOf (fieldAt d.bytes 0x19 1) 2 && !isPage (fieldAt d.bytes 0x18 1)
      ctr := { ((s.scaleWork pav d bad).pav pav).ctr with
        elements := ((s.scaleWork pav d bad).pav pav).ctr.elements +
          BitVec.ofNat 64 (s.viewOf pav 1 d (fieldAt d.bytes 8 4)).1.size } } :=
  State.pav_updPav_self _ pav _

theorem State.rillChange_scaleRun (s : State) (pav : Nat) (d : QDesc) (bad : Bool) :
    (s.pav pav).rillChange ((s.scaleRun pav d bad).pav pav) := by
  rw [State.pav_scaleRun]
  exact (s.scaleWork_pav pav d bad).1

/-- What stands in the plots and in the local store once a SCALE is done is what its pass leaves. -/
theorem State.markDone_scaleRun (s : State) (pav : Nat) (d : QDesc) (bad : Bool) :
    (((s.scaleRun pav d bad).markDone pav 1 0).pav pav).store = ((s.scaleWork pav d bad).pav pav).store ∧
    ((s.scaleRun pav d bad).markDone pav 1 0).plots = (s.scaleWork pav d bad).plots := by
  refine ⟨?_, ?_⟩
  · rw [State.pav_markDone, Pavilion.setQueue_store, State.pav_scaleRun]
  · rw [State.markDone_eq]
    rfl

/-! ### A check that fails while the Rill runs -/

/-- A RILL descriptor that a failed check has met is done and failed, and the check's flag is set. -/
theorem State.rillFault {s t : State} {pav type b : Nat} {d : QDesc} {rest : List QDesc} {f : HwFault}
    (h : Heads s pav 1 type d rest) (hf : faultFlag f = some (2, b))
    (hrun : ((s.meetFaults pav 1 0 d [f]).pav pav).rillChange (t.pav pav))
    (hframe : (s.meetFaults pav 1 0 d [f]).otherPavs t pav) :
    ∃ e, ((t.markDone pav 1 0).pav pav).err = setFlag (s.pav pav).err b ∧
      ((t.markDone pav 1 0).pav pav).queue 1 = e :: rest ∧ e.executed = true ∧ e.failed = true ∧ e.bytes = d.bytes ∧
      s.otherPavs (t.markDone pav 1 0) pav := by
  obtain ⟨_, hq, _, _⟩ := h
  have hpav := State.pav_meetFaults_single hf s pav 1 0 d
  have hqueue : (t.pav pav).queue 1 = { d with failed := true } :: rest := by
    rw [hrun.queue, hpav, Pavilion.queue_setQueue_self, Pavilion.queue_flag, hq]
    rfl
  refine ⟨_, ?_, State.queue_markDone_head hqueue, rfl, rfl, rfl, ?_⟩
  · rw [State.pav_markDone, Pavilion.setQueue_err, hrun.err, hpav, Pavilion.setQueue_err]
    rfl
  · exact ((State.otherPavs_meetFaults_single hf s pav 1 0 d).trans hframe).trans (t.within_markDone d.plot pav 1 0).2.1

/-! ### Statistics of a block (R43 to R45) -/

theorem clampInt_bounds (v : Int) : -127 ≤ clampInt v (-127) 127 ∧ clampInt v (-127) 127 ≤ 127 := by
  simp only [clampInt]
  omega

theorem scaleExponent_bounds (fmt : Nat) (a : Num) : -127 ≤ scaleExponent fmt a ∧ scaleExponent fmt a ≤ 127 := by
  unfold scaleExponent
  split
  · split
    · decide
    · exact clampInt_bounds _
  · decide

theorem zeroPointExponent_bounds (r : Num) : -127 ≤ zeroPointExponent r ∧ zeroPointExponent r ≤ 127 := by
  unfold zeroPointExponent
  split
  · split
    · decide
    · exact clampInt_bounds _
  · decide

theorem blockStats_x_bounds (fmt : Nat) (es : List (W32 × Bool)) : -127 ≤ (blockStats fmt es).x ∧ (blockStats fmt es).x ≤ 127 := by
  simp only [blockStats]
  split
  · exact zeroPointExponent_bounds _
  · exact scaleExponent_bounds fmt _

/-- A block with no finite element has the statistics of zeros. -/
theorem blockStats_of_unsound (fmt : Nat) {es : List (W32 × Bool)} (h : es.filter sound = []) :
    (blockStats fmt es).amax = Num.zero false ∧ (blockStats fmt es).x = -127 := by
  simp only [blockStats, h, List.map_nil]
  refine ⟨by decide, ?_⟩
  split
  · decide
  · have hamax : ((Num.zero false).abs.max2 (Num.zero false).abs) = Num.zero false := by decide
    rw [hamax]
    rfl

theorem natLE_length (n v : Nat) : (natLE n v).length = n := by
  induction n generalizing v with
  | zero => rfl
  | succ n ih => simp [natLE, ih]

theorem BlockStats.record_length (b : BlockStats) : b.record.length = 16 := by
  simp [BlockStats.record, natLE_length]

/-! ### COPY -/

/-- What a COPY counts and is charged once its destination has taken its stage. -/
def State.copyCounted (t s : State) (pav : Nat) (d : QDesc) (cx : OpCtx) (src dst : View × Tensor) : State :=
  let u := t.countSplits pav (s.viewSplits cx dst + (if bitOf (fieldAt d.bytes 0x11 1) 0 then 0 else s.viewSplits cx src))
  if bitOf (fieldAt d.bytes 0x11 1) 0 then u else u.chargeViewRead cx d.plot src

/-- A read of a view charges its plot, or nothing. -/
theorem State.chargeViewRead_eq (s : State) (cx : OpCtx) (p : Nat) (x : View × Tensor) :
    s.chargeViewRead cx p x = s ∨ ∃ f, s.chargeViewRead cx p x = s.charge p f := by
  unfold State.chargeViewRead
  split
  · split
    · exact .inr ⟨_, rfl⟩
    · exact .inl rfl
  · split
    · exact .inr ⟨_, rfl⟩
    · exact .inl rfl

/-- So counting a COPY counts split accesses, and then charges its plot or not. -/
theorem State.copyCounted_eq (t s : State) (pav : Nat) (d : QDesc) (cx : OpCtx) (src dst : View × Tensor) : ∃ n,
    t.copyCounted s pav d cx src dst = t.countSplits pav n ∨
    ∃ f, t.copyCounted s pav d cx src dst = (t.countSplits pav n).charge d.plot f := by
  refine ⟨s.viewSplits cx dst + (if bitOf (fieldAt d.bytes 0x11 1) 0 then 0 else s.viewSplits cx src), ?_⟩
  unfold State.copyCounted
  split
  · exact .inl rfl
  · exact State.chargeViewRead_eq _ cx d.plot src

theorem State.within_copyCounted (t s : State) (pav : Nat) (d : QDesc) (cx : OpCtx) (src dst : View × Tensor) :
    t.within (t.copyCounted s pav d cx src dst) d.plot pav [.plots, .pavs] := by
  have hsplits (n : Nat) := (t.within_countSplits d.plot pav n).mono (l' := [.plots, .pavs]) (by simp)
  obtain ⟨n, heq | ⟨f, heq⟩⟩ := t.copyCounted_eq s pav d cx src dst
  · rw [heq]
    exact hsplits n
  · rw [heq]
    exact (hsplits n).trans ((State.within_charge _ _ pav f).mono (by simp))

theorem State.pav_copyCounted (t s : State) (pav : Nat) (d : QDesc) (cx : OpCtx) (src dst : View × Tensor) : ∃ c,
    (t.copyCounted s pav d cx src dst).pav pav = { t.pav pav with ctr := c } := by
  obtain ⟨n, heq | ⟨f, heq⟩⟩ := t.copyCounted_eq s pav d cx src dst
  · exact ⟨_, by rw [heq, State.pav_countSplits]⟩
  · exact ⟨_, by rw [heq, State.pav_charge, State.pav_countSplits]⟩

theorem State.adapters_copyCounted (t s : State) (pav : Nat) (d : QDesc) (cx : OpCtx) (src dst : View × Tensor) :
    ((t.copyCounted s pav d cx src dst).plot d.plot).adapters = (t.plot d.plot).adapters := by
  obtain ⟨n, heq | ⟨f, heq⟩⟩ := t.copyCounted_eq s pav d cx src dst
  · rw [heq]
    rfl
  · rw [heq, State.plot_charge_self]
    rfl

section
variable {s : State} {pav : Nat} {d : QDesc} {rest : List QDesc} {cx : OpCtx} {src dst : View × Tensor} {g : Staged}

/-- What a COPY reads before it writes: the operands, and the stage of all that it will write. -/
structure CopyReads (s : State) (pav : Nat) (d : QDesc) (cx : OpCtx) (src dst : View × Tensor) (g : Staged) : Prop where
  ctx : cx = s.ctxOf pav 2 d
  dest : dst = s.viewOf pav 2 d (fieldAt d.bytes 0x0C 4)
  source : src = if bitOf (fieldAt d.bytes 0x11 1) 0 then dst else s.viewOf pav 2 d (fieldAt d.bytes 8 4)
  stage : g = s.stageBox cx dst.2 dst.1
    (s.copyElems cx (bitOf (fieldAt d.bytes 0x11 1) 0) (fieldAt d.bytes 0x10 1) src dst) Staged.none
  open_ : bitOf (fieldAt d.bytes 0x11 1) 0 = false → s.viewStopped cx src = false

/-- A COPY waits, or its destination takes the stage, it is counted, and poisoned records that it has read are marked. -/
theorem exec_copy (h : Heads s pav 2 0x20 d rest) (hr : CopyReads s pav d cx src dst g) :
    exec (.copy pav []) s = .next ((s.commitCopy pav d.plot dst.2.mem g).elim s (fun t =>
      ((if bitOf (fieldAt d.bytes 0x11 1) 0 then [] else s.badRecords d.plot (s.viewPlaces cx src.2 src.1)).foldl
        (fun t h => t.recordPoison d.plot h) (t.copyCounted s pav d cx src dst)).markDone pav 2 0)) := by
  obtain ⟨rfl, rfl, rfl, rfl, hopen⟩ := hr
  have hstop : ¬((!bitOf (fieldAt d.bytes 0x11 1) 0 && s.viewStopped (s.ctxOf pav 2 d)
      (if bitOf (fieldAt d.bytes 0x11 1) 0 then s.viewOf pav 2 d (fieldAt d.bytes 0x0C 4)
        else s.viewOf pav 2 d (fieldAt d.bytes 8 4))) = true) := by
    cases hfill : bitOf (fieldAt d.bytes 0x11 1) 0 with
    | true => simp
    | false => simpa [hfill] using hopen hfill
  show execCopy pav [] s = _
  simp only [execCopy, State.headOf_of_heads h, State.meetFaults_nil, unitFault_nil, Bool.or_false, List.map_id', hstop]
  cases s.commitCopy pav d.plot _ _ <;> rfl

end

/-! ### Where a COPY's stage goes (R17, R19) -/

theorem State.commitCopy_localStore (s : State) (pav p : Nat) (g : Staged) :
    s.commitCopy pav p 3 g = some (s.commitStore pav g) := rfl

theorem State.commitCopy_glasshouse (s : State) (pav p : Nat) {mem : Nat} (h : mem = 1 ∨ mem = 2) (g : Staged) :
    s.commitCopy pav p mem g =
      some ((s.commitGh g).charge p (fun c => { c with ghBytes := c.ghBytes + BitVec.ofNat 64 g.bytes.length })) := by
  rcases h with rfl | rfl <;> rfl

theorem State.commitCopy_device (s : State) (pav p : Nat) {mem : Nat} (h : mem = 0 ∨ mem = 4) (g : Staged) :
    s.commitCopy pav p mem g = if s.mem.room (g.lines p) && !s.exitWants (g.lines p)
      then some (s.updMem (fun m => m.enqueue (g.lines p))) else none := by
  rcases h with rfl | rfl <;> rfl

/-! ### A poisoned record (R250) leaves the Orangery's other registers -/

@[simp] theorem State.updAdapter_orangery (s : State) (p h : Nat) (f : Adapter → Adapter) :
    (s.updAdapter p h f).orangery = s.orangery := rfl

@[simp] theorem State.poolDrop_orangery (s : State) (p a n : Nat) : (s.poolDrop p a n).orangery = s.orangery := rfl

@[simp] theorem State.ok_orangery (s : State) (p : Nat) (r : Req) (body : Bytes) : (s.ok p r body).orangery = s.orangery :=
  s.completeWith_orangery p r 0 0 0 body

@[simp] theorem State.unsolicited_orangery (s : State) (p source : Nat) (body : Bytes) :
    (s.unsolicited p source body).orangery = s.orangery := (s.tells_unsolicited p source body).1 .orangery (by decide)

@[simp] theorem State.dropCopy_orangery (s : State) (p h : Nat) : (s.dropCopy p h).orangery = s.orangery := by
  unfold State.dropCopy
  split
  · rfl
  · split <;> rfl

@[simp] theorem State.unregister_orangery (s : State) (p h : Nat) : (s.unregister p h).orangery = s.orangery := by
  unfold State.unregister
  split
  · simp only [State.updPlot_orangery]
    split_ifs <;> simp
  · rfl

/-- A fold of steps that each leave the Orangery leaves it. -/
theorem State.foldl_orangery {α : Type} (l : List α) {f : State → α → State} (hf : ∀ t x, (f t x).orangery = t.orangery)
    (s : State) : (l.foldl f s).orangery = s.orangery :=
  List.foldlRecOn (motive := fun t => t.orangery = s.orangery) l f rfl (fun t ht x _ => (hf t x).trans ht)

@[simp] theorem State.settleAdmits_orangery (s : State) (p h : Nat) : (s.settleAdmits p h).orangery = s.orangery :=
  State.foldl_orangery _ (fun t r => by split <;> simp) s

@[simp] theorem State.settleDrops_orangery (s : State) (p h : Nat) : (s.settleDrops p h).orangery = s.orangery :=
  State.foldl_orangery _ (fun t r => t.ok_orangery p r _) s

@[simp] theorem State.settleEvicts_orangery (s : State) (p h gone : Nat) : (s.settleEvicts p h gone).orangery = s.orangery := by
  simp only [State.settleEvicts]
  split
  · exact s.settleDrops_orangery p h
  · rw [State.foldl_orangery _ (fun t r => t.ok_orangery p r _), State.settleDrops_orangery]

theorem State.reportUpTo_orangery (n : Nat) (s : State) (p : Nat) : (State.reportUpTo n s p).orangery = s.orangery := by
  induction n generalizing s with
  | zero => rfl
  | succ n ih =>
    unfold State.reportUpTo
    split
    · split
      · rfl
      · rw [ih, State.post_orangery, State.updPlot_orangery]
    · rfl

@[simp] theorem State.markGone_orangery (s : State) (p h step : Nat) : (s.markGone p h step).1.orangery = s.orangery := by
  simp only [State.markGone, State.nextOrder, State.report, State.reportUpTo_orangery, State.updPlot_orangery]
  refine State.foldl_orangery _ (fun t i => ?_) s
  split
  · split <;> rfl
  · rfl

@[simp] theorem State.finishEvict_orangery (s : State) (p h : Nat) : (s.finishEvict p h).orangery = s.orangery := by
  unfold State.finishEvict
  split
  · rfl
  · simp only
    split_ifs <;> simp

@[simp] theorem State.settleGone_orangery (s : State) (p h step : Nat) : (s.settleGone p h step).orangery = s.orangery := by
  unfold State.settleGone
  split
  · rfl
  · split
    · simp
    · rfl

/-- The record of an adapter that is not POISONED or STALE yet sets RECORD_POISON. -/
theorem State.recordPoison_err {s : State} {p h : Nat} {a : Adapter} (ha : (s.plot p).adapters.find h = some a)
    (hp : a.state ≠ .poisoned) (hs : a.state ≠ .stale) :
    (s.recordPoison p h).orangery.err = setFlag s.orangery.err 0 := by
  simp only [State.recordPoison, ha, hp, hs, or_self, if_false, State.settleGone_orangery]
  split_ifs <;> simp

/-! ### VPROG, SCALE and COPY (O38) -/

theorem vprog_noElements {s : State} {pav : Nat} {d : QDesc} {rest : List QDesc} {pl : Plan} (h : Heads s pav 1 0x10 d rest)
    (hpl : s.planOf d = some pl) (hn : fieldAt d.bytes 0x0C 4 = 0) : ∃ t, exec (.vprog pav []) s = .next t ∧
      t.pav pav = { (s.pav pav).headDone 1 d rest s.now with rillBusy := true, rillStoch := false } ∧
      s.otherPavs t pav ∧ s.keepsBut t [.pavs] := by
  have hin := (s.within_vprogRun d.plot pav d pl false).trans (State.within_markDone _ d.plot pav 1 0)
  refine ⟨_, exec_vprog_sound h hpl, ?_, hin.2.1, hin.2.2⟩
  obtain ⟨_, hq, _, _⟩ := h
  have hrill : (s.pav pav).rill = d :: rest := hq
  rw [State.pav_markDone, State.vprogRun, State.pav_updPav_self]
  simp only [hn, if_true]
  simp [Pavilion.setQueue, Pavilion.queue, Pavilion.headDone, hrill]
  rfl

theorem vprog_elements {s : State} {pav : Nat} {d : QDesc} {rest : List QDesc} {pl : Plan} (h : Heads s pav 1 0x10 d rest)
    (hpl : s.planOf d = some pl) (hn : fieldAt d.bytes 0x0C 4 ≠ 0) : ∃ t, exec (.vprog pav []) s = .next t ∧
      (t.pav pav).queue 1 = ((s.pav pav).headDone 1 d rest s.now).queue 1 ∧ (t.pav pav).rillBusy = true ∧
      (t.pav pav).ctr.elements = (s.pav pav).ctr.elements + BitVec.ofNat 64 (fieldAt d.bytes 0x0C 4) ∧
      (t.pav pav).store = ((s.runProgram pav d pl.program false).pav pav).store ∧ (t.pav pav).par = (s.pav pav).par ∧
      s.otherPavs t pav ∧ s.keepsBut t [.pavs] := by
  have hrun := s.within_vprogRun d.plot pav d pl false
  have hin := hrun.trans (State.within_markDone _ d.plot pav 1 0)
  have hkeep := s.rillChange_vprogRun pav d pl false
  have hpav : (s.vprogRun pav d pl false).pav pav = { (s.runProgram pav d pl.program false).pav pav with
      rillBusy := true, rillStoch := ((s.vprogRun pav d pl false).pav pav).rillStoch } := by
    rw [State.vprogRun, if_neg hn, State.pav_updPav_self]
  refine ⟨_, exec_vprog_sound h hpl, ?_, ?_, ?_, ?_, ?_, hin.2.1, hin.2.2⟩
  · obtain ⟨_, hq, _, _⟩ := h
    rw [State.queue_markDone_head ((hkeep.queue 1).trans hq), hrun.now (by decide), Pavilion.headDone_eq,
      Pavilion.queue_setQueue_self]
  · rw [State.pav_markDone, Pavilion.setQueue_rillBusy, hpav]
  · rw [State.pav_markDone, Pavilion.setQueue_ctr, hpav]
    exact s.elements_runProgram pav d pl.program false
  · rw [State.pav_markDone, Pavilion.setQueue_store, hpav]
  · rw [State.pav_markDone, Pavilion.setQueue_par, hkeep.par]

/-- A failed check while a VPROG or a SCALE runs. -/
theorem rill_fault {s : State} {pav type b : Nat} {d : QDesc} {rest : List QDesc} {pl : Plan} {f : HwFault} {x : Instr}
    (hx : (type = 0x10 ∧ x = .vprog pav [f]) ∨ (type = 0x11 ∧ x = .scale pav [f])) (h : Heads s pav 1 type d rest)
    (hpl : s.planOf d = some pl) (hf : faultFlag f = some (2, b)) :
    ∃ t e, exec x s = .next t ∧ (t.pav pav).err = setFlag (s.pav pav).err b ∧ (t.pav pav).queue 1 = e :: rest ∧
      e.executed = true ∧ e.failed = true ∧ e.bytes = d.bytes ∧ s.otherPavs t pav := by
  rcases hx with ⟨rfl, rfl⟩ | ⟨rfl, rfl⟩
  · obtain ⟨e, he⟩ := State.rillFault h hf (State.rillChange_vprogRun _ pav d pl _) (State.within_vprogRun _ d.plot pav d pl _).2.1
    exact ⟨_, e, exec_vprog h hpl [f], he⟩
  · obtain ⟨e, he⟩ := State.rillFault h hf (State.rillChange_scaleRun _ pav d _) (State.within_scaleRun _ pav d _).2.1
    exact ⟨_, e, exec_scale h [f], he⟩

/-- What every SCALE leaves, whatever its pass. -/
theorem scale_common {s : State} {pav : Nat} {d : QDesc} {rest : List QDesc} (h : Heads s pav 1 0x11 d rest) :
    ∃ t, exec (.scale pav []) s = .next t ∧ (t.pav pav).queue 1 = ((s.pav pav).headDone 1 d rest s.now).queue 1 ∧
      (t.pav pav).rillBusy = true ∧ (t.pav pav).ctr.elements =
        (s.pav pav).ctr.elements + BitVec.ofNat 64 (s.viewOf pav 1 d (fieldAt d.bytes 8 4)).1.size ∧
      (t.pav pav).par = (s.pav pav).par ∧ (t.pav pav).gbuf = (s.pav pav).gbuf ∧ s.otherPlots t d.plot ∧ s.otherPavs t pav ∧
      s.keepsBut t [.plots, .pavs] := by
  have hrun := s.within_scaleRun pav d false
  have hin := hrun.trans ((State.within_markDone _ d.plot pav 1 0).mono (by simp))
  have hkeep := s.rillChange_scaleRun pav d false
  refine ⟨_, exec_scale_sound h, ?_, ?_, ?_, ?_, ?_, hin⟩
  · obtain ⟨_, hq, _, _⟩ := h
    rw [State.queue_markDone_head ((hkeep.queue 1).trans hq), hrun.now (by decide), Pavilion.headDone_eq,
      Pavilion.queue_setQueue_self]
  · rw [State.pav_markDone, Pavilion.setQueue_rillBusy, State.pav_scaleRun]
  · rw [State.pav_markDone, Pavilion.setQueue_ctr, State.pav_scaleRun,
      ← (s.scaleWork_pav pav d false).2]
  · rw [State.pav_markDone, Pavilion.setQueue_par, hkeep.par]
  · rw [State.pav_markDone, Pavilion.setQueue_gbuf, hkeep.gbuf]

/-- What a SCALE leaves in the local store and in the plots, by its pass. -/
theorem scale_pass {s : State} {pav : Nat} {d : QDesc} {rest : List QDesc} (h : Heads s pav 1 0x11 d rest) {u : State}
    (hu : s.scaleWork pav d false = u) : ∃ t, exec (.scale pav []) s = .next t ∧
      (t.pav pav).store = (u.pav pav).store ∧ t.plots = u.plots := by
  subst hu
  exact ⟨_, exec_scale_sound h, s.markDone_scaleRun pav d false⟩

/-- What a scale pass leaves besides: the count of the elements left out, and the histogram that feeds the Belvedere. -/
theorem scale_scalePass {s : State} {pav : Nat} {d : QDesc} {rest : List QDesc} (h : Heads s pav 1 0x11 d rest)
    (hu : s.scaleWork pav d false = s.scalePass pav d false) (hpage : isPage (fieldAt d.bytes 0x18 1) = false)
    (hconvert : bitOf (fieldAt d.bytes 0x19 1) 0 = false) : ∃ t, exec (.scale pav []) s = .next t ∧
      (t.pav pav).store = ((s.scalePass pav d false).pav pav).store ∧
      (t.pav pav).ctr.rillNonfinite = (s.pav pav).ctr.rillNonfinite +
        BitVec.ofNat 64 ((s.scaleWords pav d).filter (fun e => !sound e)).length ∧
      (bitOf (fieldAt d.bytes 0x19 1) 1 = false → t.plots = s.plots) ∧
      (t.pav pav).rillHist = bitOf (fieldAt d.bytes 0x19 1) 1 ∧
      (bitOf (fieldAt d.bytes 0x19 1) 1 = true → (t.plot d.plot).histLive.find (fieldAt d.bytes 0x1A 2) =
        some (((s.plot d.plot).histLive.get AbsHist.zeroed (fieldAt d.bytes 0x1A 2)).add (tileHist (s.scaleWords pav d))
          (bitOf (fieldAt d.bytes 0x19 1) 2))) := by
  obtain ⟨g, n, heq⟩ := s.scalePass_eq pav d false
  obtain ⟨t, ht⟩ : ∃ t, t = s.writeStore pav g n (.withNonfinite ((s.scaleWords pav d).filter (fun e => !sound e)).length) :=
    ⟨_, rfl⟩
  have hpav : (s.scalePass pav d false).pav pav = t.pav pav := by
    rw [heq, ← ht]
    split <;> rfl
  have hplots : t.plots = s.plots := by
    rw [ht]
    exact (s.within_writeStore d.plot pav g n _).2.2 .plots (by decide)
  obtain ⟨hstore, hleft⟩ := s.markDone_scaleRun pav d false
  rw [hu] at hstore hleft
  refine ⟨_, exec_scale_sound h, hstore, ?_, fun hw => ?_, ?_, fun hw => ?_⟩
  · rw [State.pav_markDone, Pavilion.setQueue_ctr, State.pav_scaleRun, hu, hpav, ht,
      State.pav_writeStore]
    rfl
  · refine hleft.trans ?_
    rw [heq, hw]
    exact ht ▸ hplots
  · rw [State.pav_markDone, Pavilion.setQueue_rillHist, State.pav_scaleRun]
    simp [hconvert, hpage]
  · have hplot : (s.scalePass pav d false).plot d.plot = (s.plot d.plot).withTileHist d (tileHist (s.scaleWords pav d)) := by
      rw [heq, ← ht]
      simp only [hw, if_true, State.plot_updPlot_self]
      simp only [State.plot, hplots]
    have hsame : (((s.scaleRun pav d false).markDone pav 1 0).plot d.plot) = (s.scalePass pav d false).plot d.plot := by
      simp only [State.plot, hleft]
    rw [hsame, hplot]
    exact Plot.find_histLive_withTileHist _ d _

section
variable {s : State} {pav : Nat} {d : QDesc} {rest : List QDesc} {cx : OpCtx} {src dst : View × Tensor} {g : Staged}

/-- A COPY that reads no poisoned record and whose destination takes its stage: what it leaves. -/
theorem exec_copy_taken (h : Heads s pav 2 0x20 d rest) (hr : CopyReads s pav d cx src dst g)
    (hbad : bitOf (fieldAt d.bytes 0x11 1) 0 = false → s.badRecords d.plot (s.viewPlaces cx src.2 src.1) = [])
    {t : State} {l : List Piece} (ht : s.commitCopy pav d.plot dst.2.mem g = some t) (hin : s.within t d.plot pav l)
    (hl : .mod ∉ l) (hq : (t.pav pav).queue 2 = (s.pav pav).queue 2) :
    ∃ u, exec (.copy pav []) s = .next u ∧ u.mem = t.mem ∧ (u.pav pav).store = (t.pav pav).store ∧
      (u.pav pav).storePoison = (t.pav pav).storePoison ∧
      (u.pav pav).queue 2 = ((s.pav pav).headDone 2 d rest s.now).queue 2 ∧ s.within u d.plot pav (l ++ [.plots, .pavs]) := by
  have hnone : (if bitOf (fieldAt d.bytes 0x11 1) 0 then [] else s.badRecords d.plot (s.viewPlaces cx src.2 src.1)) = [] := by
    split
    · rfl
    · next hfill => exact hbad (by simpa using hfill)
  have hcounted := t.within_copyCounted s pav d cx src dst
  have hdone := (t.copyCounted s pav d cx src dst).within_markDone d.plot pav 2 0
  obtain ⟨c, hpav⟩ := t.pav_copyCounted s pav d cx src dst
  have hexec := exec_copy h hr
  rw [ht, hnone, Option.elim_some, List.foldl_nil] at hexec
  obtain ⟨_, hhead, _, _⟩ := h
  refine ⟨_, hexec, ?_, ?_, ?_, ?_, ?_⟩
  · exact (hdone.2.2 .mem (by decide)).trans (hcounted.2.2 .mem (by decide))
  · rw [State.pav_markDone, Pavilion.setQueue_store, hpav]
  · rw [State.pav_markDone, Pavilion.setQueue_storePoison, hpav]
  · have hqueue : ((t.copyCounted s pav d cx src dst).pav pav).queue 2 = d :: rest := by
      rw [hpav, ← hhead, ← hq]
      rfl
    rw [State.queue_markDone_head hqueue, Pavilion.headDone_eq, Pavilion.queue_setQueue_self, hcounted.now (by decide),
      hin.now hl]
  · exact (hin.mono (by simp)).trans ((hcounted.mono (by simp)).trans (hdone.mono (by simp)))

theorem copy_localStore (h : Heads s pav 2 0x20 d rest) (hr : CopyReads s pav d cx src dst g)
    (hbad : bitOf (fieldAt d.bytes 0x11 1) 0 = false → s.badRecords d.plot (s.viewPlaces cx src.2 src.1) = [])
    (hm : dst.2.mem = 3) : ∃ t, exec (.copy pav []) s = .next t ∧
      (t.pav pav).store = ((s.commitStore pav g).pav pav).store ∧ (t.pav pav).storePoison = g.marks (s.pav pav).storePoison ∧
      (t.pav pav).queue 2 = ((s.pav pav).headDone 2 d rest s.now).queue 2 ∧
      s.otherPlots t d.plot ∧ s.otherPavs t pav ∧ s.keepsBut t [.plots, .pavs] := by
  have hpav := s.pav_commitStore pav g
  have hcommit : s.commitCopy pav d.plot dst.2.mem g = some (s.commitStore pav g) := by
    rw [hm]
    exact s.commitCopy_localStore pav d.plot g
  obtain ⟨u, hexec, _, hstore, hpoison, hq, hplots, hpavs, hkeep⟩ := exec_copy_taken h hr hbad hcommit
    (s.within_commitStore d.plot pav g) (by decide) (by rw [hpav]; rfl)
  exact ⟨u, hexec, hstore, hpoison.trans (by rw [hpav]), hq, hplots, hpavs, hkeep.mono (by simp)⟩

theorem copy_glasshouse (h : Heads s pav 2 0x20 d rest) (hr : CopyReads s pav d cx src dst g)
    (hbad : bitOf (fieldAt d.bytes 0x11 1) 0 = false → s.badRecords d.plot (s.viewPlaces cx src.2 src.1) = [])
    (hm : dst.2.mem = 1 ∨ dst.2.mem = 2) : ∃ t, exec (.copy pav []) s = .next t ∧ t.mem = (s.commitGh g).mem ∧
      (t.pav pav).queue 2 = ((s.pav pav).headDone 2 d rest s.now).queue 2 ∧ (t.pav pav).store = (s.pav pav).store ∧
      s.otherPlots t d.plot ∧ s.otherPavs t pav ∧ s.keepsBut t [.mem, .plots, .pavs] := by
  have hgh : s.within (s.commitGh g) d.plot pav [.mem, .plots] := (s.within_updMem d.plot pav _).mono (by simp)
  obtain ⟨u, hexec, hmem, hstore, _, hq, hplots, hpavs, hkeep⟩ := exec_copy_taken h hr hbad
    (s.commitCopy_glasshouse pav d.plot hm g) (hgh.trans ((State.within_charge _ d.plot pav _).mono (by simp))) (by decide) rfl
  exact ⟨u, hexec, hmem, hq, hstore, hplots, hpavs, hkeep.mono (by simp)⟩

theorem copy_device (h : Heads s pav 2 0x20 d rest) (hr : CopyReads s pav d cx src dst g)
    (hbad : bitOf (fieldAt d.bytes 0x11 1) 0 = false → s.badRecords d.plot (s.viewPlaces cx src.2 src.1) = [])
    (hm : dst.2.mem = 0 ∨ dst.2.mem = 4) (hroom : s.mem.room (g.lines d.plot) = true)
    (hwants : s.exitWants (g.lines d.plot) = false) : ∃ t, exec (.copy pav []) s = .next t ∧
      t.mem = s.mem.enqueue (g.lines d.plot) ∧
      (t.pav pav).queue 2 = ((s.pav pav).headDone 2 d rest s.now).queue 2 ∧ (t.pav pav).store = (s.pav pav).store ∧
      s.otherPlots t d.plot ∧ s.otherPavs t pav ∧ s.keepsBut t [.mem, .plots, .pavs] := by
  obtain ⟨u, hexec, hmem, hstore, _, hq, hplots, hpavs, hkeep⟩ := exec_copy_taken h hr hbad
    ((s.commitCopy_device pav d.plot hm g).trans (if_pos (by simp [hroom, hwants])))
    (s.within_updMem d.plot pav _) (by decide) rfl
  exact ⟨u, hexec, hmem, hq, hstore, hplots, hpavs, hkeep.mono (by simp)⟩

theorem copy_waits (h : Heads s pav 2 0x20 d rest) (hr : CopyReads s pav d cx src dst g) (hm : dst.2.mem = 0 ∨ dst.2.mem = 4)
    (hroom : s.mem.room (g.lines d.plot) = false) : exec (.copy pav []) s = .next s := by
  rw [exec_copy h hr, (s.commitCopy_device pav d.plot hm g).trans (if_neg (by simp [hroom]))]
  rfl

/-- A copy that reads one poisoned record sets RECORD_POISON. -/
theorem copy_poisonedRecord {r : Nat} {a : Adapter} (h : Heads s pav 2 0x20 d rest) (hr : CopyReads s pav d cx src dst g)
    (hfill : bitOf (fieldAt d.bytes 0x11 1) 0 = false) (hm : dst.2.mem = 3)
    (hbad : s.badRecords d.plot (s.viewPlaces cx src.2 src.1) = [r]) (ha : (s.plot d.plot).adapters.find r = some a)
    (hp : a.state ≠ .poisoned) (hs : a.state ≠ .stale) :
    ∃ t, exec (.copy pav []) s = .next t ∧ t.orangery.err = setFlag s.orangery.err 0 := by
  have hexec := exec_copy h hr
  rw [hm, State.commitCopy_localStore, hfill, if_neg (by decide), hbad, Option.elim_some, List.foldl_cons,
    List.foldl_nil] at hexec
  refine ⟨_, hexec, ?_⟩
  have hcounted := (s.commitStore pav g).within_copyCounted s pav d cx src dst
  have hadapter : (((s.commitStore pav g).copyCounted s pav d cx src dst).plot d.plot).adapters.find r = some a := by
    rw [State.adapters_copyCounted]
    exact ha
  calc (((((s.commitStore pav g).copyCounted s pav d cx src dst).recordPoison d.plot r).markDone pav 2 0).orangery).err
      = (((s.commitStore pav g).copyCounted s pav d cx src dst).recordPoison d.plot r).orangery.err :=
        congrArg Orangery.err ((State.within_markDone _ d.plot pav 2 0).2.2 .orangery (by decide))
    _ = setFlag ((s.commitStore pav g).copyCounted s pav d cx src dst).orangery.err 0 := State.recordPoison_err hadapter hp hs
    _ = setFlag s.orangery.err 0 := congrArg (fun o : Orangery => setFlag o.err 0) (hcounted.2.2 .orangery (by decide))

end

/-- A Pavilion that is fenced or stopped runs none of them. -/
theorem rillAndMove_down {s : State} {pav : Nat} (h : s.pavDown pav = true) (fs : List HwFault) :
    exec (.vprog pav fs) s = .next s ∧ exec (.scale pav fs) s = .next s ∧ exec (.copy pav fs) s = .next s := by
  have hnone := s.headOf_of_down h
  refine ⟨?_, ?_, ?_⟩
  · show execVprog pav fs s = _
    simp only [execVprog, hnone]
  · show execScale pav fs s = _
    simp only [execScale, hnone]
  · show execCopy pav fs s = _
    simp only [execCopy, hnone]

/-- Settles O38: each descriptor writes the stage of its pass, counts and is done; a failed check marks it and sets its flag. -/
theorem rillAndMoveCommands : Obligations.RillAndMoveCommands := by
  refine ⟨fun s pav n d rest pl h hpl hn => ⟨fun h0 => ?vprogNone, fun h0 => ?vprogSome, fun hun fault => ?vprogUnnamed⟩,
    fun s pav queue type b d rest pl f x hx h hpl hf => ?fault,
    fun s pav fmt mode n d rest src h hfmt hmode hsrc hn => ⟨?scale, fun h0 => ?scaleNone, fun h0 hp => ?scalePage,
      fun h0 hp hc => ?scaleConvert, fun h0 hp hc => ?scaleStats⟩,
    fun fmt es => ⟨blockStats_of_unsound fmt, rfl, fun hf => ?zeroPoint, (blockStats_x_bounds fmt es).1,
      (blockStats_x_bounds fmt es).2, (blockStats fmt es).record_length⟩,
    fun s pav d rest cx src dst g h hcx hdst hsrc hg hread => ?copy,
    fun s pav h d rest cx src a hh hcx hsrc hfill hmem hopen hbad ha hp hs => ?copyRecord,
    fun s pav fs hdown => ?down⟩
  case vprogNone => exact vprog_noElements h hpl (hn ▸ h0)
  case vprogSome =>
    subst hn
    exact vprog_elements h hpl h0
  case vprogUnnamed => exact State.store_runProgram_of_unnamed hun fault
  case fault =>
    rcases hx with ⟨rfl, rfl, rfl⟩ | ⟨rfl, rfl, rfl⟩
    · exact rill_fault (.inl ⟨rfl, rfl⟩) h hpl hf
    · exact rill_fault (.inr ⟨rfl, rfl⟩) h hpl hf
  case scale =>
    subst hn hsrc
    exact scale_common h
  case scaleNone =>
    subst hn hsrc
    exact scale_pass h (if_pos h0)
  case scalePage =>
    subst hn hsrc hfmt
    obtain ⟨t, hexec, hstore, hplots⟩ := scale_pass h ((if_neg h0).trans (if_pos hp))
    obtain ⟨g, n, c, heq, _⟩ := s.sealPass_eq pav d false
    exact ⟨t, hexec, hstore, hplots.trans (heq ▸ (s.within_writeStore d.plot pav g n c).2.2 .plots (by decide))⟩
  case scaleConvert =>
    subst hn hsrc hfmt hmode
    obtain ⟨t, hexec, hstore, hplots⟩ := scale_pass h ((if_neg h0).trans ((if_neg (by simp [hp])).trans (if_pos hc)))
    obtain ⟨g, n, c, heq, _⟩ := s.convertPass_eq pav d false
    exact ⟨t, hexec, hstore, hplots.trans (heq ▸ (s.within_writeStore d.plot pav g n c).2.2 .plots (by decide))⟩
  case scaleStats =>
    subst hn hsrc hfmt hmode
    exact scale_scalePass h ((if_neg h0).trans ((if_neg (by simp [hp])).trans (if_neg (by simp [hc])))) hp hc
  case zeroPoint => exact if_neg hf
  case copy =>
    have hr : CopyReads s pav d cx src dst g := ⟨hcx, hdst, hsrc, hg, fun hf => (hread hf).1⟩
    have hbad := fun hf => (hread hf).2
    exact ⟨copy_localStore h hr hbad, copy_glasshouse h hr hbad, copy_device h hr hbad, copy_waits h hr⟩
  case copyRecord =>
    exact copy_poisonedRecord hh ⟨hcx, rfl, by rw [hsrc, hfill]; rfl, rfl, fun _ => hopen⟩ hfill hmem hbad ha hp hs
  case down => exact rillAndMove_down hdown fs

end Sys2Proof.Machine

/-! The commands of the ARRAY queue, and the weight loads (O37). -/

namespace Sys2Proof.Machine

/-! ### The descriptor that the command order names (R92, R95) -/

theorem takeCommand_append (l : List QDesc) : (takeCommand l).1 ++ (takeCommand l).2 = l := by
  induction l with
  | nil => rfl
  | cons d l ih =>
    simp only [takeCommand]
    split
    · rfl
    · simp [ih]

/-- The head command and the one behind it stand in this order at the front of the queue. -/
theorem Pavilion.queue_eq_commands (v : Pavilion) : ∃ rest, v.queue 0 = v.commands.1 ++ (v.commands.2 ++ rest) :=
  ⟨(takeCommand (takeCommand v.array).2).2, by simp only [Pavilion.commands, Pavilion.queue, takeCommand_append, if_true]⟩

theorem getElem?_of_firstOpen {l : List QDesc} {t i : Nat} {d : QDesc} (h : firstOpen l t = some (i, d)) : l[i]? = some d := by
  obtain ⟨j, hj, heq⟩ := List.getElem_of_mem (List.mem_of_find?_eq_some h)
  rw [List.getElem_zip, List.getElem_range, Prod.mk.injEq] at heq
  obtain ⟨rfl, hd⟩ := heq
  exact List.getElem?_eq_some_iff.2 ⟨_, hd⟩

theorem Pavilion.getElem?_head {v : Pavilion} {i : Nat} {d : QDesc} (h : v.commands.1[i]? = some d) :
    (v.queue 0)[i]? = some d := by
  obtain ⟨rest, hq⟩ := v.queue_eq_commands
  rw [hq, List.getElem?_append_left (List.getElem?_eq_some_iff.1 h).1]
  exact h

theorem Pavilion.getElem?_of_nextLoad {v : Pavilion} {i : Nat} {d : QDesc} {c : List QDesc} (h : v.nextLoad = some (i, d, c)) :
    (v.queue 0)[i]? = some d := by
  simp only [Pavilion.nextLoad] at h
  split at h
  · next x hx =>
    obtain ⟨rfl, rfl, rfl⟩ : x.1 = i ∧ x.2 = d ∧ v.commands.1 = c := by simpa using h
    split at hx
    · exact Pavilion.getElem?_head (getElem?_of_firstOpen hx)
    · cases hx
  · split at h
    · obtain ⟨x, hx, heq⟩ := Option.map_eq_some_iff.1 h
      obtain ⟨rfl, rfl, rfl⟩ : v.commands.1.length + x.1 = i ∧ x.2 = d ∧ v.commands.2 = c := by simpa using heq
      obtain ⟨rest, hq⟩ := v.queue_eq_commands
      have hx' := getElem?_of_firstOpen hx
      rw [hq, List.getElem?_append_right (Nat.le_add_right _ _), Nat.add_sub_cancel_left,
        List.getElem?_append_left (List.getElem?_eq_some_iff.1 hx').1]
      exact hx'
    · cases h

theorem Pavilion.getElem?_of_nextStream {v : Pavilion} {i : Nat} {d : QDesc} (h : v.nextStream = some (i, d)) :
    (v.queue 0)[i]? = some d := by
  simp only [Pavilion.nextStream] at h
  split at h
  · exact Pavilion.getElem?_head (getElem?_of_firstOpen (Option.filter_eq_some_iff.1 h).1)
  · cases h

theorem Pavilion.getElem?_of_nextDrain {v : Pavilion} {i : Nat} {d : QDesc} (h : v.nextDrain = some (i, d)) :
    (v.queue 0)[i]? = some d :=
  Pavilion.getElem?_head (getElem?_of_firstOpen (Option.filter_eq_some_iff.1 h).1)

/-- A descriptor that is marked done stands executed in its place. -/
theorem State.getElem?_markDone {t : State} {pav k i : Nat} {d : QDesc} (h : ((t.pav pav).queue k)[i]? = some d) :
    (((t.markDone pav k i).pav pav).queue k)[i]? = some (d.done t.now) := by
  rw [State.pav_markDone, Pavilion.queue_setQueue_self, List.getElem?_modify_eq, h]
  rfl

theorem State.getElem?_markDone_ne (t : State) (pav k : Nat) {i j : Nat} (h : j ≠ i) :
    (((t.markDone pav k i).pav pav).queue k)[j]? = ((t.pav pav).queue k)[j]? := by
  rw [State.pav_markDone, Pavilion.queue_setQueue_self, List.getElem?_modify_ne _ _ (Ne.symm h)]

/-- A failed check of the Parterre: the descriptor is marked in its place, and the check's flag is set. -/
theorem State.meetFaults_array {s : State} {pav i b : Nat} {d : QDesc} {f : HwFault} (hf : faultFlag f = some (1, b))
    (h : ((s.pav pav).queue 0)[i]? = some d) :
    (((s.meetFaults pav 0 i d [f]).pav pav).queue 0)[i]? = some { d with failed := true } ∧
    ((s.meetFaults pav 0 i d [f]).pav pav).par.err = setFlag (s.pav pav).par.err b := by
  rw [State.pav_meetFaults_single hf, Pavilion.queue_setQueue_self, List.getElem?_modify_eq, Pavilion.queue_flag, h,
    Pavilion.setQueue_par]
  exact ⟨rfl, rfl⟩

/-! ### A block's weights (R38, R40, R65) -/

section
variable (d : Bytes) (fmt : Nat) (weight : Nat → Nat → Num) (scales : List W32) (poisoned : Bool) (size : Nat)

theorem blockWeights_getD {k n : Nat} (hk : k < (blockWeights d fmt weight scales poisoned size).kr)
    (hn : n < (blockWeights d fmt weight scales poisoned size).nc) :
    ((blockWeights d fmt weight scales poisoned size).rows.getD k []).getD n (Num.zero false) = weight k n := by
  simp only [blockWeights] at hk hn ⊢
  simp [List.getD, hk, hn]

theorem blockWeights_colSums {n : Nat} (hn : n < (blockWeights d fmt weight scales poisoned size).nc) :
    (blockWeights d fmt weight scales poisoned size).colSums.getD n 0 =
      columnSum (blockWeights d fmt weight scales poisoned size).rows n := by
  simp only [blockWeights] at hn ⊢
  simp [List.getD, hn]

end

/-! ### The load of a block -/

/-- A load outside walks reads its view and changes nothing. -/
theorem State.loadBlock_plain {s : State} {pav : Nat} {d : QDesc} (h : s.loadWalks pav d = false) :
    (s.loadBlock pav d).state = s ∧ ∃ scales bad,
      let x := s.viewOf pav 0 d (fieldAt d.bytes 8 4)
      let es := s.viewElems (s.ctxOf pav 0 d) x.2 x.1
      let saved := s.savedActivation d (fieldAt d.bytes 8 4)
      (s.loadBlock pav d).weights = blockWeights d.bytes (if saved then 1 else fieldAt d.bytes 0x0C 1)
        (tileWeight x es (bitOf (fieldAt d.bytes 0x0F 1) 3) saved) scales (bad || es.any (·.poisoned))
        (blockSize (dShape d.bytes)) := by
  simp only [State.loadBlock, h]
  exact ⟨rfl, _, _, rfl⟩

theorem State.walkFaults_pavs (s : State) (p plan : Nat) (w : Walk) (e : Option SeqEntry) (page : Nat) :
    (s.walkFaults p plan w e page).pavs = s.pavs := by
  have hraise (u : State) (r : ErrRec) : (u.raise p r).pavs = u.pavs := (u.tells_raise p r).pavs
  simp only [State.walkFaults]
  split
  · rw [hraise]
    cases w.genFault <;> cases e <;> simp [hraise] <;> split <;> simp [hraise]
  · cases w.genFault <;> simp [hraise]

theorem State.loadBlock_pavs (s : State) (pav : Nat) (d : QDesc) : (s.loadBlock pav d).state.pavs = s.pavs := by
  simp only [State.loadBlock]
  split
  · split
    · exact s.walkFaults_pavs _ _ _ _ _
    · rfl
  · rfl

theorem State.weightEvent_pavs (s : State) (p plan n : Nat) : (s.weightEvent p plan n).pavs = s.pavs := by
  unfold State.weightEvent
  split <;> rfl

theorem State.weightEvent_mem (s : State) (p plan n : Nat) : (s.weightEvent p plan n).mem = s.mem := by
  unfold State.weightEvent
  split <;> rfl

/-- The state once a block's weights have been read and what they count is counted. -/
def State.loadRead (s : State) (pav : Nat) (d : QDesc) : State :=
  ((s.loadBlock pav d).state.weightEvent d.plot d.plan (s.loadBlock pav d).nans).countSplits pav (s.loadBlock pav d).splits

theorem State.pav_loadRead (s : State) (pav : Nat) (d : QDesc) : ∃ c, (s.loadRead pav d).pav pav = { s.pav pav with ctr := c } := by
  have hpav : ((s.loadBlock pav d).state.weightEvent d.plot d.plan (s.loadBlock pav d).nans).pav pav = s.pav pav := by
    simp only [State.pav, State.weightEvent_pavs, State.loadBlock_pavs]
  exact ⟨_, by rw [State.loadRead, State.pav_countSplits, hpav]⟩

theorem State.otherPavs_loadRead (s : State) (pav : Nat) (d : QDesc) : s.otherPavs (s.loadRead pav d) pav :=
  (State.otherPavs_of_pavs_eq ((State.weightEvent_pavs _ _ _ _).trans (s.loadBlock_pavs pav d)) pav).trans
    (State.within_countSplits _ d.plot pav _).2.1

theorem State.mem_loadRead (s : State) (pav : Nat) (d : QDesc) : (s.loadRead pav d).mem = (s.loadBlock pav d).state.mem :=
  State.weightEvent_mem _ _ _ _

/-- What a WLOAD of a tile that is not empty does before it is done. -/
def State.loadRun (s : State) (pav : Nat) (c : List QDesc) (d : QDesc) (w : BlockWeights) : State :=
  (s.loadRead pav d).updPav pav (fun v => v.loadShadow c d w)

theorem Pavilion.loadShadow_find (v : Pavilion) (c : List QDesc) (d : QDesc) (w : BlockWeights) :
    (v.loadShadow c d w).par.shadow.find (dBlock d.bytes) = some w := NMap.find_set_self _ _ w

/-- A load leaves the active weights, the flags and the queues. -/
theorem Pavilion.loadShadow_frame (v : Pavilion) (c : List QDesc) (d : QDesc) (w : BlockWeights) :
    (v.loadShadow c d w).par.active = v.par.active ∧ (v.loadShadow c d w).par.err = v.par.err ∧
    ∀ k, (v.loadShadow c d w).queue k = v.queue k := ⟨rfl, rfl, fun _ => rfl⟩

theorem State.loadRun_pav (s : State) (pav : Nat) (c : List QDesc) (d : QDesc) (w : BlockWeights) :
    ((s.loadRun pav c d w).pav pav).par.shadow.find (dBlock d.bytes) = some w ∧
    ((s.loadRun pav c d w).pav pav).par.active = (s.pav pav).par.active ∧
    ((s.loadRun pav c d w).pav pav).par.err = (s.pav pav).par.err ∧
    ∀ k, ((s.loadRun pav c d w).pav pav).queue k = (s.pav pav).queue k := by
  obtain ⟨ctr, hpav⟩ := s.pav_loadRead pav d
  rw [State.loadRun, State.pav_updPav_self, hpav]
  exact ⟨Pavilion.loadShadow_find _ c d w, rfl, rfl, fun _ => rfl⟩

theorem State.otherPavs_loadRun (s : State) (pav : Nat) (c : List QDesc) (d : QDesc) (w : BlockWeights) :
    s.otherPavs (s.loadRun pav c d w) pav :=
  (s.otherPavs_loadRead pav d).trans (State.within_updPav _ d.plot pav _).2.1

/-! ### WLOAD -/

theorem exec_wload {s : State} {pav i : Nat} {d : QDesc} {c : List QDesc} (hup : s.pavDown pav = false)
    (hreload : (s.pav pav).nextReload = none) (hnext : (s.pav pav).nextLoad = some (i, d, c)) (fs : List HwFault) :
    exec (.wload pav fs) s = .next ((if (s.meetFaults pav 0 i d fs).loadEmpty pav d then s.meetFaults pav 0 i d fs
      else (s.meetFaults pav 0 i d fs).loadRun pav c d { ((s.meetFaults pav 0 i d fs).loadBlock pav d).weights with
        poisoned := ((s.meetFaults pav 0 i d fs).loadBlock pav d).weights.poisoned || unitFault fs }).markDone pav 0 i) := by
  show execWload pav fs s = _
  simp only [execWload, hup, hreload, hnext, Bool.false_eq_true, if_false]
  split <;> rfl

theorem exec_wload_reload {s : State} {pav : Nat} {d : QDesc} (hup : s.pavDown pav = false)
    (hreload : (s.pav pav).nextReload = some d) (fs : List HwFault) :
    exec (.wload pav fs) s = .next (s.reissue pav d) := by
  show execWload pav fs s = _
  simp only [execWload, hup, hreload]
  rfl

/-- Without a failed check, a load of a tile that is not empty. -/
theorem exec_wload_sound {s : State} {pav i : Nat} {d : QDesc} {c : List QDesc} (hup : s.pavDown pav = false)
    (hreload : (s.pav pav).nextReload = none) (hnext : (s.pav pav).nextLoad = some (i, d, c)) (hfull : s.loadEmpty pav d = false) :
    exec (.wload pav []) s = .next ((s.loadRun pav c d (s.loadBlock pav d).weights).markDone pav 0 i) := by
  rw [exec_wload hup hreload hnext, State.meetFaults_nil, if_neg (by simp [hfull]), unitFault_nil]
  simp only [Bool.or_false]

/-- The block that a load outside walks leaves in the shadow. -/
theorem wload_view {s : State} {pav i : Nat} {d : QDesc} {c : List QDesc} (hup : s.pavDown pav = false)
    (hreload : (s.pav pav).nextReload = none) (hnext : (s.pav pav).nextLoad = some (i, d, c))
    (hplain : s.loadWalks pav d = false) (hfull : s.loadEmpty pav d = false) {x : View × Tensor} {es : List Elem} {saved : Bool}
    (hx : x = s.viewOf pav 0 d (fieldAt d.bytes 8 4)) (hes : es = s.viewElems (s.ctxOf pav 0 d) x.2 x.1)
    (hsaved : saved = s.savedActivation d (fieldAt d.bytes 8 4)) :
    ∃ t w, exec (.wload pav []) s = .next t ∧ (t.pav pav).par.shadow.find (dBlock d.bytes) = some w ∧
      w.kr = min (fieldAt d.bytes 0x0D 1 % 128 + 1) (blockSize (dShape d.bytes)) ∧
      w.nc = min (fieldAt d.bytes 0x0E 1 % 128 + 1) (blockSize (dShape d.bytes)) ∧
      w.rowOrient = bitOf (fieldAt d.bytes 0x0F 1) 2 ∧ w.fmt = (if saved then 1 else fieldAt d.bytes 0x0C 1) ∧
      (∀ k n, k < w.kr → n < w.nc → (w.rows.getD k []).getD n (Num.zero false) =
        tileWeight x es (bitOf (fieldAt d.bytes 0x0F 1) 3) saved k n) ∧
      (∀ n, n < w.nc → w.colSums.getD n 0 = columnSum w.rows n) ∧
      (es.any (·.poisoned) = true → w.poisoned = true) ∧ t.mem = s.mem := by
  subst hx hes hsaved
  obtain ⟨hstate, scales, bad, hw⟩ := State.loadBlock_plain hplain
  refine ⟨_, (s.loadBlock pav d).weights, exec_wload_sound hup hreload hnext hfull, ?_, ?_⟩
  · rw [State.pav_markDone, Pavilion.setQueue_par]
    exact (s.loadRun_pav pav c d _).1
  rw [hw]
  refine ⟨rfl, rfl, rfl, rfl, fun k n hk hn => blockWeights_getD _ _ _ _ _ _ hk hn,
    fun n hn => blockWeights_colSums _ _ _ _ _ _ hn, fun hany => ?_, ?_⟩
  · show (bad || _) = true
    rw [hany, Bool.or_true]
  · rw [State.markDone_eq]
    exact (s.mem_loadRead pav d).trans (congrArg State.mem hstate)

/-- What every WLOAD leaves. -/
theorem wload_frame {s : State} {pav i : Nat} {d : QDesc} {c : List QDesc} (hup : s.pavDown pav = false)
    (hreload : (s.pav pav).nextReload = none) (hnext : (s.pav pav).nextLoad = some (i, d, c)) :
    ∃ t, exec (.wload pav []) s = .next t ∧ (t.pav pav).par.active = (s.pav pav).par.active ∧
      (∃ e, ((t.pav pav).queue 0)[i]? = some e ∧ e.executed = true ∧ e.bytes = d.bytes) ∧
      (∀ j, j ≠ i → ((t.pav pav).queue 0)[j]? = ((s.pav pav).queue 0)[j]?) ∧ s.otherPavs t pav ∧
      (s.loadEmpty pav d = false → (t.pav pav).par.shadow.find (dBlock d.bytes) = some (s.loadBlock pav d).weights ∧
        t.mem = (s.loadBlock pav d).state.mem) ∧
      (s.loadEmpty pav d = true → (t.pav pav).par = (s.pav pav).par ∧ s.keepsBut t [.pavs]) := by
  have hd := Pavilion.getElem?_of_nextLoad hnext
  cases hempty : s.loadEmpty pav d with
  | true =>
    have hexec := exec_wload hup hreload hnext []
    rw [State.meetFaults_nil, if_pos hempty] at hexec
    have hin := s.within_markDone d.plot pav 0 i
    refine ⟨_, hexec, ?_, ⟨_, State.getElem?_markDone hd, rfl, rfl⟩, fun j hj => s.getElem?_markDone_ne pav 0 hj, hin.2.1,
      fun h => (Bool.noConfusion h), fun _ => ⟨?_, hin.2.2⟩⟩ <;>
      rw [State.pav_markDone, Pavilion.setQueue_par]
  | false =>
    obtain ⟨hshadow, hactive, _, hqueue⟩ := s.loadRun_pav pav c d (s.loadBlock pav d).weights
    have hin := (s.loadRun pav c d (s.loadBlock pav d).weights).within_markDone d.plot pav 0 i
    refine ⟨_, exec_wload_sound hup hreload hnext hempty, ?_, ⟨_, State.getElem?_markDone (by rw [hqueue]; exact hd), rfl, rfl⟩,
      fun j hj => ?_, (s.otherPavs_loadRun pav c d _).trans hin.2.1, fun _ => ⟨?_, ?_⟩, fun h => Bool.noConfusion h⟩
    · rw [State.pav_markDone, Pavilion.setQueue_par, hactive]
    · rw [State.getElem?_markDone_ne _ _ _ hj, hqueue]
    · rw [State.pav_markDone, Pavilion.setQueue_par, hshadow]
    · exact (hin.2.2 .mem (by decide)).trans (s.mem_loadRead pav d)

/-! ### A check that fails while a block is loaded -/

/-- Two states give a descriptor the same operands: the plans and the lists of the steps are the same. -/
def State.sameOperands (s t : State) : Prop :=
  ∀ p, (t.plot p).plans = (s.plot p).plans ∧ ∀ h, ((t.plot p).runOf h).map (·.lists) = ((s.plot p).runOf h).map (·.lists)

theorem State.sameOperands.planOf {s t : State} (h : s.sameOperands t) (d : QDesc) : t.planOf d = s.planOf d := by
  simp only [State.planOf, (h d.plot).1]

theorem State.listFor_eq_bind (s : State) (p : Nat) (pl : Plan) (key : Nat) : s.listFor p pl key =
    (((s.plot p).runOf pl.handle).map (·.lists)).bind (fun l => l[Config.listOf pl.handle key % pl.listsOf]?) := by
  unfold State.listFor
  cases (s.plot p).runOf pl.handle <;> rfl

theorem State.sameOperands.iterOf {s t : State} (h : s.sameOperands t) (pav k : Nat) (d : QDesc) :
    t.iterOf pav k d = s.iterOf pav k d := by
  simp only [State.iterOf, h.planOf, State.listFor_eq_bind, (h d.plot).2]

theorem State.sameOperands.viewOf {s t : State} (h : s.sameOperands t) (pav k : Nat) (d : QDesc) (i : Nat) :
    t.viewOf pav k d i = s.viewOf pav k d i := by
  simp only [State.viewOf, h.planOf, h.iterOf]

theorem State.sameOperands.loadEmpty {s t : State} (h : s.sameOperands t) (pav : Nat) (d : QDesc) :
    t.loadEmpty pav d = s.loadEmpty pav d := by
  simp only [State.loadEmpty, State.loadWalks, h.planOf, h.viewOf]

theorem State.sameOperands_meetFaults {f : HwFault} {x : Nat × Nat} (h : faultFlag f = some x) (s : State) (pav k i : Nat)
    (d : QDesc) : s.sameOperands (s.meetFaults pav k i d [f]) := (State.meetFaults_single h s pav k i d).2

/-- The block that a failed check has met is poisoned in the shadow, and its load is done and failed. -/
theorem wload_fault {s : State} {pav i b : Nat} {d : QDesc} {c : List QDesc} {f : HwFault} (hup : s.pavDown pav = false)
    (hreload : (s.pav pav).nextReload = none) (hnext : (s.pav pav).nextLoad = some (i, d, c))
    (hfull : s.loadEmpty pav d = false) (hf : faultFlag f = some (1, b)) :
    ∃ t w, exec (.wload pav [f]) s = .next t ∧ (t.pav pav).par.shadow.find (dBlock d.bytes) = some w ∧ w.poisoned = true ∧
      (t.pav pav).par.err = setFlag (s.pav pav).par.err b ∧
      (∃ e, ((t.pav pav).queue 0)[i]? = some e ∧ e.executed = true ∧ e.failed = true) := by
  obtain ⟨hqueue, herr⟩ := State.meetFaults_array hf (Pavilion.getElem?_of_nextLoad hnext)
  have hexec := exec_wload hup hreload hnext [f]
  rw [if_neg (by simp [(State.sameOperands_meetFaults hf s pav 0 i d).loadEmpty, hfull])] at hexec
  obtain ⟨w, hw⟩ : ∃ w, w = { ((s.meetFaults pav 0 i d [f]).loadBlock pav d).weights with
      poisoned := ((s.meetFaults pav 0 i d [f]).loadBlock pav d).weights.poisoned || unitFault [f] } := ⟨_, rfl⟩
  rw [← hw] at hexec
  obtain ⟨hshadow, _, herr', hqueue'⟩ := (s.meetFaults pav 0 i d [f]).loadRun_pav pav c d w
  refine ⟨_, w, hexec, ?_, ?_, ?_, _, State.getElem?_markDone (by rw [hqueue']; exact hqueue), rfl, rfl⟩
  · rw [State.pav_markDone, Pavilion.setQueue_par, hshadow]
  · rw [hw, unitFault_single hf]
    exact Bool.or_true _
  · rw [State.pav_markDone, Pavilion.setQueue_par, herr', herr]

/-! ### A load that is reissued (R70) -/

/-- A Pavilion once a load has been reissued. -/
def Pavilion.reissued (v : Pavilion) (d : QDesc) (w : BlockWeights) (rest : List QDesc) : Pavilion :=
  { v with par := v.par.load false false rest.isEmpty d w, reload := rest }

/-- A reissued load is counted and put into the shadow; the last one charges its plot. -/
theorem State.reissue_eq (s : State) (pav : Nat) (d : QDesc) : ∃ u : State,
    u = (s.loadRead pav d).updPav pav (fun v => v.reissued d (s.loadBlock pav d).weights (s.pav pav).reload.tail) ∧
    (s.reissue pav d = u ∨ ∃ f, s.reissue pav d = u.charge d.plot f) := by
  refine ⟨_, rfl, ?_⟩
  simp only [State.reissue]
  split
  · exact .inr ⟨_, rfl⟩
  · exact .inl rfl

theorem wload_reload {s : State} {pav : Nat} {d : QDesc} (hup : s.pavDown pav = false)
    (hreload : (s.pav pav).nextReload = some d) (fs : List HwFault) :
    ∃ t, exec (.wload pav fs) s = .next t ∧ (t.pav pav).par.shadow.find (dBlock d.bytes) = some (s.loadBlock pav d).weights ∧
      (t.pav pav).reload = (s.pav pav).reload.tail ∧ (∀ k < 3, (t.pav pav).queue k = (s.pav pav).queue k) ∧
      (t.pav pav).par.active = (s.pav pav).par.active ∧ s.otherPavs t pav := by
  obtain ⟨u, hu, hcharge⟩ := s.reissue_eq pav d
  have hpavs : (s.reissue pav d).pavs = u.pavs := by
    rcases hcharge with heq | ⟨f, heq⟩ <;> rw [heq]
    rfl
  obtain ⟨ctr, hread⟩ := s.pav_loadRead pav d
  have hpav : (s.reissue pav d).pav pav =
      { s.pav pav with ctr := ctr : Pavilion }.reissued d (s.loadBlock pav d).weights (s.pav pav).reload.tail := by
    rw [State.pav, hpavs, ← hread, hu]
    exact State.pav_updPav_self _ pav _
  have hothers : s.otherPavs (s.reissue pav d) pav :=
    ((s.otherPavs_loadRead pav d).trans (hu ▸ (State.within_updPav _ d.plot pav _).2.1)).trans
      (State.otherPavs_of_pavs_eq hpavs pav)
  refine ⟨_, exec_wload_reload hup hreload fs, ?_⟩
  rw [hpav]
  exact ⟨NMap.find_set_self _ _ _, rfl, fun _ _ => rfl, rfl, hothers⟩

end Sys2Proof.Machine

/-! STREAM: the swap of the shadow, and the rows that pass through a block (O37). -/

namespace Sys2Proof.Machine

/-! ### The swap (R69) -/

/-- Whether the first slot of a pass takes the shadow. -/
def Parterre.swaps (q : Parterre) (slots : Nat) (owns : Bool) : Bool :=
  decide (slots ≠ 0) && !q.begun && !q.shadow.isEmpty && owns

theorem Parterre.swap_eq (q : Parterre) (slots : Nat) (owns : Bool) :
    (q.swap slots owns).active = (if q.swaps slots owns then q.shadow else q.active) ∧
    (q.swap slots owns).shadow = (if q.swaps slots owns then [] else q.shadow) ∧
    (q.swap slots owns).begun = (q.begun || decide (slots ≠ 0)) ∧ (q.swap slots owns).err = q.err := by
  unfold Parterre.swap Parterre.swaps
  by_cases hslots : slots = 0
  · simp [hslots]
  · cases hbegun : q.begun
    · cases hshadow : q.shadow.isEmpty <;> cases owns <;> simp_all
    · simp [hslots, hbegun]

theorem Parterre.forCommand_eq (q : Parterre) (c : List QDesc) :
    (q.forCommand c).active = (if hasLoads c then q.active else q.active.mapVals BlockWeights.lanesOff) ∧
    (q.forCommand c).shadow = q.shadow ∧ (q.forCommand c).begun = q.begun ∧ (q.forCommand c).err = q.err := by
  unfold Parterre.forCommand
  cases hasLoads c <;> simp

/-! ### The rows of a STREAM -/

/-- The marks of a STREAM's rows. -/
def State.streamMarks (s : State) (pav : Nat) (d : QDesc) : List RowMark :=
  (List.range (s.streamRows pav d)).map (rowMark d.bytes (s.rowInputs pav (s.ctxOf pav 0 d) d) (s.streamList pav d))

/-- The Parterre as a STREAM's rows find it. -/
def State.streamPar (s : State) (pav : Nat) (d : QDesc) : Parterre :=
  ((s.pav pav).par.swap (fedRows (s.streamMarks pav d)) (s.pav pav).ownsShadow).forCommand (s.pav pav).commands.1

/-- The rows that leave the block. -/
def State.streamOut (s : State) (pav : Nat) (d : QDesc) (bad : Bool) : List PassRow :=
  ((List.range (s.streamRows pav d)).zip (s.streamMarks pav d)).map (fun e =>
    let r := s.passRow (s.ctxOf pav 0 d) d.bytes (s.viewOf pav 0 d (fieldAt d.bytes 8 4))
      (((s.streamPar pav d).active.find (dBlock d.bytes)).getD (BlockWeights.clear (blockSize (dShape d.bytes))))
      (blockSize (dShape d.bytes)) (s.rowInputs pav (s.ctxOf pav 0 d) d) e.2 e.1
    { r with poisoned := r.poisoned || bad })

theorem exec_stream {s u : State} {pav i : Nat} {d : QDesc} {fs : List HwFault} (hup : s.pavDown pav = false)
    (hnext : (s.pav pav).nextStream = some (i, d)) (hu : u = s.meetFaults pav 0 i d fs) : ∃ (q : Parterre) (n : Nat)
      (count : PavCounters → PavCounters),
    exec (.stream pav fs) s = .next (((u.updPav pav (fun v => { v with par := q, ctr := count v.ctr })).countSplits pav n).markDone
      pav 0 i) ∧
    q.active = (u.streamPar pav d).active ∧ q.shadow = (u.streamPar pav d).shadow ∧ q.begun = (u.streamPar pav d).begun ∧
    q.err = (u.streamPar pav d).err ∧ q.busy = true ∧
    q.pass.find (dBlock d.bytes) = some (u.streamOut pav d (unitFault fs)) := by
  subst hu
  have hexec : exec (.stream pav fs) s = execStream pav fs s := rfl
  simp only [hexec, execStream, hup, hnext, Bool.false_eq_true, if_false]
  exact ⟨_, _, fun c => { c with
    slots := c.slots + BitVec.ofNat 64 _, laneFaults := c.laneFaults + BitVec.ofNat 64 _ }, rfl, rfl, rfl, rfl, rfl, rfl,
    NMap.find_set_self _ _ _⟩

theorem State.streamMarks_length (s : State) (pav : Nat) (d : QDesc) :
    (s.streamMarks pav d).length = s.streamRows pav d := by simp [State.streamMarks]

theorem State.streamOut_length (s : State) (pav : Nat) (d : QDesc) (bad : Bool) :
    (s.streamOut pav d bad).length = s.streamRows pav d := by simp [State.streamOut, State.streamMarks_length]

theorem State.streamOut_getElem? (s : State) (pav : Nat) (d : QDesc) {r : Nat} {m : RowMark}
    (hm : (s.streamMarks pav d)[r]? = some m) : (s.streamOut pav d false)[r]? =
      some (s.passRow (s.ctxOf pav 0 d) d.bytes (s.viewOf pav 0 d (fieldAt d.bytes 8 4))
        (((s.streamPar pav d).active.find (dBlock d.bytes)).getD (BlockWeights.clear (blockSize (dShape d.bytes))))
        (blockSize (dShape d.bytes)) (s.rowInputs pav (s.ctxOf pav 0 d) d) m r) := by
  obtain ⟨hr, rfl⟩ := List.getElem?_eq_some_iff.1 hm
  have hn : r < s.streamRows pav d := s.streamMarks_length pav d ▸ hr
  simp [State.streamOut, hn, State.streamMarks_length]

/-- A failed check poisons every row. -/
theorem State.streamOut_poisoned (s : State) (pav : Nat) (d : QDesc) : ∀ r ∈ s.streamOut pav d true, r.poisoned = true := by
  intro r hr
  obtain ⟨e, _, rfl⟩ := List.mem_map.1 hr
  exact Bool.or_true _

theorem State.streamPar_eq (s : State) (pav : Nat) (d : QDesc) {swaps : Bool} (hs : swaps =
      (s.pav pav).par.swaps (fedRows (s.streamMarks pav d)) (s.pav pav).ownsShadow) {act : NMap BlockWeights}
    (hact : act = if swaps then (s.pav pav).par.shadow else (s.pav pav).par.active) :
    (s.streamPar pav d).active =
      (if hasLoads (s.pav pav).commands.1 then act else act.mapVals BlockWeights.lanesOff) ∧
    (s.streamPar pav d).shadow = (if swaps then [] else (s.pav pav).par.shadow) ∧
    (s.streamPar pav d).begun = ((s.pav pav).par.begun || decide (fedRows (s.streamMarks pav d) ≠ 0)) ∧
    (s.streamPar pav d).err = (s.pav pav).par.err := by
  subst hs hact
  obtain ⟨hactive, hshadow, hbegun, herr⟩ :=
    (s.pav pav).par.swap_eq (fedRows (s.streamMarks pav d)) (s.pav pav).ownsShadow
  obtain ⟨hactive', hshadow', hbegun', herr'⟩ :=
    ((s.pav pav).par.swap (fedRows (s.streamMarks pav d)) (s.pav pav).ownsShadow).forCommand_eq (s.pav pav).commands.1
  exact ⟨by rw [State.streamPar, hactive', hactive], hshadow'.trans hshadow, hbegun'.trans hbegun, herr'.trans herr⟩

/-- The Pavilion once a STREAM is done. -/
theorem State.pav_streamed (u : State) (pav i n : Nat) (q : Parterre) (count : PavCounters → PavCounters) : ∃ c,
    (((u.updPav pav (fun v => { v with par := q, ctr := count v.ctr })).countSplits pav n).markDone pav 0 i).pav pav =
      { u.pav pav with par := q, ctr := c }.setQueue 0 (((u.pav pav).queue 0).modify i (·.done u.now)) :=
  ⟨_, by rw [State.pav_markDone, State.pav_countSplits, State.pav_updPav_self]; rfl⟩

theorem stream_sound {s : State} {pav i n size : Nat} {d : QDesc} {x : View × Tensor} {ri : RowInputs} {marks : List RowMark}
    {swaps : Bool} {act : NMap BlockWeights} {w : BlockWeights} (hup : s.pavDown pav = false)
    (hnext : (s.pav pav).nextStream = some (i, d)) (hx : x = s.viewOf pav 0 d (fieldAt d.bytes 8 4))
    (hri : ri = s.rowInputs pav (s.ctxOf pav 0 d) d) (hn : n = s.streamRows pav d)
    (hmarks : marks = (List.range n).map (rowMark d.bytes ri (s.streamList pav d))) (hsize : size = blockSize (dShape d.bytes))
    (hswaps : swaps = (s.pav pav).par.swaps (fedRows marks) (s.pav pav).ownsShadow)
    (hact : act = if swaps then (s.pav pav).par.shadow else (s.pav pav).par.active)
    (hw : w = ((if hasLoads (s.pav pav).commands.1 then act else act.mapVals BlockWeights.lanesOff).find
      (dBlock d.bytes)).getD (BlockWeights.clear size)) :
    ∃ t rows, exec (.stream pav []) s = .next t ∧
      (t.pav pav).par.active = (if hasLoads (s.pav pav).commands.1 then act else act.mapVals BlockWeights.lanesOff) ∧
      (t.pav pav).par.shadow = (if swaps then [] else (s.pav pav).par.shadow) ∧
      (t.pav pav).par.begun = ((s.pav pav).par.begun || decide (fedRows marks ≠ 0)) ∧
      (t.pav pav).par.busy = true ∧ (t.pav pav).par.pass.find (dBlock d.bytes) = some rows ∧ rows.length = n ∧
      (∀ r < n, ∀ m, marks[r]? = some m → rows[r]? = some (s.passRow (s.ctxOf pav 0 d) d.bytes x w size ri m r)) ∧
      (∃ e, ((t.pav pav).queue 0)[i]? = some e ∧ e.executed = true ∧ e.bytes = d.bytes) ∧ (t.pav pav).store = (s.pav pav).store ∧
      s.otherPavs t pav ∧ s.keepsBut t [.pavs] := by
  subst hx hri hn hmarks hsize hw
  obtain ⟨q, k, count, hexec, hactive, hshadow, hbegun, _, hbusy, hpass⟩ := exec_stream hup hnext (fs := []) rfl
  rw [State.meetFaults_nil] at hexec hactive hshadow hbegun hpass
  obtain ⟨hactive', hshadow', hbegun', _⟩ := s.streamPar_eq pav d hswaps hact
  have hin := (s.within_updPav d.plot pav (fun v => { v with par := q, ctr := count v.ctr })).trans
    ((State.within_countSplits _ d.plot pav k).trans (State.within_markDone _ d.plot pav 0 i))
  obtain ⟨c, hpav⟩ := s.pav_streamed pav i k q count
  refine ⟨_, s.streamOut pav d false, hexec, ?_, ?_, ?_, ?_, ?_, s.streamOut_length pav d false, fun r _ m hm => ?_, ?_, ?_,
    hin.2.1, hin.2.2⟩
  · rw [hpav, Pavilion.setQueue_par, hactive, hactive']
  · rw [hpav, Pavilion.setQueue_par, hshadow, hshadow']
  · rw [hpav, Pavilion.setQueue_par, hbegun, hbegun']
    rfl
  · rw [hpav, Pavilion.setQueue_par, hbusy]
  · rw [hpav, Pavilion.setQueue_par, hpass, unitFault_nil]
  · rw [s.streamOut_getElem? pav d hm, hactive']
  · refine ⟨d.done s.now, ?_, rfl, rfl⟩
    rw [hpav, Pavilion.queue_setQueue_self, List.getElem?_modify_eq, Pavilion.getElem?_of_nextStream hnext]
    rfl
  · rw [hpav, Pavilion.setQueue_store]

theorem stream_fault {s : State} {pav i b : Nat} {d : QDesc} {f : HwFault} (hup : s.pavDown pav = false)
    (hnext : (s.pav pav).nextStream = some (i, d)) (hf : faultFlag f = some (1, b)) :
    ∃ t, exec (.stream pav [f]) s = .next t ∧
      (∀ r ∈ (t.pav pav).par.pass.get [] (dBlock d.bytes), r.poisoned = true) ∧
      (t.pav pav).par.err = setFlag (s.pav pav).par.err b ∧
      (∃ e, ((t.pav pav).queue 0)[i]? = some e ∧ e.executed = true ∧ e.failed = true) := by
  obtain ⟨hqueue, herr⟩ := State.meetFaults_array hf (Pavilion.getElem?_of_nextStream hnext)
  obtain ⟨u, hu⟩ : ∃ u, u = s.meetFaults pav 0 i d [f] := ⟨_, rfl⟩
  obtain ⟨q, k, count, hexec, _, _, _, herr', _, hpass⟩ := exec_stream hup hnext hu
  rw [← hu] at hqueue herr
  obtain ⟨_, _, _, hpar⟩ := u.streamPar_eq pav d rfl rfl
  obtain ⟨c, hpav⟩ := u.pav_streamed pav i k q count
  refine ⟨_, hexec, ?_, ?_, { d with failed := true }.done u.now, ?_, rfl, rfl⟩
  · rw [hpav, Pavilion.setQueue_par, NMap.get_of_find hpass, unitFault_single hf]
    exact u.streamOut_poisoned pav d
  · rw [hpav, Pavilion.setQueue_par, herr', hpar, herr]
  · rw [hpav, Pavilion.queue_setQueue_self, List.getElem?_modify_eq, hqueue]
    rfl

/-! ### The sums of a row (R37) -/

theorem State.passRow_masked {s : State} {cx : OpCtx} {d : Bytes} {x : View × Tensor} {w : BlockWeights} {size r : Nat}
    {ri : RowInputs} {m : RowMark} (h : m.masked = true) : (s.passRow cx d x w size ri m r).dropped = true := by
  simp [State.passRow, h]

/-- Without lanes the sum that leaves a column adds a product for every row of the block, in logical row order. -/
theorem passSum_noLanes {w : BlockWeights} (hw : w.laneWidth = 0) (row : List Num) (select n : Nat) :
    passSum w row select n = (List.range w.kr).foldl (fun acc k =>
      (((row.getD k (Num.zero false)).mul ((w.rows.getD k []).getD n (Num.zero false))).add (f32 acc)).toF32) 0 := by
  simp [passSum, hw]

theorem State.passRow_fed {s : State} {cx : OpCtx} {d : Bytes} {x : View × Tensor} {w : BlockWeights} {size r : Nat}
    {ri : RowInputs} {m : RowMark} (hw : w.laneWidth = 0) (h : m.masked = false) :
    (s.passRow cx d x w size ri m r).dropped = false ∧ ∀ n < w.nc,
      (s.passRow cx d x w size ri m r).sums.getD n 0 = (List.range w.kr).foldl (fun acc k =>
        ((((s.streamElem cx d x r k).value x.2.fmt).mul ((w.rows.getD k []).getD n (Num.zero false))).add (f32 acc)).toF32) 0 := by
  refine ⟨by simp [State.passRow, h, hw], fun n hn => ?_⟩
  have hsum : (s.passRow cx d x w size ri m r).sums.getD n 0 =
      passSum w (((List.range w.kr).map (s.streamElem cx d x r)).map (fun e => e.value x.2.fmt)) m.select n := by
    simp [State.passRow, h, hw, hn]
  rw [hsum, passSum_noLanes hw]
  refine List.foldl_ext _ _ _ (fun acc k hk => ?_)
  have hk' : k < w.kr := List.mem_range.1 hk
  simp [hk']

end Sys2Proof.Machine

/-! DRAIN: the values of a pass go to the local store or to a gradient tile (O37). -/

namespace Sys2Proof

/-- A value that a pass over a table writes at a place of its own stands there after the pass. -/
theorem NMap.get_foldl_set {α V : Type} {d : V} {place : α → Nat} {f : α → V → V} {l : List α} {x : α}
    (hl : l.Pairwise (fun a b => place a ≠ place b)) (hx : x ∈ l) (m : NMap V) :
    NMap.get d (l.foldl (fun m a => m.set (place a) (f a (NMap.get d m (place a)))) m) (place x) = f x (NMap.get d m (place x)) := by
  have hother {l : List α} (h : ∀ a ∈ l, place x ≠ place a) (m : NMap V) :
      NMap.get d (l.foldl (fun m a => m.set (place a) (f a (NMap.get d m (place a)))) m) (place x) = NMap.get d m (place x) := by
    induction l generalizing m with
    | nil => rfl
    | cons a l ih =>
      rw [List.foldl_cons, ih (fun b hb => h b (List.mem_cons_of_mem a hb)), NMap.get_set_ne _ _ _ _ _ (h a List.mem_cons_self)]
  induction l generalizing m with
  | nil => cases hx
  | cons a l ih =>
    obtain ⟨ha, hl⟩ := List.pairwise_cons.1 hl
    rw [List.foldl_cons]
    rcases List.mem_cons.1 hx with rfl | hx
    · rw [hother ha, NMap.get_set_self]
    · rw [ih hl hx, NMap.get_set_ne _ _ _ _ _ (ha x hx).symm]

end Sys2Proof

namespace Sys2Proof.Machine

/-! ### The values that a DRAIN writes (R39, R80) -/

/-- Whether a drain packs the columns of a row's segment to the front of the row. -/
def drainPacks (w : BlockWeights) (zf : Bool) : Bool := w.laneWidth != 0 && !w.rowOrient && !zf

/-- The place in its row where a column is drained. -/
def drainPlace (w : BlockWeights) (zf : Bool) (n : Nat) : Nat := if drainPacks w zf then n % w.laneWidth else n

/-- Whether a column is in the segment of its row. -/
def drainOwn (w : BlockWeights) (p : PassRow) (n : Nat) : Bool :=
  w.laneWidth == 0 || w.rowOrient || n / w.laneWidth == p.select

/-- What a drain writes of one column of a row. -/
def drainColumn (w : BlockWeights) (zf : Bool) (width r : Nat) (p : PassRow) (n : Nat) : Option DrainElem :=
  if !drainOwn w p n && drainPacks w zf then none
  else if drainPlace w zf n < width then
    some { pos := r * width + drainPlace w zf n, value := if drainOwn w p n then drainScale w p n (p.sums.getD n 0) else 0
           row := r, adapter := p.adapter, poisoned := p.poisoned }
  else none

theorem drainRow_eq (w : BlockWeights) (zf : Bool) (width r : Nat) (p : PassRow) : drainRow w zf width r p =
    if p.dropped then [] else (List.range w.nc).filterMap (drainColumn w zf width r p) := rfl

theorem drainColumn_some {w : BlockWeights} {zf : Bool} {width r n : Nat} {p : PassRow} {e : DrainElem}
    (h : drainColumn w zf width r p n = some e) : (drainPacks w zf = true → n / w.laneWidth = p.select) ∧
      drainPlace w zf n < width ∧ e.pos = r * width + drainPlace w zf n := by
  rw [drainColumn, Option.ite_none_left_eq_some, Option.ite_none_right_eq_some, Option.some.injEq] at h
  obtain ⟨hkept, hplace, rfl⟩ := h
  refine ⟨fun hpack => ?_, hplace, rfl⟩
  have hown : drainOwn w p n = true := by simpa [hpack] using hkept
  simp only [drainPacks, Bool.and_eq_true, bne_iff_ne, Bool.not_eq_true'] at hpack
  simpa [drainOwn, hpack] using hown

/-- The columns of a row go to places of their own. -/
theorem drainColumn_injective {w : BlockWeights} {zf : Bool} {width r n m : Nat} {p : PassRow} {e f : DrainElem}
    (hn : drainColumn w zf width r p n = some e) (hm : drainColumn w zf width r p m = some f) (hpos : e.pos = f.pos) : n = m := by
  have hplace : drainPlace w zf n = drainPlace w zf m := by
    have := (drainColumn_some hn).2.2
    have := (drainColumn_some hm).2.2
    omega
  unfold drainPlace at hplace
  split at hplace
  · next hpack => rw [← Nat.div_add_mod n w.laneWidth, ← Nat.div_add_mod m w.laneWidth, hplace,
      (drainColumn_some hn).1 hpack, (drainColumn_some hm).1 hpack]
  · exact hplace

theorem drainRow_pos {w : BlockWeights} {zf : Bool} {width r : Nat} {p : PassRow} {e : DrainElem}
    (he : e ∈ drainRow w zf width r p) : e.pos / width = r := by
  rw [drainRow_eq] at he
  split at he
  · cases he
  · obtain ⟨n, _, hn⟩ := List.mem_filterMap.1 he
    obtain ⟨_, hlt, hpos⟩ := drainColumn_some hn
    rw [hpos, Nat.mul_comm, Nat.mul_add_div (Nat.zero_lt_of_lt hlt), Nat.div_eq_of_lt hlt, Nat.add_zero]

theorem drainRow_pairwise (w : BlockWeights) (zf : Bool) (width r : Nat) (p : PassRow) :
    (drainRow w zf width r p).Pairwise (fun e f => e.pos ≠ f.pos) := by
  rw [drainRow_eq]
  split
  · exact .nil
  · exact List.pairwise_filterMap.2 (List.nodup_range.imp (fun hne e he f hf hpos => hne (drainColumn_injective he hf hpos)))

/-- The values of a drain go to places of their own. -/
theorem drainElems_pairwise (w : BlockWeights) (zf : Bool) (width : Nat) (rows : List PassRow) :
    (drainElems w zf width rows).Pairwise (fun e f => e.pos ≠ f.pos) := by
  unfold drainElems
  refine List.pairwise_flatten.2 ⟨fun l hl => ?_, List.pairwise_map.2 ?_⟩
  · obtain ⟨x, _, rfl⟩ := List.mem_map.1 hl
    exact drainRow_pairwise w zf width x.1 x.2
  · have hrows : ((List.range rows.length).zip rows).Pairwise (fun x y => x.1 ≠ y.1) := by
      refine List.Pairwise.of_map Prod.fst (fun _ _ => id) ?_
      rw [List.map_fst_zip (by simp)]
      exact List.nodup_range
    refine hrows.imp (fun hne e he f hf hpos => hne ?_)
    rw [← drainRow_pos he, ← drainRow_pos hf, hpos]

theorem poisonRows_nil (es : List DrainElem) : poisonRows [] es = es := by
  simp [poisonRows]

/-! ### A drain into a gradient tile (R114) -/

/-- The element of a tile that a drained value goes to. -/
def tilePlace (d : QDesc) (e : DrainElem) : Nat := fieldAt d.bytes 0x1A 2 * 128 + e.pos

/-- A tile once a drain's values have been written to it. -/
def GTile.drained (g : GTile) (d : QDesc) (es : List DrainElem) : GTile :=
  let accum := bitOf (fieldAt d.bytes 0x0D 1) 0
  let es := es.filter (fun e => decide (tilePlace d e < tileElements))
  let es := if accum then
      poisonRows ((es.filter (fun e => g.poison.contains (tilePlace d e / 32))).map (·.row)).eraseDups es else es
  let bad := ((es.filter (·.poisoned)).map (fun e => tilePlace d e / 32)).eraseDups
  let sound := coveredLines (es.map (fun e => (tilePlace d e, e.poisoned)))
  { g with
    data := es.foldl (fun m e => m.set (tilePlace d e) (if accum then fadd e.value (m.get 0 (tilePlace d e)) else e.value)) g.data
    poison := bad ++ g.poison.filter (fun l => !bad.contains l && !sound.contains l) }

theorem State.drainTile_eq (s : State) (pav : Nat) (d : QDesc) (es : List DrainElem) : s.drainTile pav d es =
    (s.fillTile pav d.plot d.plan (fieldAt d.bytes 0x18 2)).updPav pav (fun v => { v with
      gbuf := v.gbuf.map (fun g => if g.isFor d.plot d.plan (fieldAt d.bytes 0x18 2) then g.drained d es else g) }) := rfl

/-- A tile that holds +0.0 takes the drained values. -/
theorem GTile.drained_get {g : GTile} (hdata : g.data = []) (hpoison : g.poison = []) {d : QDesc} {es : List DrainElem}
    (hes : es.Pairwise (fun e f => e.pos ≠ f.pos)) {e : DrainElem} (he : e ∈ es) (hplace : tilePlace d e < tileElements) :
    (g.drained d es).data.get 0 (tilePlace d e) =
      if bitOf (fieldAt d.bytes 0x0D 1) 0 then fadd e.value 0 else e.value := by
  have hkept : (es.filter (fun e => decide (tilePlace d e < tileElements))).Pairwise
      (fun e f => tilePlace d e ≠ tilePlace d f) :=
    (hes.filter _).imp (fun hne heq => hne (Nat.add_left_cancel heq))
  have hrows (l : List DrainElem) : (if bitOf (fieldAt d.bytes 0x0D 1) 0 = true then
      poisonRows ((l.filter (fun e => g.poison.contains (tilePlace d e / 32))).map (·.row)).eraseDups l else l) = l := by
    simp [hpoison, poisonRows_nil]
  simp only [GTile.drained, hrows, hdata]
  exact NMap.get_foldl_set (f := fun e v => if bitOf (fieldAt d.bytes 0x0D 1) 0 then fadd e.value v else e.value) hkept
    (List.mem_filter.2 ⟨he, decide_eq_true hplace⟩) []

theorem GTile.isFor_fresh (p plan h clock : Nat) : (GTile.fresh p plan h clock).isFor p plan h = true := by
  simp [GTile.isFor, GTile.fresh]

/-- A tile of its own is added when the buffer has room. -/
theorem State.fillTile_new {s : State} {pav p plan h : Nat} (hnone : (s.pav pav).tileFor p plan h = none)
    (hroom : (s.pav pav).resident.length < 64) : s.fillTile pav p plan h = s.updPav pav (fun v => { v with
      gbuf := v.gbuf ++ [GTile.fresh p plan h (v.gbufClock + 1)], gbufClock := v.gbufClock + 1 }) := by
  simp [State.fillTile, State.makeTileRoom, hroom, hnone]

/-- The tile of a drain after it, when it is a new one. -/
theorem State.drainTile_new {s : State} {pav : Nat} {d : QDesc} (hnone : (s.pav pav).tileFor d.plot d.plan (fieldAt d.bytes 0x18 2) = none)
    (hroom : (s.pav pav).resident.length < 64) (es : List DrainElem) :
    (s.drainTile pav d es).mem = s.mem ∧ ((s.drainTile pav d es).pav pav).store = (s.pav pav).store ∧
    ((s.drainTile pav d es).pav pav).tileFor d.plot d.plan (fieldAt d.bytes 0x18 2) =
      some ((GTile.fresh d.plot d.plan (fieldAt d.bytes 0x18 2) ((s.pav pav).gbufClock + 1)).drained d es) := by
  rw [State.drainTile_eq, State.fillTile_new hnone hroom, State.pav_updPav_self, State.pav_updPav_self]
  refine ⟨rfl, rfl, ?_⟩
  have hkeep : (fun g : GTile => (if g.isFor d.plot d.plan (fieldAt d.bytes 0x18 2) then g.drained d es else g).isFor d.plot d.plan
      (fieldAt d.bytes 0x18 2)) = fun g => g.isFor d.plot d.plan (fieldAt d.bytes 0x18 2) := by
    funext g
    split <;> rfl
  simp only [Pavilion.tileFor] at hnone ⊢
  rw [List.find?_map]
  simp only [Function.comp_def, hkeep]
  simp [List.find?_append, hnone, GTile.isFor_fresh]

/-! ### A drain into the local store -/

/-- Two states give a Pavilion's descriptors the same places and the same bytes. -/
def State.sameBytes (s t : State) (pav : Nat) : Prop := t.plots = s.plots ∧ t.mem = s.mem ∧
  (t.pav pav).store = (s.pav pav).store ∧ (t.pav pav).storePoison = (s.pav pav).storePoison

section
variable {s t : State} {cx : OpCtx} (h : s.sameBytes t cx.pav)
include h

theorem State.sameBytes.locate (mem lane a : Nat) : t.locate cx mem lane a = s.locate cx mem lane a := by
  simp only [State.locate, State.plot, h.1]

theorem State.sameBytes.locByte (l : Loc) : t.locByte cx.pav l = s.locByte cx.pav l := by
  obtain ⟨_, hmem, hstore, _⟩ := h
  cases l <;> simp only [State.locByte, hmem, hstore]

theorem State.sameBytes.locPoison (l : Loc) : t.locPoison cx.pav l = s.locPoison cx.pav l := by
  obtain ⟨_, hmem, _, hpoison⟩ := h
  cases l <;> simp only [State.locPoison, hmem, hpoison]

theorem State.sameBytes.viewElem (x : Tensor) (v : View) (j : List Nat) : t.viewElem cx x v j = s.viewElem cx x v j := by
  have hbyte : t.locByte cx.pav = s.locByte cx.pav := funext h.locByte
  have hmark : t.locPoison cx.pav = s.locPoison cx.pav := funext h.locPoison
  simp only [State.viewElem, State.tensorElem, State.elemAt, h.locate, hbyte, hmark]

theorem State.sameBytes.stageElem (x : Tensor) (i : List Nat) (e : Elem) (g : Staged) :
    t.stageElem cx x i e g = s.stageElem cx x i e g := by
  simp only [State.stageElem, Staged.byte, h.locate, h.locByte]

end

theorem State.sameBytes.ctxOf {s t : State} {pav : Nat} (h : s.sameBytes t pav) (k : Nat) (d : QDesc) :
    t.ctxOf pav k d = s.ctxOf pav k d := by
  simp only [State.ctxOf, State.iterOf, State.planOf, State.listFor, State.plot, h.1]

theorem State.sameBytes.viewOf {s t : State} {pav : Nat} (h : s.sameBytes t pav) (k : Nat) (d : QDesc) (i : Nat) :
    t.viewOf pav k d i = s.viewOf pav k d i := by
  simp only [State.viewOf, State.iterOf, State.planOf, State.listFor, State.plot, h.1]

theorem State.sameBytes.drainCode {s t : State} {pav : Nat} (h : s.sameBytes t pav) (d : QDesc) (e : DrainElem) (v : W32) :
    drainCode t d e v = drainCode s d e v := by
  simp only [Sys2Proof.Machine.drainCode, State.planOf, State.plot, h.1]

/-- A drain into the local store writes one stage, which the places and the bytes that stand there determine. -/
theorem State.sameBytes.drainLocal {s t : State} {pav : Nat} (h : s.sameBytes t pav) (d : QDesc) (es : List DrainElem) :
    ∃ g, s.drainLocal pav d es = s.commitStore pav g ∧ t.drainLocal pav d es = t.commitStore pav g := by
  have hcx : s.sameBytes t (s.ctxOf pav 0 d).pav := h
  refine ⟨_, rfl, ?_⟩
  simp only [State.drainLocal, h.ctxOf, h.viewOf, hcx.viewElem, hcx.stageElem, h.drainCode]

theorem State.sameBytes_countSplits (s : State) (pav n : Nat) : s.sameBytes (s.countSplits pav n) pav := by
  refine ⟨rfl, rfl, ?_, ?_⟩ <;> rw [State.pav_countSplits]

/-! ### What a drain leaves -/

/-- A drain touches one Pavilion, and of it neither the Parterre nor the queue; memory keeps its bytes. -/
def State.drainFrame (s t : State) (pav : Nat) : Prop := (t.pav pav).par = (s.pav pav).par ∧
  (t.pav pav).queue 0 = (s.pav pav).queue 0 ∧ t.mem.bytes = s.mem.bytes ∧ s.otherPavs t pav ∧ s.keepsBut t [.mem, .plots, .pavs]

theorem State.drainFrame.refl (s : State) (pav : Nat) : s.drainFrame s pav :=
  ⟨rfl, rfl, rfl, fun _ _ => rfl, .refl s _⟩

theorem State.drainFrame.trans {s t u : State} {pav : Nat} (hst : s.drainFrame t pav) (htu : t.drainFrame u pav) :
    s.drainFrame u pav := by
  obtain ⟨hpar, hqueue, hbytes, hpavs, hkeep⟩ := hst
  obtain ⟨hpar', hqueue', hbytes', hpavs', hkeep'⟩ := htu
  exact ⟨hpar'.trans hpar, hqueue'.trans hqueue, hbytes'.trans hbytes, hpavs.trans hpavs', hkeep.trans hkeep'⟩

theorem State.drainFrame_updPav (s : State) (pav : Nat) {f : Pavilion → Pavilion} (hpar : ∀ v, (f v).par = v.par)
    (hqueue : ∀ v, (f v).queue 0 = v.queue 0) : s.drainFrame (s.updPav pav f) pav := by
  refine ⟨?_, ?_, rfl, (s.within_updPav 0 pav f).2.1, (s.within_updPav 0 pav f).2.2.mono (by simp)⟩ <;>
    rw [State.pav_updPav_self]
  · exact hpar _
  · exact hqueue _

theorem State.drainFrame_charge (s : State) (p pav : Nat) (f : Account → Account) : s.drainFrame (s.charge p f) pav :=
  ⟨rfl, rfl, rfl, fun _ _ => rfl, (s.within_charge p pav f).2.2.mono (by simp)⟩

/-- A Pavilion once a tile has left its buffer. -/
def Pavilion.spilled (v : Pavilion) (g : GTile) : Pavilion := { v with
  gbuf := v.gbuf.map (fun x => if x.isFor g.plot g.plan g.handle then { x with resident := false, data := [], poison := [] } else x)
  ctr := { v.ctr with spills := v.ctr.spills + 1 } }

theorem State.spillTile_eq (s : State) (pav payer : Nat) (bad : Bool) (g : GTile) : s.spillTile pav payer bad g =
    (s.updMem (fun m => m.enqueue (g.lines (s.slotOf pav g) payer bad))).updPav pav (·.spilled g) := rfl

theorem State.drainFrame_enqueue (s : State) (pav : Nat) (ws : List LineWrite) :
    s.drainFrame (s.updMem (fun m => m.enqueue ws)) pav :=
  ⟨rfl, rfl, rfl, fun _ _ => rfl, (s.keepsBut_updMem _).mono (by simp)⟩

theorem State.drainFrame_spillTile (s : State) (pav payer : Nat) (bad : Bool) (g : GTile) :
    s.drainFrame (s.spillTile pav payer bad g) pav := by
  rw [State.spillTile_eq]
  exact (s.drainFrame_enqueue pav _).trans (State.drainFrame_updPav _ pav (fun _ => rfl) (fun _ => rfl))

theorem State.drainFrame_makeTileRoom (s : State) (pav p plan h : Nat) : s.drainFrame (s.makeTileRoom pav p plan h) pav := by
  simp only [State.makeTileRoom]
  split
  · exact .refl s pav
  · split
    · exact s.drainFrame_spillTile pav p false _
    · exact .refl s pav

theorem State.drainFrame_fillTile (s : State) (pav p plan h : Nat) : s.drainFrame (s.fillTile pav p plan h) pav := by
  refine (s.drainFrame_makeTileRoom pav p plan h).trans ?_
  simp only [State.fillTile]
  split
  · exact State.drainFrame_updPav _ pav (fun _ => rfl) (fun _ => rfl)
  · split
    · exact State.drainFrame_updPav _ pav (fun _ => rfl) (fun _ => rfl)
    · exact (State.drainFrame_charge _ p pav _).trans (State.drainFrame_updPav _ pav (fun _ => rfl) (fun _ => rfl))

theorem State.drainFrame_drainTile (s : State) (pav : Nat) (d : QDesc) (es : List DrainElem) :
    s.drainFrame (s.drainTile pav d es) pav := by
  rw [State.drainTile_eq]
  exact (s.drainFrame_fillTile pav _ _ _).trans (State.drainFrame_updPav _ pav (fun _ => rfl) (fun _ => rfl))

theorem State.drainFrame_countSplits (s : State) (pav n : Nat) : s.drainFrame (s.countSplits pav n) pav :=
  s.drainFrame_updPav pav (fun _ => rfl) (fun _ => rfl)

theorem State.drainFrame_drainLocal (s : State) (pav : Nat) (d : QDesc) (es : List DrainElem) :
    s.drainFrame (s.drainLocal pav d es) pav :=
  s.drainFrame_updPav pav (fun _ => rfl) (fun _ => rfl)

theorem State.tileFor_markDone (s : State) (pav k i p plan h : Nat) :
    ((s.markDone pav k i).pav pav).tileFor p plan h = (s.pav pav).tileFor p plan h := by
  rw [State.pav_markDone, Pavilion.tileFor, Pavilion.setQueue_gbuf, Pavilion.tileFor]

/-! ### DRAIN -/

/-- The values of a descriptor's pass, with a row's width in its destination. -/
def Pavilion.drainValues (v : Pavilion) (d : QDesc) (width : Nat) : List DrainElem :=
  drainElems ((v.par.active.find (dBlock d.bytes)).getD (BlockWeights.clear (blockSize (dShape d.bytes))))
    (bitOf (fieldAt d.bytes 0x0D 1) 2) width (v.par.pass.get [] (dBlock d.bytes))

/-- Without a failed check no value is marked. -/
theorem map_poisoned_false (es : List DrainElem) : es.map (fun e => { e with poisoned := e.poisoned || false }) = es := by
  simp

section
variable {s : State} {pav i : Nat} {d : QDesc} (hup : s.pavDown pav = false) (hnext : (s.pav pav).nextDrain = some (i, d))
include hup hnext

theorem exec_drain_idle (hidle : (s.pav pav).par.pass.get [] (dBlock d.bytes) = [] ∨ (s.pav pav).par.begun = false) :
    exec (.drain pav []) s = .next (s.markDone pav 0 i) := by
  have hskip : ((s.pav pav).par.pass.get [] (dBlock d.bytes)).isEmpty || !(s.pav pav).par.begun := by
    rcases hidle with h | h <;> simp [h]
  show execDrain pav [] s = _
  simp only [execDrain, hup, hnext, Bool.false_eq_true, if_false, hskip, if_true]

theorem exec_drain_tile (hrows : (s.pav pav).par.pass.get [] (dBlock d.bytes) ≠ []) (hbegun : (s.pav pav).par.begun = true)
    (htile : bitOf (fieldAt d.bytes 0x0D 1) 3 = true)
    (hsound : s.fillPoisoned pav d.plot d.plan (fieldAt d.bytes 0x18 2) = false) :
    exec (.drain pav []) s =
      .next (((s.countSplits pav 0).drainTile pav d ((s.pav pav).drainValues d 128)).markDone pav 0 i) := by
  have hskip : ((s.pav pav).par.pass.get [] (dBlock d.bytes)).isEmpty = false := by simpa using hrows
  show execDrain pav [] s = _
  simp only [execDrain, hup, hnext, hskip, hbegun, htile, hsound, Bool.false_eq_true, if_false, if_true, Bool.and_false,
    Bool.not_true, Bool.or_self, unitFault_nil, map_poisoned_false, State.meetFaults_nil, Pavilion.drainValues]

theorem exec_drain_local (hrows : (s.pav pav).par.pass.get [] (dBlock d.bytes) ≠ []) (hbegun : (s.pav pav).par.begun = true)
    (hlocal : bitOf (fieldAt d.bytes 0x0D 1) 3 = false) : ∃ n, exec (.drain pav []) s =
      .next (((s.countSplits pav n).drainLocal pav d ((s.pav pav).drainValues d
        ((s.viewOf pav 0 d (fieldAt d.bytes 8 4)).1.extents.getD 0 0))).markDone pav 0 i) := by
  have hskip : ((s.pav pav).par.pass.get [] (dBlock d.bytes)).isEmpty = false := by simpa using hrows
  have hexec : exec (.drain pav []) s = execDrain pav [] s := rfl
  simp only [hexec, execDrain, hup, hnext, hskip, hbegun, hlocal, Bool.false_eq_true, if_false, Bool.false_and,
    Bool.not_true, Bool.or_self, unitFault_nil, map_poisoned_false, State.meetFaults_nil, Pavilion.drainValues]
  exact ⟨_, rfl⟩

/-- What every DRAIN without a failed check leaves. -/
theorem drain_frame (hsound : s.fillPoisoned pav d.plot d.plan (fieldAt d.bytes 0x18 2) = false) :
    ∃ t, exec (.drain pav []) s = .next t ∧ (∃ e, ((t.pav pav).queue 0)[i]? = some e ∧ e.executed = true ∧ e.bytes = d.bytes) ∧
      (t.pav pav).par = (s.pav pav).par ∧ t.mem.bytes = s.mem.bytes ∧ s.otherPavs t pav ∧ s.keepsBut t [.mem, .plots, .pavs] := by
  have hrun : ∃ u, exec (.drain pav []) s = .next (u.markDone pav 0 i) ∧ s.drainFrame u pav := by
    by_cases hidle : (s.pav pav).par.pass.get [] (dBlock d.bytes) = [] ∨ (s.pav pav).par.begun = false
    · exact ⟨s, exec_drain_idle hup hnext hidle, .refl s pav⟩
    · obtain ⟨hrows, hbegun⟩ := not_or.1 hidle
      rw [Bool.not_eq_false] at hbegun
      cases htile : bitOf (fieldAt d.bytes 0x0D 1) 3 with
      | true => exact ⟨_, exec_drain_tile hup hnext hrows hbegun htile hsound,
          (s.drainFrame_countSplits pav 0).trans (State.drainFrame_drainTile _ pav d _)⟩
      | false =>
        obtain ⟨n, hexec⟩ := exec_drain_local hup hnext hrows hbegun htile
        exact ⟨_, hexec, (s.drainFrame_countSplits pav n).trans (State.drainFrame_drainLocal _ pav d _)⟩
  obtain ⟨u, hexec, hpar, hqueue, hbytes, hpavs, hkeep⟩ := hrun
  have hdone := u.within_markDone d.plot pav 0 i
  refine ⟨_, hexec, ⟨_, State.getElem?_markDone (by rw [hqueue]; exact Pavilion.getElem?_of_nextDrain hnext), rfl, rfl⟩, ?_, ?_,
    hpavs.trans hdone.2.1, hkeep.trans (hdone.2.2.mono (by simp))⟩
  · rw [State.pav_markDone, Pavilion.setQueue_par, hpar]
  · rw [State.markDone_eq]
    exact hbytes

theorem drain_idle (hidle : (s.pav pav).par.pass.get [] (dBlock d.bytes) = [] ∨ (s.pav pav).par.begun = false) :
    ∃ t, exec (.drain pav []) s = .next t ∧ (t.pav pav).store = (s.pav pav).store ∧ (t.pav pav).gbuf = (s.pav pav).gbuf ∧
      s.keepsBut t [.pavs] := by
  refine ⟨_, exec_drain_idle hup hnext hidle, ?_, ?_, (s.within_markDone d.plot pav 0 i).2.2⟩ <;> rw [State.pav_markDone]
  · exact Pavilion.setQueue_store _ _ _
  · exact Pavilion.setQueue_gbuf _ _ _

/-- A DRAIN whose tile does not stand in the buffer starts one. -/
theorem drain_newTile (hrows : (s.pav pav).par.pass.get [] (dBlock d.bytes) ≠ []) (hbegun : (s.pav pav).par.begun = true)
    (htile : bitOf (fieldAt d.bytes 0x0D 1) 3 = true)
    (hnone : (s.pav pav).tileFor d.plot d.plan (fieldAt d.bytes 0x18 2) = none) (hroom : (s.pav pav).resident.length < 64) :
    ∃ t g, exec (.drain pav []) s = .next t ∧ (t.pav pav).store = (s.pav pav).store ∧ t.mem = s.mem ∧
      (t.pav pav).tileFor d.plot d.plan (fieldAt d.bytes 0x18 2) = some g ∧ g.resident = true ∧
      (∀ e ∈ (s.pav pav).drainValues d 128, fieldAt d.bytes 0x1A 2 * 128 + e.pos < 8192 →
        g.data.get 0 (fieldAt d.bytes 0x1A 2 * 128 + e.pos) =
          (if bitOf (fieldAt d.bytes 0x0D 1) 0 then fadd e.value 0 else e.value)) := by
  have hsound : s.fillPoisoned pav d.plot d.plan (fieldAt d.bytes 0x18 2) = false := by
    simp only [State.fillPoisoned, hnone]
  have hpav := s.pav_countSplits pav 0
  obtain ⟨u, hu⟩ : ∃ u, u = s.countSplits pav 0 := ⟨_, rfl⟩
  rw [← hu] at hpav
  have hnone' : (u.pav pav).tileFor d.plot d.plan (fieldAt d.bytes 0x18 2) = none := by rw [hpav]; exact hnone
  have hroom' : (u.pav pav).resident.length < 64 := by rw [hpav]; exact hroom
  obtain ⟨hmem, hstore, htileFor⟩ := State.drainTile_new hnone' hroom' ((s.pav pav).drainValues d 128)
  have htileFor' := (State.tileFor_markDone _ pav 0 i _ _ _).trans htileFor
  have hexec := exec_drain_tile hup hnext hrows hbegun htile hsound
  rw [← hu] at hexec
  refine ⟨_, _, hexec, ?_, ?_, htileFor', rfl, fun e he hplace => GTile.drained_get rfl rfl (drainElems_pairwise _ _ _ _) he hplace⟩
  · rw [State.pav_markDone, Pavilion.setQueue_store, hstore, hpav]
  · rw [State.markDone_eq]
    exact hmem.trans (hu ▸ rfl)

theorem drain_local (hrows : (s.pav pav).par.pass.get [] (dBlock d.bytes) ≠ []) (hbegun : (s.pav pav).par.begun = true)
    (hlocal : bitOf (fieldAt d.bytes 0x0D 1) 3 = false) :
    ∃ t, exec (.drain pav []) s = .next t ∧ (t.pav pav).gbuf = (s.pav pav).gbuf ∧ s.keepsBut t [.pavs] ∧
      (t.pav pav).store = ((s.drainLocal pav d ((s.pav pav).drainValues d
        ((s.viewOf pav 0 d (fieldAt d.bytes 8 4)).1.extents.getD 0 0))).pav pav).store := by
  obtain ⟨n, hexec⟩ := exec_drain_local hup hnext hrows hbegun hlocal
  obtain ⟨g, hg, hg'⟩ := (s.sameBytes_countSplits pav n).drainLocal d ((s.pav pav).drainValues d
    ((s.viewOf pav 0 d (fieldAt d.bytes 8 4)).1.extents.getD 0 0))
  rw [hg'] at hexec
  rw [hg]
  refine ⟨_, hexec, ?_, ?_, ?_⟩
  · rw [State.pav_markDone, Pavilion.setQueue_gbuf, State.pav_commitStore, State.pav_countSplits]
  · exact (((s.within_countSplits d.plot pav n).trans (State.within_commitStore _ d.plot pav g)).trans
      (State.within_markDone _ d.plot pav 0 i)).2.2
  · rw [State.pav_markDone, Pavilion.setQueue_store, State.pav_commitStore, State.pav_commitStore, State.pav_countSplits]

end

/-- A sum that no zero-point and no column scale changes: the row's scale alone. -/
theorem drainScale_plain {w : BlockWeights} {r : PassRow} {n : Nat} (v : W32) (hzero : r.zeroPoint = none)
    (hscale : w.colScales[n]? = none) : (r.rowScale = 0 → drainScale w r n v = v) ∧
      (r.rowScale ≠ 0 → drainScale w r n v = ((f32 v).scale r.rowScale).toF32) := by
  simp only [drainScale, hzero, hscale]
  exact ⟨fun h => if_pos h, fun h => if_neg h⟩

end Sys2Proof.Machine

/-! GBUF_SPILL: the oldest tile goes to its spill slot, and the settlement of O37. -/

namespace Sys2Proof.Machine

/-! ### Writes at the ends of the controllers' queues (R159) -/

/-- A queue takes the writes of its controller, in their order. -/
theorem Mem.queue_enqueue (m : Mem) (ws : List LineWrite) (k : Nat) : (m.enqueue ws).queues.get [] k =
    m.queues.get [] k ++ ws.filter (fun w => controllerOf (w.line * 64) = k) := by
  have hfold (q : NMap (List LineWrite)) : NMap.get [] (ws.foldl (fun q w => q.modify [] (controllerOf (w.line * 64)) (· ++ [w])) q) k =
      NMap.get [] q k ++ ws.filter (fun w => controllerOf (w.line * 64) = k) := by
    induction ws generalizing q with
    | nil => simp
    | cons w ws ih =>
      rw [List.foldl_cons, ih]
      by_cases hk : controllerOf (w.line * 64) = k
      · subst hk
        simp [NMap.modify, NMap.get_set_self]
      · rw [NMap.get_modify_ne _ _ _ _ _ (Ne.symm hk), List.filter_cons_of_neg (by simpa using hk)]
  exact hfold m.queues

theorem queuedByte_append (q ws : List LineWrite) (b : Nat) :
    queuedByte (q ++ ws) b = (queuedByte ws b).or (queuedByte q b) := by
  induction q with
  | nil => simp [queuedByte]
  | cons w q ih =>
    simp only [List.cons_append, queuedByte, ih]
    cases queuedByte ws b <;> rfl

/-- A queued byte comes from a cell of a write. -/
theorem exists_of_queuedByte {ws : List LineWrite} {b : Nat} {v : Byte} (h : queuedByte ws b = some v) :
    ∃ w ∈ ws, ∃ c ∈ w.bytes, c.1 = b ∧ c.2 = v := by
  induction ws with
  | nil => cases h
  | cons w ws ih =>
    simp only [queuedByte] at h
    split at h
    · next u hu =>
      obtain ⟨x, hx, c, hc, heq⟩ := ih (hu.trans h)
      exact ⟨x, List.mem_cons_of_mem w hx, c, hc, heq⟩
    · obtain ⟨c, hc, rfl⟩ := Option.map_eq_some_iff.1 h
      exact ⟨w, List.mem_cons_self, c, List.mem_of_find?_eq_some hc, by simpa using List.find?_some hc, rfl⟩

theorem queuedByte_ne_none {ws : List LineWrite} {b : Nat} {w : LineWrite} (hw : w ∈ ws) {c : Host.Cell} (hc : c ∈ w.bytes)
    (hb : c.1 = b) : queuedByte ws b ≠ none := by
  induction ws with
  | nil => cases hw
  | cons x ws ih =>
    simp only [queuedByte]
    split
    · simp
    · next hnone =>
      rcases List.mem_cons.1 hw with rfl | hw
      · simp only [ne_eq, Option.map_eq_none_iff, List.find?_eq_none, not_forall]
        exact ⟨c, hc, by simpa using hb⟩
      · exact absurd hnone (ih hw)

/-! ### Line writes that carry a byte string -/

/-- Writes that carry a byte string at an address: each cell stands in its write's line and holds the string's byte, and
each byte of the string has one. -/
def Carries (ws : List LineWrite) (a : Nat) (bs : Bytes) : Prop :=
  (∀ w ∈ ws, ∀ c ∈ w.bytes, c.1 / 64 = w.line ∧ a ≤ c.1 ∧ c.1 < a + bs.length ∧ c.2 = bs.getD (c.1 - a) 0) ∧
  ∀ i < bs.length, ∃ w ∈ ws, w.line = (a + i) / 64 ∧ ∃ c ∈ w.bytes, c.1 = a + i

theorem carries_lineWrites (plot a : Nat) (bs : Bytes) (bad : Bool) : Carries (lineWrites plot a bs bad) a bs := by
  unfold Carries lineWrites
  constructor
  · intro w hw c hc
    obtain ⟨i, _, rfl⟩ := List.mem_map.1 hw
    obtain ⟨j, hj, rfl⟩ := List.mem_map.1 hc
    have hj := List.mem_range.1 hj
    refine ⟨?_, ?_, ?_, ?_⟩ <;> simp only
    · omega
    · omega
    · omega
    · simp
  · intro i hi
    have hne : bs.isEmpty = false := by
      cases bs
      · cases hi
      · rfl
    refine ⟨_, List.mem_map.2 ⟨(a + i) / 64 - a / 64, ?_, rfl⟩, ?_, _,
      List.mem_map.2 ⟨a + i - max a ((a / 64 + ((a + i) / 64 - a / 64)) * 64), ?_, rfl⟩, ?_⟩
    · simp only [hne, Bool.false_eq_true, if_false, List.mem_range]
      omega
    · simp only
      omega
    · simp only [List.mem_range]
      omega
    · simp only
      omega

/-- A line lies with all its bytes at one controller. -/
theorem controllerOf_line (b : Nat) : controllerOf (b / 64 * 64) = controllerOf b := by
  unfold controllerOf
  have h : b / 64 * 64 / 4096 = b / 4096 := by omega
  split_ifs <;> omega

section
variable {m : Mem} {ws : List LineWrite} {a : Nat} {bs : Bytes} (h : Carries ws a bs)
include h

/-- Every agent reads the bytes that have been queued. -/
theorem Mem.read_enqueue_inside {i : Nat} (hi : i < bs.length) : (m.enqueue ws).read (a + i) = bs.getD i 0 := by
  obtain ⟨w, hw, hline, c, hc, hb⟩ := h.2 i hi
  have hmem : w ∈ ws.filter (fun w => controllerOf (w.line * 64) = controllerOf (a + i)) :=
    List.mem_filter.2 ⟨hw, by rw [hline, controllerOf_line]; exact decide_eq_true rfl⟩
  obtain ⟨v, hv⟩ := Option.ne_none_iff_exists'.1 (queuedByte_ne_none hmem hc hb)
  obtain ⟨x, hx, e, he, hat, rfl⟩ := exists_of_queuedByte hv
  obtain ⟨_, _, _, hval⟩ := h.1 x (List.mem_filter.1 hx).1 e he
  rw [Mem.read, Mem.queue_enqueue, queuedByte_append, hv]
  simpa [hat] using hval

theorem Mem.read_enqueue_outside {b : Nat} (hb : b < a ∨ a + bs.length ≤ b) : (m.enqueue ws).read b = m.read b := by
  have hnone : queuedByte (ws.filter (fun w => controllerOf (w.line * 64) = controllerOf b)) b = none := by
    cases hq : queuedByte (ws.filter (fun w => controllerOf (w.line * 64) = controllerOf b)) b with
    | none => rfl
    | some v =>
      obtain ⟨w, hw, c, hc, rfl, _⟩ := exists_of_queuedByte hq
      obtain ⟨_, hlo, hhi, _⟩ := h.1 w (List.mem_filter.1 hw).1 c hc
      omega
  rw [Mem.read, Mem.queue_enqueue, queuedByte_append, hnone]
  rfl

/-- Writes that are marked mark the lines of all their bytes (R172). -/
theorem Mem.linePoisoned_enqueue (hbad : ∀ w ∈ ws, w.poisoned = true) {i : Nat} (hi : i < bs.length) :
    (m.enqueue ws).linePoisoned ((a + i) / 64) = true := by
  obtain ⟨w, hw, hline, _⟩ := h.2 i hi
  have hmark {l : List LineWrite} (hl : ∀ w ∈ l, w.poisoned = true) (p : Bool) (n : Nat) : l.foldl (fun p w =>
      if w.line = n then (if w.poisoned then true else if w.bytes.length = 64 then false else p) else p) p =
      (p || l.any (fun w => w.line = n)) := by
    induction l generalizing p with
    | nil => simp
    | cons x l ih =>
      rw [List.foldl_cons, ih (fun y hy => hl y (List.mem_cons_of_mem x hy)), List.any_cons, if_pos (hl x List.mem_cons_self)]
      by_cases hx : x.line = n <;> simp [hx]
  rw [Mem.linePoisoned, Mem.queue_enqueue, List.foldl_append, hmark (fun x hx => hbad x (List.mem_filter.1 hx).1), Bool.or_eq_true]
  exact .inr (List.any_eq_true.2 ⟨w, List.mem_filter.2 ⟨hw, by simp [hline]⟩, by simp [hline]⟩)

end

/-! ### The lines of a tile (R117, R321) -/

theorem GTile.bytes_length (g : GTile) : g.bytes.length = 32768 := by
  have hword (j : Nat) : (natLE 4 (g.data.get 0 j).toNat).length = 4 := natLE_length 4 _
  simp only [GTile.bytes, List.length_flatten, List.map_map, Function.comp_def, hword, List.map_const', List.sum_replicate,
    List.length_range, tileElements, smul_eq_mul, Nat.reduceMul]

theorem GTile.carries_lines (g : GTile) (a payer : Nat) (bad : Bool) : Carries (g.lines a payer bad) a g.bytes := by
  obtain ⟨hcells, hall⟩ := carries_lineWrites payer a g.bytes false
  constructor
  · intro w hw
    obtain ⟨x, hx, rfl⟩ := List.mem_map.1 hw
    exact hcells x hx
  · intro i hi
    obtain ⟨x, hx, hline, hc⟩ := hall i hi
    exact ⟨_, List.mem_map.2 ⟨x, hx, rfl⟩, hline, hc⟩

theorem GTile.lines_poisoned (g : GTile) (a payer : Nat) : ∀ w ∈ g.lines a payer true, w.poisoned = true := by
  intro w hw
  obtain ⟨x, _, rfl⟩ := List.mem_map.1 hw
  simp only [Bool.true_or]

/-! ### The victim (R115) -/

/-- A tile's last access is no later than another's; of two with one time the lower handle goes first. -/
def GTile.before (g y : GTile) : Prop := g.lastAccess < y.lastAccess ∨ (g.lastAccess = y.lastAccess ∧ g.handle ≤ y.handle)

theorem GTile.before.trans {g y z : GTile} (hgy : g.before y) (hyz : y.before z) : g.before z := by
  unfold GTile.before at *
  omega

/-- The tile that goes first of one at hand and another. -/
def olderOf (b : Option GTile) (g : GTile) : Option GTile :=
  b.elim (some g) (fun c => if g.lastAccess < c.lastAccess ∨ (g.lastAccess = c.lastAccess ∧ g.handle < c.handle) then some g else some c)

theorem Pavilion.victim_eq (v : Pavilion) : v.victim = (v.resident.filter (fun g =>
    !(g.plot == plotOf v.commands.1 && (tilesOf v.commands.1).contains (g.plan, g.handle)))).foldl olderOf none := by
  simp only [Pavilion.victim]
  congr 1
  funext b g
  cases b <;> rfl

theorem olderOf_before {b : Option GTile} {g x : GTile} (h : olderOf b g = some x) :
    x.before g ∧ ∀ c, b = some c → x.before c := by
  unfold olderOf GTile.before at *
  cases b with
  | none =>
    obtain rfl : g = x := Option.some.inj h
    exact ⟨by omega, fun c hc => nomatch hc⟩
  | some c =>
    simp only [Option.elim_some] at h
    split at h
    all_goals
      obtain rfl := Option.some.inj h
      refine ⟨by omega, fun e he => ?_⟩
      obtain rfl := Option.some.inj he
      omega

theorem exists_olderOf (b : Option GTile) (g : GTile) : ∃ x, olderOf b g = some x := by
  cases b with
  | none => exact ⟨g, rfl⟩
  | some c => exact ⟨_, (apply_ite some _ g c).symm⟩

theorem foldl_olderOf_before {l : List GTile} {b : Option GTile} {x : GTile} (h : l.foldl olderOf b = some x) :
    (∀ c, b = some c → x.before c) ∧ ∀ y ∈ l, x.before y := by
  induction l generalizing b with
  | nil =>
    refine ⟨fun c hc => ?_, fun y hy => nomatch hy⟩
    obtain rfl : x = c := Option.some.inj (h.symm.trans hc)
    exact .inr ⟨rfl, le_rfl⟩
  | cons g l ih =>
    obtain ⟨hacc, hrest⟩ := ih h
    obtain ⟨o, ho⟩ := exists_olderOf b g
    obtain ⟨hg, hb⟩ := olderOf_before ho
    refine ⟨fun c hc => (hacc o ho).trans (hb c hc), fun y hy => ?_⟩
    rcases List.mem_cons.1 hy with rfl | hy
    · exact (hacc o ho).trans hg
    · exact hrest y hy

theorem Pavilion.victim_before {v : Pavilion} {g : GTile} (h : v.victim = some g) {y : GTile} (hy : y ∈ v.resident)
    (hfree : ¬ (y.plot = plotOf v.commands.1 ∧ (y.plan, y.handle) ∈ tilesOf v.commands.1)) : g.before y := by
  rw [Pavilion.victim_eq] at h
  exact (foldl_olderOf_before h).2 y (List.mem_filter.2 ⟨hy, by simpa [-not_and, not_and_or] using hfree⟩)

/-! ### GBUF_SPILL -/

/-- A spill marks the Pavilion and tells, when the buffer's words hold an error. -/
def State.spillError (t : State) (pav : Nat) (g : GTile) : State :=
  (t.updPav pav (fun v => v.flag (2, 1))).raise g.plot (t.errOf 2 2 1 pav ((t.plot g.plot).stepOf g.plan))

section
variable {s : State} {pav : Nat} {g : GTile} {fs : List HwFault} {need : List (Nat × Nat)}

theorem exec_gbufSpill_full (hup : s.pavDown pav = false)
    (hneed : need = (s.pav pav).missing (plotOf (s.pav pav).commands.1) (tilesOf (s.pav pav).commands.1)) (hsome : need ≠ [])
    (hfull : 64 < (s.pav pav).resident.length + need.length) (hvictim : (s.pav pav).victim = some g) :
    exec (.gbufSpill pav fs) s =
      if s.mem.room (g.lines (s.slotOf pav g) (plotOf (s.pav pav).commands.1) (fs.contains .gbufUncorrected)) &&
          !s.exitWants (g.lines (s.slotOf pav g) (plotOf (s.pav pav).commands.1) (fs.contains .gbufUncorrected)) then
        .next (if fs.contains .gbufUncorrected then
          (s.spillTile pav (plotOf (s.pav pav).commands.1) (fs.contains .gbufUncorrected) g).spillError pav g
        else s.spillTile pav (plotOf (s.pav pav).commands.1) (fs.contains .gbufUncorrected) g)
      else .next s := by
  subst hneed
  show execGbufSpill pav fs s = _
  have hgo : (s.pavDown pav || ((s.pav pav).missing (plotOf (s.pav pav).commands.1) (tilesOf (s.pav pav).commands.1)).isEmpty ||
      decide ((s.pav pav).resident.length + ((s.pav pav).missing (plotOf (s.pav pav).commands.1)
        (tilesOf (s.pav pav).commands.1)).length ≤ 64)) = false := by
    simp [hup, hsome, hfull]
  simp only [execGbufSpill, hgo, Bool.false_eq_true, if_false, hvictim]
  rfl

theorem exec_gbufSpill_idle (hneed : need = (s.pav pav).missing (plotOf (s.pav pav).commands.1) (tilesOf (s.pav pav).commands.1))
    (hroom : need = [] ∨ (s.pav pav).resident.length + need.length ≤ 64) : exec (.gbufSpill pav fs) s = .next s := by
  subst hneed
  show execGbufSpill pav fs s = _
  simp only [execGbufSpill]
  rw [if_pos]
  rcases hroom with h | h <;> simp [h]

end

theorem State.pav_spillTile (s : State) (pav payer : Nat) (bad : Bool) (g : GTile) :
    (s.spillTile pav payer bad g).pav pav = (s.pav pav).spilled g := by
  rw [State.spillTile_eq, State.pav_updPav_self, State.pav_updMem]

/-- What a spill leaves of the state. -/
theorem State.spillTile_spec (s : State) (pav payer : Nat) (bad : Bool) (g : GTile) :
    (s.spillTile pav payer bad g).memHolds (s.slotOf pav g) g.bytes ∧
    s.bytesOutside (s.spillTile pav payer bad g) (s.slotOf pav g) 32768 ∧
    (s.spillTile pav payer bad g).mem.bytes = s.mem.bytes ∧
    (s.spillTile pav payer bad g).pav pav = (s.pav pav).spilled g ∧
    s.otherPavs (s.spillTile pav payer bad g) pav ∧ s.keepsBut (s.spillTile pav payer bad g) [.mem, .pavs] ∧
    (bad = true → ∀ i < 32768, (s.spillTile pav payer bad g).mem.linePoisoned ((s.slotOf pav g + i) / 64) = true) := by
  have hcarry := g.carries_lines (s.slotOf pav g) payer bad
  have hlen := g.bytes_length
  have hin := ((s.within_updMem g.plot pav (fun m => m.enqueue (g.lines (s.slotOf pav g) payer bad))).mono
    (l' := [.mem, .pavs]) (by simp)).trans ((State.within_updPav _ g.plot pav (·.spilled g)).mono (by simp))
  obtain ⟨_, _, hbytes, hpavs, _⟩ := s.drainFrame_spillTile pav payer bad g
  refine ⟨fun i hi => Mem.read_enqueue_inside hcarry hi, fun b hb => ?_, hbytes, s.pav_spillTile pav payer bad g, hpavs, hin.2.2,
    fun hbad i hi => ?_⟩
  · rw [← hlen] at hb
    exact Mem.read_enqueue_outside hcarry hb
  · subst hbad
    exact Mem.linePoisoned_enqueue hcarry (g.lines_poisoned _ payer) (Nat.lt_of_lt_of_eq hi hlen.symm)

/-- A spill of a tile whose words hold an error sets GBUF_UNCORRECTED and tells. -/
theorem State.spillError_spec (t : State) (pav : Nat) (g : GTile) : (t.spillError pav g).mem = t.mem ∧
    (t.spillError pav g).pav pav = { t.pav pav with err := setFlag (t.pav pav).err 1 } ∧ t.otherPavs (t.spillError pav g) pav := by
  have htells := (t.updPav pav (fun v => v.flag (2, 1))).tells_raise g.plot (t.errOf 2 2 1 pav ((t.plot g.plot).stepOf g.plan))
  refine ⟨htells.mem, ?_, (t.within_updPav g.plot pav _).2.1.trans (State.otherPavs_of_pavs_eq htells.pavs pav)⟩
  rw [State.spillError, htells.pav, State.pav_updPav_self]
  rfl

theorem gbufSpill_spills {s : State} {pav a : Nat} {l : List QDesc} {need : List (Nat × Nat)} {g : GTile} {fs : List HwFault}
    (hup : s.pavDown pav = false) (hl : l = (s.pav pav).commands.1) (hneed : need = (s.pav pav).missing (plotOf l) (tilesOf l))
    (hsome : need ≠ []) (hfull : 64 < (s.pav pav).resident.length + need.length) (hvictim : (s.pav pav).victim = some g)
    (ha : a = s.slotOf pav g) (hroom : s.mem.room (g.lines a (plotOf l) (fs.contains .gbufUncorrected)) = true)
    (hexit : s.exitWants (g.lines a (plotOf l) (fs.contains .gbufUncorrected)) = false) :
    ∃ t, exec (.gbufSpill pav fs) s = .next t ∧ t.memHolds a g.bytes ∧ s.bytesOutside t a 32768 ∧ t.mem.bytes = s.mem.bytes ∧
      (t.pav pav).ctr.spills = (s.pav pav).ctr.spills + 1 ∧
      (t.pav pav).gbuf = (s.pav pav).gbuf.map (fun y =>
        if y.isFor g.plot g.plan g.handle then { y with resident := false, data := [], poison := [] } else y) ∧
      (t.pav pav).store = (s.pav pav).store ∧ s.otherPavs t pav ∧
      (fs.contains .gbufUncorrected = false → s.keepsBut t [.mem, .pavs]) ∧
      (fs.contains .gbufUncorrected = true → (t.pav pav).err = setFlag (s.pav pav).err 1 ∧
        ∀ i < 32768, t.mem.linePoisoned ((a + i) / 64) = true) := by
  subst hl ha
  have hexec := exec_gbufSpill_full (fs := fs) hup hneed hsome hfull hvictim
  rw [hroom, hexit, Bool.not_false, Bool.and_self, if_pos rfl] at hexec
  generalize fs.contains .gbufUncorrected = bad at hexec
  obtain ⟨hholds, houtside, hbytes, hpav, hpavs, hkeep, hmarks⟩ :=
    s.spillTile_spec pav (plotOf (s.pav pav).commands.1) bad g
  generalize s.spillTile pav (plotOf (s.pav pav).commands.1) bad g = u at *
  cases bad with
  | false =>
    refine ⟨u, hexec, ?_⟩
    rw [hpav]
    exact ⟨hholds, houtside, hbytes, rfl, rfl, rfl, hpavs, fun _ => hkeep, fun h => Bool.noConfusion h⟩
  | true =>
    obtain ⟨hmem, herr, hothers⟩ := u.spillError_spec pav g
    have hpav' : (u.spillError pav g).pav pav = { (s.pav pav).spilled g with err := setFlag (s.pav pav).err 1 } := by
      rw [herr, hpav]
      rfl
    refine ⟨u.spillError pav g, hexec, ?_⟩
    rw [hpav', State.memHolds, State.bytesOutside, hmem]
    exact ⟨hholds, houtside, hbytes, rfl, rfl, rfl, hpavs.trans hothers, fun h => Bool.noConfusion h, fun _ => ⟨rfl, hmarks rfl⟩⟩

theorem gbufSpill_waits {s : State} {pav a : Nat} {l : List QDesc} {need : List (Nat × Nat)} {g : GTile} {fs : List HwFault}
    (hup : s.pavDown pav = false) (hl : l = (s.pav pav).commands.1) (hneed : need = (s.pav pav).missing (plotOf l) (tilesOf l))
    (hsome : need ≠ []) (hfull : 64 < (s.pav pav).resident.length + need.length) (hvictim : (s.pav pav).victim = some g)
    (ha : a = s.slotOf pav g) (hroom : s.mem.room (g.lines a (plotOf l) (fs.contains .gbufUncorrected)) = false) :
    exec (.gbufSpill pav fs) s = .next s := by
  subst hl ha
  rw [exec_gbufSpill_full hup hneed hsome hfull hvictim, hroom]
  rfl

/-- A Pavilion that does not run runs no command of its array. -/
theorem exec_array_down {s : State} {pav : Nat} (hdown : s.pavDown pav = true) (fs : List HwFault) :
    exec (.wload pav fs) s = .next s ∧ exec (.stream pav fs) s = .next s ∧ exec (.drain pav fs) s = .next s ∧
      exec (.gbufSpill pav fs) s = .next s := by
  refine ⟨if_pos hdown, if_pos hdown, if_pos hdown, if_pos ?_⟩
  simp [hdown]

/-! ### O37 -/

/-- Settles O37, each command by its own lemmas: the descriptor that runs, the block, the rows or the tile that it leaves,
and the frame of its writes. -/
theorem arrayCommands : Obligations.ArrayCommands := by
  unfold Obligations.ArrayCommands
  refine ⟨?load, ?loadFrame, ?reload, ?stream, ?streamFault, ?row, ?drain, ?scale, ?spill, ?idle, ?down⟩
  case load =>
    intro s pav i d l x es saved hup hreload hnext hplain hfull hx hes hsaved
    exact wload_view hup hreload hnext hplain hfull hx hes hsaved
  case loadFrame =>
    intro s pav i d l hup hreload hnext
    exact ⟨wload_frame hup hreload hnext, fun f b hfull hf => wload_fault hup hreload hnext hfull hf⟩
  case reload =>
    intro s pav d fs hup hreload
    exact wload_reload hup hreload fs
  case stream =>
    intro s pav i n size d x ri marks swaps act w hup hnext hx hri hn hmarks hsize hswaps hact hw
    exact stream_sound hup hnext hx hri hn hmarks hsize hswaps hact hw
  case streamFault =>
    intro s pav i b d f hup hnext hf
    exact stream_fault hup hnext hf
  case row =>
    intro s cx d x w size r ri m hw
    exact ⟨State.passRow_masked, State.passRow_fed hw⟩
  case drain =>
    intro s pav i d w rows hup hnext hw hrows
    subst hw hrows
    exact ⟨drain_frame hup hnext, drain_idle hup hnext, drain_newTile hup hnext, drain_local hup hnext⟩
  case scale =>
    intro w r n v hzero hscale
    exact drainScale_plain v hzero hscale
  case spill =>
    intro s pav a l need g hup hl hneed hsome hfull hvictim ha
    refine ⟨fun y hy hfree => ?_, fun fs hroom hexit => gbufSpill_spills hup hl hneed hsome hfull hvictim ha hroom hexit,
      fun fs hroom => gbufSpill_waits hup hl hneed hsome hfull hvictim ha hroom⟩
    subst hl
    exact Pavilion.victim_before hvictim hy hfree
  case idle =>
    intro s pav fs need hneed hroom
    exact exec_gbufSpill_idle hneed hroom
  case down =>
    intro s pav fs hdown
    exact exec_array_down hdown fs

end Sys2Proof.Machine

/-! The statement of a Pavilion's temperatures (O26): a cooled Pavilion whose switch waits takes up the plot that comes. -/

namespace Sys2Proof.Machine

/-! ### What telling and voiding leave of the Pavilions -/

@[simp] theorem State.makeVoid_pavs (s : State) (p plan : Nat) : (s.makeVoid p plan).pavs = s.pavs := by
  unfold State.makeVoid
  split <;> rfl

theorem State.voidSteps_pavs (s : State) (p : Nat) (plans : List Nat) (block cause unit : Nat) :
    (s.voidSteps p plans block cause unit).pavs = s.pavs :=
  List.foldlRecOn (motive := fun t : State => t.pavs = s.pavs) plans _ rfl
    (fun t ht h _ => by rw [State.makeVoid_pavs, (t.tells_raise p _).pavs, ht])

theorem State.tellFenced_pavs (s : State) (ps : List Nat) (block cause unit : Nat) :
    (s.tellFenced ps block cause unit).pavs = s.pavs :=
  List.foldlRecOn (motive := fun t : State => t.pavs = s.pavs) ps _ rfl (fun t ht p _ => by rw [(t.tells_raise p _).pavs, ht])

theorem State.fencePavilion_pavs (s : State) (i block cause : Nat) : (s.fencePavilion i block cause).pavs = s.pavs := by
  simp only [State.fencePavilion]
  split
  · rfl
  · rw [State.voidSteps_pavs, State.tellFenced_pavs]
    rfl

/-! ### PAVILION_COOLED (R331, R332) -/

/-- The Pavilion after its reset as a wedged unit, of no plot when it is reset: a self-test that fails fences it and leaves
what it holds. -/
theorem State.pav_resetAndTest_of_free {s : State} {i : Nat} (hfree : (s.pav i).context = 0) (block cause : Nat) :
    (s.resetAndTest (.pavilion i) block cause).pav i = (s.pav i).reset s.now := by
  have hreset : (s.resetUnit (.pavilion i) block cause).pav i = (s.pav i).reset s.now := by
    simp only [State.resetUnit, State.resetPavilion, hfree, if_true, State.pav_updPav_self]
  simp only [State.resetAndTest]
  split
  · rw [State.pav_updMod, hreset]
  · rw [State.pav, State.fenceUnit, State.fencePavilion_pavs, ← State.pav, State.pav_updMod, hreset]

theorem State.wedge_pavilion_first {s : State} {i : Nat} (hwarm : s.mod.warmPending = false)
    (hfence : s.isFenced (.pavilion i) = false) (hfirst : s.mod.unitResets.find i = none) (block cause : Nat) :
    s.wedge (.pavilion i) block cause = s.resetAndTest (.pavilion i) block cause := by
  simp only [State.wedge, hwarm, hfence, unitKey, hfirst, Bool.or_self, Bool.false_eq_true, if_false, Bool.not_true, Bool.and_false]

theorem State.pav_readHotspot (s : State) (i c : Nat) : (s.readHotspot i c).pav i = { s.pav i with hotspot := c } :=
  s.pav_updPav_self i (fun v => { v with hotspot := c })

theorem exec_pavilionCooled_first {s : State} {i c : Nat} (hc : c < 95) (htrip : (s.pav i).tripped = true)
    (hwarm : s.mod.warmPending = false) (hfence : s.isFenced (.pavilion i) = false) (hfirst : s.mod.unitResets.find i = none) :
    exec (.pavilionCooled i c) s = .next ((s.readHotspot i c).resetAndTest (.pavilion i) 2 5) := by
  have htrip' : ((s.readHotspot i c).pav i).tripped = true := by rw [State.pav_readHotspot, htrip]
  have hwedge := State.wedge_pavilion_first (s := s.readHotspot i c) hwarm hfence hfirst 2 5
  rw [← hwedge]
  exact if_pos ⟨hc, htrip'⟩

/-- A Pavilion that is reset while a switch waits takes up the context that the incoming plot has saved here. -/
theorem Pavilion.store_reset_of_switch {v : Pavilion} {x : PavContext} (hswitch : v.switchPending = true) (hfree : v.context = 0)
    (hsaved : v.saved.find v.granted = some x) (now : Nat) : (v.reset now).store = x.store := by
  simp only [Pavilion.reset, hswitch, hfree, if_true, Pavilion.restore, hsaved, Option.getD_some]

/-! ### O26 -/

/-- Pavilion 5 has tripped while it is of no plot and a switch to plot 1 waits, whose saved context holds one byte. -/
def switchInTrip : State :=
  { State.reset with
    pavs := [(5, { Pavilion.init with
      tripped := true, switchPending := true, granted := 1, saved := [(1, { PavContext.zero with store := [(0, 1)] })] })] }

/-- Refutes O26: once Pavilion 5 has cooled, its reset completes the switch that waits (R332), and the local store holds plot
1's saved byte, where the statement has it empty. -/
theorem not_temperaturesAndClocks : ¬ Obligations.TemperaturesAndClocks := by
  intro h
  obtain ⟨_, _, _, _, _, _, _, hcooled, _⟩ := h
  have hwarm : switchInTrip.mod.warmPending = false := rfl
  have hfence : switchInTrip.isFenced (.pavilion 5) = false := by decide
  obtain ⟨t, hexec, _, hstore, _⟩ := (hcooled switchInTrip 5 20 (by decide) rfl rfl hwarm hfence).1 rfl
  rw [exec_pavilionCooled_first (by decide) rfl hwarm hfence rfl] at hexec
  obtain rfl := Host.Outcome.next.inj hexec
  rw [State.pav_resetAndTest_of_free rfl, Pavilion.store_reset_of_switch rfl rfl rfl] at hstore
  cases hstore

end Sys2Proof.Machine

/-! The statement of the input and its limiter (O25). -/

namespace Sys2Proof.Machine

/-! ### Events -/

/-- An event is sent, waits for the tray BMC and asserts SMB_ALERT_N, as far as there are receivers, and does nothing else. -/
theorem State.event_eq (s : State) (sensor value : Nat) : ∃ sent events alert, s.event sensor value =
    { s with sent := sent, mgmt := { s.mgmt with events := events }, mod := { s.mod with alertLow := alert } } := by
  simp only [State.event, State.notify]
  split_ifs <;> exact ⟨_, _, _, rfl⟩

theorem State.keepsBut_event (s : State) (sensor value : Nat) : s.keepsBut (s.event sensor value) [.mod, .mgmt, .sent] := by
  obtain ⟨sent, events, alert, heq⟩ := s.event_eq sensor value
  rw [heq]
  intro x hx
  cases x <;> simp_all [State.agree]

/-! ### Charges of several plots -/

theorem State.keepsBut_foldl_charge (ps : List Nat) (f : Nat → Account → Account) (s : State) :
    s.keepsBut (ps.foldl (fun t p => t.charge p (f p)) s) [.plots] :=
  List.foldlRecOn (motive := fun t => s.keepsBut t [.plots]) ps _ (.refl s _)
    (fun t ht p _ => ht.trans (t.keepsBut_updPlot p _))

theorem State.plot_foldl_charge {ps : List Nat} (hn : ps.Nodup) (f : Nat → Account → Account) (s : State) (q : Nat) :
    (ps.foldl (fun t p => t.charge p (f p)) s).plot q =
      if q ∈ ps then { s.plot q with account := f q (s.plot q).account } else s.plot q := by
  induction ps generalizing s with
  | nil => simp
  | cons p ps ih =>
    obtain ⟨hp, hn⟩ := List.nodup_cons.1 hn
    rw [List.foldl_cons, ih hn]
    by_cases hq : q = p
    · subst hq
      simp [hp]
    · simp [hq, State.charge, State.plot_updPlot_ne]

theorem State.mem_openPlots {s : State} {p : Nat} : p ∈ s.openPlots ↔ p ∈ tenantPlots ∧ s.isOpen p = true := List.mem_filter

theorem State.nodup_openPlots (s : State) : s.openPlots.Nodup :=
  List.Nodup.filter _ (List.nodup_range.map (fun _ _ h => Nat.succ.inj h))

/-- Charge every OPEN tenant plot. -/
def State.chargeOpen (s : State) (f : Nat → Account → Account) : State := s.openPlots.foldl (fun t p => t.charge p (f p)) s

theorem State.keepsBut_chargeOpen (s : State) (f : Nat → Account → Account) : s.keepsBut (s.chargeOpen f) [.plots] :=
  State.keepsBut_foldl_charge _ f s

theorem State.chargeOpen_pavs (s : State) (f : Nat → Account → Account) : (s.chargeOpen f).pavs = s.pavs :=
  s.keepsBut_chargeOpen f .pavs (by decide)

theorem State.chargeOpen_mod (s : State) (f : Nat → Account → Account) : (s.chargeOpen f).mod = s.mod :=
  s.keepsBut_chargeOpen f .mod (by decide)

theorem State.chargeOpen_mgmt (s : State) (f : Nat → Account → Account) : (s.chargeOpen f).mgmt = s.mgmt :=
  s.keepsBut_chargeOpen f .mgmt (by decide)

theorem State.plot_chargeOpen_of_open {s : State} {p : Nat} (hp : p ∈ tenantPlots) (ho : s.isOpen p = true)
    (f : Nat → Account → Account) : (s.chargeOpen f).plot p = { s.plot p with account := f p (s.plot p).account } := by
  rw [State.chargeOpen, State.plot_foldl_charge s.nodup_openPlots, if_pos (State.mem_openPlots.2 ⟨hp, ho⟩)]

theorem State.plot_chargeOpen_of_closed {s : State} {p : Nat} (ho : s.isOpen p = false) (f : Nat → Account → Account) :
    (s.chargeOpen f).plot p = s.plot p := by
  rw [State.chargeOpen, State.plot_foldl_charge s.nodup_openPlots, if_neg (fun h => by simp [(State.mem_openPlots.1 h).2] at ho)]

/-! ### The limiter (R453) -/

/-- The limiter has asserted. -/
def State.limitAt (s : State) (w : Nat) : State :=
  { s with mod := { s.mod with inputWatts := w, limiter := true, limiterTick := s.now }
           mgmt := { s.mgmt with limiterTrips := s.mgmt.limiterTrips + 1 } }

/-- One more assertion of the limiter on an account. -/
def Account.throttled (c : Account) : Account := { c with throttleEvents := c.throttleEvents + 1 }

/-- The ticks of an assertion on the account of a plot. -/
def State.withThrottle (s : State) (p : Nat) (c : Account) : Account :=
  { c with throttleTicks := c.throttleTicks + s.throttledNow (s.plot p) }

theorem State.keepsBut_limitAt (s : State) (w : Nat) : s.keepsBut (s.limitAt w) [.mod, .mgmt] := by
  intro x hx
  cases x <;> simp_all [State.agree, State.limitAt]

theorem exec_limiterAssert_over {s : State} {w : Nat} (hrails : s.mod.rails = true) (hoff : s.mod.limiter = false)
    (hw : 3400 < w) : exec (.limiterAssert w) s = .next (((s.limitAt w).chargeOpen (fun _ => Account.throttled)).event 7 2) :=
  if_pos ⟨hrails, hoff, hw⟩

theorem exec_limiterAssert_under {s : State} {w : Nat} (hw : w ≤ 3400) :
    exec (.limiterAssert w) s = .next { s with mod := { s.mod with inputWatts := w } } :=
  if_neg (fun h => Nat.not_lt.2 hw h.2.2)

/-- The limiter has released: the throttled plots are charged, and a Pavilion without an open pass takes its step. -/
def State.unlimitAt (s : State) (w : Nat) : State :=
  let t := (s.updMod (fun m => { m with inputWatts := w })).chargeOpen s.withThrottle
  { t with mod := { t.mod with limiter := false }, pavs := t.pavs.mapVals Pavilion.unlimit }

theorem exec_limiterRelease_due {s : State} {w : Nat} (hon : s.mod.limiter = true) (htick : s.mod.limiterTick + 1000000 ≤ s.now)
    (hw : w < 3000) : exec (.limiterRelease w) s = .next ((s.unlimitAt w).event 7 1) := if_pos ⟨hon, htick, hw⟩

theorem exec_limiterRelease_early {s : State} {w : Nat} (h : 3000 ≤ w ∨ s.now < s.mod.limiterTick + 1000000) :
    exec (.limiterRelease w) s = .next { s with mod := { s.mod with inputWatts := w } } := by
  refine if_neg (fun hall => ?_)
  obtain ⟨_, htick, hw⟩ := hall
  rcases h with h | h
  · exact Nat.not_lt.2 h hw
  · exact Nat.not_lt.2 htick h

theorem State.unlimitAt_mod (s : State) (w : Nat) : (s.unlimitAt w).mod = { s.mod with inputWatts := w, limiter := false } := by
  rw [State.unlimitAt, State.chargeOpen_mod]
  rfl

theorem State.pav_unlimitAt (s : State) (w i : Nat) : (s.unlimitAt w).pav i = (s.pav i).unlimit := by
  rw [State.unlimitAt, State.pav, State.chargeOpen_pavs]
  exact NMap.get_mapVals s.pavs Pavilion.unlimit Pavilion.init Pavilion.init rfl i

theorem State.keepsBut_unlimitAt (s : State) (w : Nat) : s.keepsBut (s.unlimitAt w) [.mod, .plots, .pavs] := by
  have hcharge := ((s.keepsBut_updMod (fun m => { m with inputWatts := w })).mono (l' := [.mod, .plots, .pavs]) (by simp)).trans
    ((State.keepsBut_chargeOpen _ s.withThrottle).mono (by simp))
  refine hcharge.trans (fun x hx => ?_)
  cases x <;> simp_all [State.agree, State.unlimitAt]

theorem limiterAssert_over {s : State} {w : Nat} (hrails : s.mod.rails = true) (hoff : s.mod.limiter = false) (hw : 3400 < w) :
    ∃ t, exec (.limiterAssert w) s = .next t ∧ t.mod.limiter = true ∧ t.mod.limiterTick = s.now ∧ t.mod.inputWatts = w ∧
      (∀ p ∈ tenantPlots, s.isOpen p = true → (t.plot p).account.throttleEvents = (s.plot p).account.throttleEvents + 1) ∧
      (∀ p, s.isOpen p = false → t.plot p = s.plot p) ∧ (∀ i, t.clockStep i = if s.mod.modesApplied then min 6 (s.pav i).step else 12) ∧
      t.mgmt.limiterTrips = s.mgmt.limiterTrips + 1 ∧ s.keepsBut t [.mod, .plots, .mgmt, .sent] := by
  have hmod := State.chargeOpen_mod (s.limitAt w) (fun _ => Account.throttled)
  have hmgmt := State.chargeOpen_mgmt (s.limitAt w) (fun _ => Account.throttled)
  have hpavs := State.chargeOpen_pavs (s.limitAt w) (fun _ => Account.throttled)
  have hkeep := ((s.keepsBut_limitAt w).mono (l' := [.mod, .plots, .mgmt, .sent]) (by simp)).trans
    ((State.keepsBut_chargeOpen _ (fun _ => Account.throttled)).mono (by simp))
  refine ⟨_, exec_limiterAssert_over hrails hoff hw, ?_⟩
  have hplot (p : Nat) (hp : p ∈ tenantPlots) (ho : s.isOpen p = true) :=
    State.plot_chargeOpen_of_open (s := s.limitAt w) hp ho (fun _ => Account.throttled)
  have hrest (p : Nat) (ho : s.isOpen p = false) :=
    State.plot_chargeOpen_of_closed (s := s.limitAt w) ho (fun _ => Account.throttled)
  generalize (s.limitAt w).chargeOpen (fun _ => Account.throttled) = u at *
  have hevent := hkeep.trans ((u.keepsBut_event 7 2).mono (by simp))
  obtain ⟨sent, events, alert, heq⟩ := u.event_eq 7 2
  rw [heq] at hevent ⊢
  refine ⟨congrArg Mod.limiter hmod, congrArg Mod.limiterTick hmod, congrArg Mod.inputWatts hmod,
    fun p hp ho => congrArg (fun q : Plot => q.account.throttleEvents) (hplot p hp ho), hrest, fun i => ?_,
    congrArg Mgmt.limiterTrips hmgmt, hevent⟩
  simp only [State.clockStep, State.pav, hmod, hpavs]
  cases h : s.mod.modesApplied <;> simp [h, State.limitAt]

theorem limiterRelease_due {s : State} {w : Nat} (hon : s.mod.limiter = true) (htick : s.mod.limiterTick + 1000000 ≤ s.now)
    (hw : w < 3000) :
    ∃ t, exec (.limiterRelease w) s = .next t ∧ t.mod.limiter = false ∧ t.mod.inputWatts = w ∧
      (∀ p ∈ tenantPlots, s.isOpen p = true →
        (t.plot p).account.throttleTicks = (s.plot p).account.throttleTicks + s.throttledNow (s.plot p)) ∧
      (∀ p, s.isOpen p = false → t.plot p = s.plot p) ∧
      (∀ i, (s.pav i).par.busy = true → t.pav i = { s.pav i with step := min 6 (s.pav i).step }) ∧
      (∀ i, (s.pav i).par.busy = false → t.pav i = s.pav i) ∧ s.keepsBut t [.mod, .plots, .pavs, .mgmt, .sent] := by
  have hmod := s.unlimitAt_mod w
  have hpav := s.pav_unlimitAt w
  have hkeep := (s.keepsBut_unlimitAt w).mono (l' := [.mod, .plots, .pavs, .mgmt, .sent]) (by simp)
  have hplot (p : Nat) (hp : p ∈ tenantPlots) (ho : s.isOpen p = true) : (s.unlimitAt w).plot p = _ :=
    State.plot_chargeOpen_of_open (s := s.updMod (fun m => { m with inputWatts := w })) hp ho s.withThrottle
  have hrest (p : Nat) (ho : s.isOpen p = false) : (s.unlimitAt w).plot p = s.plot p :=
    State.plot_chargeOpen_of_closed (s := s.updMod (fun m => { m with inputWatts := w })) ho s.withThrottle
  refine ⟨_, exec_limiterRelease_due hon htick hw, ?_⟩
  generalize s.unlimitAt w = u at *
  have hevent := hkeep.trans ((u.keepsBut_event 7 1).mono (by simp))
  obtain ⟨sent, events, alert, heq⟩ := u.event_eq 7 1
  rw [heq] at hevent ⊢
  exact ⟨congrArg Mod.limiter hmod, congrArg Mod.inputWatts hmod,
    fun p hp ho => congrArg (fun q : Plot => q.account.throttleTicks) (hplot p hp ho), hrest,
    fun i hi => (hpav i).trans (if_pos hi), fun i hi => (hpav i).trans (if_neg (by simp [hi])), hevent⟩

/-! ### What a module reset leaves of memory (R175, R456) -/

/-- Retire a granule that is not retired yet. -/
def Mem.retireOnce (m : Mem) (g : Nat × Nat) : Mem := if m.retired.contains g then m else m.retire g

/-- Apart from its retirement lists a memory is as before, and the lists have only grown. -/
def Mem.retiresMore (m n : Mem) : Prop :=
  m.retired <+: n.retired ∧ m.retiredVolatile <+: n.retiredVolatile ∧
  { n with retired := m.retired, retiredVolatile := m.retiredVolatile, degraded := m.degraded } = m

theorem Mem.retiresMore.refl (m : Mem) : m.retiresMore m := ⟨List.prefix_rfl, List.prefix_rfl, rfl⟩

theorem Mem.retiresMore.trans {m n o : Mem} (hmn : m.retiresMore n) (hno : n.retiresMore o) : m.retiresMore o := by
  obtain ⟨hlist, hvolatile, hrest⟩ := hmn
  obtain ⟨hlist', hvolatile', hrest'⟩ := hno
  refine ⟨hlist.trans hlist', hvolatile.trans hvolatile', ?_⟩
  rw [← hrest'] at hrest
  exact hrest

theorem Mem.retireOnce_spec (m : Mem) (g : Nat × Nat) :
    m.retiresMore (m.retireOnce g) ∧ g ∈ (m.retireOnce g).retired ++ (m.retireOnce g).retiredVolatile := by
  unfold Mem.retireOnce
  split
  · next h => exact ⟨.refl m, List.mem_append_left _ (by simpa using h)⟩
  · unfold Mem.retire
    split
    · exact ⟨⟨List.prefix_append _ _, List.prefix_rfl, rfl⟩, by simp⟩
    · exact ⟨⟨List.prefix_rfl, List.prefix_append _ _, rfl⟩, by simp⟩

theorem Mem.retiresMore.mem {m n : Mem} (h : m.retiresMore n) {g : Nat × Nat} (hg : g ∈ m.retired ++ m.retiredVolatile) :
    g ∈ n.retired ++ n.retiredVolatile := by
  obtain ⟨hlist, hvolatile, _⟩ := h
  rcases List.mem_append.1 hg with hg | hg
  · exact List.mem_append_left _ (hlist.subset hg)
  · exact List.mem_append_right _ (hvolatile.subset hg)

theorem Mem.foldl_retireOnce_spec (gs : List (Nat × Nat)) (m : Mem) : m.retiresMore (gs.foldl Mem.retireOnce m) ∧
    ∀ g ∈ gs, g ∈ (gs.foldl Mem.retireOnce m).retired ++ (gs.foldl Mem.retireOnce m).retiredVolatile := by
  induction gs generalizing m with
  | nil => exact ⟨.refl m, fun g hg => nomatch hg⟩
  | cons g gs ih =>
    obtain ⟨hone, hg⟩ := m.retireOnce_spec g
    obtain ⟨hmore, hgs⟩ := ih (m.retireOnce g)
    refine ⟨hone.trans hmore, fun x hx => ?_⟩
    rcases List.mem_cons.1 hx with rfl | hx
    · exact hmore.mem hg
    · exact hgs x hx

theorem State.moduleReset_mem (s : State) :
    s.moduleReset.mem = s.mem.suspectGranules.foldl Mem.retireOnce { Mem.init with retired := s.mem.retired } := rfl

theorem State.memoryReset_of_mem_eq {s t : State} (h : t.mem = s.moduleReset.mem) : s.memoryReset t := by
  rw [State.memoryReset, h]
  obtain ⟨⟨hlist, _, hrest⟩, hall⟩ := Mem.foldl_retireOnce_spec s.mem.suspectGranules { Mem.init with retired := s.mem.retired }
  refine ⟨hall, hlist, ?_, fun hnone => ?_⟩
  · exact congrArg (fun m : Mem => { m with retired := [], retiredVolatile := [], degraded := false }) hrest
  · rw [State.moduleReset_mem, hnone, List.foldl_nil]

/-! ### The rails go off (R452, R454, R460) -/

theorem State.railsOff_mem (s : State) : s.railsOff.mem = s.moduleReset.mem := rfl

/-- A cause stands last in the field record. -/
theorem State.fieldLog_fieldNote (s : State) (block cause unit : Nat) : ∃ e, (s.fieldNote block cause unit).mgmt.fieldLog =
    (s.mgmt.fieldLog ++ [e]).drop ((s.mgmt.fieldLog ++ [e]).length - 1024) ∧ e.cause = cause := by
  refine ⟨{ cls := fieldModule, block := block, cause := cause, unit := unit, step := 0xFFFFFFFFFFFFFFFF, tick := s.mod.tick },
    ?_, rfl⟩
  simp only [State.fieldNote]

theorem State.railsOff_fieldLog (s : State) : s.railsOff.mgmt.fieldLog = s.mgmt.fieldLog := rfl

theorem State.shutDown_fieldLog (s : State) (cause : Nat) :
    (s.shutDown cause).mgmt.fieldLog = (s.fieldNote fieldPower cause 0xFFFF).mgmt.fieldLog := by
  rw [State.shutDown, State.updMod_mgmt, State.railsOff_fieldLog]

theorem State.fieldNote_mem (s : State) (block cause unit : Nat) : (s.fieldNote block cause unit).mem = s.mem := by
  simp only [State.fieldNote]

theorem State.shutDown_mem (s : State) (cause : Nat) : (s.shutDown cause).mem = s.moduleReset.mem := by
  rw [State.shutDown, State.updMod_mem, State.railsOff_mem, State.moduleReset_mem, State.fieldNote_mem, State.moduleReset_mem]

theorem State.shutDown_spec (s : State) (cause : Nat) : (s.shutDown cause).mod.rails = false ∧
    (s.shutDown cause).mod.pwrgd = false ∧ (s.shutDown cause).mod.latched = true ∧ (s.shutDown cause).mod.faultLow = true ∧
    (s.shutDown cause).plots = State.reset.plots ∧ s.memoryReset (s.shutDown cause) ∧
    ∃ e, (s.shutDown cause).mgmt.fieldLog = (s.mgmt.fieldLog ++ [e]).drop ((s.mgmt.fieldLog ++ [e]).length - 1024) ∧
      e.cause = cause := by
  rw [State.shutDown_fieldLog]
  exact ⟨rfl, rfl, rfl, rfl, rfl, State.memoryReset_of_mem_eq (s.shutDown_mem cause), s.fieldLog_fieldNote _ cause _⟩

theorem exec_overpowerShutdown_over {s : State} {w : Nat} (hrails : s.mod.rails = true) (hon : s.mod.limiter = true) (hw : 3800 < w) :
    exec (.overpowerShutdown w) s = .next ((s.updMod (fun m => { m with inputWatts := w })).shutDown 1) :=
  if_pos ⟨hrails, hon, hw⟩

theorem exec_junctionThermalTrip_over {s : State} {d : Nat} (hrails : s.mod.rails = true) (hd : 125 ≤ d) :
    exec (.junctionThermalTrip d) s = .next (((s.updMod (fun m => { m with junction := d })).shutDown 2).updMod
      (fun m => { m with thermtripLow := true })) := if_pos ⟨hrails, hd⟩

theorem exec_overvoltage_over {s : State} {mv us : Nat} (hrails : s.mod.rails = true)
    (h : 66000 < mv ∨ (63000 < mv ∧ 10000 < us)) :
    exec (.overvoltage mv us) s = .next ((s.updMod (fun m => { m with inputMv := mv })).shutDown 3) := if_pos ⟨hrails, h⟩

theorem exec_undervoltage_under {s : State} {mv us : Nat} (hrails : s.mod.rails = true)
    (h : mv < 36000 ∨ (mv < 38000 ∧ 10000 < us)) :
    exec (.undervoltage mv us) s = .next (s.updMod (fun m => { m with inputMv := mv })).railsOff := if_pos ⟨hrails, h⟩

/-! ### O25 -/

/-- Settles O25: the limiter charges the OPEN plots and holds or frees the clock steps; a protective shutdown and a bad input
are a module reset with the rails off. -/
theorem powerInputAndLimiter : Obligations.PowerInputAndLimiter := by
  unfold Obligations.PowerInputAndLimiter
  refine ⟨?assert, ?noAssert, ?release, ?noRelease, ?shutdown, ?undervoltage, ?within⟩
  case assert =>
    intro s w hrails hoff hw
    exact limiterAssert_over hrails hoff hw
  case noAssert =>
    intro s w hw
    exact exec_limiterAssert_under hw
  case release =>
    intro s w hon htick hw
    exact limiterRelease_due hon htick hw
  case noRelease =>
    intro s w h
    exact exec_limiterRelease_early h
  case shutdown =>
    intro s c hrails hc
    rcases hc with ⟨w, rfl, hon, hw⟩ | ⟨d, rfl, hd⟩ | ⟨mv, us, rfl, h⟩
    · obtain ⟨hoff, hpwrgd, hlatched, hfault, hplots, hmem, hlog⟩ :=
        State.shutDown_spec (s.updMod (fun m => { m with inputWatts := w })) 1
      exact ⟨_, exec_overpowerShutdown_over hrails hon hw, hoff, hpwrgd, hlatched, hfault, by simp, hplots, hmem, hlog⟩
    · obtain ⟨hoff, hpwrgd, hlatched, hfault, hplots, hmem, hlog⟩ :=
        State.shutDown_spec (s.updMod (fun m => { m with junction := d })) 2
      exact ⟨_, exec_junctionThermalTrip_over hrails hd, hoff, hpwrgd, hlatched, hfault, fun _ => rfl, hplots, hmem, hlog⟩
    · obtain ⟨hoff, hpwrgd, hlatched, hfault, hplots, hmem, hlog⟩ :=
        State.shutDown_spec (s.updMod (fun m => { m with inputMv := mv })) 3
      exact ⟨_, exec_overvoltage_over hrails h, hoff, hpwrgd, hlatched, hfault, by simp, hplots, hmem, hlog⟩
  case undervoltage =>
    intro s mv us hrails h
    exact ⟨_, exec_undervoltage_under hrails h, rfl, rfl, rfl, rfl, State.memoryReset_of_mem_eq (State.railsOff_mem _), rfl⟩
  case within =>
    intro s w d mv us
    refine ⟨fun hw => if_neg ?_, fun hd => if_neg ?_, fun hmv => if_neg ?_, fun hmv => if_neg ?_⟩ <;> omega

end Sys2Proof.Machine

/-! The statement of the sequencer (O36): fetches, semaphores, retirements and spans. -/

namespace Sys2Proof.Machine

/-! ### Queues and positions -/

theorem queueNum_lt (q : Queue) : queueNum q < 3 := by
  cases q <;> decide

theorem Pavilion.queue_setQueue_ne (v : Pavilion) {j k : Nat} (hj : j < 3) (hk : k < 3) (h : j ≠ k) (l : List QDesc) :
    (v.setQueue k l).queue j = v.queue j := by
  rw [Pavilion.setQueue_eq]
  obtain rfl | rfl | rfl : j = 0 ∨ j = 1 ∨ j = 2 := by omega
  · simp [Pavilion.queue, h.symm]
  · simp [Pavilion.queue, h.symm]
  · simp [Pavilion.queue, show k = 0 ∨ k = 1 by omega]

theorem queue_of_heads {s : State} {pav k type : Nat} {d : QDesc} {rest : List QDesc} (h : Heads s pav k type d rest) :
    (s.pav pav).queue k = d :: rest := h.2.1

theorem posKey_ne {j k : Nat} (h : j ≠ k) (p plan : Nat) : posKey p plan j ≠ posKey p plan k := by
  unfold posKey
  omega

/-- A Pavilion whose stream stands at a place. -/
def Pavilion.moveTo (v : Pavilion) (p plan k n : Nat) : Pavilion := { v with positions := v.positions.set (posKey p plan k) n }

theorem Pavilion.position_moveTo (v : Pavilion) (p plan k n : Nat) : (v.moveTo p plan k n).position p plan k = n :=
  NMap.get_set_self 0 n v.positions _

theorem Pavilion.position_setQueue (v : Pavilion) (k : Nat) (l : List QDesc) (p plan j : Nat) :
    (v.setQueue k l).position p plan j = v.position p plan j := by
  rw [Pavilion.setQueue_eq]
  rfl

/-! ### DESCRIPTOR_FETCH (R94) -/

/-- The entry that a fetch puts into a queue. -/
def State.nextDesc (s : State) (pav k p : Nat) (pl : Plan) : QDesc :=
  let i := (s.pav pav).position p pl.handle k
  { plot := p, plan := pl.handle, index := i, bytes := (pl.stream pav k).getD i []
    iter := match pl.spanAt pav k i, (s.pav pav).span with | some _, some sp => sp.iter | _, _ => 0
    started := false, executed := false, startTick := s.now, waited := 0, failed := false }

/-- The stream goes on past the descriptor that is fetched. -/
def State.pastNext (s : State) (pav k p : Nat) (pl : Plan) : State :=
  s.updPav pav (fun v => v.moveTo p pl.handle k ((s.pav pav).position p pl.handle k + 1))

theorem State.fetchNext_sound {s : State} {pav k p : Nat} {pl : Plan} (hcopy : s.copyPoisoned pl = false ∨ pl.damaged = true)
    (hkept : ∀ st ∈ (s.plot p).running, st.droppedMbs = []) : s.fetchNext pav k p pl =
      (s.pastNext pav k p pl).updPav pav (fun v => v.setQueue k (v.queue k ++ [s.nextDesc pav k p pl])) := by
  have hsound : (s.copyPoisoned pl && !pl.damaged) = false := by rcases hcopy with h | h <;> simp [h]
  refine (if_neg (fun h => Bool.false_ne_true (hsound.symm.trans h))).trans (if_neg (fun hdrop => ?_))
  split at hdrop
  · next st mb hrun _ =>
      rw [hkept st (List.mem_of_find?_eq_some hrun)] at hdrop
      cases hdrop
  · cases hdrop

theorem State.fetchNext_poisoned {s : State} {pav k p : Nat} {pl : Plan} (hcopy : s.copyPoisoned pl = true)
    (hgood : pl.damaged = false) : s.fetchNext pav k p pl =
      (s.pastNext pav k p pl).descPoison pav p pl ((pl.stream pav k).getD ((s.pav pav).position p pl.handle k) []) := by
  have hbad : (s.copyPoisoned pl && !pl.damaged) = true := by simp [hcopy, hgood]
  have hbad' : ((s.pastNext pav k p pl).copyPoisoned pl && !pl.damaged) = true := hbad
  exact if_pos hbad'

theorem State.descPoison_pavs (s : State) (pav p : Nat) (pl : Plan) (d : Bytes) :
    (s.descPoison pav p pl d).pavs = (s.updPav pav (fun v => { v with err := setFlag v.err 2 })).pavs := by
  simp only [State.descPoison, State.makeVoid_pavs, (State.tells_raise _ p _).pavs, State.updPlot_pavs]

theorem exec_descriptorFetch {s : State} {pav : Nat} {q : Queue} {p : Nat} {pl : Plan} (hup : s.pavDown pav = false)
    (hslots : s.slotsHeld (pav / 64) < 2048) (hroom : ((s.pav pav).queue (queueNum q)).length < queueDepth (queueNum q))
    (hplan : s.fetchPlan pav (queueNum q) = some (p, pl)) (hswitch : (s.pav pav).switchPending = false)
    (hneed : (s.plot p).holdsNeed pl.header.need = true) :
    exec (.descriptorFetch pav q) s = .next (s.fetchNext pav (queueNum q) p pl) := by
  show execDescriptorFetch pav q s = _
  simp only [execDescriptorFetch, hup, hplan, hswitch, hneed, Nat.not_le.2 hslots, Nat.not_le.2 hroom, decide_false,
    Bool.or_self, Bool.false_eq_true, if_false, Bool.false_and, Bool.not_true, Bool.and_false]

theorem exec_descriptorFetch_idle {s : State} {pav : Nat} {q : Queue} (h : s.pavDown pav = true ∨ 2048 ≤ s.slotsHeld (pav / 64) ∨
    queueDepth (queueNum q) ≤ ((s.pav pav).queue (queueNum q)).length ∨ s.fetchPlan pav (queueNum q) = none) :
    exec (.descriptorFetch pav q) s = .next s := by
  show execDescriptorFetch pav q s = _
  simp only [execDescriptorFetch]
  split
  · rfl
  · next hgo =>
    rcases h with h | h | h | h
    · simp [h] at hgo
    · simp [h] at hgo
    · simp [h] at hgo
    · rw [h]

theorem State.pav_pastNext (s : State) (pav k p : Nat) (pl : Plan) : (s.pastNext pav k p pl).pav pav =
    (s.pav pav).moveTo p pl.handle k ((s.pav pav).position p pl.handle k + 1) := s.pav_updPav_self pav _

theorem descriptorFetch_sound {s : State} {pav : Nat} {q : Queue} {k p i : Nat} {pl : Plan} (hk : k = queueNum q)
    (hrun : exec (.descriptorFetch pav q) s = .next (s.fetchNext pav k p pl)) (hi : i = (s.pav pav).position p pl.handle k)
    (hcopy : s.copyPoisoned pl = false ∨ pl.damaged = true) (hkept : ∀ st ∈ (s.plot p).running, st.droppedMbs = []) :
    ∃ t, exec (.descriptorFetch pav q) s = .next t ∧
      (t.pav pav).queue k = (s.pav pav).queue k ++ [{
        plot := p, plan := pl.handle, index := i, bytes := (pl.stream pav k).getD i []
        iter := match pl.spanAt pav k i, (s.pav pav).span with | some _, some sp => sp.iter | _, _ => 0
        started := false, executed := false, startTick := s.now, waited := 0, failed := false }] ∧
      (t.pav pav).position p pl.handle k = i + 1 ∧ (∀ j, j ≠ k → j < 3 → (t.pav pav).queue j = (s.pav pav).queue j) ∧
      s.otherPavs t pav ∧ s.keepsBut t [.pavs] := by
  subst hi
  rw [State.fetchNext_sound hcopy hkept] at hrun
  obtain ⟨_, hpavs, hkeep⟩ := (s.within_updPav p pav _ : s.within (s.pastNext pav k p pl) p pav [.pavs]).trans
    (State.within_updPav _ p pav (fun v => v.setQueue k (v.queue k ++ [s.nextDesc pav k p pl])))
  refine ⟨_, hrun, ?_, ?_, fun j hjk hj => ?_, hpavs, hkeep⟩
  · rw [State.pav_updPav_self, Pavilion.queue_setQueue_self, State.pav_pastNext]
    rfl
  · rw [State.pav_updPav_self, Pavilion.position_setQueue, State.pav_pastNext, Pavilion.position_moveTo]
  · rw [State.pav_updPav_self, Pavilion.queue_setQueue_ne _ hj (hk ▸ queueNum_lt q) hjk, State.pav_pastNext]
    rfl

theorem descriptorFetch_poisoned {s : State} {pav : Nat} {q : Queue} {k p : Nat} {pl : Plan}
    (hrun : exec (.descriptorFetch pav q) s = .next (s.fetchNext pav k p pl)) (hcopy : s.copyPoisoned pl = true)
    (hgood : pl.damaged = false) :
    ∃ t, exec (.descriptorFetch pav q) s = .next t ∧ (t.pav pav).queue k = (s.pav pav).queue k ∧
      (t.pav pav).position p pl.handle k = (s.pav pav).position p pl.handle k + 1 ∧
      (t.pav pav).err = setFlag (s.pav pav).err 2 ∧ s.otherPavs t pav := by
  rw [State.fetchNext_poisoned hcopy hgood] at hrun
  have hpavs := (s.pastNext pav k p pl).descPoison_pavs pav p pl ((pl.stream pav k).getD ((s.pav pav).position p pl.handle k) [])
  generalize (s.pastNext pav k p pl).descPoison pav p pl _ = t at *
  have hpav (j : Nat) : t.pav j = ((s.pastNext pav k p pl).updPav pav (fun v => { v with err := setFlag v.err 2 })).pav j := by
    rw [State.pav, hpavs, State.pav]
  refine ⟨t, hrun, ?_, ?_, ?_, fun j hj => ?_⟩
  · rw [hpav, State.pav_updPav_self, State.pav_pastNext]
    rfl
  · rw [hpav, State.pav_updPav_self, State.pav_pastNext]
    exact Pavilion.position_moveTo _ _ _ _ _
  · rw [hpav, State.pav_updPav_self, State.pav_pastNext]
    rfl
  · rw [hpav, State.pav_updPav_ne _ _ _ _ hj, State.pastNext, State.pav_updPav_ne _ _ _ _ hj]

/-! ### SEM_WAIT and SEM_SIGNAL (R119, R120) -/

theorem State.pav_markDone_head {s : State} {pav k : Nat} {d : QDesc} {rest : List QDesc} (h : (s.pav pav).queue k = d :: rest) :
    (s.markDone pav k 0).pav pav = (s.pav pav).headDone k d rest s.now := by
  rw [State.pav_markDone, h]
  rfl

theorem exec_semWait {s : State} {pav : Nat} {q : Queue} {d : QDesc} {rest : List QDesc} {pl : Plan} {fs : List HwFault}
    (h : Heads s pav (queueNum q) 0x30 d rest) (hpl : s.planOf d = some pl) (hsound : fs.contains .semParity = false) :
    exec (.semWait pav q fs) s = .next (if semSatisfied (fieldAt d.bytes 0x0A 1)
        ((s.plot d.plot).sem (pl.semKey (fieldAt d.bytes 8 2))) (s.waitValue pav (queueNum q) d)
      then s.markDone pav (queueNum q) 0 else s.beginWait pav (queueNum q)) := by
  show execSemWait pav q fs s = _
  simp only [execSemWait, State.headOf_of_heads h, hpl, hsound, Bool.false_eq_true, if_false]
  split <;> rfl

/-- A plot with one semaphore changed. -/
def Plot.withSem (q : Plot) (key : Nat) (f : W32 → W32) : Plot := { q with sems := q.sems.modify 0 key f }

theorem Plot.sem_withSem_self (q : Plot) (key : Nat) (f : W32 → W32) : (q.withSem key f).sem key = f (q.sem key) :=
  NMap.get_modify_self 0 q.sems key f

theorem Plot.sem_withSem_ne (q : Plot) {key x : Nat} (h : x ≠ key) (f : W32 → W32) : (q.withSem key f).sem x = q.sem x :=
  NMap.get_modify_ne 0 q.sems key x f h

theorem exec_semSignal {s : State} {pav : Nat} {q : Queue} {d : QDesc} {rest : List QDesc} {pl : Plan} {fs : List HwFault}
    (h : Heads s pav (queueNum q) 0x31 d rest) (hpl : s.planOf d = some pl) (hsound : fs.contains .semParity = false) :
    exec (.semSignal pav q fs) s = .next ((s.updPlot d.plot (·.withSem (pl.semKey (fieldAt d.bytes 8 2)) (fun c =>
      if fieldAt d.bytes 0x0A 1 = 0 then c + BitVec.ofNat 32 (fieldAt d.bytes 0x0C 4)
      else BitVec.ofNat 32 (fieldAt d.bytes 0x0C 4)))).markDone pav (queueNum q) 0) := by
  show execSemSignal pav q fs s = _
  simp only [execSemSignal, State.headOf_of_heads h, hpl, hsound, Bool.false_eq_true, if_false, Plot.withSem]

theorem State.waitValue_eq {s : State} {pav k : Nat} {d : QDesc} {value : W32}
    (hout : s.iterOf pav k d = none → value = BitVec.ofNat 32 (fieldAt d.bytes 0x0C 4))
    (hin : s.iterOf pav k d ≠ none → value = BitVec.ofNat 32 (fieldAt d.bytes 0x0C 4) * BitVec.ofNat 32 (d.iter + 1)) :
    s.waitValue pav k d = value := by
  unfold State.waitValue
  split
  · next x hx => exact (hin (by simp [hx])).symm
  · next hx => exact (hout hx).symm

theorem semSatisfied_of_met {cond : Nat} {cur value : W32} (h : (cond = 0 ∧ 0 ≤ (cur - value).toInt) ∨ (cond ≠ 0 ∧ cur = value)) :
    semSatisfied cond cur value = true := by
  rcases h with ⟨hcond, hle⟩ | ⟨hcond, heq⟩
  · simp only [semSatisfied, hcond, if_true, hle, decide_true]
  · simp only [semSatisfied, hcond, if_false, heq, beq_self_eq_true]

theorem semSatisfied_of_unmet {cond : Nat} {cur value : W32} (h : (cond = 0 ∧ (cur - value).toInt < 0) ∨ (cond ≠ 0 ∧ cur ≠ value)) :
    semSatisfied cond cur value = false := by
  rcases h with ⟨hcond, hlt⟩ | ⟨hcond, hne⟩
  · simp only [semSatisfied, hcond, if_true, Int.not_le.2 hlt, decide_false]
  · simp only [semSatisfied, hcond, if_false, beq_eq_false_iff_ne.2 hne]

theorem State.within_beginWait (s : State) (p pav k : Nat) : s.within (s.beginWait pav k) p pav [.pavs] := by
  rw [State.beginWait, State.updDesc_eq]
  exact s.within_updPav p pav _

theorem State.pav_beginWait {s : State} {pav k : Nat} {d : QDesc} {rest : List QDesc} (h : (s.pav pav).queue k = d :: rest) :
    (s.beginWait pav k).pav pav = (s.pav pav).setQueue k
      ((if d.started then d else { d with started := true, startTick := s.now }) :: rest) := by
  rw [State.beginWait, State.updDesc_eq, State.pav_updPav_self, h]
  rfl

theorem semSignal_sound {s : State} {pav : Nat} {q : Queue} {d : QDesc} {rest : List QDesc} {pl : Plan} {fs : List HwFault}
    (h : Heads s pav (queueNum q) 0x31 d rest) (hpl : s.planOf d = some pl) (hsound : fs.contains .semParity = false) :
    ∃ t, exec (.semSignal pav q fs) s = .next t ∧ t.pav pav = (s.pav pav).headDone (queueNum q) d rest s.now ∧
      (t.plot d.plot).sem (pl.semKey (fieldAt d.bytes 8 2)) = (if fieldAt d.bytes 0x0A 1 = 0
        then (s.plot d.plot).sem (pl.semKey (fieldAt d.bytes 8 2)) + BitVec.ofNat 32 (fieldAt d.bytes 0x0C 4)
        else BitVec.ofNat 32 (fieldAt d.bytes 0x0C 4)) ∧
      (∀ x, x ≠ pl.semKey (fieldAt d.bytes 8 2) → (t.plot d.plot).sem x = (s.plot d.plot).sem x) ∧
      s.otherPlots t d.plot ∧ s.otherPavs t pav ∧ s.keepsBut t [.plots, .pavs] := by
  have hexec := exec_semSignal h hpl hsound
  generalize hu : s.updPlot d.plot _ = u at hexec
  have hin : s.within (u.markDone pav (queueNum q) 0) d.plot pav [.plots, .pavs] := by
    rw [← hu]
    exact ((s.within_updPlot d.plot pav _).mono (by simp)).trans ((State.within_markDone _ d.plot pav (queueNum q) 0).mono (by simp))
  have hplot : (u.markDone pav (queueNum q) 0).plot d.plot = u.plot d.plot := by rw [State.markDone_eq, State.plot_updPav]
  refine ⟨_, hexec, ?_, ?_, fun x hx => ?_, hin⟩
  · rw [State.pav_markDone_head (d := d) (rest := rest) (by rw [← hu, State.pav_updPlot, queue_of_heads h]), ← hu]
    rfl
  · rw [hplot, ← hu, State.plot_updPlot_self, Plot.sem_withSem_self]
  · rw [hplot, ← hu, State.plot_updPlot_self, Plot.sem_withSem_ne _ hx]

/-! ### A parity error of a semaphore (Table ERR-2) -/

theorem exec_sem_parity {s : State} {pav type : Nat} {q : Queue} {d : QDesc} {rest : List QDesc} {pl : Plan} {fs : List HwFault}
    {x : Instr} (hx : (type = 0x30 ∧ x = .semWait pav q fs) ∨ (type = 0x31 ∧ x = .semSignal pav q fs))
    (h : Heads s pav (queueNum q) type d rest) (hpl : s.planOf d = some pl) (hbad : fs.contains .semParity = true) :
    exec x s = .next ((s.semParity pav d (pl.semKey (fieldAt d.bytes 8 2))).markDone pav (queueNum q) 0) := by
  rcases hx with ⟨rfl, rfl⟩ | ⟨rfl, rfl⟩
  · show execSemWait pav q fs s = _
    simp only [execSemWait, State.headOf_of_heads h, hpl, hbad, if_true]
  · show execSemSignal pav q fs s = _
    simp only [execSemSignal, State.headOf_of_heads h, hpl, hbad, if_true]

theorem QDesc.done_done (d : QDesc) (now : Nat) : (d.done now).done now = d.done now := rfl

/-- The heads of several queues are marked done. -/
def State.headsDone (s : State) (ws : List (Nat × Nat)) : State := ws.foldl (fun t x => t.markDone x.1 x.2 0) s

theorem State.keepsBut_headsDone (s : State) (ws : List (Nat × Nat)) : s.keepsBut (s.headsDone ws) [.pavs] :=
  List.foldlRecOn (motive := fun t => s.keepsBut t [.pavs]) ws _ (.refl s _)
    (fun t ht x _ => ht.trans (t.within_markDone 0 x.1 x.2 0).2.2)

theorem State.err_headsDone (s : State) (ws : List (Nat × Nat)) (i : Nat) : ((s.headsDone ws).pav i).err = (s.pav i).err := by
  refine List.foldlRecOn (motive := fun t : State => (t.pav i).err = (s.pav i).err) ws _ rfl (fun t ht x _ => ?_)
  by_cases hi : i = x.1
  · subst hi
    rw [State.pav_markDone, Pavilion.setQueue_err, ht]
  · rw [(t.within_markDone 0 x.1 x.2 0).2.1 i hi, ht]

/-- A queue's head is a descriptor that has run, or has not. -/
def State.headIs (s : State) (pav k : Nat) (d : QDesc) (rest : List QDesc) : Prop :=
  (s.pav pav).queue k = d :: rest ∨ (s.pav pav).queue k = d.done s.now :: rest

theorem State.headIs.queue_markDone {s : State} {pav k : Nat} {d : QDesc} {rest : List QDesc} (h : s.headIs pav k d rest) :
    ((s.markDone pav k 0).pav pav).queue k = d.done s.now :: rest := by
  rcases h with h | h
  · exact State.queue_markDone_head h
  · rw [State.queue_markDone_head h, QDesc.done_done]

theorem State.headIs_markDone {s : State} {pav k : Nat} {d : QDesc} {rest : List QDesc} (hk : k < 3) (h : s.headIs pav k d rest)
    {x : Nat × Nat} (hx : x.2 < 3) : (s.markDone x.1 x.2 0).headIs pav k d rest := by
  have hnow : (s.markDone x.1 x.2 0).now = s.now := (s.within_markDone 0 x.1 x.2 0).now (by simp)
  by_cases hpav : pav = x.1
  · subst hpav
    by_cases hqueue : k = x.2
    · subst hqueue
      exact .inr (by rw [hnow, h.queue_markDone])
    · rwa [State.headIs, hnow, State.pav_markDone, Pavilion.queue_setQueue_ne _ hk hx hqueue]
  · rwa [State.headIs, hnow, (s.within_markDone 0 x.1 x.2 0).2.1 pav hpav]

theorem State.headIs_headsDone {s : State} {pav k : Nat} {d : QDesc} {rest : List QDesc} (hk : k < 3) (h : s.headIs pav k d rest)
    {ws : List (Nat × Nat)} (hws : ∀ x ∈ ws, x.2 < 3) : (s.headsDone ws).headIs pav k d rest :=
  List.foldlRecOn (motive := fun t : State => t.headIs pav k d rest) ws _ h (fun _ ht x hx => State.headIs_markDone hk ht (hws x hx))

theorem State.queue_lt_of_mem_waitersOn {s : State} {p key : Nat} {x : Nat × Nat} (h : x ∈ s.waitersOn p key) : x.2 < 3 := by
  obtain ⟨l, hl, hx⟩ := List.mem_flatten.1 (List.mem_filter.1 h).1
  obtain ⟨i, _, rfl⟩ := List.mem_map.1 hl
  simp only [List.mem_cons, List.not_mem_nil, or_false] at hx
  rcases hx with rfl | rfl | rfl <;> simp

/-! ### What telling and voiding leave of the semaphores -/

/-- A change of one plot alone that leaves its semaphores. -/
def State.keepsSems (s t : State) (p : Nat) : Prop := s.otherPlots t p ∧ (t.plot p).sems = (s.plot p).sems

theorem State.keepsSems.trans {s t u : State} {p : Nat} (hst : s.keepsSems t p) (htu : t.keepsSems u p) : s.keepsSems u p := by
  obtain ⟨hplots, hsems⟩ := hst
  obtain ⟨hplots', hsems'⟩ := htu
  exact ⟨fun i hi => (hplots' i hi).trans (hplots i hi), hsems'.trans hsems⟩

theorem State.keepsSems_of_plots_eq {s t : State} (h : t.plots = s.plots) (p : Nat) : s.keepsSems t p := by
  have hplot (i : Nat) : t.plot i = s.plot i := by rw [State.plot, h, State.plot]
  exact ⟨fun i _ => hplot i, by rw [hplot]⟩

theorem State.keepsSems_updPlot (s : State) (p : Nat) {f : Plot → Plot} (hf : ∀ x, (f x).sems = x.sems) :
    s.keepsSems (s.updPlot p f) p :=
  ⟨fun i hi => s.plot_updPlot_ne p i f hi, by rw [State.plot_updPlot_self, hf]⟩

theorem State.keepsSems_unsolicited (s : State) (p source : Nat) (body : Bytes) : s.keepsSems (s.unsolicited p source body) p := by
  refine ⟨fun i hi => s.plot_unsolicited_ne p i source body hi, ?_⟩
  have hmail (f : Mailbox → Mailbox) : ((s.updMail p f).plot p).sems = (s.plot p).sems := by rw [State.plot_updMail_self]
  unfold State.unsolicited State.post
  split_ifs
  · exact hmail _
  · rfl
  · exact hmail (fun m => { m with
      lost := m.lost + 1, lostNew := m.lostNew + 1
      lostFirst := if m.lostNew = 0 then s.mod.tick else m.lostFirst, lostLast := s.mod.tick })
  · rfl

theorem State.keepsSems_raise (s : State) (p : Nat) (e : ErrRec) : s.keepsSems (s.raise p e) p := by
  have hlog : s.keepsSems (s.logError p e) p := State.keepsSems_of_plots_eq (by
    unfold State.logError State.notify
    split <;> rfl) p
  rcases s.raise_eq p e with ⟨body, heq⟩ | ⟨plan, u, rfl, heq⟩
  · rw [heq]
    exact hlog.trans (State.keepsSems_unsolicited _ _ _ _)
  · have hmerge := hlog.trans ((s.logError p e).keepsSems_updPlot p (f := fun x => x.withError plan e.shown) (fun _ => rfl))
    rcases heq with heq | ⟨f, heq⟩ | ⟨body, heq⟩
    · rwa [heq]
    · rw [heq]
      exact hmerge.trans (State.keepsSems_updPlot _ p (fun _ => rfl))
    · rw [heq]
      exact hmerge.trans (State.keepsSems_unsolicited _ _ _ _)

/-- A plot once the steps of a plan are void. -/
def Plot.voided (q : Plot) (plan : Nat) : Plot :=
  { q with
    running := q.running.map (fun st => if st.plan = plan then { st with isVoid := true } else st)
    account := { q.account with voidSteps := q.account.voidSteps + 1 } }

theorem State.makeVoid_cases (s : State) (p plan : Nat) :
    (s.makeVoid p plan = s ∧ ∀ st ∈ (s.plot p).running, st.plan = plan → st.isVoid = true) ∨
    ∃ n, s.makeVoid p plan = (s.updPlot p (·.voided plan)).updMod (fun m => { m with voidSteps := n }) := by
  unfold State.makeVoid
  split
  · next h => exact .inl ⟨rfl, fun st hst hplan => by simpa [hplan] using List.all_eq_true.1 h st hst⟩
  · exact .inr ⟨_, rfl⟩

theorem State.keepsSems_makeVoid (s : State) (p plan : Nat) : s.keepsSems (s.makeVoid p plan) p := by
  rcases s.makeVoid_cases p plan with ⟨heq, _⟩ | ⟨n, heq⟩
  · rw [heq]
    exact State.keepsSems_of_plots_eq rfl p
  · rw [heq]
    exact (s.keepsSems_updPlot p (f := fun q => q.voided plan) (fun _ => rfl)).trans (State.keepsSems_of_plots_eq rfl p)

theorem Plot.isVoid_voided {q : Plot} {plan : Nat} : ∀ st ∈ (q.voided plan).running, st.plan = plan → st.isVoid = true := by
  intro st hst hplan
  obtain ⟨x, _, rfl⟩ := List.mem_map.1 hst
  by_cases hx : x.plan = plan
  · simp [hx]
  · simp [hx] at hplan

/-- Once a step is made void, every running step of its plan is. -/
theorem State.isVoid_makeVoid (s : State) (p plan : Nat) :
    ∀ st ∈ ((s.makeVoid p plan).plot p).running, st.plan = plan → st.isVoid = true := by
  rcases s.makeVoid_cases p plan with ⟨heq, hall⟩ | ⟨n, heq⟩
  · rwa [heq]
  · rw [heq, State.plot_updMod, State.plot_updPlot_self]
    exact Plot.isVoid_voided

theorem State.now_makeVoid (s : State) (p plan : Nat) : (s.makeVoid p plan).now = s.now := by
  rcases s.makeVoid_cases p plan with ⟨heq, _⟩ | ⟨n, heq⟩
  · rw [heq]
  · rw [heq]
    rfl

/-- The state at which a semaphore's parity error is met: its flag set, the semaphore zero. -/
def State.semLost (s : State) (pav p key : Nat) : State :=
  (s.updPav pav (fun v => v.flag (2, 4))).updPlot p (fun q => { q with sems := q.sems.set key 0 })

theorem State.semParity_eq (s : State) (pav : Nat) (d : QDesc) (key : Nat) : ∃ e, s.semParity pav d key =
    ((((s.semLost pav d.plot key).headsDone (s.waitersOn d.plot key)).raise d.plot e).makeVoid d.plot d.plan) := ⟨_, rfl⟩

section
variable {s : State} {pav k key : Nat} {d : QDesc}

theorem State.pavs_semParity : (s.semParity pav d key).pavs =
    ((s.semLost pav d.plot key).headsDone (s.waitersOn d.plot key)).pavs := by
  obtain ⟨e, heq⟩ := s.semParity_eq pav d key
  rw [heq, State.makeVoid_pavs, (State.tells_raise _ d.plot e).pavs]

theorem State.now_semParity : (s.semParity pav d key).now = s.now := by
  obtain ⟨e, heq⟩ := s.semParity_eq pav d key
  have hmod : ((s.semLost pav d.plot key).headsDone (s.waitersOn d.plot key)).mod = s.mod :=
    State.keepsBut_headsDone _ _ .mod (by decide)
  have hraise := (((s.semLost pav d.plot key).headsDone (s.waitersOn d.plot key)).tells_raise d.plot e).1 .mod (by decide)
  rw [heq, State.now_makeVoid, State.now, State.now, hraise.trans hmod]

theorem State.keepsSems_semParity : (s.semLost pav d.plot key).keepsSems (s.semParity pav d key) d.plot := by
  obtain ⟨e, heq⟩ := s.semParity_eq pav d key
  rw [heq]
  exact (State.keepsSems_of_plots_eq (State.keepsBut_headsDone _ _ .plots (by decide)) d.plot).trans
    ((State.keepsSems_raise _ d.plot e).trans (State.keepsSems_makeVoid _ d.plot d.plan))

theorem State.sem_semParity (x : Nat) : ((s.semParity pav d key).plot d.plot).sem x =
    if x = key then 0 else (s.plot d.plot).sem x := by
  obtain ⟨_, hsems⟩ := State.keepsSems_semParity (s := s) (pav := pav) (key := key) (d := d)
  rw [Plot.sem, hsems, State.semLost, State.plot_updPlot_self]
  split
  · next h =>
    subst h
    exact NMap.get_set_self 0 _ _ _
  · next h => exact NMap.get_set_ne 0 _ _ _ _ h

theorem State.otherPlots_semParity : s.otherPlots (s.semParity pav d key) d.plot := by
  intro i hi
  rw [State.keepsSems_semParity.1 i hi, State.semLost, State.plot_updPlot_ne _ _ _ _ hi, State.plot_updPav]

theorem State.isVoid_semParity : ∀ st ∈ ((s.semParity pav d key).plot d.plot).running, st.plan = d.plan → st.isVoid = true := by
  obtain ⟨e, heq⟩ := s.semParity_eq pav d key
  rw [heq]
  exact State.isVoid_makeVoid _ d.plot d.plan

theorem State.err_semParity : ((s.semParity pav d key).pav pav).err = setFlag (s.pav pav).err 4 := by
  rw [State.pav, State.pavs_semParity, ← State.pav, State.err_headsDone, State.semLost, State.pav_updPlot, State.pav_updPav_self]
  rfl

theorem State.headIs_semParity {rest : List QDesc} (hk : k < 3) (hq : (s.pav pav).queue k = d :: rest) :
    (s.semParity pav d key).headIs pav k d rest := by
  have hlost : (s.semLost pav d.plot key).headIs pav k d rest :=
    .inl (by rw [State.semLost, State.pav_updPlot, State.pav_updPav_self, Pavilion.queue_flag, hq])
  have hdone := State.headIs_headsDone hk hlost (fun x hx => State.queue_lt_of_mem_waitersOn (s := s) (p := d.plot) (key := key) hx)
  have hnow : ((s.semLost pav d.plot key).headsDone (s.waitersOn d.plot key)).now = (s.semParity pav d key).now := by
    rw [State.now_semParity, State.now, State.keepsBut_headsDone _ _ .mod (by decide)]
    rfl
  rwa [State.headIs, State.pav, State.pavs_semParity, ← State.pav, ← hnow]

end

theorem sem_parity {s : State} {pav k type sem : Nat} {q : Queue} {fs : List HwFault} {d : QDesc} {rest : List QDesc} {pl : Plan}
    {x : Instr} (hk : k = queueNum q) (hx : (type = 0x30 ∧ x = .semWait pav q fs) ∨ (type = 0x31 ∧ x = .semSignal pav q fs))
    (h : Heads s pav k type d rest) (hpl : s.planOf d = some pl) (hbad : fs.contains .semParity = true)
    (hsem : sem = pl.semKey (fieldAt d.bytes 8 2)) :
    ∃ t, exec x s = .next t ∧ (t.plot d.plot).sem sem = 0 ∧ (∀ y, y ≠ sem → (t.plot d.plot).sem y = (s.plot d.plot).sem y) ∧
      (t.pav pav).err = setFlag (s.pav pav).err 4 ∧ (t.pav pav).queue k = ((s.pav pav).headDone k d rest s.now).queue k ∧
      (∀ st ∈ (t.plot d.plot).running, st.plan = d.plan → st.isVoid = true) ∧ s.otherPlots t d.plot := by
  subst hk hsem
  refine ⟨_, exec_sem_parity hx h hpl hbad, ?_⟩
  have hplot (t : State) (i : Nat) : (t.markDone pav (queueNum q) 0).plot i = t.plot i := by
    rw [State.markDone_eq, State.plot_updPav]
  refine ⟨?_, fun y hy => ?_, ?_, ?_, ?_, fun i hi => ?_⟩
  · rw [hplot, State.sem_semParity, if_pos rfl]
  · rw [hplot, State.sem_semParity, if_neg hy]
  · rw [State.pav_markDone, Pavilion.setQueue_err, State.err_semParity]
  · rw [(State.headIs_semParity (queueNum_lt q) (queue_of_heads h)).queue_markDone, State.now_semParity, Pavilion.headDone_eq,
      Pavilion.queue_setQueue_self]
  · rw [hplot]
    exact State.isVoid_semParity
  · rw [hplot]
    exact State.otherPlots_semParity i hi

end Sys2Proof.Machine

/-! The end of the sequencer's statement (O36): retirements and spans. -/

namespace Sys2Proof.Machine

/-! ### A descriptor retires (R95, R96, R116) -/

/-- A Pavilion whose tile a HANDOFF passes on, when the descriptor is a DRAIN that says so. -/
def Pavilion.handsOver (v : Pavilion) (d : QDesc) : Pavilion :=
  if dType d.bytes = 3 ∧ bitOf (fieldAt d.bytes 0x0D 1) 4 = true then v.handOff d.plot d.plan (fieldAt d.bytes 0x18 2) else v

/-- A Pavilion whose pass ends, when the descriptor is its last DRAIN. -/
def Pavilion.closes (v : Pavilion) (d : QDesc) : Pavilion := if dType d.bytes = 3 ∧ dEnd d.bytes = true then v.endPass else v

/-- A Pavilion once the head of a queue has retired. -/
def Pavilion.retires (v : Pavilion) (k : Nat) (d : QDesc) (rest : List QDesc) (n now : Nat) (lost : Nat → W64) : Pavilion :=
  let w := ((v.setQueue k rest).handsOver d).closes d
  { w with
    ctr := w.ctr.retire (dType d.bytes) n true lost, lastRetire := now, rillBusy := if k = 1 then false else w.rillBusy
    rillHist := if k = 1 then false else w.rillHist, rillStoch := if k = 1 then false else w.rillStoch }

/-- The cycles of a descriptor on its plot's account. -/
def Account.ran (a : Account) (type n : Nat) : Account :=
  if type ≤ 3 then { a with arrayCycles := a.arrayCycles + BitVec.ofNat 64 n }
  else if type = 0x10 ∨ type = 0x11 then { a with rillCycles := a.rillCycles + BitVec.ofNat 64 n }
  else if type = 0x20 then { a with moveCycles := a.moveCycles + BitVec.ofNat 64 n } else a

/-- The adapters of a lane pass are charged their array cycles (R252). -/
def State.billLanes (s : State) (p : Nat) (bills : NMap Nat) : State :=
  bills.foldl (fun t e => t.updAdapter p e.1 (fun a => { a with arrayCycles := a.arrayCycles + BitVec.ofNat 64 e.2 })) s

/-- The head of a queue leaves its Pavilion. -/
def State.unqueued (s : State) (pav k : Nat) (d : QDesc) (rest : List QDesc) : State :=
  s.updPav pav (fun v => v.retires k d rest (s.cyclesSince pav d.startTick) s.now
    (fun i => BitVec.ofNat 64 (Config.lostCycles i pav s.now)))

/-- The state once the head of a queue has left it and its cycles are charged. -/
def State.retired (s : State) (pav k : Nat) (d : QDesc) (rest : List QDesc) : State :=
  ((s.unqueued pav k d rest).billLanes d.plot (s.laneCharges pav d (s.cyclesSince pav d.startTick))).charge d.plot
    (fun a => a.ran (dType d.bytes) (s.cyclesSince pav d.startTick))

theorem exec_descriptorRetire {s : State} {pav : Nat} {q : Queue} {d : QDesc} {rest : List QDesc}
    (hq : (s.pav pav).queue (queueNum q) = d :: rest) (hran : d.executed = true) :
    exec (.descriptorRetire pav q) s = .next
      (((s.retired pav (queueNum q) d rest).beginRelay d.plot d.plan pav (queueNum q) d.index).settleStopped d.plot) := by
  show execDescriptorRetire pav q s = _
  simp only [execDescriptorRetire, hq]
  exact if_neg (by simp [hran])

theorem exec_descriptorRetire_idle {s : State} {pav : Nat} {q : Queue} (h : (s.pav pav).queue (queueNum q) = [] ∨
    ∃ d rest, (s.pav pav).queue (queueNum q) = d :: rest ∧ d.executed = false) : exec (.descriptorRetire pav q) s = .next s := by
  show execDescriptorRetire pav q s = _
  rcases h with h | ⟨d, rest, h, hran⟩
  · simp only [execDescriptorRetire, h]
  · simp only [execDescriptorRetire, h, hran, if_true]

/-! ### What a retirement leaves of the Pavilion -/

/-- The parts of a Pavilion that neither a HANDOFF nor the end of a pass reaches. -/
theorem Pavilion.handsOver_eq (v : Pavilion) (d : QDesc) : v.handsOver d = { v with gbuf := (v.handsOver d).gbuf } := by
  unfold Pavilion.handsOver Pavilion.handOff
  split_ifs <;> rfl

theorem Pavilion.closes_eq (v : Pavilion) (d : QDesc) :
    v.closes d = { v with par := (v.closes d).par, step := (v.closes d).step } := by
  unfold Pavilion.closes Pavilion.endPass
  split <;> rfl

theorem Pavilion.gbuf_closes (v : Pavilion) (d : QDesc) : (v.closes d).gbuf = v.gbuf := by rw [Pavilion.closes_eq]

/-- A HANDOFF leaves its tile with the Cascade, an old tile or a new one. -/
theorem Pavilion.exists_handOff (v : Pavilion) (p plan handle : Nat) :
    ∃ g ∈ (v.handOff p plan handle).gbuf, g.isFor p plan handle = true ∧ g.cascade = true := by
  unfold Pavilion.handOff
  split
  · next h =>
    obtain ⟨g, hg, hfor⟩ := List.any_eq_true.1 h
    exact ⟨{ g with cascade := true }, List.mem_map.2 ⟨g, hg, if_pos hfor⟩, hfor, rfl⟩
  · exact ⟨_, List.mem_append_right _ List.mem_cons_self, by simp [GTile.isFor, GTile.fresh], rfl⟩

section
variable (v : Pavilion) (k : Nat) (d : QDesc) (rest : List QDesc) (n now : Nat) (lost : Nat → W64)

theorem Pavilion.queue_retires : (v.retires k d rest n now lost).queue k = rest := by
  have hqueue : (v.retires k d rest n now lost).queue k = (((v.setQueue k rest).handsOver d).closes d).queue k := rfl
  rw [hqueue, Pavilion.closes_eq, Pavilion.handsOver_eq]
  exact v.queue_setQueue_self k rest

theorem Pavilion.ctr_retires : (v.retires k d rest n now lost).ctr = v.ctr.retire (dType d.bytes) n true lost := by
  have hctr : (((v.setQueue k rest).handsOver d).closes d).ctr = v.ctr := by
    rw [Pavilion.closes_eq, Pavilion.handsOver_eq]
    exact v.setQueue_ctr k rest
  rw [Pavilion.retires, hctr]

theorem Pavilion.gbuf_retires : (v.retires k d rest n now lost).gbuf = ((v.setQueue k rest).handsOver d).gbuf :=
  Pavilion.gbuf_closes _ d

theorem Pavilion.par_retires : (v.retires k d rest n now lost).par = (((v.setQueue k rest).handsOver d).closes d).par := rfl

theorem Pavilion.gbuf_retires_handOff (htype : dType d.bytes = 3) (hbit : bitOf (fieldAt d.bytes 0x0D 1) 4 = true) :
    ∃ g ∈ (v.retires k d rest n now lost).gbuf, g.isFor d.plot d.plan (fieldAt d.bytes 0x18 2) = true ∧ g.cascade = true := by
  rw [Pavilion.gbuf_retires, Pavilion.handsOver, if_pos ⟨htype, hbit⟩]
  exact Pavilion.exists_handOff _ _ _ _

theorem Pavilion.par_retires_end (htype : dType d.bytes = 3) (hend : dEnd d.bytes = true) :
    (v.retires k d rest n now lost).par.busy = false := by
  rw [Pavilion.par_retires, Pavilion.closes, if_pos ⟨htype, hend⟩]
  rfl

theorem Pavilion.retires_other (htype : dType d.bytes ≠ 3) : (v.retires k d rest n now lost).par = v.par ∧
    (v.retires k d rest n now lost).gbuf = v.gbuf := by
  have hhand : (v.setQueue k rest).handsOver d = v.setQueue k rest := if_neg (fun h => htype h.1)
  have hclose : (v.setQueue k rest).closes d = v.setQueue k rest := if_neg (fun h => htype h.1)
  rw [Pavilion.par_retires, Pavilion.gbuf_retires, hhand, hclose]
  exact ⟨v.setQueue_par k rest, v.setQueue_gbuf k rest⟩

end

/-! ### What a retirement leaves of its plot -/

/-- Two accounts hold the same cycles of descriptors. -/
def Account.sameCycles (a b : Account) : Prop :=
  b.arrayCycles = a.arrayCycles ∧ b.rillCycles = a.rillCycles ∧ b.moveCycles = a.moveCycles

/-- A plot may differ in its adapters, its account and what its steps relay, and its account holds the same cycles of
descriptors. -/
def Plot.relaysOnly (q r : Plot) : Prop :=
  q.account.sameCycles r.account ∧ (q.goesOn → r.goesOn) ∧ r.plans = q.plans ∧ r.groups = q.groups

/-- Nothing but one plot changes, and it as `Plot.relaysOnly` says. -/
def State.relaysOnly (s t : State) (p : Nat) : Prop :=
  s.otherPlots t p ∧ s.keepsBut t [.plots] ∧ (s.plot p).relaysOnly (t.plot p)

theorem State.relaysOnly.refl (s : State) (p : Nat) : s.relaysOnly s p :=
  ⟨fun _ _ => rfl, .refl s _, ⟨rfl, rfl, rfl⟩, id, rfl, rfl⟩

theorem State.relaysOnly.trans {s t u : State} {p : Nat} (hst : s.relaysOnly t p) (htu : t.relaysOnly u p) : s.relaysOnly u p := by
  obtain ⟨hplots, hkeep, ⟨harray, hrill, hmove⟩, hon, hplans, hgroups⟩ := hst
  obtain ⟨hplots', hkeep', ⟨harray', hrill', hmove'⟩, hon', hplans', hgroups'⟩ := htu
  exact ⟨fun i hi => (hplots' i hi).trans (hplots i hi), hkeep.trans hkeep',
    ⟨harray'.trans harray, hrill'.trans hrill, hmove'.trans hmove⟩, hon' ∘ hon, hplans'.trans hplans, hgroups'.trans hgroups⟩

theorem State.relaysOnly_updPlot (s : State) (p : Nat) {f : Plot → Plot} (hf : ∀ q : Plot, q.relaysOnly (f q)) :
    s.relaysOnly (s.updPlot p f) p := by
  refine ⟨fun i hi => s.plot_updPlot_ne p i f hi, s.keepsBut_updPlot p f, ?_⟩
  rw [State.plot_updPlot_self]
  exact hf _

theorem State.relaysOnly_updAdapter (s : State) (p h : Nat) (f : Adapter → Adapter) : s.relaysOnly (s.updAdapter p h f) p := by
  refine s.relaysOnly_updPlot p (fun q => ?_)
  split <;> exact ⟨⟨rfl, rfl, rfl⟩, id, rfl, rfl⟩

theorem State.relaysOnly_billLanes (s : State) (p : Nat) (bills : NMap Nat) : s.relaysOnly (s.billLanes p bills) p :=
  List.foldlRecOn (motive := fun t => s.relaysOnly t p) bills _ (.refl s p)
    (fun t ht e _ => ht.trans (t.relaysOnly_updAdapter p e.1 _))

theorem State.relaysOnly_updStep (s : State) (p plan : Nat) {f : Step → Step} (hf : ∀ st, (f st).stopped = st.stopped) :
    s.relaysOnly (s.updStep p plan f) p := by
  refine s.relaysOnly_updPlot p (fun q => ⟨⟨rfl, rfl, rfl⟩, fun hq st hst => ?_, rfl, rfl⟩)
  obtain ⟨x, hx, rfl⟩ := List.mem_map.1 hst
  split
  · rw [hf, hq x hx]
  · exact hq x hx

theorem State.relaysOnly_chargeViewRead (s : State) (cx : OpCtx) (p : Nat) (x : View × Tensor) :
    s.relaysOnly (s.chargeViewRead cx p x) p := by
  have hcharge {f : Account → Account} (hf : ∀ a, Account.sameCycles a (f a)) : s.relaysOnly (s.charge p f) p :=
    s.relaysOnly_updPlot p (fun q => ⟨hf q.account, id, rfl, rfl⟩)
  unfold State.chargeViewRead
  split
  · split
    · refine hcharge (fun a => ?_)
      split <;> exact ⟨rfl, rfl, rfl⟩
    · exact .refl s p
  · split
    · exact hcharge (fun a => ⟨rfl, rfl, rfl⟩)
    · exact .refl s p

/-- No relay transfer of a plan without a Bower goes out. -/
theorem State.relaysOnly_pumpRelays {s : State} {p plan : Nat}
    (hnone : ∀ pl, (s.plot p).plans.find plan = some pl → (s.plot p).bowerOf pl = none) : s.relaysOnly (s.pumpRelays p plan) p := by
  unfold State.pumpRelays
  split
  · next st pl _ hpl =>
    rw [hnone pl hpl]
    dsimp only
    split
    · exact .refl s p
    · exact s.relaysOnly_updStep p plan (fun _ => rfl)
  · exact .refl s p

theorem Plot.bowerOf_congr {q r : Plot} (h : r.groups = q.groups) (pl : Plan) : r.bowerOf pl = q.bowerOf pl := by
  simp only [Plot.bowerOf, Plot.groupById, h]

theorem State.relaysOnly_beginRelay {s : State} {p plan : Nat}
    (hnone : ∀ pl, (s.plot p).plans.find plan = some pl → (s.plot p).bowerOf pl = none) (pav k i : Nat) :
    s.relaysOnly (s.beginRelay p plan pav k i) p := by
  unfold State.beginRelay
  split
  · next forward mb tensor view pl _ hpl =>
    have hread := (s.relaysOnly_updStep p plan (f := fun x => { x with
        relaysOut := x.relaysOut ++ [{ forward := forward, microbatch := mb, tensor := tensor, view := view, sent := 0 }] })
      (fun _ => rfl)).trans (State.relaysOnly_chargeViewRead _ { plot := p, pav := pav, lanes := [] } p (pl.viewAt view))
    refine hread.trans (State.relaysOnly_pumpRelays (fun x hx => ?_))
    obtain ⟨_, _, _, _, hplans, hgroups⟩ := hread
    rw [hplans] at hx
    rw [Plot.bowerOf_congr hgroups]
    exact hnone x hx
  · exact .refl s p

/-- No step of a plot that goes on is settled. -/
theorem State.settleStopped_of_goesOn {s : State} {p : Nat} (h : (s.plot p).goesOn) : s.settleStopped p = s := by
  have hnone : s.readyStopped p = none := by
    refine List.findSome?_eq_none_iff.2 (fun st hst => ?_)
    simp [h st hst]
  exact List.foldl_fixed' (fun _ => by simp [hnone]) _

theorem Account.cycles_ran (a : Account) (type n : Nat) :
    (a.ran type n).arrayCycles = a.arrayCycles + (if type ≤ 3 then BitVec.ofNat 64 n else 0) ∧
    (a.ran type n).rillCycles = a.rillCycles + (if type = 0x10 ∨ type = 0x11 then BitVec.ofNat 64 n else 0) ∧
    (a.ran type n).moveCycles = a.moveCycles + (if type = 0x20 then BitVec.ofNat 64 n else 0) := by
  unfold Account.ran
  split
  · next h => simp [show ¬ (type = 16 ∨ type = 17) by omega, show type ≠ 32 by omega]
  · split
    · next hrill => simp [show type ≠ 32 by omega]
    · split <;> simp

theorem Account.sameCycles.ran {a b : Account} (h : a.sameCycles b) (type n : Nat) : (a.ran type n).sameCycles (b.ran type n) := by
  obtain ⟨harray, hrill, hmove⟩ := h
  obtain ⟨harray₁, hrill₁, hmove₁⟩ := a.cycles_ran type n
  obtain ⟨harray₂, hrill₂, hmove₂⟩ := b.cycles_ran type n
  exact ⟨by rw [harray₁, harray₂, harray], by rw [hrill₁, hrill₂, hrill], by rw [hmove₁, hmove₂, hmove]⟩

theorem State.relaysOnly.within {s t : State} {p : Nat} (h : s.relaysOnly t p) (pav : Nat) : s.within t p pav [.plots] := by
  obtain ⟨hplots, hkeep, _⟩ := h
  exact ⟨hplots, State.otherPavs_of_pavs_eq (hkeep .pavs (by decide)) pav, hkeep⟩

section
variable (s : State) (pav k : Nat) (d : QDesc) (rest : List QDesc)

theorem State.within_retired : s.within (s.retired pav k d rest) d.plot pav [.plots, .pavs] :=
  ((s.within_updPav d.plot pav _).mono (by simp)).trans
    ((((State.relaysOnly_billLanes _ d.plot _).within pav).mono (by simp)).trans ((State.within_charge _ d.plot pav _).mono (by simp)))

theorem State.pav_retired : (s.retired pav k d rest).pav pav = (s.pav pav).retires k d rest (s.cyclesSince pav d.startTick) s.now
    (fun i => BitVec.ofNat 64 (Config.lostCycles i pav s.now)) := by
  rw [State.retired, State.pav_charge, ((State.relaysOnly_billLanes _ d.plot _).within pav).pav (by simp), State.unqueued,
    State.pav_updPav_self]

theorem State.plot_retired : ((s.plot d.plot).goesOn → ((s.retired pav k d rest).plot d.plot).goesOn) ∧
    ((s.retired pav k d rest).plot d.plot).plans = (s.plot d.plot).plans ∧
    ((s.retired pav k d rest).plot d.plot).groups = (s.plot d.plot).groups ∧
    ((s.plot d.plot).account.ran (dType d.bytes) (s.cyclesSince pav d.startTick)).sameCycles
      ((s.retired pav k d rest).plot d.plot).account := by
  obtain ⟨_, _, hcycles, hon, hplans, hgroups⟩ := (s.unqueued pav k d rest).relaysOnly_billLanes d.plot
    (s.laneCharges pav d (s.cyclesSince pav d.startTick))
  rw [State.retired, State.plot_charge_self]
  exact ⟨hon, hplans, hgroups, hcycles.ran _ _⟩

end

theorem descriptorRetire_ran {s : State} {pav : Nat} {q : Queue} {k n type : Nat} {d : QDesc} {rest : List QDesc}
    (hk : k = queueNum q) (hq : (s.pav pav).queue k = d :: rest) (hran : d.executed = true) (htype : type = dType d.bytes)
    (hon : (s.plot d.plot).goesOn) (hn : n = (s.now - d.startTick) * 2 * s.clockStep pav)
    (hbower : ∀ pl, s.planOf d = some pl → (s.plot d.plot).bowerOf pl = none) :
    ∃ t, exec (.descriptorRetire pav q) s = .next t ∧ (t.pav pav).queue k = rest ∧ (t.pav pav).lastRetire = s.now ∧
      (t.pav pav).ctr.descRetired = (s.pav pav).ctr.descRetired + 1 ∧
      (t.pav pav).ctr.scalePasses = (if type = 0x11 then (s.pav pav).ctr.scalePasses + 1 else (s.pav pav).ctr.scalePasses) ∧
      (type = 3 → bitOf (fieldAt d.bytes 0x0D 1) 4 = true →
        ∃ g ∈ (t.pav pav).gbuf, g.isFor d.plot d.plan (fieldAt d.bytes 0x18 2) = true ∧ g.cascade = true) ∧
      (type = 3 → dEnd d.bytes = true → (t.pav pav).par.busy = false) ∧
      (type ≠ 3 → (t.pav pav).par = (s.pav pav).par ∧ (t.pav pav).gbuf = (s.pav pav).gbuf) ∧
      (t.plot d.plot).account.arrayCycles = (s.plot d.plot).account.arrayCycles + (if type ≤ 3 then BitVec.ofNat 64 n else 0) ∧
      (t.plot d.plot).account.rillCycles = (s.plot d.plot).account.rillCycles +
        (if type = 0x10 ∨ type = 0x11 then BitVec.ofNat 64 n else 0) ∧
      (t.plot d.plot).account.moveCycles = (s.plot d.plot).account.moveCycles + (if type = 0x20 then BitVec.ofNat 64 n else 0) ∧
      s.otherPlots t d.plot ∧ s.otherPavs t pav ∧ s.keepsBut t [.plots, .pavs] := by
  subst hk htype hn
  have hexec := exec_descriptorRetire hq hran
  have hpav := s.pav_retired pav (queueNum q) d rest
  have hwithin := s.within_retired pav (queueNum q) d rest
  obtain ⟨hon₁, hplans, hgroups, hcycles⟩ := s.plot_retired pav (queueNum q) d rest
  generalize s.retired pav (queueNum q) d rest = u at *
  have hnone (pl : Plan) (hpl : (u.plot d.plot).plans.find d.plan = some pl) : (u.plot d.plot).bowerOf pl = none := by
    rw [Plot.bowerOf_congr hgroups]
    exact hbower pl (by rwa [State.planOf, ← hplans])
  have hrelay := State.relaysOnly_beginRelay hnone pav (queueNum q) d.index
  generalize u.beginRelay d.plot d.plan pav (queueNum q) d.index = t at *
  have hpav' : t.pav pav = _ := ((hrelay.within pav).pav (by simp) pav).trans hpav
  have hwithin' := hwithin.trans ((hrelay.within pav).mono (by simp))
  obtain ⟨_, _, ⟨harray, hrill, hmove⟩, hon₂, _, _⟩ := hrelay
  obtain ⟨harray₁, hrill₁, hmove₁⟩ := hcycles
  obtain ⟨harray₀, hrill₀, hmove₀⟩ := (s.plot d.plot).account.cycles_ran (dType d.bytes) (s.cyclesSince pav d.startTick)
  rw [State.settleStopped_of_goesOn (hon₂ (hon₁ hon))] at hexec
  refine ⟨t, hexec, ?_⟩
  rw [hpav']
  refine ⟨Pavilion.queue_retires _ _ _ _ _ _ _, rfl, by rw [Pavilion.ctr_retires]; rfl, by rw [Pavilion.ctr_retires]; rfl,
    Pavilion.gbuf_retires_handOff _ _ _ _ _ _ _, Pavilion.par_retires_end _ _ _ _ _ _ _, Pavilion.retires_other _ _ _ _ _ _ _,
    harray.trans (harray₁.trans harray₀), hrill.trans (hrill₁.trans hrill₀), hmove.trans (hmove₁.trans hmove₀), hwithin'⟩

/-! ### Spans (R274, R275) -/

theorem Pavilion.get_placed (p plan : Nat) (f : Nat → Nat) (ks : List Nat) (m : NMap Nat) (k : Nat) :
    NMap.get 0 (ks.foldl (fun m k => m.set (posKey p plan k) (f k)) m) (posKey p plan k) =
      if k ∈ ks then f k else NMap.get 0 m (posKey p plan k) := by
  induction ks generalizing m with
  | nil => simp
  | cons j ks ih =>
    rw [List.foldl_cons, ih]
    by_cases hj : k = j
    · subst hj
      simp [NMap.get_set_self]
    · simp [hj, NMap.get_set_ne _ _ _ _ _ (posKey_ne hj p plan)]

theorem Pavilion.position_placeAt {x : Span} {k : Nat} (hk : k ∈ x.queues) (v : Pavilion) (p : Nat) (pl : Plan) :
    (v.placeAt p pl x false).position p pl.handle k = x.first.getD k 0 :=
  (Pavilion.get_placed p pl.handle _ x.queues v.positions k).trans (if_pos hk)

theorem Pavilion.atEnd_iff {v : Pavilion} {p : Nat} {pl : Plan} {x : Span} : v.atEnd p pl x = true ↔
    ∀ k ∈ x.queues, v.position p pl.handle k = x.first.getD k 0 + x.count.getD k 0 := by
  simp [Pavilion.atEnd]

/-- Whether a queue still holds a descriptor of the open span. -/
def Pavilion.spanWaits (v : Pavilion) (pav : Nat) (sp : SpanState) (x : Span) : Bool :=
  [0, 1, 2].any (fun k => (v.queue k).any (fun d => d.plot == sp.plot && d.plan == sp.plan && x.covers pav k d.index))

section
variable {s : State} {pav : Nat} {sp : SpanState} {pl : Plan} {x : Span}

theorem exec_spanIteration_open (hsp : (s.pav pav).span = some sp) (hpl : (s.plot sp.plot).plans.find sp.plan = some pl) :
    exec (.spanIteration pav) s = .next (s.advanceSpan pav sp pl) := by
  show execSpanIteration pav s = _
  simp only [execSpanIteration, hsp, hpl]

theorem State.advanceSpan_waits (hx : x = parseSpan (pl.spans.getD sp.span [])) (h : ¬ (s.pav pav).atEnd sp.plot pl x = true) :
    s.advanceSpan pav sp pl = s := by
  subst hx
  exact if_pos (Bool.eq_false_iff.2 h)

theorem State.advanceSpan_next (hx : x = parseSpan (pl.spans.getD sp.span [])) (h : (s.pav pav).atEnd sp.plot pl x = true)
    (hmore : sp.iter + 1 < sp.total) : s.advanceSpan pav sp pl =
      s.updPav pav (fun v => { (v.placeAt sp.plot pl x false) with span := some { sp with iter := sp.iter + 1 } }) := by
  subst hx
  exact (if_neg (fun hend => Bool.false_ne_true (hend.symm.trans h))).trans (if_pos hmore)

theorem State.advanceSpan_last (hx : x = parseSpan (pl.spans.getD sp.span [])) (h : (s.pav pav).atEnd sp.plot pl x = true)
    (hlast : sp.total ≤ sp.iter + 1) (hgone : (s.pav pav).spanWaits pav sp x = false) : s.advanceSpan pav sp pl =
      (s.updPav pav (fun v => { v with span := none })).exitSpan sp.plot pl x := by
  subst hx
  exact (if_neg (fun hend => Bool.false_ne_true (hend.symm.trans h))).trans ((if_neg (Nat.not_lt.2 hlast)).trans (if_neg (fun hw => Bool.false_ne_true (hgone.symm.trans hw))))

theorem Pavilion.spanWaits_eq_false {v : Pavilion}
    (h : ∀ k < 3, ∀ d ∈ v.queue k, ¬ (d.plot = sp.plot ∧ d.plan = sp.plan ∧ x.covers pav k d.index = true)) :
    v.spanWaits pav sp x = false := by
  refine List.any_eq_false.2 (fun k hk => ?_)
  have hk' : k < 3 := by simp at hk; omega
  rw [Bool.not_eq_true]
  refine List.any_eq_false.2 (fun d hd => ?_)
  simpa [and_assoc] using h k hk' d hd

end

theorem State.exitSpan_eq (s : State) (p : Nat) (pl : Plan) (x : Span) :
    s.exitSpan p pl x = s.updPlot p (·.withSem (pl.semKey x.exitSem) (· + 1)) := rfl

theorem State.within_exitSpan (s : State) (p pav : Nat) (pl : Plan) (x : Span) :
    s.within ((s.updPav pav (fun v => { v with span := none })).exitSpan p pl x) p pav [.plots, .pavs] :=
  ((s.within_updPav p pav _).mono (by simp)).trans ((State.within_updPlot _ p pav _).mono (by simp))

/-- A Pavilion without an open span opens the one that its only running step has come to. -/
theorem exec_spanIteration_begin {s : State} {pav p i : Nat} {pl : Plan} {st : Step} {x : Span} {l : WorkList}
    (hspan : (s.pav pav).span = none) (hp : p = (s.pav pav).context) (hrun : (s.plot p).running = [st]) (hst : st.stopped = false)
    (hpl : (s.plot p).plans.find st.plan = some pl)
    (hfind : ((List.range pl.spans.length).zip (pl.spans.map parseSpan)).find? (fun e =>
      e.2.pav == pav && (s.pav pav).before p pl e.2 && e.2.queues.any ((s.pav pav).atFirst p pl e.2)) = some (i, x))
    (hlist : s.listFor p pl i = some l) (hsome : x.iterations l ≠ []) :
    exec (.spanIteration pav) s = .next (s.updPav pav (fun v => { v with
      span := some { plot := p, plan := pl.handle, span := i, iter := 0, total := (x.iterations l).length } })) := by
  subst hp
  have hlen : (x.iterations l).length ≠ 0 := fun h => hsome (List.length_eq_zero_iff.1 h)
  show execSpanIteration pav s = _
  simp only [execSpanIteration, hspan, hrun, List.filter_cons, List.filter_nil, hst, Bool.not_false, if_true, List.foldl_cons,
    List.foldl_nil, Option.isSome_none, Bool.false_eq_true, if_false, hpl, State.openSpan, hfind, hlist, hlen]

/-! ### O36 -/

/-- Settles O36, each command by its own lemmas: the descriptor that is fetched, the semaphore and its waiters, the Pavilion
and the account that a retirement leaves, and the span's iterations. -/
theorem sequencerCommands : Obligations.SequencerCommands := by
  unfold Obligations.SequencerCommands
  refine ⟨?fetch, ?noFetch, ?wait, ?signal, ?parity, ?retire, ?noRetire, ?iterate, ?begin⟩
  case fetch =>
    intro s pav q k p i pl hk hup hslots hroom hplan hswitch hneed hi hkept
    subst hk
    have hrun := exec_descriptorFetch hup hslots hroom hplan hswitch hneed
    refine ⟨fun hcopy => descriptorFetch_sound rfl hrun hi hcopy hkept, fun hcopy hgood => ?_⟩
    subst hi
    exact descriptorFetch_poisoned hrun hcopy hgood
  case noFetch =>
    intro s pav q h
    exact exec_descriptorFetch_idle h
  case wait =>
    intro s pav q k fs d rest pl cur value hk h hpl hsound hcur hout hin
    subst hk hcur
    have hexec := exec_semWait h hpl hsound
    rw [State.waitValue_eq hout hin] at hexec
    refine ⟨fun hmet => ?_, fun hunmet => ?_⟩
    · rw [semSatisfied_of_met hmet, if_pos rfl] at hexec
      exact ⟨_, hexec, State.pav_markDone_head (queue_of_heads h), (s.within_markDone d.plot pav _ 0).2⟩
    · rw [semSatisfied_of_unmet hunmet, if_neg Bool.false_ne_true] at hexec
      exact ⟨_, hexec, State.pav_beginWait (queue_of_heads h), (s.within_beginWait d.plot pav _).2⟩
  case signal =>
    intro s pav q k sem fs d rest pl value hk h hpl hsound hsem hvalue
    subst hk hsem hvalue
    exact semSignal_sound h hpl hsound
  case parity =>
    intro s pav q k type sem fs d rest pl x hk hx h hpl hbad hsem
    exact sem_parity hk hx h hpl hbad hsem
  case retire =>
    intro s pav q k n type d rest hk hq hran htype hon hn hbower
    exact descriptorRetire_ran hk hq hran htype hon hn hbower
  case noRetire =>
    intro s pav q h
    exact exec_descriptorRetire_idle h
  case iterate =>
    intro s pav sp pl x hsp hpl hx
    have hexec := exec_spanIteration_open hsp hpl
    refine ⟨fun ⟨k, hk, hne⟩ => ?_, fun hend => ⟨fun hmore => ?_, fun hlast hgone => ?_⟩⟩
    · rwa [State.advanceSpan_waits hx (fun hend => hne (Pavilion.atEnd_iff.1 hend k hk))] at hexec
    · rw [State.advanceSpan_next hx (Pavilion.atEnd_iff.2 hend) hmore] at hexec
      refine ⟨_, hexec, ?_, fun k hk => ?_, (s.within_updPav sp.plot pav _).2⟩
      · rw [State.pav_updPav_self]
      · rw [State.pav_updPav_self]
        exact Pavilion.position_placeAt hk (s.pav pav) sp.plot pl
    · rw [State.advanceSpan_last hx (Pavilion.atEnd_iff.2 hend) hlast (Pavilion.spanWaits_eq_false hgone)] at hexec
      obtain ⟨hplots, hpavs, hkeep⟩ := State.within_exitSpan s sp.plot pav pl x
      refine ⟨_, hexec, ?_, ?_, hplots, hpavs, hkeep⟩
      · rw [State.exitSpan, State.pav_updPlot, State.pav_updPav_self]
      · rw [State.exitSpan_eq, State.plot_updPlot_self, Plot.sem_withSem_self, State.plot_updPav]
  case begin =>
    intro s pav p i pl st x l hspan hp hrun hst hpl hfind hlist hsome
    have hin := s.within_updPav p pav (fun v => { v with
      span := some { plot := p, plan := pl.handle, span := i, iter := 0, total := (x.iterations l).length } })
    exact ⟨_, exec_spanIteration_begin hspan hp hrun hst hpl hfind hlist hsome, State.pav_updPav_self _ _ _, hin.2⟩

end Sys2Proof.Machine

/-! The statement of a box's bounds (O49). -/

namespace Sys2Proof.Machine

/-! ### Bounds (R134) -/

/-- The tensor element of a box element in bounds: in each dimension the origin and the position add up to an index below DIM. -/
theorem View.inBounds_eq_some_iff {v : View} {x : Tensor} {j i : List Nat} : v.inBounds x j = some i ↔
    i.length = 4 ∧ ∀ d < 4, (i.getD d 0 : Int) = v.origins.getD d 0 + (j.getD d 0 : Nat) ∧ i.getD d 0 < x.dims.getD d 0 := by
  have hvalue (d : Nat) (hd : d < 4) : ((List.range 4).map (fun d => v.origins.getD d 0 + (j.getD d 0 : Nat))).getD d 0 =
      v.origins.getD d 0 + (j.getD d 0 : Nat) := by
    rw [List.getD_eq_getElem _ _ (by simpa using hd), List.getElem_map, List.getElem_range]
  simp only [View.inBounds, Option.ite_none_right_eq_some, List.all_eq_true, List.mem_range, Bool.and_eq_true, decide_eq_true_eq,
    Option.some.injEq]
  constructor
  · rintro ⟨hin, rfl⟩
    refine ⟨rfl, fun d hd => ?_⟩
    obtain ⟨hlow, hhigh⟩ := hin d hd
    rw [List.getD_eq_getElem _ _ (by simpa using hd), List.getElem_map, ← List.getD_eq_getElem _ 0, hvalue d hd]
    rw [hvalue d hd] at hlow hhigh
    omega
  · rintro ⟨hlen, hin⟩
    refine ⟨fun d hd => ?_, List.ext_getElem (by simpa using hlen.symm) fun d hd hd' => ?_⟩
    · have := hin d hd
      rw [hvalue d hd]
      omega
    · have hd4 : d < 4 := hlen ▸ hd'
      have := hin d hd4
      rw [List.getElem_map, ← List.getD_eq_getElem _ 0, hvalue d hd4, ← List.getD_eq_getElem _ 0]
      omega

theorem View.inBounds_isSome_iff {v : View} {x : Tensor} {j : List Nat} : (v.inBounds x j).isSome = true ↔
    ∀ d < 4, 0 ≤ v.origins.getD d 0 + (j.getD d 0 : Nat) ∧ v.origins.getD d 0 + (j.getD d 0 : Nat) < (x.dims.getD d 0 : Nat) := by
  rw [Option.isSome_iff_exists]
  constructor
  · rintro ⟨i, hi⟩ d hd
    obtain ⟨hsum, hlt⟩ := (View.inBounds_eq_some_iff.1 hi).2 d hd
    omega
  · intro h
    refine ⟨(List.range 4).map (fun d => (v.origins.getD d 0 + (j.getD d 0 : Nat)).toNat),
      View.inBounds_eq_some_iff.2 ⟨rfl, fun d hd => ?_⟩⟩
    have := h d hd
    rw [List.getD_eq_getElem _ _ (by simpa using hd), List.getElem_map, List.getElem_range]
    omega

/-- An element out of bounds reads as the view's FILL (R135). -/
theorem State.viewElem_outOfBounds {v : View} {x : Tensor} {j : List Nat} (h : v.inBounds x j = none) (s : State) (cx : OpCtx) :
    s.viewElem cx x v j = { code := v.fill % 2 ^ formatBits x.fmt, scale := 127, poisoned := false } := by
  simp only [State.viewElem, h, ite_self]

/-- One past the end of a row of a dense tensor of bytes: the address is that of the next row. -/
theorem Tensor.rowAddr_next {x : Tensor} (hfmt : x.fmt = 4) (hdense : x.strides.getD 1 0 = x.dims.getD 0 0) :
    x.rowAddr [0, 0, 0, 0] + (elemPlace x.fmt (x.dims.getD 0 0)).1 = x.rowAddr [0, 1, 0, 0] := by
  simpa [Tensor.rowAddr, elemPlace, formatBits, hfmt] using hdense.symm

/-- Settles O49: the test compares each dimension's index with that dimension's bounds, and reads nothing else of the tensor. -/
theorem boxBounds : Obligations.BoxBounds := by
  unfold Obligations.BoxBounds
  refine ⟨fun v t j => ⟨View.inBounds_isSome_iff, fun i hi => ?_⟩, fun v t u j hdims => ?_,
    fun s cx v t j h => State.viewElem_outOfBounds h s cx, fun v t horigin hfmt hdense => ⟨?_, Tensor.rowAddr_next hfmt hdense⟩⟩
  · obtain ⟨hlen, hin⟩ := View.inBounds_eq_some_iff.1 hi
    exact ⟨hlen, fun d hd => (hin d hd).1⟩
  · simp only [View.inBounds, hdims]
  · rw [← Option.not_isSome_iff_eq_none, View.inBounds_isSome_iff]
    intro h
    obtain ⟨-, hlt⟩ := h 0 (by decide)
    simp [horigin] at hlt

end Sys2Proof.Machine

/-! The statement of boxes in the local store (O50): an element is a field of bits, which its staging alone changes. -/

namespace Sys2Proof

theorem NMap.find_set_ne {V : Type} (m : NMap V) (i j : Nat) (v : V) (h : j ≠ i) : NMap.find (m.set i v) j = NMap.find m j := by
  induction m with
  | nil => simp [NMap.set, NMap.find, h]
  | cons e m ih =>
    obtain ⟨k, w⟩ := e
    simp only [NMap.set]
    split
    · simp [NMap.find, h]
    · split
      · next hk => subst hk; simp [NMap.find, h]
      · simp [NMap.find, ih]

theorem NMap.find_eq_none {V : Type} {m : NMap V} {k : Nat} (h : ∀ e ∈ m, k ≠ e.1) : NMap.find m k = none := by
  induction m with
  | nil => rfl
  | cons e m ih =>
    obtain ⟨hne, hm⟩ := List.forall_mem_cons.1 h
    exact (if_neg hne).trans (ih hm)

/-- A table written over another: what it lists, and elsewhere what stood there. -/
theorem NMap.get_foldl_set_find {V : Type} (d : V) {l : NMap V} (h : Machine.KeysRise l) (m : NMap V) (k : Nat) :
    NMap.get d (l.foldl (fun m e => m.set e.1 e.2) m) k = (NMap.find l k).getD (NMap.get d m k) := by
  induction l generalizing m with
  | nil => rfl
  | cons e l ih =>
    obtain ⟨hrise, hl⟩ := List.pairwise_cons.1 h
    rw [List.foldl_cons, ih hl]
    by_cases hk : k = e.1
    · subst hk
      have hnone : NMap.find l e.1 = none := NMap.find_eq_none fun x hx => (hrise x.1 (List.mem_map_of_mem hx)).ne
      rw [hnone, Option.getD_none, NMap.get_set_self, NMap.find, if_pos rfl, Option.getD_some]
    · rw [NMap.get_set_ne _ _ _ _ _ hk, NMap.find, if_neg hk]

end Sys2Proof

namespace Sys2Proof.Machine

/-! ### Bits of byte strings and of fields -/

/-- Bit `b` of a memory, counted from the lowest bit of byte 0. -/
def bitAt (f : Nat → Byte) (b : Nat) : Bool := (f (b / 8)).getLsbD (b % 8)

theorem bitAt_add (f : Nat → Byte) (a k : Nat) : bitAt f (8 * a + k) = bitAt (fun c => f (a + c)) k := by
  simp only [bitAt, Nat.mul_add_mod, Nat.mul_add_div (by decide : 8 > 0)]

theorem testBit_leNat (bs : Bytes) (k : Nat) : (leNat bs).testBit k = bitAt (fun c => bs.getD c 0) k := by
  induction bs generalizing k with
  | nil => simp [leNat, bitAt]
  | cons b bs ih =>
    rw [leNat, Nat.add_comm, Nat.testBit_two_pow_mul_add (i := 8) _ b.isLt]
    split
    · next hk => simp [bitAt, Nat.div_eq_of_lt hk, Nat.mod_eq_of_lt hk, BitVec.testBit_toNat]
    · next hk =>
      obtain ⟨c, rfl⟩ := Nat.exists_eq_add_of_le (Nat.le_of_not_lt hk)
      rw [Nat.add_sub_cancel_left, ih, show 8 + c = 8 * 1 + c from rfl, bitAt_add]
      simp [Nat.add_comm 1]

/-- The value of a run of bytes holds the run's bits. -/
theorem testBit_leNat_run (f : Nat → Byte) {n k : Nat} (h : k < 8 * n) : (leNat ((List.range n).map f)).testBit k = bitAt f k := by
  have hk : k / 8 < n := by omega
  rw [testBit_leNat, bitAt, bitAt, List.getD_eq_getElem _ _ (by simpa using hk), List.getElem_map, List.getElem_range]

theorem bitAt_natLE (n v k : Nat) (h : k < 8 * n) : bitAt (fun c => (natLE n v).getD c 0) k = v.testBit k := by
  induction n generalizing v k with
  | zero => omega
  | succ n ih =>
    by_cases hk : k < 8
    · simp [bitAt, natLE, Nat.div_eq_of_lt hk, Nat.mod_eq_of_lt hk, BitVec.getLsbD_ofNat, hk, -BitVec.getLsbD_eq_getElem]
    · obtain ⟨c, rfl⟩ := Nat.exists_eq_add_of_le (Nat.le_of_not_lt hk)
      have hrest := ih (v / 2 ^ 8) c (by omega)
      rw [Nat.testBit_div_two_pow, Nat.add_comm c] at hrest
      rw [← hrest, show 8 + c = 8 * 1 + c from rfl, bitAt_add]
      simp [natLE, Nat.add_comm 1]

/-- A field of `w` bits at bit `b` is replaced, and no other bit changes. -/
theorem testBit_replaceField (old c b w k : Nat) : (old - old / 2 ^ b % 2 ^ w * 2 ^ b + c % 2 ^ w * 2 ^ b).testBit k =
    if b ≤ k ∧ k < b + w then c.testBit (k - b) else old.testBit k := by
  have hlow : old % 2 ^ b < 2 ^ b := Nat.mod_lt _ (by positivity)
  have hfield (x : Nat) : x % 2 ^ w < 2 ^ w := Nat.mod_lt _ (by positivity)
  have hold : old = 2 ^ b * (2 ^ w * (old / 2 ^ b / 2 ^ w)) + old % 2 ^ b + old / 2 ^ b % 2 ^ w * 2 ^ b := by
    have hdiv := Nat.div_add_mod old (2 ^ b)
    have hdiv' := Nat.div_add_mod (old / 2 ^ b) (2 ^ w)
    calc old = 2 ^ b * (old / 2 ^ b) + old % 2 ^ b := hdiv.symm
      _ = 2 ^ b * (2 ^ w * (old / 2 ^ b / 2 ^ w) + old / 2 ^ b % 2 ^ w) + old % 2 ^ b := by rw [hdiv']
      _ = _ := by ring
  have hnew : old - old / 2 ^ b % 2 ^ w * 2 ^ b + c % 2 ^ w * 2 ^ b =
      2 ^ b * (2 ^ w * (old / 2 ^ b / 2 ^ w) + c % 2 ^ w) + old % 2 ^ b := by
    rw [Nat.sub_eq_of_eq_add hold]
    ring
  rw [hnew, Nat.testBit_two_pow_mul_add _ hlow, Nat.testBit_two_pow_mul_add _ (hfield c)]
  by_cases hb : k < b
  · rw [if_pos hb, if_neg (by omega), Nat.testBit_mod_two_pow, decide_eq_true hb, Bool.true_and]
  · by_cases hw : k - b < w
    · rw [if_neg hb, if_pos hw, if_pos (by omega), Nat.testBit_mod_two_pow, decide_eq_true hw, Bool.true_and]
    · rw [if_neg hb, if_neg hw, if_neg (by omega), Nat.testBit_div_two_pow, Nat.testBit_div_two_pow]
      congr 1
      omega

/-! ### The place of an element (Table LAY-3) -/

/-- The first bit of an element, counted from the lowest bit of its memory's byte 0. -/
def Tensor.firstBit (x : Tensor) (i : List Nat) : Nat := 8 * x.rowAddr i + formatBits x.fmt * i.getD 0 0

/-- Whether tensor indices are below the tensor's dimensions. -/
def Tensor.holds (x : Tensor) (i : List Nat) : Prop := ∀ d < 4, i.getD d 0 < x.dims.getD d 0

theorem formatBits_cases (fmt : Nat) :
    formatBits fmt = 4 ∨ formatBits fmt = 6 ∨ formatBits fmt = 8 ∨ formatBits fmt = 16 ∨ formatBits fmt = 32 := by
  unfold formatBits
  split_ifs <;> decide

/-- The elements of a row stand one behind the other, each whole in its group. -/
theorem elemPlace_eq (fmt i : Nat) : ∃ off n bit, elemPlace fmt i = (off, n, bit) ∧ 8 * off + bit = formatBits fmt * i ∧
    bit + formatBits fmt ≤ 8 * n := by
  refine ⟨(elemPlace fmt i).1, (elemPlace fmt i).2.1, (elemPlace fmt i).2.2, rfl, ?_⟩
  rcases formatBits_cases fmt with h | h | h | h | h <;> simp [elemPlace, h] <;> omega

/-- A row's bytes hold its elements. -/
theorem formatBits_mul_le_rowBytes (fmt n : Nat) : formatBits fmt * n ≤ 8 * rowBytes fmt n := by
  rcases formatBits_cases fmt with h | h | h | h | h <;> simp [rowBytes, ceilDiv, h] <;> omega

/-! ### Positions of a box (R132) -/

/-- The row-major position of a box index. -/
theorem View.position_index (v : View) (n : Nat) : (v.index n).getD 0 0 + v.extents.getD 0 0 * ((v.index n).getD 1 0 +
    v.extents.getD 1 0 * ((v.index n).getD 2 0 + v.extents.getD 2 0 * (v.index n).getD 3 0)) = n := by
  simp only [View.index, List.getD_cons_zero, List.getD_cons_succ, ← Nat.div_div_eq_div_mul, Nat.mod_add_div]

/-- Two positions of a box stand for two elements of the tensor. -/
theorem View.index_unique {v : View} {x : Tensor} {m n : Nat} {i : List Nat} (hm : v.inBounds x (v.index m) = some i)
    (hn : v.inBounds x (v.index n) = some i) : m = n := by
  have hsame (d : Nat) (hd : d < 4) : (v.index m).getD d 0 = (v.index n).getD d 0 := by
    have := ((View.inBounds_eq_some_iff.1 hm).2 d hd).1
    have := ((View.inBounds_eq_some_iff.1 hn).2 d hd).1
    omega
  rw [← v.position_index m, ← v.position_index n, hsame 0 (by decide), hsame 1 (by decide), hsame 2 (by decide), hsame 3 (by decide)]

/-- The positions of a list of elements differ. -/
theorem positions_ne {n : Nat} {es : List Elem} (h : es.length = n) : ((List.range n).zip es).Pairwise (fun a b => a.1 ≠ b.1) := by
  rw [← List.pairwise_map (f := Prod.fst) (R := fun a b : Nat => a ≠ b), List.map_fst_zip (by simp [h])]
  exact List.nodup_range

/-! ### Elements apart (R138) -/

/-- Rows of a tensor do not overlap, and no scale byte of an MX tensor lies in a row. -/
structure Tensor.Separate (x : Tensor) : Prop where
  rows : ∀ i j : List Nat, x.holds i → x.holds j →
    (i.getD 1 0 = j.getD 1 0 ∧ i.getD 2 0 = j.getD 2 0 ∧ i.getD 3 0 = j.getD 3 0) ∨
    x.rowAddr i + rowBytes x.fmt (x.dims.getD 0 0) ≤ x.rowAddr j ∨ x.rowAddr j + rowBytes x.fmt (x.dims.getD 0 0) ≤ x.rowAddr i
  scales : isMx x.fmt = true → ∀ i j : List Nat, x.holds i → x.holds j →
    x.scaleAddr i < x.rowAddr j ∨ x.rowAddr j + rowBytes x.fmt (x.dims.getD 0 0) ≤ x.scaleAddr i

theorem Tensor.holds_of_inBounds {v : View} {x : Tensor} {j i : List Nat} (h : v.inBounds x j = some i) : x.holds i :=
  fun d hd => ((View.inBounds_eq_some_iff.1 h).2 d hd).2

theorem mul_add_le_mul (w : Nat) {a b : Nat} (h : a < b) : w * a + w ≤ w * b :=
  (Nat.mul_succ w a).symm.trans_le (Nat.mul_le_mul_left w h)

/-- An element's bits lie in its row. -/
theorem Tensor.firstBit_in_row {x : Tensor} {i : List Nat} (h : x.holds i) : 8 * x.rowAddr i ≤ x.firstBit i ∧
    x.firstBit i + formatBits x.fmt ≤ 8 * (x.rowAddr i + rowBytes x.fmt (x.dims.getD 0 0)) := by
  have hfield := mul_add_le_mul (formatBits x.fmt) (h 0 (by decide))
  have hrow := formatBits_mul_le_rowBytes x.fmt (x.dims.getD 0 0)
  unfold Tensor.firstBit
  omega

/-- Two elements share no bit. -/
theorem Tensor.Separate.firstBit_apart {x : Tensor} (hx : x.Separate) {i j : List Nat} (hi : x.holds i) (hj : x.holds j)
    (hli : i.length = 4) (hlj : j.length = 4) (hne : i ≠ j) :
    x.firstBit i + formatBits x.fmt ≤ x.firstBit j ∨ x.firstBit j + formatBits x.fmt ≤ x.firstBit i := by
  rcases hx.rows i j hi hj with ⟨h1, h2, h3⟩ | hdisjoint
  · have hrow : x.rowAddr i = x.rowAddr j := by simp only [Tensor.rowAddr, h1, h2, h3]
    have h0 : i.getD 0 0 ≠ j.getD 0 0 := fun h0 => hne (by
      refine List.ext_getElem (hli.trans hlj.symm) fun d hd hd' => ?_
      rw [← List.getD_eq_getElem _ 0, ← List.getD_eq_getElem _ 0]
      have hd4 : d < 4 := hli ▸ hd
      interval_cases d <;> assumption)
    unfold Tensor.firstBit
    rw [hrow]
    rcases Nat.lt_or_gt_of_ne h0 with hlt | hlt <;>
    · have := mul_add_le_mul (formatBits x.fmt) hlt
      omega
  · have := Tensor.firstBit_in_row hi
    have := Tensor.firstBit_in_row hj
    omega

/-- The bits of an element are in no scale byte. -/
theorem Tensor.Separate.scaleAddr_ne {x : Tensor} (hx : x.Separate) {i j : List Nat} (hi : x.holds i) (hj : x.holds j) {k : Nat}
    (hk : k < formatBits x.fmt) (hmx : isMx x.fmt = true) : (x.firstBit j + k) / 8 ≠ x.scaleAddr i := by
  have := hx.scales hmx i j hi hj
  have := Tensor.firstBit_in_row hj
  omega

/-! ### Bytes of a stage over the local store -/

theorem Staged.byte_put (g : Staged) (s : State) (pav a c : Nat) (b : Byte) (poisoned : Bool) :
    (g.put (.ls a) b poisoned).byte s pav (.ls c) = if c = a then b else g.byte s pav (.ls c) := by
  simp only [Staged.byte, Staged.put, locAddr]
  split_ifs with h
  · rw [h, NMap.find_set_self]
  · rw [NMap.find_set_ne _ _ _ _ h]

theorem Staged.keysRise_put {g : Staged} (h : KeysRise g.bytes) (l : Loc) (b : Byte) (poisoned : Bool) :
    KeysRise (g.put l b poisoned).bytes := by
  unfold Staged.put
  split
  · exact h
  · exact keysRise_set h _ _

/-- The committed store shows what the stage showed. -/
theorem State.locByte_commitStore {g : Staged} (h : KeysRise g.bytes) (s : State) (pav a : Nat) :
    (s.commitStore pav g).locByte pav (.ls a) = g.byte s pav (.ls a) := by
  rw [State.locByte, State.pav_commitStore, NMap.get_foldl_set_find 0 h, Staged.byte, locAddr]
  cases NMap.find g.bytes a <;> rfl

/-- A run of bytes put from an address on. -/
theorem Staged.byte_putRun (bs : Bytes) (g : Staged) (s : State) (pav a c : Nat) (poisoned : Bool) :
    ((((List.range bs.length).map (fun k => Loc.ls (a + k))).zip bs).foldl (fun g p => g.put p.1 p.2 poisoned) g).byte s pav (.ls c) =
      if a ≤ c ∧ c < a + bs.length then bs.getD (c - a) 0 else g.byte s pav (.ls c) := by
  induction bs generalizing g a with
  | nil => rw [if_neg (by simp)]; rfl
  | cons b bs ih =>
    have hlocs : (List.range (b :: bs).length).map (fun k => Loc.ls (a + k)) =
        Loc.ls a :: (List.range bs.length).map (fun k => Loc.ls (a + 1 + k)) := by
      simp [List.range_succ_eq_map, Nat.add_assoc, Nat.add_comm 1]
    rw [hlocs, List.zip_cons_cons, List.foldl_cons, ih, Staged.byte_put, List.length_cons]
    by_cases hc : c = a
    · rw [if_neg (by omega), if_pos hc, if_pos (by omega), hc, Nat.sub_self, List.getD_cons_zero]
    · by_cases hin : a + 1 ≤ c ∧ c < a + 1 + bs.length
      · rw [if_pos hin, if_pos (by omega), show c - a = c - (a + 1) + 1 by omega, List.getD_cons_succ]
      · rw [if_neg hin, if_neg hc, if_neg (by omega)]

/-! ### Bits of a stage and of a store -/

/-- A bit that a stage shows of a local store. -/
def Staged.bit (g : Staged) (s : State) (pav : Nat) : Nat → Bool := bitAt (fun a => g.byte s pav (.ls a))

/-- A value put as a run of bytes shows its bits there, and no other bit changes. -/
theorem Staged.bit_putRun (g : Staged) (s : State) (pav a n v b : Nat) (poisoned : Bool) :
    ((((List.range n).map (fun k => Loc.ls (a + k))).zip (natLE n v)).foldl (fun g p => g.put p.1 p.2 poisoned) g).bit s pav b =
      if 8 * a ≤ b ∧ b < 8 * a + 8 * n then v.testBit (b - 8 * a) else g.bit s pav b := by
  have hbyte (c : Nat) := Staged.byte_putRun (natLE n v) g s pav a c poisoned
  simp only [natLE_length] at hbyte
  simp only [Staged.bit, bitAt, hbyte]
  by_cases hb : 8 * a ≤ b ∧ b < 8 * a + 8 * n
  · obtain ⟨k, rfl⟩ := Nat.exists_eq_add_of_le hb.1
    rw [if_pos (by omega), if_pos hb, Nat.add_sub_cancel_left, ← bitAt_natLE n v k (by omega), Nat.mul_add_mod,
      Nat.mul_add_div (by decide), Nat.add_sub_cancel_left]
    rfl
  · rw [if_neg (by omega), if_neg hb]

/-- A stage shows a code in the place of a tensor's element. -/
def Staged.shows (g : Staged) (s : State) (pav : Nat) (x : Tensor) (i : List Nat) (c : Nat) : Prop :=
  ∀ k < formatBits x.fmt, g.bit s pav (x.firstBit i + k) = c.testBit k

section
variable {s : State} {cx : OpCtx} {x : Tensor} (hmem : x.mem = 3)
include hmem

theorem State.locate_localStore (lane a : Nat) : s.locate cx x.mem lane a = .ls a := by
  simp [State.locate, hmem]

/-- A code is read from the bits of its element. -/
theorem State.testBit_tensorElem (i : List Nat) (k : Nat) : (s.tensorElem cx x i).code.testBit k =
    (decide (k < formatBits x.fmt) && bitAt (fun a => s.locByte cx.pav (.ls a)) (x.firstBit i + k)) := by
  obtain ⟨off, n, bit, hplace, hbit, hgroup⟩ := elemPlace_eq x.fmt (i.getD 0 0)
  have hcode : (s.tensorElem cx x i).code = (s.elemAt cx x (x.rowAddr i) (i.getD 0 0)).1 := by
    unfold State.tensorElem
    split <;> rfl
  simp only [hcode, State.elemAt, hplace, State.locate_localStore hmem, Nat.testBit_mod_two_pow, Nat.testBit_div_two_pow,
    List.map_map]
  by_cases hk : k < formatBits x.fmt
  · have hfirst : x.firstBit i = 8 * (x.rowAddr i + off) + bit := by
      unfold Tensor.firstBit
      omega
    rw [testBit_leNat_run _ (by omega), hfirst, Nat.add_comm k, Nat.add_assoc, bitAt_add]
    rfl
  · rw [decide_eq_false hk, Bool.false_and, Bool.false_and]

/-- An element that is staged changes the bits of its code and, in an MX format, its scale byte (R131). -/
theorem State.bit_stageElem (i : List Nat) (e : Elem) (g : Staged) (b : Nat) (hscale : isMx x.fmt = true → b / 8 ≠ x.scaleAddr i) :
    (s.stageElem cx x i e g).bit s cx.pav b =
      if x.firstBit i ≤ b ∧ b < x.firstBit i + formatBits x.fmt then (e.code).testBit (b - x.firstBit i) else g.bit s cx.pav b := by
  obtain ⟨off, n, bit, hplace, hbit, hgroup⟩ := elemPlace_eq x.fmt (i.getD 0 0)
  have hfirst : x.firstBit i = 8 * (x.rowAddr i + off) + bit := by
    unfold Tensor.firstBit
    omega
  have hput (g' : Staged) : (if isMx x.fmt = true then g'.put (.ls (x.scaleAddr i)) (BitVec.ofNat 8 e.scale) e.poisoned else g').bit
      s cx.pav b = g'.bit s cx.pav b := by
    split
    · next hmx => rw [Staged.bit, Staged.bit, bitAt, bitAt, Staged.byte_put, if_neg (hscale hmx)]
    · rfl
  simp only [State.stageElem, hplace, State.locate_localStore hmem, hput]
  by_cases hb : 8 * (x.rowAddr i + off) ≤ b ∧ b < 8 * (x.rowAddr i + off) + 8 * n
  · obtain ⟨k, rfl⟩ := Nat.exists_eq_add_of_le hb.1
    rw [Staged.bit_putRun, if_pos hb, Nat.add_sub_cancel_left, testBit_replaceField, List.map_map, testBit_leNat_run _ (by omega),
      Staged.bit, bitAt_add, hfirst, Nat.add_sub_add_left]
    exact if_congr (by omega) rfl rfl
  · rw [Staged.bit_putRun, if_neg hb, if_neg (by omega)]

theorem State.shows_stageElem_self (hx : x.Separate) {i : List Nat} (hi : x.holds i) (e : Elem) (g : Staged) :
    (s.stageElem cx x i e g).shows s cx.pav x i e.code := by
  intro k hk
  rw [State.bit_stageElem hmem i e g _ (hx.scaleAddr_ne hi hi hk), if_pos (by omega), Nat.add_sub_cancel_left]

theorem State.shows_stageElem_ne (hx : x.Separate) {i j : List Nat} (hi : x.holds i) (hj : x.holds j) (hli : i.length = 4)
    (hlj : j.length = 4) (hne : i ≠ j) (e : Elem) {g : Staged} {c : Nat} (h : g.shows s cx.pav x j c) :
    (s.stageElem cx x i e g).shows s cx.pav x j c := by
  intro k hk
  have hapart := hx.firstBit_apart hi hj hli hlj hne
  rw [State.bit_stageElem hmem i e g _ (hx.scaleAddr_ne hi hj hk), if_neg (by omega), h k hk]

/-! ### Staging a box (R135) -/

/-- One element of a box is staged, unless it is out of bounds. -/
def State.stageAt (s : State) (cx : OpCtx) (x : Tensor) (v : View) (g : Staged) (p : Nat × Elem) : Staged :=
  match v.inBounds x (v.index p.1) with
  | some i => s.stageElem cx x i p.2 g
  | none => g

theorem State.stageBox_eq (v : View) (es : List Elem) (g : Staged) :
    s.stageBox cx x v es g = ((List.range v.size).zip es).foldl (s.stageAt cx x v) g := by
  rw [State.stageBox, if_neg (by omega)]
  rfl

omit hmem in
theorem State.stageAt_of_inBounds {v : View} {p : Nat × Elem} {i : List Nat} (h : v.inBounds x (v.index p.1) = some i) (g : Staged) :
    s.stageAt cx x v g p = s.stageElem cx x i p.2 g := by
  simp only [State.stageAt, h]

/-- Elements that are staged elsewhere leave an element's code. -/
theorem State.shows_foldl_stageAt (hx : x.Separate) {v : View} {j : List Nat} (hj : x.holds j) (hlj : j.length = 4)
    {ps : List (Nat × Elem)} (hps : ∀ p ∈ ps, v.inBounds x (v.index p.1) ≠ some j) {g : Staged} {c : Nat}
    (h : g.shows s cx.pav x j c) : (ps.foldl (s.stageAt cx x v) g).shows s cx.pav x j c := by
  refine List.foldlRecOn (motive := fun g : Staged => g.shows s cx.pav x j c) ps _ h fun g hg p hp => ?_
  cases hin : v.inBounds x (v.index p.1) with
  | none => simpa only [State.stageAt, hin] using hg
  | some i =>
    rw [State.stageAt_of_inBounds hin]
    refine State.shows_stageElem_ne hmem hx (Tensor.holds_of_inBounds hin) hj (View.inBounds_eq_some_iff.1 hin).1 hlj ?_ p.2 hg
    rintro rfl
    exact hps p hp hin

/-- An element of a box that is staged shows its code, for no other element of the box stands for the same element of the tensor. -/
theorem State.shows_foldl_stageAt_mem (hx : x.Separate) {v : View} {i : List Nat} {p : Nat × Elem}
    (hin : v.inBounds x (v.index p.1) = some i) {ps : List (Nat × Elem)} (hps : ps.Pairwise (fun a b => a.1 ≠ b.1)) (hp : p ∈ ps)
    (g : Staged) : (ps.foldl (s.stageAt cx x v) g).shows s cx.pav x i p.2.code := by
  obtain ⟨before, after, rfl⟩ := List.append_of_mem hp
  obtain ⟨hne, -⟩ := List.pairwise_cons.1 (List.pairwise_append.1 hps).2.1
  rw [List.foldl_append, List.foldl_cons, State.stageAt_of_inBounds hin]
  refine State.shows_foldl_stageAt hmem hx (Tensor.holds_of_inBounds hin) (View.inBounds_eq_some_iff.1 hin).1 (fun q hq hq' => ?_)
    (State.shows_stageElem_self hmem hx (Tensor.holds_of_inBounds hin) p.2 _)
  exact hne q hq (View.index_unique hin hq')

omit hmem in
theorem State.keysRise_stageElem (i : List Nat) (e : Elem) {g : Staged} (h : KeysRise g.bytes) :
    KeysRise (s.stageElem cx x i e g).bytes := by
  have hrun (ps : List (Loc × Byte)) : KeysRise (ps.foldl (fun g p => g.put p.1 p.2 e.poisoned) g).bytes :=
    List.foldlRecOn (motive := fun g : Staged => KeysRise g.bytes) ps _ h fun _ hg p _ => Staged.keysRise_put hg p.1 p.2 e.poisoned
  simp only [State.stageElem]
  split
  · exact Staged.keysRise_put (hrun _) _ _ _
  · exact hrun _

theorem State.keysRise_stageBox (v : View) (es : List Elem) : KeysRise (s.stageBox cx x v es Staged.none).bytes := by
  rw [State.stageBox_eq hmem]
  refine List.foldlRecOn (motive := fun g : Staged => KeysRise g.bytes) _ _ List.Pairwise.nil fun g hg p _ => ?_
  cases hin : v.inBounds x (v.index p.1) with
  | none => simpa only [State.stageAt, hin] using hg
  | some i => exact State.stageAt_of_inBounds hin g ▸ State.keysRise_stageElem i p.2 hg

/-- What a committed stage shows in an element's place is the code that the element reads as. -/
theorem State.tensorElem_commitStore {g : Staged} (hg : KeysRise g.bytes) {i : List Nat} {c : Nat} (h : g.shows s cx.pav x i c) :
    ((s.commitStore cx.pav g).tensorElem cx x i).code = c % 2 ^ formatBits x.fmt := by
  refine Nat.eq_of_testBit_eq fun k => ?_
  rw [State.testBit_tensorElem hmem, Nat.testBit_mod_two_pow]
  simp only [State.locByte_commitStore hg]
  by_cases hk : k < formatBits x.fmt
  · exact congrArg _ (h k hk)
  · simp only [hk, decide_false, Bool.false_and]

/-- An empty stage shows what stands there. -/
theorem State.shows_none (i : List Nat) : Staged.none.shows s cx.pav x i (s.tensorElem cx x i).code := by
  intro k hk
  rw [State.testBit_tensorElem hmem, decide_eq_true hk, Bool.true_and]
  rfl

theorem State.tensorElem_mod (i : List Nat) : (s.tensorElem cx x i).code % 2 ^ formatBits x.fmt = (s.tensorElem cx x i).code := by
  refine Nat.eq_of_testBit_eq fun k => ?_
  rw [Nat.testBit_mod_two_pow, State.testBit_tensorElem hmem, ← Bool.and_assoc, Bool.and_self]

end

/-- Settles O50: an element is a field of bits of its own (`Tensor.firstBit`), and staging it changes the bits of that field and,
in an MX format, a byte outside every row. -/
theorem localStoreBoxes : Obligations.LocalStoreBoxes := by
  unfold Obligations.LocalStoreBoxes
  rintro s t cx x v es hmem hlen hrows hscales rfl
  have hx : x.Separate := ⟨hrows, hscales⟩
  have hrise := State.keysRise_stageBox (s := s) (cx := cx) hmem v es
  have hbox := State.stageBox_eq (s := s) (cx := cx) hmem v es Staged.none
  refine ⟨fun n e i hn he hin => ?_, fun i hli hi hout => ?_, (s.within_commitStore 0 cx.pav _).2⟩
  · have hmemb : (n, e) ∈ (List.range v.size).zip es := by
      obtain ⟨he', rfl⟩ := List.getElem?_eq_some_iff.1 he
      exact List.mem_iff_getElem.2 ⟨n, by simpa using ⟨hn, he'⟩, by simp⟩
    refine State.tensorElem_commitStore hmem hrise ?_
    rw [hbox]
    exact State.shows_foldl_stageAt_mem (p := (n, e)) hmem hx hin (positions_ne hlen) hmemb Staged.none
  · rw [← State.tensorElem_mod (s := s) hmem i]
    refine State.tensorElem_commitStore hmem hrise ?_
    rw [hbox]
    refine State.shows_foldl_stageAt hmem hx hi hli (fun p hp => ?_) (State.shows_none hmem i)
    exact hout p.1 (List.mem_range.1 (List.of_mem_zip hp).1)

end Sys2Proof.Machine

/-! The invariant of device memory (O45, O46). A lemma for each function of the model says what it can do to the bytes of memory:
`f_mem` that it leaves the whole of memory as it is, `f_bytes` that it leaves the bytes, `f_canonical` that canonical bytes stay
canonical. All of them are simp lemmas, so a function's lemma follows from those of the functions that it calls. -/

namespace Sys2Proof.Machine

/-! ### What a command goes on with -/

/-- Whatever an outcome goes on with has its device memory in canonical form. -/
def EndsCanonical (o : Out) : Prop := ∀ t, o = .next t → cellsWf t.mem.bytes = true

@[simp] theorem endsCanonical_next (t : State) : EndsCanonical (.next t) ↔ cellsWf t.mem.bytes = true := by simp [EndsCanonical]

theorem EndsCanonical.of_next {t : State} (h : cellsWf t.mem.bytes = true) : EndsCanonical (.next t) := (endsCanonical_next t).2 h

theorem EndsCanonical.ite {c : Prop} [Decidable c] {a b : Out} (ha : EndsCanonical a) (hb : EndsCanonical b) :
    EndsCanonical (if c then a else b) := by split <;> assumption

/-! ### Choices, folds and served messages -/

section Choices

variable (c : Prop) [Decidable c]

@[simp] theorem State.mem_ite (a b : State) : (if c then a else b).mem = if c then a.mem else b.mem := apply_ite ..

@[simp] theorem Mem.bytes_ite (a b : Mem) : (if c then a else b).bytes = if c then a.bytes else b.bytes := apply_ite ..

@[simp] theorem State.fst_ite {α : Type} (a b : State × α) : (if c then a else b).1 = if c then a.1 else b.1 := apply_ite ..

@[simp] theorem endsCanonical_ite (a b : Out) :
    EndsCanonical (if c then a else b) ↔ (if c then EndsCanonical a else EndsCanonical b) := by split <;> rfl

@[simp] theorem cellsWf_ite (a b : List Host.Cell) : cellsWf (if c then a else b) = if c then cellsWf a else cellsWf b := apply_ite ..

end Choices

section Folds

variable {α β : Type}

@[simp] theorem State.foldl_mem {f : State → α → State} (h : ∀ s x, (f s x).mem = s.mem) (l : List α) (s : State) :
    (l.foldl f s).mem = s.mem := by induction l generalizing s <;> simp_all

@[simp] theorem State.foldl_bytes {f : State → α → State} (h : ∀ s x, (f s x).mem.bytes = s.mem.bytes) (l : List α) (s : State) :
    (l.foldl f s).mem.bytes = s.mem.bytes := by induction l generalizing s <;> simp_all

@[simp] theorem State.foldl_canonical {f : State → α → State} {s : State} (h : cellsWf s.mem.bytes = true)
    (hf : ∀ s x, cellsWf s.mem.bytes = true → cellsWf (f s x).mem.bytes = true) (l : List α) : cellsWf (l.foldl f s).mem.bytes = true :=
  List.foldlRecOn (motive := fun t => cellsWf t.mem.bytes = true) l f h fun s hs x _ => hf s x hs

@[simp] theorem State.foldl_fst_mem {f : State × β → α → State × β} (h : ∀ y x, (f y x).1.mem = y.1.mem) (l : List α) (y : State × β) :
    (l.foldl f y).1.mem = y.1.mem := by induction l generalizing y <;> simp_all

@[simp] theorem State.foldl_fst_bytes {f : State × β → α → State × β} (h : ∀ y x, (f y x).1.mem.bytes = y.1.mem.bytes) (l : List α)
    (y : State × β) : (l.foldl f y).1.mem.bytes = y.1.mem.bytes := by induction l generalizing y <;> simp_all

@[simp] theorem State.foldl_fst_canonical {f : State × β → α → State × β} {y : State × β} (h : cellsWf y.1.mem.bytes = true)
    (hf : ∀ y x, cellsWf y.1.mem.bytes = true → cellsWf (f y x).1.mem.bytes = true) (l : List α) :
    cellsWf (l.foldl f y).1.mem.bytes = true :=
  List.foldlRecOn (motive := fun y => cellsWf y.1.mem.bytes = true) l f h fun y hy x _ => hf y x hy

@[simp] theorem Mem.foldl_canonical {f : Mem → α → Mem} {m : Mem} (h : cellsWf m.bytes = true)
    (hf : ∀ m x, cellsWf m.bytes = true → cellsWf (f m x).bytes = true) (l : List α) : cellsWf (l.foldl f m).bytes = true :=
  List.foldlRecOn (motive := fun m => cellsWf m.bytes = true) l f h fun m hm x _ => hf m x hm

@[simp] theorem Mem.foldl_poisonLine_bytes (ls : List Nat) (m : Mem) : (ls.foldl Mem.poisonLine m).bytes = m.bytes := by
  induction ls generalizing m <;> simp_all

end Folds

section Served

variable {s : State} {p opcode : Nat} {sel : Bytes → Bool} {work : Req → State → State}

/-- What holds before a message is served, and whatever its work leaves, holds after. -/
theorem State.serve_ind {P : State → Prop} (h : P s) (hw : ∀ r, P (work r s)) : P (s.serve p opcode sel work) := by
  unfold State.serve
  split
  · exact h
  · split
    · exact hw _
    · exact h

@[simp] theorem State.serve_mem (hw : ∀ r, (work r s).mem = s.mem) : (s.serve p opcode sel work).mem = s.mem :=
  State.serve_ind (P := fun t => t.mem = s.mem) rfl hw

@[simp] theorem State.serve_canonical (h : cellsWf s.mem.bytes = true) (hw : ∀ r, cellsWf (work r s).mem.bytes = true) :
    cellsWf (s.serve p opcode sel work).mem.bytes = true :=
  State.serve_ind (P := fun t => cellsWf t.mem.bytes = true) h hw

end Served

/-! ### What leaves memory canonical: Ops -/

@[simp] theorem Mem.issue_canonical (m : Mem) (w : LineWrite) (hs : cellsWf m.bytes = true) : cellsWf (m.issue w).bytes = true :=
  Mem.issue_wf m w hs

@[simp] theorem Mem.write_canonical (m : Mem) (a : Nat) (bs : Bytes) (hs : cellsWf m.bytes = true) : cellsWf (m.write a bs).bytes = true :=
  Mem.write_wf m a bs hs

@[simp] theorem Mem.zero_canonical (m : Mem) (a n : Nat) (hs : cellsWf m.bytes = true) : cellsWf (m.zero a n).bytes = true :=
  Mem.zero_wf m a n hs

@[simp] theorem Mem.zeroRun_canonical (m : Mem) (r : Run) (hs : cellsWf m.bytes = true) : cellsWf (m.zeroRun r).bytes = true :=
  Mem.zeroRun_wf m r hs

@[simp] theorem Mem.post_canonical (m : Mem) (plot a : Nat) (bs : Bytes) (hs : cellsWf m.bytes = true) :
    cellsWf (m.post plot a bs).bytes = true := by simp [Mem.post, hs]

@[simp] theorem Mem.postBad_canonical (m : Mem) (plot a : Nat) (bs : Bytes) (hs : cellsWf m.bytes = true) :
    cellsWf (m.postBad plot a bs).bytes = true := by
  simp only [Mem.postBad]; split <;> simp [hs]

@[simp] theorem State.chargeRead_mem (s : State) (p a n : Nat) : (s.chargeRead p a n).mem = s.mem := by simp [State.chargeRead]

@[simp] theorem State.chargeWrite_mem (s : State) (p a n : Nat) : (s.chargeWrite p a n).mem = s.mem := by simp [State.chargeWrite]

@[simp] theorem Mem.grant_bytes (m : Mem) (r : Run) : (m.grant r).bytes = m.bytes := by simp [Mem.grant]

@[simp] theorem Mem.release_bytes (m : Mem) (plot : Nat) (closing : Bool) (rs : List Run) :
    (m.release plot closing rs).bytes = m.bytes := by simp [Mem.release]

@[simp] theorem State.ok_mem (s : State) (p : Nat) (r : Req) (body : Bytes) : (s.ok p r body).mem = s.mem := by simp [State.ok]

@[simp] theorem State.refuse_mem (s : State) (p : Nat) (r : Req) (status : Nat) : (s.refuse p r status).mem = s.mem := by
  simp [State.refuse]

@[simp] theorem State.unsolicited_mem (s : State) (p source : Nat) (body : Bytes) : (s.unsolicited p source body).mem = s.mem := by
  simp [State.unsolicited]

@[simp] theorem State.notify_mem (s : State) (sensor value : Nat) : (s.notify sensor value).mem = s.mem := by simp [State.notify]

@[simp] theorem State.logError_mem (s : State) (p : Nat) (e : ErrRec) : (s.logError p e).mem = s.mem := by simp [State.logError]

@[simp] theorem State.raise_mem (s : State) (p : Nat) (e : ErrRec) : (s.raise p e).mem = s.mem := (s.tells_raise p e).mem

@[simp] theorem State.makeVoid_mem (s : State) (p plan : Nat) : (s.makeVoid p plan).mem = s.mem := by simp [State.makeVoid]

@[simp] theorem State.makeVoidAll_mem (s : State) (p : Nat) : (s.makeVoidAll p).mem = s.mem := by simp [State.makeVoidAll]

@[simp] theorem State.addressFault_bytes (s : State) (p a : Nat) : (s.addressFault p a).mem.bytes = s.mem.bytes := by
  simp [State.addressFault]

/-! ### What leaves memory canonical: Grants -/

@[simp] theorem State.chargeHeld_mem (s : State) (p h : Nat) : (s.chargeHeld p h).mem = s.mem := by simp [State.chargeHeld]

@[simp] theorem State.chargePav_mem (s : State) (i upto : Nat) : (s.chargePav i upto).mem = s.mem := by simp [State.chargePav]

@[simp] theorem State.applyGrants_mem (s : State) (gs : List (Nat × Nat)) (on : Nat → Bool) : (s.applyGrants gs on).mem = s.mem := by
  simp [State.applyGrants]

@[simp] theorem State.dropGrant_mem (s : State) (p : Nat) : (s.dropGrant p).mem = s.mem := by simp [State.dropGrant]

@[simp] theorem State.dropIdleGrant_mem (s : State) (p : Nat) : (s.dropIdleGrant p).mem = s.mem := by simp [State.dropIdleGrant]

/-! ### What leaves memory canonical: Flags -/

@[simp] theorem execPrtErrWrite_canonical (pav value : Nat) (s : State) (hs : cellsWf s.mem.bytes = true) :
    EndsCanonical (execPrtErrWrite pav value s) := by simp [execPrtErrWrite, hs]

@[simp] theorem execPavErrWrite_canonical (pav value : Nat) (s : State) (hs : cellsWf s.mem.bytes = true) :
    EndsCanonical (execPavErrWrite pav value s) := by simp [execPavErrWrite, hs]

@[simp] theorem execModMemErrWrite_canonical (value : Nat) (s : State) (hs : cellsWf s.mem.bytes = true) :
    EndsCanonical (execModMemErrWrite value s) := by simp [execModMemErrWrite, hs]

@[simp] theorem execCscErrWrite_canonical (engine value : Nat) (s : State) (hs : cellsWf s.mem.bytes = true) :
    EndsCanonical (execCscErrWrite engine value s) := by simp [execCscErrWrite, hs]

@[simp] theorem execAvnErrWrite_canonical (port value : Nat) (s : State) (hs : cellsWf s.mem.bytes = true) :
    EndsCanonical (execAvnErrWrite port value s) := by simp [execAvnErrWrite, hs]

@[simp] theorem execOrgErrWrite_canonical (value : Nat) (s : State) (hs : cellsWf s.mem.bytes = true) :
    EndsCanonical (execOrgErrWrite value s) := by simp [execOrgErrWrite, hs]

@[simp] theorem execTrlErrWrite_canonical (value : Nat) (s : State) (hs : cellsWf s.mem.bytes = true) :
    EndsCanonical (execTrlErrWrite value s) := by simp [execTrlErrWrite, hs]

@[simp] theorem execBthErrWrite_canonical (value : Nat) (s : State) (hs : cellsWf s.mem.bytes = true) :
    EndsCanonical (execBthErrWrite value s) := by simp [execBthErrWrite, hs]

@[simp] theorem execGthErrWrite_canonical (value : Nat) (s : State) (hs : cellsWf s.mem.bytes = true) :
    EndsCanonical (execGthErrWrite value s) := by simp [execGthErrWrite, hs]

/-! ### What leaves memory canonical: Mailbox -/

@[simp] theorem State.visitSlot_mem (s : State) (p slot : Nat) : (s.visitSlot p slot).mem = s.mem := by
  simp only [State.visitSlot]
  (repeat' split) <;> simp

@[simp] theorem State.visitArea_mem (s : State) (p : Nat) : (s.visitArea p).mem = s.mem := by simp [State.visitArea]

@[simp] theorem State.pend_mem (s : State) (p v : Nat) : (s.pend p v).mem = s.mem := by simp [State.pend]

@[simp] theorem State.deliver_mem (s : State) (p v : Nat) : (s.deliver p v).mem = s.mem := by simp [State.deliver]

@[simp] theorem State.signal_mem (s : State) (p v : Nat) : (s.signal p v).mem = s.mem := by simp [State.signal]

@[simp] theorem State.signalPending_mem (s : State) (p : Nat) : (s.signalPending p).mem = s.mem := by simp [State.signalPending]

@[simp] theorem execMailboxScan_canonical (s : State) (hs : cellsWf s.mem.bytes = true) : EndsCanonical (execMailboxScan s) := by
  simp [execMailboxScan, hs]

@[simp] theorem State.reportLost_mem (s : State) (p : Nat) : (s.reportLost p).mem = s.mem := by simp [State.reportLost]

@[simp] theorem State.reportUpTo_mem (n : Nat) (s : State) (p : Nat) : (State.reportUpTo n s p).mem = s.mem := by
  induction n generalizing s with
  | zero => rfl
  | succ n ih => simp only [State.reportUpTo]; (repeat' split) <;> simp [ih]

@[simp] theorem State.report_mem (s : State) (p : Nat) : (s.report p).mem = s.mem := by simp [State.report]

@[simp] theorem execCompletionRecordWrite_canonical (p : Nat) (s : State) (hs : cellsWf s.mem.bytes = true) :
    EndsCanonical (execCompletionRecordWrite p s) := by
  unfold execCompletionRecordWrite
  split <;> simp [hs]

@[simp] theorem execBthMbRingTailWrite_canonical (p value : Nat) (s : State) (hs : cellsWf s.mem.bytes = true) :
    EndsCanonical (execBthMbRingTailWrite p value s) := by simp [execBthMbRingTailWrite, hs]

@[simp] theorem execBthMbVecMaskWrite_canonical (p value : Nat) (s : State) (hs : cellsWf s.mem.bytes = true) :
    EndsCanonical (execBthMbVecMaskWrite p value s) := by simp [execBthMbVecMaskWrite, hs]

@[simp] theorem execPlotQuery_canonical (p : Nat) (s : State) (hs : cellsWf s.mem.bytes = true) : EndsCanonical (execPlotQuery p s) := by
  simp only [execPlotQuery, endsCanonical_next]
  refine State.serve_canonical hs fun r => ?_
  (repeat' split) <;> simp [hs]

@[simp] theorem execModuleInfo_canonical (p : Nat) (s : State) (hs : cellsWf s.mem.bytes = true) : EndsCanonical (execModuleInfo p s) := by
  simp [execModuleInfo, hs]

@[simp] theorem execMessageTimeout_canonical (p slot : Nat) (s : State) (hs : cellsWf s.mem.bytes = true) :
    EndsCanonical (execMessageTimeout p slot s) := by
  unfold execMessageTimeout
  split <;> simp [hs]

/-! ### What leaves memory canonical: Avenue -/

@[simp] theorem State.updGroup_mem (s : State) (p handle : Nat) (f : Group → Group) : (s.updGroup p handle f).mem = s.mem := by
  simp [State.updGroup]

@[simp] theorem State.survivalEvent_mem (s : State) (p kind : Nat) (g : Group) (fabric dropped : Nat) :
    (s.survivalEvent p kind g fabric dropped).mem = s.mem := by simp [State.survivalEvent]

@[simp] theorem State.setGroupState_mem (s : State) (p handle st fabric : Nat) : (s.setGroupState p handle st fabric).mem = s.mem := by
  unfold State.setGroupState
  split <;> simp

@[simp] theorem State.transmit_mem (s : State) (i : Nat) (r : Retained) : (s.transmit i r).mem = s.mem := by simp [State.transmit]

@[simp] theorem State.sendFrames_mem (s : State) (p dest : Nat) (route : List Nat) (fs : List Frame) :
    (s.sendFrames p dest route fs).mem = s.mem := by simp [State.sendFrames]

@[simp] theorem State.sendOn_mem (s : State) (i dest : Nat) (hdr : Frame) (m : Control) : (s.sendOn i dest hdr m).mem = s.mem := by
  simp [State.sendOn]

@[simp] theorem State.sendControl_mem (s : State) (dest : Nat) (hdr : Frame) (m : Control) : (s.sendControl dest hdr m).mem = s.mem := by
  unfold State.sendControl
  split <;> simp

@[simp] theorem State.drainWaiting_mem (s : State) (i : Nat) : (s.drainWaiting i).mem = s.mem := by simp [State.drainWaiting]

@[simp] theorem State.repeatFrame_mem (s : State) (i : Nat) (r : Retained) : (s.repeatFrame i r).mem = s.mem := by
  unfold State.repeatFrame
  split <;> simp

@[simp] theorem State.resendWaiting_mem (s : State) (fabric : Nat) : (s.resendWaiting fabric).mem = s.mem := by simp [State.resendWaiting]

@[simp] theorem State.stale_mem (s : State) (i : Nat) : (s.stale i).mem = s.mem := by simp [State.stale]

@[simp] theorem State.hear_mem (s : State) (p handle src : Nat) : (s.hear p handle src).mem = s.mem := by simp [State.hear]

@[simp] theorem State.renew_mem (s : State) (p : Nat) (g : Group) (fabric : Nat) : (s.renew p g fabric).mem = s.mem := by
  simp [State.renew]

@[simp] theorem State.hearEnds_mem (s : State) (src : Nat) : (s.hearEnds src).mem = s.mem := by simp [State.hearEnds]

@[simp] theorem State.renewById_mem (s : State) (id src : Nat) : (s.renewById id src).mem = s.mem :=
  State.foldl_mem (fun t q => by split <;> simp) _ _

@[simp] theorem State.dropFrame_mem (s : State) (i : Nat) (flag : Option Nat) : (s.dropFrame i flag).mem = s.mem := by
  simp [State.dropFrame]

def Arrival.Keeps (a : Arrival) (m : Mem) : Prop := match a with
  | .dropped t => t.mem = m
  | .duplicate t => t.mem = m
  | .taken _ _ t => t.mem = m
theorem State.arrive_keeps (s : State) (i : Nat) (f : Frame) : (s.arrive i f).Keeps s.mem := by
  simp only [State.arrive]
  (repeat' split) <;> simp [Arrival.Keeps]

@[simp] theorem State.acceptFrame_mem (s : State) (i p handle : Nat) (f : Frame) : (s.acceptFrame i p handle f).mem = s.mem := by
  simp [State.acceptFrame]

theorem State.hearControl_canonical (s : State) (l : Link) (keying acked : Bool) (work : State → State) (hs : cellsWf s.mem.bytes = true)
    (hw : ∀ t, t.mem = s.mem → cellsWf (work t).mem.bytes = true) : cellsWf (s.hearControl l keying acked work).mem.bytes = true := by
  simp only [State.hearControl]
  split
  · exact hs
  · split
    · simpa using hs
    · exact hw _ (by simp)

@[simp] theorem State.protocolFault_mem (s : State) (i p : Nat) (g : Group) : (s.protocolFault i p g).mem = s.mem := by
  simp [State.protocolFault]

@[simp] theorem State.raiseLink_mem (s : State) (port : Nat) : (s.raiseLink port).mem = s.mem := by simp [State.raiseLink]

@[simp] theorem execHello_canonical (l : Link) (peer : Option Nat) (s : State) (hs : cellsWf s.mem.bytes = true) :
    EndsCanonical (execHello l peer s) := by
  simp only [execHello]
  (repeat' split) <;> simp [hs]
  exact State.hearControl_canonical _ _ _ _ _ (by simpa using hs) fun t ht => by simpa [ht] using hs

@[simp] theorem State.acknowledge_mem (s : State) (port : Nat) (acks : List Nat) : (s.acknowledge port acks).mem = s.mem := by
  simp [State.acknowledge]

@[simp] theorem execAckTimer_canonical (port : Nat) (s : State) (hs : cellsWf s.mem.bytes = true) :
    EndsCanonical (execAckTimer port s) := by simp [execAckTimer, hs]

@[simp] theorem State.routeCheck_mem (s : State) (p fabric i cause : Nat) : (s.routeCheck p fabric i cause).mem = s.mem := by
  simp [State.routeCheck]

@[simp] theorem State.routesChanged_mem (s : State) (i cause : Nat) : (s.routesChanged i cause).mem = s.mem := by
  simp [State.routesChanged]

@[simp] theorem State.giveUp_mem (s : State) (port : Nat) (r : Retained) : (s.giveUp port r).mem = s.mem := by simp [State.giveUp]

@[simp] theorem execLinkDown_canonical (port : Nat) (s : State) (hs : cellsWf s.mem.bytes = true) :
    EndsCanonical (execLinkDown port s) := by simp [execLinkDown, hs]

@[simp] theorem execForeignFrame_canonical (port etherType : Nat) (bytes : Bytes) (s : State) (hs : cellsWf s.mem.bytes = true) :
    EndsCanonical (execForeignFrame port etherType bytes s) := by simp [execForeignFrame, hs]

@[simp] theorem execHeartbeatSend_canonical (s : State) (hs : cellsWf s.mem.bytes = true) : EndsCanonical (execHeartbeatSend s) := by
  simp [execHeartbeatSend, hs]

@[simp] theorem execPauseNotice_canonical (l : Link) (millis : Nat) (s : State) (hs : cellsWf s.mem.bytes = true) :
    EndsCanonical (execPauseNotice l millis s) := by
  simp only [execPauseNotice, endsCanonical_next]
  exact State.hearControl_canonical _ _ _ _ _ hs fun t ht => by simpa [ht] using hs

@[simp] theorem execRouteSet_canonical (p : Nat) (s : State) (hs : cellsWf s.mem.bytes = true) : EndsCanonical (execRouteSet p s) := by
  simp [execRouteSet, hs]

/-! ### What leaves memory canonical: Layout -/

@[simp] theorem State.commitStore_mem (s : State) (pav : Nat) (g : Staged) : (s.commitStore pav g).mem = s.mem := by
  simp [State.commitStore]

@[simp] theorem State.commitGh_bytes (s : State) (g : Staged) : (s.commitGh g).mem.bytes = s.mem.bytes := by simp [State.commitGh]

@[simp] theorem State.chargeViewRead_mem (s : State) (cx : OpCtx) (p : Nat) (x : View × Tensor) :
    (s.chargeViewRead cx p x).mem = s.mem := by
  unfold State.chargeViewRead
  (repeat' split) <;> simp

/-! ### What leaves memory canonical: Memory -/

@[simp] theorem State.mapWindow_bytes (s : State) (p w : Nat) (r : Run) : (s.mapWindow p w r).mem.bytes = s.mem.bytes := by
  simp [State.mapWindow]

@[simp] theorem execMemMap_canonical (p : Nat) (s : State) (hs : cellsWf s.mem.bytes = true) : EndsCanonical (execMemMap p s) := by
  simp only [execMemMap]
  split
  · simpa using hs
  · exact (endsCanonical_next _).2 (State.serve_canonical hs fun r => by split <;> simp [hs])

@[simp] theorem State.finishUnmap_bytes (s : State) (p : Nat) (r : Req) (run : Run) : (s.finishUnmap p r run).mem.bytes = s.mem.bytes := by
  simp [State.finishUnmap]

@[simp] theorem execMemUnmap_canonical (p : Nat) (s : State) (hs : cellsWf s.mem.bytes = true) : EndsCanonical (execMemUnmap p s) := by
  simp only [execMemUnmap]
  split
  · simpa using hs
  · exact (endsCanonical_next _).2 (State.serve_canonical hs fun r => by (repeat' split) <;> simp [hs])

@[simp] theorem execMemScrub_canonical (p : Nat) (s : State) (hs : cellsWf s.mem.bytes = true) : EndsCanonical (execMemScrub p s) := by
  simp only [execMemScrub]
  split
  · simpa using hs
  · exact (endsCanonical_next _).2 (State.serve_canonical hs fun r => by (repeat' split) <;> simp [hs])

@[simp] theorem State.settleUnmap_bytes (s : State) (p : Nat) : (s.settleUnmap p).mem.bytes = s.mem.bytes := by
  unfold State.settleUnmap
  (repeat' split) <;> simp

@[simp] theorem execTierMove_canonical (s : State) (hs : cellsWf s.mem.bytes = true) : EndsCanonical (execTierMove s) := by
  unfold execTierMove
  (repeat' split) <;> simp [hs]

@[simp] theorem Mem.copyRange_canonical (m : Mem) (src dst n : Nat) (hs : cellsWf m.bytes = true) :
    cellsWf (m.copyRange src dst n).bytes = true := by
  simp [Mem.copyRange, cellPutCells_wf, hs]

/-! ### What leaves memory canonical: Reduction -/

@[simp] theorem State.readTile_mem (s : State) (p plan : Nat) (t : Tile) : (s.readTile p plan t).1.mem = s.mem := by
  unfold State.readTile
  split <;> simp

@[simp] theorem Flow.admitTiles_mem (fl : Flow) (all : List Tile) (x : Pumped) : (fl.admitTiles all x).1.mem = x.1.mem := by
  simp [Flow.admitTiles]

@[simp] theorem Flow.waveUp_mem (fl : Flow) (x : Pumped) : (fl.waveUp x).1.mem = x.1.mem := by
  simp only [Flow.waveUp]
  (repeat' split) <;> simp

@[simp] theorem Flow.waveDown_mem (fl : Flow) (x : Pumped) : (fl.waveDown x).1.mem = x.1.mem := by
  simp only [Flow.waveDown]
  split <;> simp

@[simp] theorem State.countForward_mem (s : State) (route : List Nat) : (s.countForward route).mem = s.mem := by
  unfold State.countForward
  exact State.foldl_mem (fun _ _ => by simp) _ _

@[simp] theorem State.countRetries_mem (s : State) (engine n : Nat) (crc : Bool) : (s.countRetries engine n crc).mem = s.mem := by
  simp [State.countRetries]

@[simp] theorem Flow.addUp_mem (fl : Flow) (x : Pumped) : (fl.addUp x).1.mem = x.1.mem := by
  simp only [Flow.addUp]
  (repeat' split) <;> simp

@[simp] theorem Flow.passBack_mem (fl : Flow) (ws : NMap W64) (x : Pumped) : (fl.passBack ws x).1.mem = x.1.mem := by
  unfold Flow.passBack
  (repeat' split) <;> simp

@[simp] theorem Flow.valuesUp_mem (fl : Flow) (x : Pumped) : (fl.valuesUp x).1.mem = x.1.mem := by
  simp only [Flow.valuesUp]
  (repeat' split) <;> simp

@[simp] theorem Flow.valuesDown_mem (fl : Flow) (x : Pumped) : (fl.valuesDown x).1.mem = x.1.mem := by simp [Flow.valuesDown]

@[simp] theorem Flow.exit_mem (fl : Flow) (x : Pumped) : (fl.exit x).1.mem = x.1.mem := by simp [Flow.exit]

@[simp] theorem Flow.stageExit_bytes (fl : Flow) (before : Nat) (x : Pumped) : (fl.stageExit before x).1.mem.bytes = x.1.mem.bytes := by
  simp [Flow.stageExit]

@[simp] theorem Flow.totalHeld_mem (fl : Flow) (x : Pumped) : (fl.totalHeld x).1.mem = x.1.mem := by simp [Flow.totalHeld]

@[simp] theorem Flow.advance_bytes (fl : Flow) (all : List Tile) (x : Pumped) : (fl.advance all x).1.mem.bytes = x.1.mem.bytes := by
  simp [Flow.advance]

@[simp] theorem State.putTile_mem (s : State) (p plan : Nat) (t : Tile) : (s.putTile p plan t).mem = s.mem := by simp [State.putTile]

@[simp] theorem State.serveExits_bytes (s : State) : s.serveExits.mem.bytes = s.mem.bytes := by
  simp only [State.serveExits, State.updMem_mem]
  exact State.foldl_fst_bytes (fun y k => by (repeat' split) <;> simp) _ _

theorem Flow.onTile_bytes (fl : Flow) (seq : Nat) (f : Pumped → Pumped) (s : State) (hf : ∀ x, (f x).1.mem.bytes = x.1.mem.bytes) :
    (fl.onTile seq f s).mem.bytes = s.mem.bytes := by
  simp only [Flow.onTile]
  (repeat' split) <;> simp [hf]

@[simp] theorem Flow.run_bytes (fl : Flow) (s : State) : (fl.run s).mem.bytes = s.mem.bytes := by
  simp only [Flow.run]
  rw [State.foldl_bytes fun t q => fl.onTile_bytes q _ t (by simp), State.serveExits_bytes, State.foldl_bytes fun t q => fl.onTile_bytes q _ t (by simp)]

@[simp] theorem State.pumpWith_bytes (s : State) (p plan : Nat) (faults : TileFaults) :
    (s.pumpWith p plan faults).mem.bytes = s.mem.bytes := by
  unfold State.pumpWith
  split <;> simp

@[simp] theorem State.pump_bytes (s : State) (p plan : Nat) : (s.pump p plan).mem.bytes = s.mem.bytes := by simp [State.pump]

@[simp] theorem State.pumpPlot_bytes (s : State) (p : Nat) : (s.pumpPlot p).mem.bytes = s.mem.bytes := by simp [State.pumpPlot]

@[simp] theorem State.pumpAll_bytes (s : State) : s.pumpAll.mem.bytes = s.mem.bytes := by simp [State.pumpAll]

@[simp] theorem execTileHandoff_canonical (pav : Nat) (s : State) (hs : cellsWf s.mem.bytes = true) :
    EndsCanonical (execTileHandoff pav s) := by
  unfold execTileHandoff
  split <;> simp [hs]

@[simp] theorem State.convertTile_bytes (s : State) (fl : Flow) (t : Tile) : (s.convertTile fl t).mem.bytes = s.mem.bytes := by
  simp only [State.convertTile]
  split <;> simp

@[simp] theorem State.keepEarly_mem (s : State) (i p : Nat) (g : Group) (f : Frame) : (s.keepEarly i p g f).mem = s.mem := by
  simp [State.keepEarly]

@[simp] theorem State.askAgain_mem (s : State) (i p : Nat) (f : Frame) : (s.askAgain i p f).mem = s.mem := by simp [State.askAgain]

theorem State.forStep_canonical (s : State) (i p : Nat) (g : Group) (f : Frame) (work : Step → State → State) (hs : cellsWf s.mem.bytes = true)
    (hw : ∀ st, cellsWf (work st s).mem.bytes = true) : cellsWf (s.forStep i p g f work).mem.bytes = true := by
  simp only [State.forStep]
  (repeat' split) <;> simp [hs, hw]

@[simp] theorem State.takeEntry_mem (s : State) (p plan : Nat) (g : Group) (sender : Nat) (w : WaveEntry) :
    (s.takeEntry p plan g sender w).mem = s.mem := by
  unfold State.takeEntry
  split <;> simp

@[simp] theorem State.takeWave_bytes (s : State) (p : Nat) (g : Group) (st : Step) (f : Frame) :
    (s.takeWave p g st f).mem.bytes = s.mem.bytes := by simp [State.takeWave]

theorem State.arriving_canonical (s : State) (port : Nat) (f : Frame) (kind : Nat) (work : Nat → Group → State → State) (hs : cellsWf s.mem.bytes = true)
    (hw : ∀ p g t, cellsWf t.mem.bytes = true → cellsWf (work p g t).mem.bytes = true) :
    cellsWf (s.arriving port f kind work).mem.bytes = true := by
  have harr := s.arrive_keeps port f
  simp only [State.arriving]
  split
  · split <;> rename_i heq <;> rw [heq] at harr
    · exact (congrArg (cellsWf ·.bytes) harr).trans hs
    · exact (congrArg (cellsWf ·.bytes) harr).trans hs
    · exact hw _ _ _ ((congrArg (cellsWf ·.bytes) harr).trans hs)
  · exact hs

@[simp] theorem execWave_canonical (port : Nat) (f : Frame) (s : State) (hs : cellsWf s.mem.bytes = true) :
    EndsCanonical (execWave port f s) := by
  simp only [execWave, endsCanonical_next]
  exact State.arriving_canonical _ _ _ _ _ hs fun p g t ht => State.forStep_canonical _ _ _ _ _ _ ht fun st => by simp [ht]

@[simp] theorem State.residueFault_mem (s : State) (i p plan : Nat) (f : Frame) (t : Tile) : (s.residueFault i p plan f t).mem = s.mem := by
  simp [State.residueFault]

@[simp] theorem State.takeUp_bytes (s : State) (i p : Nat) (g : Group) (st : Step) (f : Frame) (t : Tile) (u : TileFaults) :
    (s.takeUp i p g st f t u).mem.bytes = s.mem.bytes := by simp [State.takeUp]

@[simp] theorem State.takeDown_bytes (s : State) (p : Nat) (g : Group) (st : Step) (f : Frame) (t : Tile) (u : TileFaults) :
    (s.takeDown p g st f t u).mem.bytes = s.mem.bytes := by simp [State.takeDown]

@[simp] theorem State.takeValues_bytes (s : State) (i p : Nat) (g : Group) (st : Step) (f : Frame) (accepted : Bool) (u : TileFaults) :
    (s.takeValues i p g st f accepted u).mem.bytes = s.mem.bytes := by
  unfold State.takeValues
  split <;> simp

@[simp] theorem State.replayFrame_bytes (s : State) (p : Nat) (g : Group) (e : Nat × Frame) :
    (s.replayFrame p g e).mem.bytes = s.mem.bytes := by
  unfold State.replayFrame
  split <;> simp

@[simp] theorem State.replayReduction_bytes (s : State) (p handle : Nat) : (s.replayReduction p handle).mem.bytes = s.mem.bytes := by
  unfold State.replayReduction
  split <;> simp

/-! ### What leaves memory canonical: Pools -/

theorem State.kvTake_mem {s t : State} {p w n align a : Nat} (ht : s.kvTake p w n align = some (a, t)) : t.mem = s.mem := by
  simp only [State.kvTake, Option.map_eq_some_iff, Prod.mk.injEq] at ht
  obtain ⟨_, _, _, rfl⟩ := ht
  rfl

@[simp] theorem State.kvDrop_mem (s : State) (p a : Nat) : (s.kvDrop p a).mem = s.mem := by simp [State.kvDrop]

@[simp] theorem Mem.setPte_canonical (m : Mem) (root p e : Nat) (hs : cellsWf m.bytes = true) :
    cellsWf (m.setPte root p e).bytes = true := by
  unfold Mem.setPte
  split <;> simp [hs]

/-! ### What leaves memory canonical: Sequences -/

@[simp] theorem State.updSeq_mem (s : State) (p i : Nat) (f : SeqEntry → SeqEntry) : (s.updSeq p i f).mem = s.mem := by
  simp [State.updSeq]

@[simp] theorem State.endSeq_mem (s : State) (p i st kind step : Nat) : (s.endSeq p i st kind step).mem = s.mem := by simp [State.endSeq]

@[simp] theorem State.nextOrder_mem (s : State) (p : Nat) : (s.nextOrder p).mem = s.mem := by simp [State.nextOrder]

@[simp] theorem State.markGone_mem (s : State) (p handle step : Nat) : (s.markGone p handle step).1.mem = s.mem := by
  simp only [State.markGone, State.nextOrder_mem]
  exact State.foldl_mem (fun t i => by (repeat' split) <;> simp) _ _

@[simp] theorem State.terminateAll_mem (s : State) (p kind step : Nat) : (s.terminateAll p kind step).1.mem = s.mem := by
  simp only [State.terminateAll, State.nextOrder_mem]
  exact State.foldl_mem (fun t i => by (repeat' split) <;> simp) _ _

@[simp] theorem State.startSpill_canonical (s : State) (p : Nat) (b : SpillBlock) (dst : Nat) (hs : cellsWf s.mem.bytes = true) :
    cellsWf (s.startSpill p b dst).mem.bytes = true := by simp [State.startSpill, hs]

@[simp] theorem execKvSpill_canonical (plot bytes : Nat) (s : State) (hs : cellsWf s.mem.bytes = true) :
    EndsCanonical (execKvSpill plot bytes s) := by
  unfold execKvSpill
  split <;> simp +contextual [hs]

@[simp] theorem State.placeSeq_mem (s : State) (p i : Nat) (r : Req) (root openBlock : Nat) :
    (s.placeSeq p i r root openBlock).mem = s.mem := by simp [State.placeSeq]

@[simp] theorem execSeqAdmit_canonical (plot : Nat) (s : State) (hs : cellsWf s.mem.bytes = true) :
    EndsCanonical (execSeqAdmit plot s) := by
  simp only [execSeqAdmit, endsCanonical_next]
  refine State.serve_canonical hs fun r => ?_
  (repeat' split) <;> simp [hs]
  next root t ht _ ob u hu => simp [State.kvTake_mem hu, State.kvTake_mem ht, hs]

@[simp] theorem State.cancelMoves_bytes (s : State) (p i page : Nat) : (s.cancelMoves p i page).mem.bytes = s.mem.bytes := by
  simp [State.cancelMoves]

@[simp] theorem State.freePage_canonical (s : State) (p i page : Nat) (hs : cellsWf s.mem.bytes = true) :
    cellsWf (s.freePage p i page).mem.bytes = true := by
  unfold State.freePage
  split <;> simp [hs]

@[simp] theorem State.freeSeq_canonical (s : State) (p i : Nat) (hs : cellsWf s.mem.bytes = true) :
    cellsWf (s.freeSeq p i).1.mem.bytes = true := by
  unfold State.freeSeq
  split <;> simp +contextual [hs]

@[simp] theorem State.reopen_canonical (s : State) (b : Binding) (fmt block openBlock n : Nat) (hs : cellsWf s.mem.bytes = true) :
    cellsWf (s.reopen b fmt block openBlock n).mem.bytes = true := by simp [State.reopen, hs]

@[simp] theorem State.clearOpen_canonical (s : State) (b : Binding) (block n : Nat) (hs : cellsWf s.mem.bytes = true) :
    cellsWf (s.clearOpen b block n).mem.bytes = true := by simp [State.clearOpen, hs]

@[simp] theorem State.truncateTo_canonical (s : State) (p i c : Nat) (hs : cellsWf s.mem.bytes = true) :
    cellsWf (s.truncateTo p i c).mem.bytes = true := by
  unfold State.truncateTo
  split <;> simp +contextual [hs]

@[simp] theorem State.editSeq_canonical (s : State) (p i : Nat) (e : SeqEntry) (op arg0 arg1 : Nat) (hs : cellsWf s.mem.bytes = true) :
    cellsWf (s.editSeq p i e op arg0 arg1).2.mem.bytes = true := by
  unfold State.editSeq
  (repeat' split) <;> simp [hs]

@[simp] theorem State.pendingFlags_mem (s : State) (p id : Nat) : (s.pendingFlags p id).mem = s.mem := by simp [State.pendingFlags]

@[simp] theorem State.applySeq_canonical (s : State) (p : Nat) (r : Req) (hs : cellsWf s.mem.bytes = true) :
    cellsWf (s.applySeq p r).mem.bytes = true := by
  simp only [State.applySeq]
  (repeat' split) <;> simp [hs]

@[simp] theorem State.settleEdits_canonical (s : State) (p : Nat) (hs : cellsWf s.mem.bytes = true) :
    cellsWf (s.settleEdits p).mem.bytes = true := by simp +contextual [State.settleEdits, hs]

@[simp] theorem State.takeSeq_canonical (s : State) (p : Nat) (r : Req) (hs : cellsWf s.mem.bytes = true) :
    cellsWf (s.takeSeq p r).mem.bytes = true := by simp [State.takeSeq, hs]

@[simp] theorem State.serveEdit_canonical (s : State) (p op : Nat) (hs : cellsWf s.mem.bytes = true) :
    cellsWf (s.serveEdit p op).mem.bytes = true := by
  simp only [State.serveEdit]
  refine State.serve_canonical hs fun r => ?_
  (repeat' split) <;> simp [hs]

@[simp] theorem execAppend_canonical (plot : Nat) (s : State) (hs : cellsWf s.mem.bytes = true) : EndsCanonical (execAppend plot s) := by
  simp [execAppend, hs]

@[simp] theorem execTruncate_canonical (plot : Nat) (s : State) (hs : cellsWf s.mem.bytes = true) :
    EndsCanonical (execTruncate plot s) := by simp [execTruncate, hs]

@[simp] theorem execSetMax_canonical (plot : Nat) (s : State) (hs : cellsWf s.mem.bytes = true) : EndsCanonical (execSetMax plot s) := by
  simp [execSetMax, hs]

@[simp] theorem execSetAdapter_canonical (plot : Nat) (s : State) (hs : cellsWf s.mem.bytes = true) :
    EndsCanonical (execSetAdapter plot s) := by simp [execSetAdapter, hs]

@[simp] theorem execPause_canonical (plot : Nat) (s : State) (hs : cellsWf s.mem.bytes = true) : EndsCanonical (execPause plot s) := by
  simp [execPause, hs]

@[simp] theorem execResume_canonical (plot : Nat) (s : State) (hs : cellsWf s.mem.bytes = true) : EndsCanonical (execResume plot s) := by
  simp [execResume, hs]

@[simp] theorem execSeqEditQuery_canonical (plot : Nat) (s : State) (hs : cellsWf s.mem.bytes = true) :
    EndsCanonical (execSeqEditQuery plot s) := by simp [execSeqEditQuery, hs]

@[simp] theorem execSeqRetire_canonical (plot : Nat) (s : State) (hs : cellsWf s.mem.bytes = true) :
    EndsCanonical (execSeqRetire plot s) := by simp [execSeqRetire, hs]

/-! ### What leaves memory canonical: Orangery -/

@[simp] theorem State.updAdapter_mem (s : State) (p h : Nat) (f : Adapter → Adapter) : (s.updAdapter p h f).mem = s.mem := by
  simp [State.updAdapter]

@[simp] theorem State.poolTake_mem (s : State) (p a n : Nat) : (s.poolTake p a n).mem = s.mem := by simp [State.poolTake]

@[simp] theorem State.poolDrop_canonical (s : State) (p a n : Nat) (hs : cellsWf s.mem.bytes = true) :
    cellsWf (s.poolDrop p a n).mem.bytes = true := by simp [State.poolDrop, hs]

@[simp] theorem State.dropCopy_canonical (s : State) (p h : Nat) (hs : cellsWf s.mem.bytes = true) :
    cellsWf (s.dropCopy p h).mem.bytes = true := by
  unfold State.dropCopy
  (repeat' split) <;> simp [hs]

@[simp] theorem State.makeRoom_canonical (n : Nat) (s : State) (p : Nat) (b : Binding) (terrace k : Nat) (hs : cellsWf s.mem.bytes = true) :
    cellsWf (State.makeRoom n s p b terrace k).2.mem.bytes = true := by
  induction n generalizing s with
  | zero => unfold State.makeRoom; dsimp only; split <;> exact hs
  | succ n ih =>
    unfold State.makeRoom
    dsimp only
    (repeat' split)
    · exact hs
    · exact hs
    · exact ih _ (by simp [hs])

@[simp] theorem State.wantPrefetch_mem (s : State) (p h : Nat) : (s.wantPrefetch p h).mem = s.mem := by simp [State.wantPrefetch]

@[simp] theorem State.prefetchNow_canonical (s : State) (p h : Nat) (hs : cellsWf s.mem.bytes = true) :
    cellsWf (s.prefetchNow p h).mem.bytes = true := by
  simp only [State.prefetchNow]
  split
  · next b a _ _ =>
    have hroom := State.makeRoom_canonical (s.plot p).adapters.length s p b a.terrace a.recordBytes hs
    split <;> rename_i heq <;> rw [heq] at hroom <;> simpa using hroom
  · exact hs

@[simp] theorem execAdapterPrefetch_canonical (plot handle : Nat) (s : State) (hs : cellsWf s.mem.bytes = true) :
    EndsCanonical (execAdapterPrefetch plot handle s) := by
  unfold execAdapterPrefetch
  split <;> simp [hs]

@[simp] theorem execPrefetchRetry_canonical (plot handle : Nat) (s : State) (hs : cellsWf s.mem.bytes = true) :
    EndsCanonical (execPrefetchRetry plot handle s) := by
  unfold execPrefetchRetry
  split <;> simp [hs]

@[simp] theorem State.settleAdmits_mem (s : State) (p h : Nat) : (s.settleAdmits p h).mem = s.mem :=
  State.foldl_mem (fun t r => by split <;> simp) _ _

@[simp] theorem State.answerAdmit_mem (s : State) (p : Nat) (r : Req) : (s.answerAdmit p r).mem = s.mem := by
  unfold State.answerAdmit
  split <;> simp

@[simp] theorem execAdapterAdmit_canonical (plot : Nat) (s : State) (hs : cellsWf s.mem.bytes = true) :
    EndsCanonical (execAdapterAdmit plot s) := by
  simp only [execAdapterAdmit, endsCanonical_next]
  refine State.serve_canonical hs fun r => ?_
  (repeat' split) <;> simp [hs]

@[simp] theorem State.unregister_canonical (s : State) (p h : Nat) (hs : cellsWf s.mem.bytes = true) :
    cellsWf (s.unregister p h).mem.bytes = true := by
  unfold State.unregister
  split <;> simp [hs]

@[simp] theorem State.settleDrops_mem (s : State) (p h : Nat) : (s.settleDrops p h).mem = s.mem := by simp [State.settleDrops]

@[simp] theorem State.settleEvicts_mem (s : State) (p h gone : Nat) : (s.settleEvicts p h gone).mem = s.mem := by
  simp only [State.settleEvicts]
  split <;> simp

@[simp] theorem State.finishEvict_canonical (s : State) (p h : Nat) (hs : cellsWf s.mem.bytes = true) :
    cellsWf (s.finishEvict p h).mem.bytes = true := by
  unfold State.finishEvict
  split <;> simp [hs]

@[simp] theorem State.settleGone_canonical (s : State) (p h step : Nat) (hs : cellsWf s.mem.bytes = true) :
    cellsWf (s.settleGone p h step).mem.bytes = true := by
  unfold State.settleGone
  (repeat' split) <;> simp [hs]

@[simp] theorem State.finishDrop_canonical (s : State) (p h : Nat) (hs : cellsWf s.mem.bytes = true) :
    cellsWf (s.finishDrop p h).mem.bytes = true := by
  unfold State.finishDrop
  split <;> simp [hs]

theorem State.serveEvict_canonical (s : State) (p : Nat) (sel : Nat → Bool) (work : Req → Adapter → State → State) (hs : cellsWf s.mem.bytes = true)
    (hw : ∀ r a, cellsWf (work r a s).mem.bytes = true) : cellsWf (s.serveEvict p sel work).mem.bytes = true := by
  refine State.serve_canonical hs fun r => ?_
  (repeat' split) <;> simp [hs, hw]

@[simp] theorem State.joinEvict_canonical (s : State) (p : Nat) (r : Req) (h : Nat) (hs : cellsWf s.mem.bytes = true) :
    cellsWf (s.joinEvict p r h).mem.bytes = true := by simp [State.joinEvict, hs]

@[simp] theorem State.plainEvict_canonical (s : State) (p : Nat) (r : Req) (a : Adapter) (hs : cellsWf s.mem.bytes = true) :
    cellsWf (s.plainEvict p r a).mem.bytes = true := by
  unfold State.plainEvict
  split <;> simp [hs]

@[simp] theorem execAdapterEvict_canonical (plot : Nat) (s : State) (hs : cellsWf s.mem.bytes = true) :
    EndsCanonical (execAdapterEvict plot s) :=
  .of_next (State.serveEvict_canonical _ _ _ _ hs fun r a => by simp [hs])

@[simp] theorem State.revoke_canonical (s : State) (p : Nat) (r : Req) (a : Adapter) (hs : cellsWf s.mem.bytes = true) :
    cellsWf (s.revoke p r a).mem.bytes = true := by
  unfold State.revoke
  split <;> simp [hs]

@[simp] theorem execAdapterEvictForce_canonical (plot : Nat) (s : State) (hs : cellsWf s.mem.bytes = true) :
    EndsCanonical (execAdapterEvictForce plot s) :=
  .of_next (State.serveEvict_canonical _ _ _ _ hs fun r a => by (repeat' split) <;> simp [hs])

@[simp] theorem execAdapterEvictUnregister_canonical (plot : Nat) (s : State) (hs : cellsWf s.mem.bytes = true) :
    EndsCanonical (execAdapterEvictUnregister plot s) :=
  .of_next (State.serveEvict_canonical _ _ _ _ hs fun r a => by (repeat' split) <;> simp [hs])

@[simp] theorem execAdapterEvictResidencyOnly_canonical (plot : Nat) (s : State) (hs : cellsWf s.mem.bytes = true) :
    EndsCanonical (execAdapterEvictResidencyOnly plot s) :=
  .of_next (State.serveEvict_canonical _ _ _ _ hs fun r a => by (repeat' split) <;> simp [hs])

@[simp] theorem State.recordPoison_canonical (s : State) (p h : Nat) (hs : cellsWf s.mem.bytes = true) :
    cellsWf (s.recordPoison p h).mem.bytes = true := by
  unfold State.recordPoison
  split <;> simp [hs]

@[simp] theorem State.replaceEntry_canonical (s : State) (p h : Nat) (hs : cellsWf s.mem.bytes = true) :
    cellsWf (s.replaceEntry p h).mem.bytes = true := by
  unfold State.replaceEntry
  split <;> simp [hs]

@[simp] theorem State.keepRecord_mem (s : State) (p : Nat) (r : Req) (a : Adapter) (addr moved : Nat) :
    (s.keepRecord p r a addr moved).mem = s.mem := by simp [State.keepRecord]

@[simp] theorem State.registerImage_canonical (s : State) (p : Nat) (r : Req) (b : Binding) (im : Bytes) (hs : cellsWf s.mem.bytes = true) :
    cellsWf (s.registerImage p r b im).mem.bytes = true := by
  have hroom := State.makeRoom_canonical ((s.replaceEntry p (fieldAt r.payload 0 4)).plot p).adapters.length (s.replaceEntry p (fieldAt r.payload 0 4)) p b 0xFF
    (newAdapter im (fieldAt r.payload 0 4) (bitOf (fieldAt r.payload 4 1) 0)).recordBytes (by simp [hs])
  simp only [State.registerImage]
  (repeat' split) <;> try simp [hs]
  next heq _ _ _ => rw [heq] at hroom; simp [hroom]

@[simp] theorem execAdapterRegister_canonical (plot : Nat) (s : State) (hs : cellsWf s.mem.bytes = true) :
    EndsCanonical (execAdapterRegister plot s) := by
  simp only [execAdapterRegister, endsCanonical_next]
  refine State.serve_canonical hs fun r => ?_
  (repeat' split) <;> simp [hs]

@[simp] theorem State.invalidate_canonical (s : State) (p step : Nat) (hs : cellsWf s.mem.bytes = true) :
    cellsWf (s.invalidate p step).1.mem.bytes = true := by
  refine State.foldl_canonical (State.foldl_canonical hs (fun t h ht => by simp [ht]) _) (fun t h ht => ?_) _
  (repeat' split) <;> simp [ht]

@[simp] theorem State.bindNow_canonical (s : State) (p : Nat) (r : Req) (hs : cellsWf s.mem.bytes = true) :
    cellsWf (s.bindNow p r).mem.bytes = true := by
  simp only [State.bindNow]
  split <;> simp [hs]

@[simp] theorem execBaseBind_canonical (plot : Nat) (s : State) (hs : cellsWf s.mem.bytes = true) :
    EndsCanonical (execBaseBind plot s) := by simp [execBaseBind, hs]

@[simp] theorem execBaseBindApply_canonical (plot : Nat) (s : State) (hs : cellsWf s.mem.bytes = true) :
    EndsCanonical (execBaseBindApply plot s) := by
  unfold execBaseBindApply
  split <;> simp [hs]

/-! ### What leaves memory canonical: Lists -/

@[simp] theorem State.dropLong_mem (s : State) (p : Nat) (pl : Plan) (step : Nat) (known : Option (List Nat)) :
    (s.dropLong p pl step known).mem = s.mem := by simp [State.dropLong]

@[simp] theorem State.fetchBlock_canonical (s : State) (p i page : Nat) (e : SeqEntry) (hs : cellsWf s.mem.bytes = true) :
    cellsWf (s.fetchBlock p i page e).mem.bytes = true := by
  simp only [State.fetchBlock]
  (repeat' split) <;> try simp +contextual [hs]
  next ht => simp [State.kvTake_mem ht, hs]

@[simp] theorem State.retryFetch_canonical (s : State) (p : Nat) (hs : cellsWf s.mem.bytes = true) :
    cellsWf (s.retryFetch p).mem.bytes = true := by
  unfold State.retryFetch
  refine State.foldl_canonical (by exact hs) (fun t w ht => ?_) _
  split <;> simp [ht]

@[simp] theorem State.fetchFor_canonical (s : State) (p id : Nat) (hs : cellsWf s.mem.bytes = true) :
    cellsWf (s.fetchFor p id).mem.bytes = true := by
  unfold State.fetchFor
  split <;> simp +contextual [hs]

@[simp] theorem State.updBuilding_mem (s : State) (p plan : Nat) (f : Building → Option Building) :
    (s.updBuilding p plan f).mem = s.mem := by simp [State.updBuilding]

@[simp] theorem State.setBuilding_mem (s : State) (p plan : Nat) (b : Building) : (s.setBuilding p plan b).mem = s.mem := by
  simp [State.setBuilding]

@[simp] theorem State.candidatesKnown_canonical (s : State) (p plan : Nat) (b : Building) (ids : List Nat)
    (hs : cellsWf s.mem.bytes = true) : cellsWf (s.candidatesKnown p plan b ids).mem.bytes = true := by
  simp +contextual [State.candidatesKnown, hs]

@[simp] theorem State.candidatesAhead_canonical (s : State) (p plan : Nat) (ids : List Nat) (hs : cellsWf s.mem.bytes = true) :
    cellsWf (s.candidatesAhead p plan ids).mem.bytes = true := by simp +contextual [State.candidatesAhead, hs]

@[simp] theorem State.sendWhile_mem (s : State) (p dest : Nat) (route : List Nat) (fs : List Frame) : (s.sendWhile p dest route fs).1.mem = s.mem := by
  induction fs generalizing s with
  | nil => rfl
  | cons f fs ih => simp only [State.sendWhile]; split <;> simp [ih]

@[simp] theorem Mem.writeRows_canonical (m : Mem) (base : Nat) (e : SeqEntry) (r : SeqRow) (hm : cellsWf m.bytes = true) :
    cellsWf (m.writeRows base e r).bytes = true := by
  unfold Mem.writeRows
  exact Mem.foldl_canonical hm (fun d j hd => Mem.write_canonical _ _ _ (Mem.write_canonical _ _ _ (Mem.write_canonical _ _ _ hd))) _

@[simp] theorem State.writeRecord_canonical (s : State) (p : Nat) (pl : Plan) (l : WorkList) (hs : cellsWf s.mem.bytes = true) :
    cellsWf (s.writeRecord p pl l).mem.bytes = true := by
  unfold State.writeRecord
  exact Mem.foldl_canonical (Mem.write_canonical _ _ _ (Mem.write_canonical _ _ _ (Mem.write_canonical _ _ _ (Mem.write_canonical _ _ _ (Mem.write_canonical _ _ _ hs)))))
    (fun d x hd => Mem.writeRows_canonical _ _ _ _ hd) _

@[simp] theorem State.unreserve_mem (s : State) (p i : Nat) : (s.unreserve p i).mem = s.mem := by
  unfold State.unreserve
  split <;> simp

@[simp] theorem State.defer_mem (s : State) (p id : Nat) : (s.defer p id).mem = s.mem := by simp [State.defer]

@[simp] theorem State.publish_canonical (s : State) (p : Nat) (pl : Plan) (st : Step) (b : Building) (bits : List Bool) (hs : cellsWf s.mem.bytes = true) :
    cellsWf (s.publish p pl st b bits).mem.bytes = true := by
  simp only [State.publish]
  refine State.foldl_canonical ?_ (fun t h ht => State.finishDrop_canonical _ _ _ (State.finishEvict_canonical _ _ _ ht)) _
  simp [hs]

@[simp] theorem State.pushCandidates_mem (s : State) (p plan : Nat) (g : Group) (step : Nat) (b : Building) :
    (s.pushCandidates p plan g step b).mem = s.mem := by
  unfold State.pushCandidates
  split <;> simp

@[simp] theorem State.pushReady_mem (s : State) (p plan : Nat) (g : Group) (step : Nat) (b : Building) :
    (s.pushReady p plan g step b).mem = s.mem := by
  unfold State.pushReady
  (repeat' split) <;> simp

@[simp] theorem State.pushFinal_mem (s : State) (p plan : Nat) (g : Group) (step : Nat) (b : Building) :
    (s.pushFinal p plan g step b).mem = s.mem := by
  unfold State.pushFinal
  split <;> simp

theorem State.onBuildingOf_ind {P : State → Prop} {s : State} {p plan : Nat} {f : Plan → Step → Building → State → State} (h : P s)
    (hf : ∀ pl st b, P (f pl st b s)) : P (s.onBuildingOf p plan f) := by
  simp only [State.onBuildingOf]
  (repeat' split)
  · exact hf _ _ _
  · exact h
  · exact h
@[simp] theorem State.onBuildingOf_mem {s : State} {p plan : Nat} {f : Plan → Step → Building → State → State}
    (hf : ∀ pl st b, (f pl st b s).mem = s.mem) : (s.onBuildingOf p plan f).mem = s.mem :=
  State.onBuildingOf_ind (P := fun t => t.mem = s.mem) rfl hf

@[simp] theorem State.publishReady_canonical (s : State) (p plan : Nat) (hs : cellsWf s.mem.bytes = true) :
    cellsWf (s.publishReady p plan).mem.bytes = true := by
  refine State.onBuildingOf_ind (P := fun t => cellsWf t.mem.bytes = true) hs fun pl st b => ?_
  (repeat' split) <;> simp [hs]

@[simp] theorem State.pushList_mem (s : State) (p plan : Nat) : (s.pushList p plan).mem = s.mem := by
  refine State.onBuildingOf_mem fun pl st b => ?_
  (repeat' split) <;> simp

theorem State.takeListFrame_canonical {s t : State} {p : Nat} {g : Group} {f : Frame} (hs : cellsWf s.mem.bytes = true)
    (ht : s.takeListFrame p g f = some t) : cellsWf t.mem.bytes = true := by
  simp only [State.takeListFrame] at ht
  (repeat' split at ht) <;> simp only [Option.some.injEq, reduceCtorEq] at ht <;> subst ht <;> simp [hs]

@[simp] theorem State.replayLists_canonical (s : State) (p handle : Nat) (hs : cellsWf s.mem.bytes = true) :
    cellsWf (s.replayLists p handle).mem.bytes = true := by
  simp only [State.replayLists]
  split
  · exact hs
  · refine State.foldl_canonical (by simp [hs]) (fun t e ht => ?_) _
    split
    · next hu => exact State.takeListFrame_canonical ht hu
    · simp [ht]

@[simp] theorem State.pumpList_canonical (s : State) (p plan : Nat) (hs : cellsWf s.mem.bytes = true) :
    cellsWf (s.pumpList p plan).mem.bytes = true := by
  unfold State.pumpList
  dsimp only
  generalize hn : (match (s.plot p).runOf plan with | some st => st.lists.length | none => 0) = n
  (repeat' split) <;> simp [hs]

@[simp] theorem State.pumpLists_canonical (s : State) (hs : cellsWf s.mem.bytes = true) : cellsWf s.pumpLists.mem.bytes = true := by
  unfold State.pumpLists
  exact State.foldl_canonical hs (fun t p ht => State.foldl_canonical ht (fun u plan hu => State.pumpList_canonical _ _ _ hu) _) _

@[simp] theorem State.listFrame_canonical (s : State) (port : Nat) (f : Frame) (kind : Nat) (hs : cellsWf s.mem.bytes = true) :
    cellsWf (s.listFrame port f kind).mem.bytes = true := by
  refine State.arriving_canonical _ _ _ _ _ hs fun p g t ht => ?_
  dsimp only
  split
  · next hu => exact State.foldl_canonical (State.takeListFrame_canonical (by simp [ht]) hu) (fun u plan hu => State.pumpList_canonical _ _ _ hu) _
  · simp [ht]

@[simp] theorem execCandidates_canonical (port : Nat) (f : Frame) (s : State) (hs : cellsWf s.mem.bytes = true) :
    EndsCanonical (execCandidates port f s) := by simp [execCandidates, hs]

@[simp] theorem execReadyset_canonical (port : Nat) (f : Frame) (s : State) (hs : cellsWf s.mem.bytes = true) :
    EndsCanonical (execReadyset port f s) := by simp [execReadyset, hs]

@[simp] theorem execListSelection_canonical (plot plan : Nat) (s : State) (hs : cellsWf s.mem.bytes = true) :
    EndsCanonical (execListSelection plot plan s) := by
  unfold execListSelection
  (repeat' split) <;> simp [hs]

theorem State.leafFor_canonical {s t : State} {p : Nat} {e : SeqEntry} {page : Nat} (hs : cellsWf s.mem.bytes = true)
    (ht : s.leafFor p e page = some t) : cellsWf t.mem.bytes = true := by
  simp only [State.leafFor] at ht
  split at ht
  · obtain rfl := Option.some.inj ht; exact hs
  · obtain ⟨⟨a, u⟩, hu, rfl⟩ := Option.map_eq_some_iff.1 ht
    simp [State.kvTake_mem hu, hs]

theorem State.reservePages_canonical {p : Nat} {e : SeqEntry} {n k page : Nat} {s t : State} {acc l : List Nat} (hs : cellsWf s.mem.bytes = true)
    (ht : State.reservePages p e n k page s acc = some (t, l)) : cellsWf t.mem.bytes = true := by
  induction k generalizing page s acc with
  | zero => cases ht; exact hs
  | succ k ih =>
    simp only [State.reservePages, Option.bind_eq_some_iff] at ht
    obtain ⟨u, hu, ⟨a, v⟩, hv, ht⟩ := ht
    exact ih (by rw [State.kvTake_mem hv]; exact State.leafFor_canonical hs hu) ht

@[simp] theorem State.closeOne_canonical (s : State) (p : Nat) (pl : Plan) (st : Step) (b : Building) (id : Nat) (hs : cellsWf s.mem.bytes = true) :
    cellsWf (s.closeOne p pl st b id).1.mem.bytes = true := by
  simp only [State.closeOne]
  (repeat' split) <;> try simp [hs]
  next ht => exact State.reservePages_canonical hs ht

@[simp] theorem execListClose_canonical (plot plan : Nat) (s : State) (hs : cellsWf s.mem.bytes = true) :
    EndsCanonical (execListClose plot plan s) := by
  simp only [execListClose, endsCanonical_next]
  refine State.onBuildingOf_ind (P := fun t => cellsWf t.mem.bytes = true) hs fun pl st b => ?_
  split
  · exact hs
  · have hfold := State.foldl_fst_canonical (y := (s, ([] : List Bool))) hs (f := fun x id =>
      ((x.1.closeOne plot pl st b id).1, x.2 ++ [(x.1.closeOne plot pl st b id).2])) (fun x id hx => State.closeOne_canonical _ _ _ _ _ _ hx) b.cands
    simp [hfold]

@[simp] theorem Mem.appendOne_canonical (m : Mem) (b : Binding) (area row openBlock n : Nat) (hm : cellsWf m.bytes = true) :
    cellsWf (m.appendOne b area row openBlock n).bytes = true := by
  unfold Mem.appendOne
  exact Mem.foldl_canonical hm (fun d lh hd => Mem.write_canonical _ _ _ (Mem.foldl_canonical hd (fun d k hd => Mem.write_canonical _ _ _ hd) _)) _

@[simp] theorem State.leaveAdapter_mem (s : State) (p i step : Nat) : (s.leaveAdapter p i step).mem = s.mem := by
  unfold State.leaveAdapter
  split <;> simp

@[simp] theorem State.takeSample_canonical (s : State) (p i : Nat) (e : SeqEntry) (token : Nat) (hs : cellsWf s.mem.bytes = true) :
    cellsWf (s.takeSample p i e token).mem.bytes = true := by simp [State.takeSample, hs]

@[simp] theorem State.finishAppend_canonical (s : State) (j : AppendJob) (hs : cellsWf s.mem.bytes = true) :
    cellsWf (s.finishAppend j).mem.bytes = true := by
  unfold State.finishAppend
  split <;> simp [hs]

@[simp] theorem State.appendRows_canonical (s : State) (j : AppendJob) (hs : cellsWf s.mem.bytes = true) :
    cellsWf (s.appendRows j).1.mem.bytes = true := by
  have hfold (e : SeqEntry) (b : Binding) (l : List Nat) : cellsWf (l.foldl (fun t k =>
      t.updMem (fun m => m.appendOne b j.area (j.nextRow + k) e.openBlock (e.ctx % 64 + k))) s).mem.bytes = true :=
    State.foldl_canonical hs (fun t k ht => Mem.appendOne_canonical _ _ _ _ _ _ ht) l
  simp only [State.appendRows]
  (repeat' split) <;> simp [hs, hfold]

@[simp] theorem State.chargeSeal_mem (s : State) (p : Nat) (b : Binding) (e : SeqEntry) (bad : Bool) :
    (s.chargeSeal p b e bad).mem = s.mem := by simp [State.chargeSeal]

@[simp] theorem State.sealOpen_canonical (s : State) (j : AppendJob) (hs : cellsWf s.mem.bytes = true) :
    cellsWf (s.sealOpen j).1.mem.bytes = true := by
  unfold State.sealOpen
  split
  · refine Mem.zero_canonical _ _ _ (Mem.setPte_canonical _ _ _ _ ?_)
    split <;> simp [hs]
  · exact hs

@[simp] theorem State.afterAppend_canonical (s : State) (p : Nat) (hs : cellsWf s.mem.bytes = true) :
    cellsWf (s.afterAppend p).mem.bytes = true := by simp [State.afterAppend, hs]

@[simp] theorem execSealJob_canonical (plot : Nat) (s : State) (hs : cellsWf s.mem.bytes = true) : EndsCanonical (execSealJob plot s) := by
  simp only [execSealJob]
  split
  · simpa using hs
  · simp only [endsCanonical_next]
    refine State.afterAppend_canonical _ _ ?_
    split <;> simp [hs]

@[simp] theorem State.giveBack_mem (s : State) (p : Nat) (r : SeqRow) : (s.giveBack p r).mem = s.mem := by simp [State.giveBack]

@[simp] theorem State.endRow_canonical (s : State) (p : Nat) (pl : Plan) (st : Step) (l : WorkList) (k : Nat) (r : SeqRow)
    (hs : cellsWf s.mem.bytes = true) : cellsWf (s.endRow p pl st l k r).mem.bytes = true := by
  simp only [State.endRow]
  (repeat' split) <;> simp [hs]

@[simp] theorem State.endRows_canonical (s : State) (p : Nat) (pl : Plan) (st : Step) (hs : cellsWf s.mem.bytes = true) :
    cellsWf (s.endRows p pl st).mem.bytes = true := by simp +contextual [State.endRows, hs]

@[simp] theorem State.unlist_mem (s : State) (p : Nat) (st : Step) : (s.unlist p st).mem = s.mem := by
  unfold State.unlist
  split <;> simp

/-! ### What leaves memory canonical: Plans -/

theorem Mem.takeGranules_bytes {tier n : Nat} {m m' : Mem} {rs rs' : List Run} (h : Mem.takeGranules tier n m rs = some (m', rs')) : m'.bytes = m.bytes := by
  induction n generalizing m rs with
  | zero => cases h; rfl
  | succ n ih =>
    simp only [Mem.takeGranules] at h
    split at h
    · cases h
    · simpa using ih h

theorem State.planResources_bytes {s : State} {p : Nat} {h : PlanHeader} {dir : List Section} {m : Mem} {runs : List Run} {sems : List Nat}
    (hm : s.planResources p h dir = some (m, runs, sems)) : m.bytes = s.mem.bytes := by
  simp only [State.planResources] at hm
  split at hm
  · cases hm
  · simp only [Option.bind_eq_some_iff, Option.map_eq_some_iff, Prod.mk.injEq] at hm
    obtain ⟨x, hx, y, hy, rfl, -⟩ := hm
    exact (Mem.takeGranules_bytes hy).trans (Mem.takeGranules_bytes hx)

@[simp] theorem State.refusePlan_mem (s : State) (p : Nat) (r : Req) (f : Flaw) : (s.refusePlan p r f).mem = s.mem := by
  simp [State.refusePlan]

@[simp] theorem execPlanLoad_canonical (plot : Nat) (s : State) (hs : cellsWf s.mem.bytes = true) :
    EndsCanonical (execPlanLoad plot s) := by
  simp only [execPlanLoad, endsCanonical_next]
  refine State.serve_canonical hs fun r => ?_
  (repeat' split) <;> try simp [hs]
  next hm _ _ _ _ => rw [State.planResources_bytes hm]; exact hs

@[simp] theorem State.removePlan_bytes (s : State) (p plan : Nat) : (s.removePlan p plan).mem.bytes = s.mem.bytes := by
  unfold State.removePlan
  split <;> simp

@[simp] theorem execPlanDrop_canonical (plot : Nat) (s : State) (hs : cellsWf s.mem.bytes = true) :
    EndsCanonical (execPlanDrop plot s) := by
  simp only [execPlanDrop, endsCanonical_next]
  refine State.serve_canonical hs fun r => ?_
  (repeat' split) <;> simp [hs]

/-! ### What leaves memory canonical: Optimiser -/

@[simp] theorem State.updateElem_canonical (s : State) (a : Adapter) (k : Scalars) (p : Part) (i : Nat) (g : W32) (gPoison : Bool)
    (hs : cellsWf s.mem.bytes = true) : cellsWf (s.updateElem a k p i g gPoison).1.mem.bytes = true := by
  have hput (c : Bool) (m : Mem) (at_ : Nat) (bs : Bytes) (hm : cellsWf m.bytes = true) :
      cellsWf (if c then (m.write at_ bs).poisonLine (at_ / 64) else m.write at_ bs).bytes = true := by
    split <;> simp [hm]
  exact hput _ _ _ _ (hput _ _ _ _ (hput _ _ _ _ (hput _ _ _ _ (hput _ _ _ _ hs))))

@[simp] theorem State.updateRun_canonical (s : State) (a : Adapter) (k : Scalars) (p : Part) (es : List (Nat × W32 × Bool))
    (hs : cellsWf s.mem.bytes = true) : cellsWf (s.updateRun a k p es).1.mem.bytes = true := by simp +contextual [State.updateRun, hs]

@[simp] theorem State.updateTensor_canonical (s : State) (p : Nat) (pl : Plan) (st : Step) (a : Adapter) (k : Scalars) (part : Part) (tensor : Nat)
    (hs : cellsWf s.mem.bytes = true) : cellsWf (s.updateTensor p pl st a k part tensor).1.mem.bytes = true := by
  simp +contextual [State.updateTensor, hs]

@[simp] theorem State.updStep_mem (s : State) (p plan : Nat) (f : Step → Step) : (s.updStep p plan f).mem = s.mem := by
  simp [State.updStep]

@[simp] theorem State.applyTensor_canonical (s : State) (p : Nat) (pl : Plan) (st : Step) (a : Adapter) (k : Scalars) (part : Part) (tensor : Nat)
    (hs : cellsWf s.mem.bytes = true) : cellsWf (s.applyTensor p pl st a k part tensor).mem.bytes = true := by
  simp [State.applyTensor, hs]

@[simp] theorem State.keepLines_canonical (s : State) (p : Nat) (pl : Plan) (b : Binding) (a : Adapter) (x : Partner)
    (hs : cellsWf s.mem.bytes = true) : cellsWf (s.keepLines p pl b a x).mem.bytes = true := by simp [State.keepLines, hs]

@[simp] theorem State.keepMarked_canonical (s : State) (p : Nat) (pl : Plan) (b : Binding) (a : Adapter) (hs : cellsWf s.mem.bytes = true) :
    cellsWf (s.keepMarked p pl b a).mem.bytes = true := by simp +contextual [State.keepMarked, hs]

@[simp] theorem State.applyAdapter_canonical (s : State) (p : Nat) (pl : Plan) (st : Step) (a : Adapter) (b : Binding) (hs : cellsWf s.mem.bytes = true) :
    cellsWf (s.applyAdapter p pl st a b).mem.bytes = true := by
  unfold State.applyAdapter
  refine Mem.write_canonical _ _ _ (Mem.write_canonical _ _ _ (Mem.write_canonical _ _ _ ?_))
  exact State.foldl_canonical (State.keepMarked_canonical _ _ _ _ _ hs) (fun t x ht => State.applyTensor_canonical _ _ _ _ _ _ _ _ ht) _

@[simp] theorem State.stepAdapter_canonical (p : Nat) (pl : Plan) (st : Step) (skip : List Nat) (s : State) (h : Nat)
    (hs : cellsWf s.mem.bytes = true) : cellsWf (State.stepAdapter p pl st skip s h).mem.bytes = true := by
  unfold State.stepAdapter
  split <;> simp [hs]

@[simp] theorem execOptimiserUpdate_canonical (plot plan : Nat) (s : State) (hs : cellsWf s.mem.bytes = true) :
    EndsCanonical (execOptimiserUpdate plot plan s) := by
  unfold execOptimiserUpdate
  (repeat' split) <;> simp +contextual [hs]

@[simp] theorem execBelvedereCfg_canonical (plot : Nat) (s : State) (hs : cellsWf s.mem.bytes = true) :
    EndsCanonical (execBelvedereCfg plot s) := by simp [execBelvedereCfg, hs]

@[simp] theorem execBelvedereCfgQuery_canonical (plot : Nat) (s : State) (hs : cellsWf s.mem.bytes = true) :
    EndsCanonical (execBelvedereCfgQuery plot s) := by simp [execBelvedereCfgQuery, hs]

theorem State.telemetry_canonical (s : State) (p : Nat) (r : Req) (records : List Bytes) (after : Nat → State → State) (hs : cellsWf s.mem.bytes = true)
    (ha : ∀ n t, (after n t).mem = t.mem) : cellsWf (s.telemetry p r records after).mem.bytes = true := by
  simp only [State.telemetry]
  (repeat' split) <;> simp [ha, hs]

theorem State.serveStepData_canonical (s : State) (p cls : Nat) (records : Nat → Nat → State → List Bytes)
    (after : Nat → Nat → Nat → State → State) (hs : cellsWf s.mem.bytes = true)
    (ha : ∀ q k n t, (after q k n t).mem = t.mem) : cellsWf (s.serveStepData p cls records after).mem.bytes = true := by
  refine State.serve_canonical hs fun r => ?_
  dsimp only
  generalize (if p = 0 then fieldAt r.payload 2 1 == 0 || decide (16 < fieldAt r.payload 2 1) else fieldAt r.payload 2 1 != 0) = c
  split
  · simp [hs]
  · refine State.telemetry_canonical _ _ _ _ _ hs fun n t => ?_
    split
    · exact ha ..
    · rfl

@[simp] theorem execHistogram_canonical (plot : Nat) (s : State) (hs : cellsWf s.mem.bytes = true) :
    EndsCanonical (execHistogram plot s) := by
  simp only [execHistogram, endsCanonical_next]
  exact State.serveStepData_canonical _ _ _ _ _ hs fun _ _ _ _ => rfl

@[simp] theorem execRatios_canonical (plot : Nat) (s : State) (hs : cellsWf s.mem.bytes = true) : EndsCanonical (execRatios plot s) := by
  simp only [execRatios, endsCanonical_next]
  exact State.serveStepData_canonical _ _ _ _ _ hs fun _ _ _ _ => rfl

/-! ### What leaves memory canonical: Steps -/

@[simp] theorem State.markImages_mem (s : State) (p : Nat) (pl : Plan) (st : Step) : (s.markImages p pl st).mem = s.mem := by
  unfold State.markImages
  split <;> simp

@[simp] theorem State.rewind_mem (s : State) (p : Nat) (pl : Plan) : (s.rewind p pl).mem = s.mem := by simp [State.rewind]

@[simp] theorem execStepRun_canonical (plot : Nat) (s : State) (hs : cellsWf s.mem.bytes = true) : EndsCanonical (execStepRun plot s) := by
  simp only [execStepRun, endsCanonical_next]
  refine State.serve_canonical hs fun r => ?_
  (repeat' split) <;> simp [hs]

@[simp] theorem State.skipUp_mem (s : State) (p : Nat) (pl : Plan) (g : Group) (st : Step) : (s.skipUp p pl g st).mem = s.mem := by
  unfold State.skipUp
  split <;> simp

@[simp] theorem State.skipDownTo_mem (s : State) (p : Nat) (pl : Plan) (g : Group) (st : Step) : (s.skipDownTo p pl g st).mem = s.mem := by
  unfold State.skipDownTo
  split <;> simp

@[simp] theorem State.pumpSkip_mem (s : State) (p plan : Nat) : (s.pumpSkip p plan).mem = s.mem := by
  simp only [State.pumpSkip]
  (repeat' split) <;> simp

@[simp] theorem State.pumpSkips_mem (s : State) : s.pumpSkips.mem = s.mem := by simp [State.pumpSkips]

@[simp] theorem State.takeSkip_mem (s : State) (p : Nat) (g : Group) (st : Step) (pl : Plan) (f : Frame) :
    (s.takeSkip p g st pl f).mem = s.mem := by simp [State.takeSkip]

@[simp] theorem Mem.landLine_canonical (m : Mem) (w : LineWrite) (hs : cellsWf m.bytes = true) : cellsWf (m.landLine w).bytes = true := by
  simp +contextual [Mem.landLine, hs]

@[simp] theorem State.putRelay_canonical (s : State) (p : Nat) (t : Tensor) (ls : List Loc) (bs : Bytes) (bad : Bool)
    (hs : cellsWf s.mem.bytes = true) : cellsWf (s.putRelay p t ls bs bad).mem.bytes = true := by simp +contextual [State.putRelay, hs]

@[simp] theorem State.takeRelay_canonical (s : State) (port p : Nat) (g : Group) (st : Step) (pl : Plan) (f : Frame)
    (hs : cellsWf s.mem.bytes = true) : cellsWf (s.takeRelay port p g st pl f).mem.bytes = true := by
  unfold State.takeRelay
  split <;> simp [hs]

@[simp] theorem State.sendBatches_mem (s : State) (p dest : Nat) (route : List Nat) (n : Nat) (fs : List Frame) : (s.sendBatches p dest route n fs).1.mem = s.mem := by
  induction n generalizing s fs with
  | zero => rfl
  | succ n ih => simp only [State.sendBatches]; split <;> simp [ih]

@[simp] theorem State.pumpRelay_mem (s : State) (p : Nat) (g : Group) (st : Step) (pl : Plan) (r : RelaySend) :
    (s.pumpRelay p g st pl r).1.mem = s.mem := by
  simp only [State.pumpRelay]
  split <;> simp

@[simp] theorem State.pumpRelays_mem (s : State) (p plan : Nat) : (s.pumpRelays p plan).mem = s.mem := by
  unfold State.pumpRelays
  (repeat' split) <;> simp

@[simp] theorem State.pumpAllRelays_mem (s : State) : s.pumpAllRelays.mem = s.mem := by simp [State.pumpAllRelays]

@[simp] theorem State.beginRelay_mem (s : State) (p plan pav queue index : Nat) : (s.beginRelay p plan pav queue index).mem = s.mem := by
  unfold State.beginRelay
  split <;> simp

@[simp] theorem State.takeBower_canonical (s : State) (port p : Nat) (g : Group) (f : Frame) (hs : cellsWf s.mem.bytes = true) :
    cellsWf (s.takeBower port p g f).mem.bytes = true := by
  unfold State.takeBower
  split <;> simp [hs]

@[simp] theorem execSkipset_canonical (port : Nat) (f : Frame) (s : State) (hs : cellsWf s.mem.bytes = true) :
    EndsCanonical (execSkipset port f s) := by
  simp only [execSkipset, endsCanonical_next]
  exact State.arriving_canonical _ _ _ _ _ hs fun p g t ht => by simp [ht]

@[simp] theorem execRelay_canonical (port : Nat) (f : Frame) (s : State) (hs : cellsWf s.mem.bytes = true) :
    EndsCanonical (execRelay port f s) := by
  simp only [execRelay, endsCanonical_next]
  exact State.arriving_canonical _ _ _ _ _ hs fun p g t ht => by simp [ht]

@[simp] theorem State.replayBower_canonical (s : State) (p handle : Nat) (hs : cellsWf s.mem.bytes = true) :
    cellsWf (s.replayBower p handle).mem.bytes = true := by
  unfold State.replayBower
  split <;> simp +contextual [hs]

@[simp] theorem State.replayStep_canonical (s : State) (p : Nat) (pl : Plan) (hs : cellsWf s.mem.bytes = true) :
    cellsWf (s.replayStep p pl).mem.bytes = true := by
  simp only [State.replayStep]
  (repeat' split) <;> simp [hs]

@[simp] theorem State.dropTiles_mem (s : State) (p plan : Nat) : (s.dropTiles p plan).mem = s.mem := by simp [State.dropTiles]

@[simp] theorem State.startStep_canonical (s : State) (p : Nat) (pl : Plan) (r : Req) (hs : cellsWf s.mem.bytes = true) :
    cellsWf (s.startStep p pl r).mem.bytes = true := by simp [State.startStep, hs]

@[simp] theorem execStepStart_canonical (plot plan : Nat) (s : State) (hs : cellsWf s.mem.bytes = true) :
    EndsCanonical (execStepStart plot plan s) := by
  simp only [execStepStart]
  (repeat' split) <;> simp [hs]

@[simp] theorem State.stepGone_canonical (s : State) (p plan step : Nat) (hs : cellsWf s.mem.bytes = true) :
    cellsWf (s.stepGone p plan step).mem.bytes = true := by
  unfold State.stepGone
  refine State.afterAppend_canonical _ _ (State.foldl_canonical ?_ (fun t h ht => ?_) _)
  · simp [hs]
  · exact State.finishDrop_canonical _ _ _ (State.finishEvict_canonical _ _ _ (State.settleGone_canonical _ _ _ _ ht))

@[simp] theorem State.countRows_mem (s : State) (p : Nat) (pl : Plan) (st : Step) : (s.countRows p pl st).mem = s.mem := by
  simp [State.countRows]

@[simp] theorem State.postEvents_mem (s : State) (p : Nat) (st : Step) : (s.postEvents p st).mem = s.mem := by simp [State.postEvents]

@[simp] theorem State.postOverflow_mem (s : State) (p : Nat) (st : Step) : (s.postOverflow p st).mem = s.mem := by
  unfold State.postOverflow
  split <;> simp

@[simp] theorem State.completeStep_mem (s : State) (p : Nat) (st : Step) (status : Nat) (body : Bytes) :
    (s.completeStep p st status body).mem = s.mem := by simp [State.completeStep]

@[simp] theorem State.endStep_canonical (s : State) (p : Nat) (pl : Plan) (st : Step) (hs : cellsWf s.mem.bytes = true) :
    cellsWf (s.endStep p pl st).mem.bytes = true := by simp [State.endStep, hs]

@[simp] theorem State.stopStep_mem (s : State) (p plan why : Nat) : (s.stopStep p plan why).mem = s.mem := by
  unfold State.stopStep
  split <;> simp

@[simp] theorem State.abandonFrames_mem (s : State) (p : Nat) (g : Group) : (s.abandonFrames p g).mem = s.mem := by
  simp [State.abandonFrames]

@[simp] theorem State.dissolveGroup_mem (s : State) (p handle fabric : Nat) : (s.dissolveGroup p handle fabric).mem = s.mem := by
  simp only [State.dissolveGroup]
  (repeat' split) <;> simp

@[simp] theorem State.sendLeave_mem (s : State) (p : Nat) (g : Group) : (s.sendLeave p g).mem = s.mem := by simp [State.sendLeave]

@[simp] theorem State.withdraw_mem (s : State) (p handle : Nat) : (s.withdraw p handle).mem = s.mem := by
  unfold State.withdraw
  split <;> simp

@[simp] theorem State.withdrawPlan_mem (s : State) (p : Nat) (pl : Plan) : (s.withdrawPlan p pl).mem = s.mem := by
  simp [State.withdrawPlan]

@[simp] theorem State.stopLost_mem (s : State) (p : Nat) : (s.stopLost p).mem = s.mem := by simp [State.stopLost]

/-! ### What leaves memory canonical: Edges -/

@[simp] theorem State.updPeer_mem (s : State) (x : Peer) : (s.updPeer x).mem = s.mem := by simp [State.updPeer]

@[simp] theorem State.renewPeers_mem (s : State) : s.renewPeers.mem = s.mem := by simp [State.renewPeers]

@[simp] theorem State.hold_mem (s : State) (f : State → State) : (s.hold f).mem = (f s.renewPeers).mem := by
  simp [State.hold]

@[simp] theorem State.sendOffer_mem (s : State) (fabric : Nat) : (s.sendOffer fabric).mem = s.mem := by
  unfold State.sendOffer
  split <;> simp

@[simp] theorem State.pairUp_mem (s : State) (fabric : Nat) : (s.pairUp fabric).mem = s.mem := by simp [State.pairUp]

@[simp] theorem State.shake_mem (s : State) (p : Nat) (g : Group) (fabric : Nat) : (s.shake p g fabric).mem = s.mem := by
  simp [State.shake]

@[simp] theorem State.shakeAll_mem (s : State) (p handle : Nat) : (s.shakeAll p handle).mem = s.mem := by
  unfold State.shakeAll
  split <;> simp

/-! ### What leaves memory canonical: Recovery -/

@[simp] theorem State.refreshStandby_mem (s : State) (p : Nat) : (s.refreshStandby p).mem = s.mem := by simp [State.refreshStandby]

@[simp] theorem State.updPolicy_mem (s : State) (p plan : Nat) (f : Policy → Policy) : (s.updPolicy p plan f).mem = s.mem := by
  simp [State.updPolicy]

@[simp] theorem State.activatePlan_mem (s : State) (p : Nat) (pol : Policy) (new : Nat) (f : Policy → Policy) :
    (s.activatePlan p pol new f).mem = s.mem := by simp [State.activatePlan]

@[simp] theorem State.planEvent_mem (s : State) (p kind : Nat) (pl : Plan) (step fabric dropped : Nat) :
    (s.planEvent p kind pl step fabric dropped).mem = s.mem := by simp [State.planEvent]

@[simp] theorem State.dissolve_mem (s : State) (p : Nat) (pl : Plan) : (s.dissolve p pl).mem = s.mem := by simp [State.dissolve]

@[simp] theorem State.askFill_mem (s : State) (p : Nat) (x : FillState) : (s.askFill p x).mem = s.mem := by
  unfold State.askFill
  split <;> simp

@[simp] theorem State.updFill_mem (s : State) (p plan use : Nat) (f : FillState → FillState) : (s.updFill p plan use f).mem = s.mem := by
  simp [State.updFill]

@[simp] theorem State.endFill_mem (s : State) (p : Nat) (x : FillState) (status : Nat) : (s.endFill p x status).mem = s.mem := by
  simp only [State.endFill]
  split <;> simp

@[simp] theorem State.beginAbsorb_mem (s : State) (p : Nat) (pol : Policy) (stage : Nat) : (s.beginAbsorb p pol stage).mem = s.mem := by
  simp only [State.beginAbsorb]
  (repeat' split) <;> simp

@[simp] theorem State.captureServes_mem (s : State) (p : Nat) : (s.captureServes p).mem = s.mem := by simp [State.captureServes]

@[simp] theorem State.pumpServe_bytes (s : State) (p : Nat) (x : FillServe) : (s.pumpServe p x).1.mem.bytes = s.mem.bytes := by
  simp only [State.pumpServe]
  (repeat' split) <;> simp

@[simp] theorem State.pumpServes_bytes (s : State) (p : Nat) : (s.pumpServes p).mem.bytes = s.mem.bytes := by simp [State.pumpServes]

@[simp] theorem State.pumpImages_mem (s : State) (p : Nat) : (s.pumpImages p).mem = s.mem :=
  State.foldl_mem (fun t e => by (repeat' split) <;> simp) _ _

@[simp] theorem State.pumpFills_bytes (s : State) : s.pumpFills.mem.bytes = s.mem.bytes := by simp [State.pumpFills]

@[simp] theorem State.rebuild_canonical (s : State) (p stage : Nat) (b : Binding) (at_ : Nat) (x : Incoming) (hs : cellsWf s.mem.bytes = true) :
    cellsWf (s.rebuild p stage b at_ x).1.mem.bytes = true := by
  simp only [State.rebuild]
  split
  · exact hs
  · exact Mem.write_canonical _ _ _ (Mem.write_canonical _ _ _ (Mem.write_canonical _ _ _ (Mem.copyRange_canonical _ _ _ _ (Mem.copyRange_canonical _ _ _ _ hs))))

@[simp] theorem State.joinAs_mem (s : State) (p id kind tag gen : Nat) (live : List Nat) (greet : Nat) :
    (s.joinAs p id kind tag gen live greet).mem = s.mem := by
  unfold State.joinAs
  split <;> simp

@[simp] theorem State.finishAbsorb_canonical (s : State) (p plan : Nat) (hs : cellsWf s.mem.bytes = true) :
    cellsWf (s.finishAbsorb p plan).mem.bytes = true := by
  simp only [State.finishAbsorb]
  (repeat' split) <;> simp +contextual [hs]

@[simp] theorem State.beginPromotion_bytes (s : State) (p : Nat) (pol : Policy) : (s.beginPromotion p pol).mem.bytes = s.mem.bytes := by
  unfold State.beginPromotion
  split <;> simp

@[simp] theorem State.activateLoss_canonical (s : State) (p : Nat) (pol : Policy) (stage : Nat) (hs : cellsWf s.mem.bytes = true) :
    cellsWf (s.activateLoss p pol stage).mem.bytes = true := by
  simp only [State.activateLoss]
  (repeat' split) <;> simp [hs]

@[simp] theorem State.forgetFrames_mem (s : State) (pl : Plan) : (s.forgetFrames pl).mem = s.mem := by simp [State.forgetFrames]

@[simp] theorem State.writeKept_canonical (s : State) (p : Nat) (pl : Plan) (hs : cellsWf s.mem.bytes = true) :
    cellsWf (s.writeKept p pl).mem.bytes = true := by
  unfold State.writeKept
  split <;> simp +contextual [hs]

@[simp] theorem State.tryRedo_canonical (s : State) (p : Nat) (st : Step) (hs : cellsWf s.mem.bytes = true) :
    cellsWf (s.tryRedo p st).mem.bytes = true := by
  simp only [State.tryRedo]
  split <;> simp [hs]

@[simp] theorem State.recordsHome_canonical (s : State) (p : Nat) (hs : cellsWf s.mem.bytes = true) :
    cellsWf (s.recordsHome p).mem.bytes = true := by
  refine State.foldl_canonical hs (fun t e ht => ?_) _
  split
  · exact Mem.write_canonical _ _ _ (Mem.copyRange_canonical _ _ _ _ (Mem.copyRange_canonical _ _ _ _ ht))
  · exact ht

@[simp] theorem State.endDegraded_canonical (s : State) (p : Nat) (pol : Policy) (spare : Nat) (hs : cellsWf s.mem.bytes = true) :
    cellsWf (s.endDegraded p pol spare).mem.bytes = true := by
  simp only [State.endDegraded]
  split <;> simp [hs]

@[simp] theorem State.tryRecover_canonical (s : State) (p : Nat) (hs : cellsWf s.mem.bytes = true) :
    cellsWf (s.tryRecover p).mem.bytes = true := by
  unfold State.tryRecover
  simp only [State.pumpImages_mem, State.pumpServes_bytes]
  refine State.foldl_canonical (State.foldl_canonical hs (fun t e ht => ?_) _) (fun t st ht => by simp [ht]) _
  split <;> simp [ht]

@[simp] theorem State.keepStep_mem (s : State) (p : Nat) (pl : Plan) (st : Step) (fabric : Nat) (awaits : Bool) :
    (s.keepStep p pl st fabric awaits).mem = s.mem := by simp [State.keepStep]

@[simp] theorem State.finishStopped_canonical (s : State) (p : Nat) (pl : Plan) (st : Step) (hs : cellsWf s.mem.bytes = true) :
    cellsWf (s.finishStopped p pl st).mem.bytes = true := by
  simp only [State.finishStopped]
  (repeat' split) <;> simp [hs]

@[simp] theorem State.settleStopped_canonical (s : State) (p : Nat) (hs : cellsWf s.mem.bytes = true) :
    cellsWf (s.settleStopped p).mem.bytes = true := by
  unfold State.settleStopped
  refine State.foldl_canonical hs (fun s x hs => ?_) _
  (repeat' split) <;> simp [hs]

@[simp] theorem State.abortQueued_mem (s : State) (p plan : Nat) : (s.abortQueued p plan).mem = s.mem := by simp [State.abortQueued]

@[simp] theorem execStepAbort_canonical (plot : Nat) (s : State) (hs : cellsWf s.mem.bytes = true) :
    EndsCanonical (execStepAbort plot s) := by
  simp only [execStepAbort, endsCanonical_next]
  refine State.serve_canonical hs fun r => ?_
  (repeat' split) <;> simp [hs]

@[simp] theorem execStepEnd_canonical (plot plan : Nat) (s : State) (hs : cellsWf s.mem.bytes = true) :
    EndsCanonical (execStepEnd plot plan s) := by
  unfold execStepEnd
  split <;> simp [hs]

/-! ### What leaves memory canonical: Faults -/

@[simp] theorem Mem.retire_bytes (m : Mem) (g : Nat × Nat) : (m.retire g).bytes = m.bytes := by simp [Mem.retire]

@[simp] theorem Mem.suspect_bytes (m : Mem) (g : Nat × Nat) : (m.suspect g).bytes = m.bytes := by simp [Mem.suspect]

@[simp] theorem Mem.corrected_bytes (m : Mem) (a : Nat) : (m.corrected a).bytes = m.bytes := by simp [Mem.corrected]

@[simp] theorem Mem.uncorrectable_bytes (m : Mem) (line : Nat) : (m.uncorrectable line).bytes = m.bytes := by
  simp only [Mem.uncorrectable]
  (repeat' split) <;> simp

@[simp] theorem Mem.orEntry_canonical (m : Mem) (a bit : Nat) (hs : cellsWf m.bytes = true) : cellsWf (m.orEntry a bit).bytes = true := by
  simp [Mem.orEntry, hs]

@[simp] theorem State.markPage_canonical (s : State) (p a : Nat) (hs : cellsWf s.mem.bytes = true) :
    cellsWf (s.markPage p a).mem.bytes = true :=
  Mem.foldl_canonical hs (fun m x hm => Mem.orEntry_canonical m x 50 hm) _

@[simp] theorem State.tellPoison_canonical (s : State) (a : Nat) (hs : cellsWf s.mem.bytes = true) :
    cellsWf (s.tellPoison a).mem.bytes = true := by
  unfold State.tellPoison
  refine State.foldl_canonical hs (fun t p ht => ?_) _
  split
  · dsimp only
    split <;> simp [ht]
  · exact ht

@[simp] theorem Mem.ghUncorrectable_bytes (m : Mem) (line : Nat) : (m.ghUncorrectable line).bytes = m.bytes := by
  simp [Mem.ghUncorrectable]

@[simp] theorem State.memoryFault_canonical (s : State) (x1 : HwFault) (hs : cellsWf s.mem.bytes = true) :
    cellsWf (s.memoryFault x1).mem.bytes = true := by
  unfold State.memoryFault
  split <;> simp [hs]

/-! ### What leaves memory canonical: Sequencer -/

@[simp] theorem State.descPoison_mem (s : State) (pav p : Nat) (pl : Plan) (d : Bytes) : (s.descPoison pav p pl d).mem = s.mem := by
  simp [State.descPoison]

@[simp] theorem State.fetchNext_mem (s : State) (pav queue p : Nat) (pl : Plan) : (s.fetchNext pav queue p pl).mem = s.mem := by
  simp [State.fetchNext]

@[simp] theorem execDescriptorFetch_canonical (pav : Nat) (queue : Queue) (s : State) (hs : cellsWf s.mem.bytes = true) :
    EndsCanonical (execDescriptorFetch pav queue s) := by
  simp only [execDescriptorFetch]
  (repeat' split) <;> simp [hs]

@[simp] theorem State.exitSpan_mem (s : State) (p : Nat) (pl : Plan) (x : Span) : (s.exitSpan p pl x).mem = s.mem := by
  simp [State.exitSpan]

@[simp] theorem State.openSpan_mem (s : State) (pav p : Nat) (pl : Plan) : (s.openSpan pav p pl).mem = s.mem := by
  simp only [State.openSpan]
  (repeat' split) <;> simp

@[simp] theorem State.advanceSpan_mem (s : State) (pav : Nat) (sp : SpanState) (pl : Plan) : (s.advanceSpan pav sp pl).mem = s.mem := by
  simp [State.advanceSpan]

@[simp] theorem execSpanIteration_canonical (pav : Nat) (s : State) (hs : cellsWf s.mem.bytes = true) :
    EndsCanonical (execSpanIteration pav s) := by
  simp only [execSpanIteration]
  split
  · split <;> simp [hs]
  · rw [endsCanonical_next, State.foldl_mem fun t st => by (repeat' split) <;> simp]
    exact hs

@[simp] theorem State.updDesc_mem (s : State) (pav queue i : Nat) (f : QDesc → QDesc) : (s.updDesc pav queue i f).mem = s.mem := by
  simp [State.updDesc]

@[simp] theorem State.markDone_mem (s : State) (pav queue i : Nat) : (s.markDone pav queue i).mem = s.mem := by simp [State.markDone]

@[simp] theorem State.meetFaults_canonical (s : State) (pav queue i : Nat) (d : QDesc) (fs : List HwFault) (hs : cellsWf s.mem.bytes = true) :
    cellsWf (s.meetFaults pav queue i d fs).mem.bytes = true := by
  simp only [State.meetFaults]
  rw [State.foldl_mem fun t f => by simp]
  exact State.foldl_canonical hs (fun t f ht => State.memoryFault_canonical t f ht) _

@[simp] theorem State.semParity_mem (s : State) (pav : Nat) (d : QDesc) (key : Nat) : (s.semParity pav d key).mem = s.mem := by
  simp [State.semParity]

@[simp] theorem State.beginWait_mem (s : State) (pav queue : Nat) : (s.beginWait pav queue).mem = s.mem := by simp [State.beginWait]

@[simp] theorem execSemWait_canonical (pav : Nat) (queue : Queue) (faults : List HwFault) (s : State) (hs : cellsWf s.mem.bytes = true) :
    EndsCanonical (execSemWait pav queue faults s) := by
  simp only [execSemWait]
  (repeat' split) <;> simp [hs]

@[simp] theorem execSemSignal_canonical (pav : Nat) (queue : Queue) (faults : List HwFault) (s : State) (hs : cellsWf s.mem.bytes = true) :
    EndsCanonical (execSemSignal pav queue faults s) := by
  simp only [execSemSignal]
  (repeat' split) <;> simp [hs]

@[simp] theorem execDescriptorRetire_canonical (pav : Nat) (queue : Queue) (s : State) (hs : cellsWf s.mem.bytes = true) :
    EndsCanonical (execDescriptorRetire pav queue s) := by
  simp only [execDescriptorRetire]
  split <;> simp [hs]

/-! ### What leaves memory canonical: Parterre -/

@[simp] theorem State.walkFaults_canonical (s : State) (p plan : Nat) (w : Walk) (e : Option SeqEntry) (page : Nat)
    (hs : cellsWf s.mem.bytes = true) : cellsWf (s.walkFaults p plan w e page).mem.bytes = true := by
  unfold State.walkFaults
  (repeat' split) <;> simp [hs]

@[simp] theorem State.loadBlock_canonical (s : State) (pav : Nat) (d : QDesc) (hs : cellsWf s.mem.bytes = true) :
    cellsWf (s.loadBlock pav d).state.mem.bytes = true := by
  unfold State.loadBlock
  (repeat' split) <;> simp [hs]

@[simp] theorem State.countSplits_mem (s : State) (pav n : Nat) : (s.countSplits pav n).mem = s.mem := by simp [State.countSplits]

@[simp] theorem State.reissue_canonical (s : State) (pav : Nat) (d : QDesc) (hs : cellsWf s.mem.bytes = true) :
    cellsWf (s.reissue pav d).mem.bytes = true := by
  have hl := State.loadBlock_canonical s pav d hs
  simp only [State.reissue]
  split <;> simpa [State.weightEvent_mem] using hl

@[simp] theorem execWload_canonical (pav : Nat) (faults : List HwFault) (s : State) (hs : cellsWf s.mem.bytes = true) :
    EndsCanonical (execWload pav faults s) := by
  unfold execWload
  split
  · simp [hs]
  · split
    · simp [hs]
    · split
      · simp [hs]
      · rename_i i d c _
        have hm := State.meetFaults_canonical s pav 0 i d faults hs
        have hl := State.loadBlock_canonical _ pav d hm
        dsimp only
        split
        · simpa using hm
        · simpa [State.weightEvent_mem] using hl

@[simp] theorem State.spillTile_bytes (s : State) (pav payer : Nat) (bad : Bool) (g : GTile) :
    (s.spillTile pav payer bad g).mem.bytes = s.mem.bytes := by
  rw [State.spillTile, State.updPav_mem, State.updMem_mem, Mem.enqueue_bytes]

@[simp] theorem State.makeTileRoom_bytes (s : State) (pav p plan handle : Nat) :
    (s.makeTileRoom pav p plan handle).mem.bytes = s.mem.bytes := by
  simp only [State.makeTileRoom]
  (repeat' split) <;> simp

@[simp] theorem State.fillTile_bytes (s : State) (pav p plan handle : Nat) : (s.fillTile pav p plan handle).mem.bytes = s.mem.bytes := by
  simp only [State.fillTile]
  split <;> simp

@[simp] theorem execGbufSpill_canonical (pav : Nat) (faults : List HwFault) (s : State) (hs : cellsWf s.mem.bytes = true) :
    EndsCanonical (execGbufSpill pav faults s) := by
  simp only [execGbufSpill]
  (repeat' split) <;> simp [hs]

@[simp] theorem execStream_canonical (pav : Nat) (faults : List HwFault) (s : State) (hs : cellsWf s.mem.bytes = true) :
    EndsCanonical (execStream pav faults s) := by
  unfold execStream
  (repeat' split) <;> simp [hs]

@[simp] theorem State.drainLocal_mem (s : State) (pav : Nat) (d : QDesc) (es : List DrainElem) : (s.drainLocal pav d es).mem = s.mem := by
  simp [State.drainLocal]

@[simp] theorem State.drainTile_bytes (s : State) (pav : Nat) (d : QDesc) (es : List DrainElem) :
    (s.drainTile pav d es).mem.bytes = s.mem.bytes := by simp [State.drainTile]

@[simp] theorem execDrain_canonical (pav : Nat) (faults : List HwFault) (s : State) (hs : cellsWf s.mem.bytes = true) :
    EndsCanonical (execDrain pav faults s) := by
  unfold execDrain
  (repeat' split) <;> simp [hs]

/-! ### What leaves memory canonical: Rill -/

@[simp] theorem State.runProgram_mem (s : State) (pav : Nat) (d : QDesc) (program : Bytes) (fault : Bool) :
    (s.runProgram pav d program fault).mem = s.mem := by simp [State.runProgram]

@[simp] theorem execVprog_canonical (pav : Nat) (faults : List HwFault) (s : State) (hs : cellsWf s.mem.bytes = true) :
    EndsCanonical (execVprog pav faults s) := by
  unfold execVprog
  (repeat' split) <;> simp [hs]

@[simp] theorem State.scalePass_mem (s : State) (pav : Nat) (d : QDesc) (fault : Bool) : (s.scalePass pav d fault).mem = s.mem := by
  simp [State.scalePass]

@[simp] theorem State.convertPass_mem (s : State) (pav : Nat) (d : QDesc) (fault : Bool) : (s.convertPass pav d fault).mem = s.mem := by
  simp [State.convertPass]

@[simp] theorem State.sealPass_mem (s : State) (pav : Nat) (d : QDesc) (fault : Bool) : (s.sealPass pav d fault).mem = s.mem := by
  simp [State.sealPass]

@[simp] theorem execScale_canonical (pav : Nat) (faults : List HwFault) (s : State) (hs : cellsWf s.mem.bytes = true) :
    EndsCanonical (execScale pav faults s) := by
  unfold execScale
  split <;> simp [hs]

/-! ### What leaves memory canonical: Moves -/

@[simp] theorem State.switchPage_canonical (s : State) (p i page : Nat) (mv : Move) (hs : cellsWf s.mem.bytes = true) :
    cellsWf (s.switchPage p i page mv).mem.bytes = true := by
  unfold State.switchPage
  split <;> simp [hs]

@[simp] theorem State.chargeMove_mem (s : State) (mv : Move) : (s.chargeMove mv).mem = s.mem := by simp [State.chargeMove]

@[simp] theorem State.moveReads_canonical (s : State) (mv : Move) (faults : List HwFault) (hs : cellsWf s.mem.bytes = true) :
    cellsWf (s.moveReads mv faults).mem.bytes = true := by
  have hf := State.foldl_canonical hs (fun t f ht => State.memoryFault_canonical t f ht) faults
  simp only [State.moveReads]
  (repeat' split) <;> simp [hf]

@[simp] theorem State.chargeRecord_mem (s : State) (mv : Move) (h : Nat) : (s.chargeRecord mv h).mem = s.mem := by
  simp [State.chargeRecord]

@[simp] theorem State.endPrefetch_canonical (s : State) (mv : Move) (h : Nat) (hs : cellsWf s.mem.bytes = true) :
    cellsWf (s.endPrefetch mv h).mem.bytes = true := by simp [State.endPrefetch, hs]

@[simp] theorem execMoveRetire_canonical (faults : List HwFault) (s : State) (hs : cellsWf s.mem.bytes = true) :
    EndsCanonical (execMoveRetire faults s) := by
  unfold execMoveRetire
  split
  · simp [hs]
  · split
    · simp [hs]
    · rename_i mv0 _ _ _
      have hm := State.moveReads_canonical s mv0 faults hs
      dsimp only
      split
      · simpa using hm
      · rename_i mv rest _
        have hc := Mem.copyRange_canonical _ mv.src mv.dst mv.len hm
        rw [endsCanonical_next]
        split <;> simp [hc]

theorem State.commitCopy_bytes {s t : State} {pav p mem : Nat} {g : Staged} (ht : s.commitCopy pav p mem g = some t) : t.mem.bytes = s.mem.bytes := by
  simp only [State.commitCopy] at ht
  (repeat' split at ht) <;> cases ht <;> simp

@[simp] theorem execCopy_canonical (pav : Nat) (faults : List HwFault) (s : State) (hs : cellsWf s.mem.bytes = true) :
    EndsCanonical (execCopy pav faults s) := by
  unfold execCopy
  split
  · simp [hs]
  · rename_i d _
    have hm := State.meetFaults_canonical s pav 2 0 d faults hs
    refine .ite (by simp [hs]) ?_
    dsimp only
    generalize hc : State.commitCopy _ _ _ _ _ = o
    cases o with
    | none => simp [hs]
    | some t =>
      have hb := State.commitCopy_bytes hc
      have ht : cellsWf t.mem.bytes = true := by rwa [hb]
      rw [endsCanonical_next, State.markDone_mem]
      refine State.foldl_canonical ?_ (fun u h hu => by simp [hu]) _
      split <;> simpa using ht

/-! ### What leaves memory canonical: Groups -/

@[simp] theorem State.failJoin_mem (s : State) (p handle status : Nat) : (s.failJoin p handle status).mem = s.mem := by
  simp only [State.failJoin]
  (repeat' split) <;> simp

@[simp] theorem State.fallBack_mem (s : State) (p : Nat) (g : Group) : (s.fallBack p g).mem = s.mem := by simp [State.fallBack]

@[simp] theorem State.flows_canonical (s : State) (p : Nat) (hs : cellsWf s.mem.bytes = true) : cellsWf (s.flows p).mem.bytes = true := by
  simp [State.flows, hs]

@[simp] theorem State.settleGroup_canonical (s : State) (p handle : Nat) (hs : cellsWf s.mem.bytes = true) :
    cellsWf (s.settleGroup p handle).mem.bytes = true := by
  simp only [State.settleGroup]
  (repeat' split) <;> simp [hs]

@[simp] theorem execGroupJoin_canonical (p : Nat) (s : State) (hs : cellsWf s.mem.bytes = true) : EndsCanonical (execGroupJoin p s) := by
  simp only [execGroupJoin, endsCanonical_next]
  refine State.serve_canonical hs fun r => ?_
  (repeat' split) <;> simp [hs]

@[simp] theorem execGroupJoinTimeout_canonical (plot group : Nat) (s : State) (hs : cellsWf s.mem.bytes = true) :
    EndsCanonical (execGroupJoinTimeout plot group s) := by
  unfold execGroupJoinTimeout
  split <;> simp [hs]

@[simp] theorem State.reclaimEdge_mem (s : State) (p : Nat) (g : Group) (fabric : Nat) : (s.reclaimEdge p g fabric).mem = s.mem := by
  simp [State.reclaimEdge]

@[simp] theorem State.abandonTiles_mem (s : State) (p : Nat) (g : Group) : (s.abandonTiles p g).mem = s.mem := by
  simp [State.abandonTiles]

@[simp] theorem State.regroup_canonical (s : State) (p handle : Nat) (live lost : List Nat) (gen : Nat) (met : List Nat) (cause : Nat)
    (hs : cellsWf s.mem.bytes = true) : cellsWf (s.regroup p handle live lost gen met cause).mem.bytes = true := by
  unfold State.regroup
  split <;> simp [hs]

@[simp] theorem State.noteLoss_mem (s : State) (p : Nat) (key : Nat × Nat × Nat) : (s.noteLoss p key).mem = s.mem := by
  simp [State.noteLoss]

@[simp] theorem State.sendLoss_mem (s : State) (g : Group) (key : Nat × Nat × Nat) (but : List Nat) :
    (s.sendLoss g key but).mem = s.mem := by simp [State.sendLoss]

@[simp] theorem State.spreadLoss_mem (s : State) (p : Nat) (g : Group) (key : Nat × Nat × Nat) (but : List Nat) :
    (s.spreadLoss p g key but).mem = s.mem := by
  unfold State.spreadLoss
  refine State.foldl_mem (fun s x => ?_) _ _
  split <;> simp

@[simp] theorem State.stopPlan_canonical (s : State) (p : Nat) (pl : Plan) (fabric : Nat) (hs : cellsWf s.mem.bytes = true) :
    cellsWf (s.stopPlan p pl fabric).mem.bytes = true := by
  simp only [State.stopPlan]
  refine State.settleStopped_canonical _ _ ?_
  rw [State.stopLost_mem, State.foldl_mem fun t id => by split <;> simp]
  exact hs

@[simp] theorem State.redoPlan_canonical (s : State) (p plan : Nat) (hs : cellsWf s.mem.bytes = true) :
    cellsWf (s.redoPlan p plan).mem.bytes = true := by
  unfold State.redoPlan
  split <;> simp [hs]

@[simp] theorem State.actOnLoss_canonical (s : State) (p plan : Nat) (g : Group) (fabric rank : Nat) (hs : cellsWf s.mem.bytes = true) :
    cellsWf (s.actOnLoss p plan g fabric rank).mem.bytes = true := by
  simp only [State.actOnLoss]
  (repeat' split) <;> simp [hs]

@[simp] theorem State.declareLoss_canonical (s : State) (p handle fabric : Nat) (src : Option Nat) (hs : cellsWf s.mem.bytes = true) :
    cellsWf (s.declareLoss p handle fabric src).mem.bytes = true := by
  simp only [State.declareLoss]
  split
  · exact hs
  · split
    · exact hs
    · generalize hu : List.foldl (β := Nat) _ _ _ = u
      have hu : cellsWf u.mem.bytes = true := by
        rw [← hu]
        exact State.foldl_canonical (by simpa using hs) (fun t h ht => by simp [ht]) _
      (repeat' split) <;> simp [hu]

@[simp] theorem State.jobLoss_canonical (s : State) (p : Nat) (key : Nat × Nat × Nat) (src : Nat) (hs : cellsWf s.mem.bytes = true) :
    cellsWf (s.jobLoss p key src).mem.bytes = true := by
  simp only [State.jobLoss]
  split
  · exact hs
  · split
    · exact hs
    · refine State.foldl_canonical (by simpa using hs) (fun t g ht => ?_) _
      refine State.foldl_canonical (by simpa using ht) (fun u h hu => ?_) _
      (repeat' split) <;> simp [hu]

theorem State.takeNotice_canonical (s : State) (port generation : Nat) (g : Group) (work : State → State) (hs : cellsWf s.mem.bytes = true)
    (hw : cellsWf (work s).mem.bytes = true) : cellsWf (s.takeNotice port generation g work).mem.bytes = true := by
  simp only [State.takeNotice]
  (repeat' split) <;> simp [hs, hw]

@[simp] theorem execLoss_canonical (l : Link) (groupId generation lostRank : Nat) (s : State) (hs : cellsWf s.mem.bytes = true) :
    EndsCanonical (execLoss l groupId generation lostRank s) := by
  refine .of_next (State.hearControl_canonical _ _ _ _ _ hs fun t ht => State.foldl_canonical (by simpa [ht] using hs) (fun u p hu => ?_) _)
  split
  · exact State.takeNotice_canonical _ _ _ _ _ (by simpa using hu) (by simp [hu])
  · simp [hu]

@[simp] theorem State.releaseSpare_mem (s : State) (p groupId : Nat) : (s.releaseSpare p groupId).mem = s.mem := by
  simp [State.releaseSpare]

@[simp] theorem execLeave_canonical (l : Link) (groupId generation rank : Nat) (s : State) (hs : cellsWf s.mem.bytes = true) :
    EndsCanonical (execLeave l groupId generation rank s) := by
  refine .of_next (State.hearControl_canonical _ _ _ _ _ hs fun t ht => State.foldl_canonical (by simpa [ht] using hs) (fun u p hu => ?_) _)
  split
  · exact State.takeNotice_canonical _ _ _ _ _ (by simpa using hu) (by simp [hu])
  · simp [hu]

@[simp] theorem execRecompactionTimeout_canonical (plot group rank : Nat) (s : State) (hs : cellsWf s.mem.bytes = true) :
    EndsCanonical (execRecompactionTimeout plot group rank s) := by
  unfold execRecompactionTimeout
  split <;> simp [hs]

@[simp] theorem execNeighbourSilent_canonical (plot group fabricId : Nat) (s : State) (hs : cellsWf s.mem.bytes = true) :
    EndsCanonical (execNeighbourSilent plot group fabricId s) := by
  unfold execNeighbourSilent
  split <;> simp [hs]

@[simp] theorem State.met_canonical (s : State) (p : Nat) (g : Group) (h : Handshake) (hs : cellsWf s.mem.bytes = true) :
    cellsWf (s.met p g h).mem.bytes = true := by
  simp only [State.met]
  (repeat' split) <;> simp [hs]

@[simp] theorem State.bowerWhole_canonical (s : State) (p handle spare : Nat) (hs : cellsWf s.mem.bytes = true) :
    cellsWf (s.bowerWhole p handle spare).mem.bytes = true := by
  simp only [State.bowerWhole]
  split
  · exact hs
  · refine State.foldl_canonical hs (fun t e ht => ?_) _
    (repeat' split) <;> simp [ht]

@[simp] theorem State.admitMember_canonical (s : State) (p : Nat) (g : Group) (h : Handshake) (hs : cellsWf s.mem.bytes = true) :
    cellsWf (s.admitMember p g h).mem.bytes = true := by simp [State.admitMember, hs]

@[simp] theorem State.takeNewer_canonical (s : State) (p : Nat) (g : Group) (h : Handshake) (hs : cellsWf s.mem.bytes = true) :
    cellsWf (s.takeNewer p g h).mem.bytes = true := by simp [State.takeNewer, hs]

@[simp] theorem State.takeFormed_canonical (s : State) (port p : Nat) (g : Group) (h : Handshake) (hs : cellsWf s.mem.bytes = true) :
    cellsWf (s.takeFormed port p g h).mem.bytes = true := by
  have hm (l : List Nat) : cellsWf (l.foldl (fun t f => t.declareLoss p g.handle f (some h.src)) s).mem.bytes = true :=
    State.foldl_canonical hs (fun t f ht => State.declareLoss_canonical t p g.handle f _ ht) l
  simp only [State.takeFormed]
  (repeat' split) <;> simp [hs, hm]

@[simp] theorem State.takeForming_canonical (s : State) (p : Nat) (g : Group) (h : Handshake) (hs : cellsWf s.mem.bytes = true) :
    cellsWf (s.takeForming p g h).mem.bytes = true := by simp [State.takeForming, hs]

@[simp] theorem execGroupHandshake_canonical (l : Link) (h : Handshake) (s : State) (hs : cellsWf s.mem.bytes = true) :
    EndsCanonical (execGroupHandshake l h s) := by
  refine .of_next (State.hearControl_canonical _ _ _ _ _ hs fun t ht => State.foldl_canonical (by simpa [ht] using hs) (fun u p hu => ?_) _)
  dsimp only
  (repeat' split) <;> simp [hu]

@[simp] theorem execGroupLeave_canonical (p : Nat) (s : State) (hs : cellsWf s.mem.bytes = true) : EndsCanonical (execGroupLeave p s) := by
  simp only [execGroupLeave, endsCanonical_next]
  refine State.serve_canonical hs fun r => ?_
  (repeat' split) <;> simp [hs]

/-! ### What leaves memory canonical: Checks -/

@[simp] theorem State.withdrawAll_canonical (s : State) (p : Nat) (handles : List Nat) (hs : cellsWf s.mem.bytes = true) :
    cellsWf (s.withdrawAll p handles).mem.bytes = true := by simp [State.withdrawAll, hs]

@[simp] theorem State.engineDown_canonical (s : State) (i block cause : Nat) (hs : cellsWf s.mem.bytes = true) :
    cellsWf (s.engineDown i block cause).mem.bytes = true := by
  unfold State.engineDown
  refine State.foldl_canonical hs (fun t p ht => ?_) _
  dsimp only
  split <;> simp [ht]

@[simp] theorem State.checkFails_canonical (s : State) (engine flag : Nat) (hs : cellsWf s.mem.bytes = true) :
    cellsWf (s.checkFails engine flag).mem.bytes = true := by
  have he : cellsWf (s.updEngine engine (fun e => { e with err := setFlag e.err flag, fenced := true })).mem.bytes = true := by simpa using hs
  simp only [State.checkFails]
  refine State.foldl_canonical he (fun t p ht => ?_) _
  split <;> simp [ht]

@[simp] theorem State.settleFailed_canonical (s : State) (p plan : Nat) (hs : cellsWf s.mem.bytes = true) :
    cellsWf (s.settleFailed p plan).mem.bytes = true := by
  unfold State.settleFailed
  split <;> simp [hs]

@[simp] theorem execTileConvert_canonical (plot plan seq : Nat) (faults : TileFaults) (s : State) (hs : cellsWf s.mem.bytes = true) :
    EndsCanonical (execTileConvert plot plan seq faults s) := by
  unfold execTileConvert
  split <;> simp [hs]

@[simp] theorem execUp_canonical (port : Nat) (f : Frame) (faults : TileFaults) (s : State) (hs : cellsWf s.mem.bytes = true) :
    EndsCanonical (execUp port f faults s) :=
  .of_next (State.arriving_canonical _ _ _ _ _ hs fun p g t ht => State.forStep_canonical _ _ _ _ _ _ ht fun st => by simp [ht])

@[simp] theorem execDown_canonical (port : Nat) (f : Frame) (faults : TileFaults) (s : State) (hs : cellsWf s.mem.bytes = true) :
    EndsCanonical (execDown port f faults s) :=
  .of_next (State.arriving_canonical _ _ _ _ _ hs fun p g t ht => State.forStep_canonical _ _ _ _ _ _ ht fun st => by simp [ht])

@[simp] theorem State.repeatOrLose_canonical (s : State) (port : Nat) (r : Retained) (bad : Bool) (hs : cellsWf s.mem.bytes = true) :
    cellsWf (s.repeatOrLose port r bad).mem.bytes = true := by simp [State.repeatOrLose, hs]

@[simp] theorem execResend_canonical (l : Link) (seq frameIdx groupId : Nat) (retentionBad : Bool) (s : State) (hs : cellsWf s.mem.bytes = true) :
    EndsCanonical (execResend l seq frameIdx groupId retentionBad s) := by
  refine .of_next (State.hearControl_canonical _ _ _ _ _ hs fun t ht => ?_)
  dsimp only
  split <;> simp [hs, ht]

@[simp] theorem execFrameRetransmit_canonical (port : Nat) (retentionBad : Bool) (s : State) (hs : cellsWf s.mem.bytes = true) :
    EndsCanonical (execFrameRetransmit port retentionBad s) := by
  unfold execFrameRetransmit
  split <;> simp [hs]

/-! ### What leaves memory canonical: Snapshot -/

@[simp] theorem State.updPartner_mem (s : State) (p h : Nat) (f : Partner → Partner) : (s.updPartner p h f).mem = s.mem := by
  simp [State.updPartner]

@[simp] theorem State.dropPartner_mem (s : State) (p h : Nat) : (s.dropPartner p h).mem = s.mem := by simp [State.dropPartner]

@[simp] theorem State.offerPartner_mem (s : State) (p : Nat) (r : Req) (imageBytes : Nat) : (s.offerPartner p r imageBytes).mem = s.mem := by
  simp only [State.offerPartner]
  split <;> simp

@[simp] theorem execSnapshotBeginSource_canonical (p : Nat) (s : State) (hs : cellsWf s.mem.bytes = true) :
    EndsCanonical (execSnapshotBeginSource p s) := by
  simp only [execSnapshotBeginSource, endsCanonical_next]
  refine State.serve_canonical hs fun r => ?_
  (repeat' split) <;> simp [hs]

@[simp] theorem execSnapshotBeginKeeper_canonical (p : Nat) (s : State) (hs : cellsWf s.mem.bytes = true) :
    EndsCanonical (execSnapshotBeginKeeper p s) := by simp [execSnapshotBeginKeeper, hs]

@[simp] theorem execSnapshotBeginEnd_canonical (p : Nat) (s : State) (hs : cellsWf s.mem.bytes = true) :
    EndsCanonical (execSnapshotBeginEnd p s) := by
  simp only [execSnapshotBeginEnd, endsCanonical_next]
  refine State.serve_canonical hs fun r => ?_
  (repeat' split) <;> simp [hs]

@[simp] theorem State.failPartner_mem (s : State) (p : Nat) (x : Partner) (status : Nat) : (s.failPartner p x status).mem = s.mem := by
  simp only [State.failPartner]
  split <;> simp

@[simp] theorem execPartnershipFormed_canonical (plot partnership named jobTag role image : Nat) (s : State)
    (hs : cellsWf s.mem.bytes = true) : EndsCanonical (execPartnershipFormed plot partnership named jobTag role image s) := by
  simp only [execPartnershipFormed]
  (repeat' split) <;> simp [hs]

@[simp] theorem execPartnerNoAnswer_canonical (plot partnership : Nat) (s : State) (hs : cellsWf s.mem.bytes = true) :
    EndsCanonical (execPartnerNoAnswer plot partnership s) := by
  unfold execPartnerNoAnswer
  split <;> simp [hs]

@[simp] theorem execSnapshotQuery_canonical (p : Nat) (s : State) (hs : cellsWf s.mem.bytes = true) :
    EndsCanonical (execSnapshotQuery p s) := by
  simp only [execSnapshotQuery, endsCanonical_next]
  refine State.serve_canonical hs fun r => ?_
  (repeat' split) <;> simp [hs]

theorem State.arriveBare_mem (s : State) (i : Nat) (f : Frame) :
    (s.arriveBare i f).2.mem = s.mem ∧ ∀ t ∈ (s.arriveBare i f).1, t.mem = s.mem := by
  simp only [State.arriveBare]
  (repeat' split) <;> simp

@[simp] theorem State.keepFrame_canonical (s : State) (p : Nat) (x : Partner) (f : Frame) (hs : cellsWf s.mem.bytes = true) :
    cellsWf (s.keepFrame p x f).mem.bytes = true := by simp [State.keepFrame, hs]

@[simp] theorem execSnapshot_canonical (port : Nat) (f : Frame) (s : State) (hs : cellsWf s.mem.bytes = true) :
    EndsCanonical (execSnapshot port f s) := by
  obtain ⟨hb, ha⟩ := s.arriveBare_mem port f
  simp only [execSnapshot]
  split
  · simp [hs]
  · split <;> rename_i he
    · simp only [he] at hb
      simp [hb, hs]
    · simp only [he, Option.mem_def, Option.some.injEq, forall_eq'] at ha hb
      split <;> simp [ha, hb, hs]

@[simp] theorem execSnapshotDone_canonical (plot partnership : Nat) (s : State) (hs : cellsWf s.mem.bytes = true) :
    EndsCanonical (execSnapshotDone plot partnership s) := by
  unfold execSnapshotDone
  (repeat' split) <;> simp [hs]

@[simp] theorem State.lapsePartner_mem (s : State) (p : Nat) (x : Partner) : (s.lapsePartner p x).mem = s.mem := by
  simp only [State.lapsePartner]
  (repeat' split) <;> simp

@[simp] theorem State.writeRanges_canonical (s : State) (p : Nat) (im : Bytes) (off : Nat) (rs : List (Nat × Nat)) (hs : cellsWf s.mem.bytes = true) :
    cellsWf (State.writeRanges s p im off rs).mem.bytes = true := by
  induction rs generalizing s off with
  | nil => exact hs
  | cons r rs ih => exact ih _ _ (by simp [hs])

@[simp] theorem State.restoreImage_canonical (s : State) (p : Nat) (r : Req) (b : Binding) (pl : Plan) (im : Bytes) (poisoned : Bool)
    (hs : cellsWf s.mem.bytes = true) : cellsWf (s.restoreImage p r b pl im poisoned).mem.bytes = true := by
  simp only [State.restoreImage]
  split <;> simp [hs]

@[simp] theorem State.askImage_mem (s : State) (p : Nat) (r : Req) (pl : Plan) : (s.askImage p r pl).mem = s.mem := by
  simp only [State.askImage]
  split <;> simp

@[simp] theorem execRestore_canonical (p : Nat) (s : State) (hs : cellsWf s.mem.bytes = true) : EndsCanonical (execRestore p s) := by
  simp only [execRestore, endsCanonical_next]
  refine State.serve_canonical hs fun r => ?_
  (repeat' split) <;> simp [hs]

@[simp] theorem execPartnerRestoreRequest_canonical (l : Link) (jobTag slot : Nat) (s : State) (hs : cellsWf s.mem.bytes = true) :
    EndsCanonical (execPartnerRestoreRequest l jobTag slot s) := by
  refine .of_next (State.hearControl_canonical _ _ _ _ _ hs fun t ht => ?_)
  dsimp only
  (repeat' split) <;> simp [hs, ht]

/-! ### What leaves memory canonical: Survival -/

@[simp] theorem execSurvivePolicyArm_canonical (p : Nat) (s : State) (hs : cellsWf s.mem.bytes = true) :
    EndsCanonical (execSurvivePolicyArm p s) := by
  simp only [execSurvivePolicyArm, endsCanonical_next]
  refine State.serve_canonical hs fun r => ?_
  (repeat' split) <;> simp [hs]

@[simp] theorem execSurvivePolicyDisarm_canonical (p : Nat) (s : State) (hs : cellsWf s.mem.bytes = true) :
    EndsCanonical (execSurvivePolicyDisarm p s) := by simp [execSurvivePolicyDisarm, hs]

@[simp] theorem execSurvivePolicyQuery_canonical (p : Nat) (s : State) (hs : cellsWf s.mem.bytes = true) :
    EndsCanonical (execSurvivePolicyQuery p s) := by simp [execSurvivePolicyQuery, hs]

@[simp] theorem State.beginFill_mem (s : State) (p : Nat) (r : Req) (x : FillState) : (s.beginFill p r x).mem = s.mem := by
  simp [State.beginFill]

@[simp] theorem execSurvivePolicyFill_canonical (p : Nat) (s : State) (hs : cellsWf s.mem.bytes = true) :
    EndsCanonical (execSurvivePolicyFill p s) := by simp [execSurvivePolicyFill, hs]

@[simp] theorem execSurvivePolicyReinstate_canonical (p : Nat) (s : State) (hs : cellsWf s.mem.bytes = true) :
    EndsCanonical (execSurvivePolicyReinstate p s) := by
  simp only [execSurvivePolicyReinstate, endsCanonical_next]
  refine State.serve_canonical hs fun r => ?_
  (repeat' split) <;> simp [hs]

@[simp] theorem State.switchFill_canonical (s : State) (p : Nat) (x : FillState) (hs : cellsWf s.mem.bytes = true) :
    cellsWf (s.switchFill p x).mem.bytes = true := by
  simp only [State.switchFill]
  (repeat' split) <;> simp [hs]

@[simp] theorem State.overwriteRecord_canonical (s : State) (p : Nat) (x : Incoming) (hs : cellsWf s.mem.bytes = true) :
    cellsWf (s.overwriteRecord p x).mem.bytes = true := by
  simp only [State.overwriteRecord]
  split
  · exact hs
  · rw [State.chargeWrite_mem]
    exact Mem.write_canonical _ _ _ (Mem.write_canonical _ _ _ (Mem.write_canonical _ _ _ hs))

@[simp] theorem State.takeOver_canonical (s : State) (p : Nat) (x : FillState) (hs : cellsWf s.mem.bytes = true) :
    cellsWf (s.takeOver p x).mem.bytes = true := by
  simp only [State.takeOver]
  split
  · generalize hu : List.foldl (β := Incoming) _ _ _ = u
    have hu : cellsWf u.mem.bytes = true := by
      rw [← hu]
      exact State.foldl_canonical hs (fun t r ht => by simp [ht]) _
    (repeat' split) <;> simp [hu]
  · exact hs

@[simp] theorem State.baseFilled_mem (s : State) (p : Nat) (x : FillState) : (s.baseFilled p x).mem = s.mem := by
  simp only [State.baseFilled]
  (repeat' split) <;> simp

@[simp] theorem State.imageFilled_canonical (s : State) (p : Nat) (x : FillState) (hs : cellsWf s.mem.bytes = true) :
    cellsWf (s.imageFilled p x).mem.bytes = true := by
  simp only [State.imageFilled]
  split <;> simp [hs]

@[simp] theorem State.fillDone_canonical (s : State) (p plan use : Nat) (hs : cellsWf s.mem.bytes = true) :
    cellsWf (s.fillDone p plan use).mem.bytes = true := by
  unfold State.fillDone
  split <;> simp [hs]

@[simp] theorem State.takeFlags_mem (s : State) (p : Nat) (x : FillState) (flags : Option Bytes) : (s.takeFlags p x flags).mem = s.mem := by
  simp only [State.takeFlags]
  (repeat' split) <;> simp

@[simp] theorem State.takeFill_canonical (s : State) (p : Nat) (x : FillState) (f : Frame) (hs : cellsWf s.mem.bytes = true) :
    cellsWf (s.takeFill p x f).mem.bytes = true := by simp [State.takeFill, hs]

@[simp] theorem execFill_canonical (port : Nat) (f : Frame) (s : State) (hs : cellsWf s.mem.bytes = true) :
    EndsCanonical (execFill port f s) := by
  obtain ⟨hb, ha⟩ := s.arriveBare_mem port f
  simp only [execFill]
  split
  · simp [hs]
  · split <;> rename_i he
    · simp only [he] at hb
      simp [hb, hs]
    · simp only [he, Option.mem_def, Option.some.injEq, forall_eq'] at ha hb
      split <;> simp [ha, hb, hs]

@[simp] theorem State.refuseCopy_mem (s : State) (p : Nat) (g : Group) (dest stage code : Nat) :
    (s.refuseCopy p g dest stage code).mem = s.mem := by simp [State.refuseCopy]

@[simp] theorem State.beginServe_bytes (s : State) (p : Nat) (x : FillServe) : (s.beginServe p x).mem.bytes = s.mem.bytes := by
  simp [State.beginServe]

@[simp] theorem execFillRequest_canonical (l : Link) (groupId jobTag : Nat) (base : Bool) (stage offset fingerprint ports : Nat) (s : State)
    (hs : cellsWf s.mem.bytes = true) : EndsCanonical (execFillRequest l groupId jobTag base stage offset fingerprint ports s) := by
  refine .of_next (State.hearControl_canonical _ _ _ _ _ hs fun t ht => ?_)
  dsimp only
  (repeat' split) <;> simp [hs, ht]

@[simp] theorem execReinstateHandover_canonical (l : Link) (groupId jobTag ports : Nat) (s : State) (hs : cellsWf s.mem.bytes = true) :
    EndsCanonical (execReinstateHandover l groupId jobTag ports s) := by
  refine .of_next (State.hearControl_canonical _ _ _ _ _ hs fun t ht => ?_)
  (repeat' split) <;> simp [hs, ht]

@[simp] theorem execMirrorPromotion_canonical (plot plan : Nat) (s : State) (hs : cellsWf s.mem.bytes = true) :
    EndsCanonical (execMirrorPromotion plot plan s) := by
  simp only [execMirrorPromotion]
  (repeat' split) <;> simp [hs]

@[simp] theorem State.lapseEdge_canonical (s : State) (p : Nat) (g : Group) (fabric : Nat) (hs : cellsWf s.mem.bytes = true) :
    cellsWf (s.lapseEdge p g fabric).mem.bytes = true := by simp [State.lapseEdge, hs]

@[simp] theorem State.lapseOthers_canonical (s : State) (p fabric : Nat) (due : Nat → Bool) (hs : cellsWf s.mem.bytes = true) :
    cellsWf (s.lapseOthers p fabric due).mem.bytes = true := by
  simp only [State.lapseOthers]
  exact State.foldl_canonical (by simpa using State.foldl_canonical hs (fun t x ht => by simp [ht]) _) (fun t e ht => by simp [ht]) _

@[simp] theorem execMemberLost_canonical (p : Nat) (s : State) (hs : cellsWf s.mem.bytes = true) : EndsCanonical (execMemberLost p s) := by
  refine .of_next (State.serve_canonical hs fun r => ?_)
  have he : cellsWf (((s.edgesWith p (fieldAt r.payload 0 8)).foldl (fun t g => t.lapseEdge p g (fieldAt r.payload 0 8)) s)).mem.bytes = true :=
    State.foldl_canonical hs (fun t g ht => by simp [ht]) _
  simp [he]

@[simp] theorem execLeaseLapse_canonical (plot group fabricId : Nat) (s : State) (hs : cellsWf s.mem.bytes = true) :
    EndsCanonical (execLeaseLapse plot group fabricId s) := by
  unfold execLeaseLapse
  (repeat' split) <;> simp [hs]

/-! ### What leaves memory canonical: Traffic -/

@[simp] theorem State.pumpTraffic_canonical (s : State) (hs : cellsWf s.mem.bytes = true) : cellsWf s.pumpTraffic.mem.bytes = true := by
  simp [State.pumpTraffic, hs]

@[simp] theorem execControl_canonical (l : Link) (acks : List Nat) (s : State) (hs : cellsWf s.mem.bytes = true) :
    EndsCanonical (execControl l acks s) :=
  .of_next (State.hearControl_canonical _ _ _ _ _ hs fun t ht => by simp [hs, ht])

@[simp] theorem execHeartbeatReceive_canonical (l : Link) (s : State) (hs : cellsWf s.mem.bytes = true) :
    EndsCanonical (execHeartbeatReceive l s) :=
  .of_next (State.hearControl_canonical _ _ _ _ _ hs fun t ht => by
    refine State.pumpTraffic_canonical _ ?_
    rw [State.foldl_mem fun u p => State.foldl_mem (fun v g => by simp) _ _, ht]
    exact hs)

@[simp] theorem execMemoryWriteRetire_canonical (controller : Nat) (s : State) (hs : cellsWf s.mem.bytes = true) :
    EndsCanonical (execMemoryWriteRetire controller s) := by
  unfold execMemoryWriteRetire
  split <;> simp [hs]

/-! ### What leaves memory canonical: Plots -/

theorem Mem.grantRuns_bytes {ws : List (Nat × Nat)} {m m' : Mem} {rs : List Run} (h : m.grantRuns ws = some (m', rs)) : m'.bytes = m.bytes := by
  induction ws generalizing m rs with
  | nil => cases h; rfl
  | cons w ws ih =>
    simp only [Mem.grantRuns] at h
    (repeat' split at h)
    · obtain ⟨⟨x, l⟩, hx, h⟩ := Option.map_eq_some_iff.1 h
      cases h; exact ih hx
    · cases h
    · obtain ⟨⟨x, l⟩, hx, h⟩ := Option.map_eq_some_iff.1 h
      cases h; simpa using ih hx

@[simp] theorem State.openPlot_mem (s : State) (p : Nat) (c : PlotConfig) (m : Mem) (runs : List Run) : (s.openPlot p c m runs).mem = m := by
  simp only [State.openPlot]
  split <;> rfl

@[simp] theorem execPlotOpen_canonical (s : State) (hs : cellsWf s.mem.bytes = true) : EndsCanonical (execPlotOpen s) := by
  refine .of_next (State.serve_canonical hs fun r => ?_)
  dsimp only
  split
  · simp [hs]
  · split
    · simp [hs]
    · rename_i m runs hg
      have hb := Mem.grantRuns_bytes hg
      split <;> simp [hs, hb]

@[simp] theorem Mem.scrubShare_bytes (m : Mem) (q : Plot) : (m.scrubShare q).bytes = m.bytes := by simp [Mem.scrubShare]

@[simp] theorem State.leaveAll_mem (s : State) (p : Nat) : (s.leaveAll p).mem = s.mem := by simp [State.leaveAll]

@[simp] theorem State.startClose_bytes (s : State) (p : Nat) : (s.startClose p).mem.bytes = s.mem.bytes := by simp [State.startClose]

@[simp] theorem State.updClass_mem (s : State) (c : Nat) (f : FwClass → FwClass) : (s.updClass c f).mem = s.mem := by
  simp [State.updClass]

@[simp] theorem State.startWarm_mem (s : State) (cause : Nat) : (s.startWarm cause).mem = s.mem := by simp [State.startWarm]

@[simp] theorem State.commitActivate_mem (s : State) (r : Req) : (s.commitActivate r).mem = s.mem := by simp [State.commitActivate]

@[simp] theorem State.settleActivate_mem (s : State) : s.settleActivate.mem = s.mem := by
  unfold State.settleActivate
  split <;> simp

@[simp] theorem State.finishClose_mem (s : State) (p : Nat) : (s.finishClose p).mem = s.mem := by simp [State.finishClose]

@[simp] theorem Mem.finishZero_canonical (m : Mem) (i : Nat) (r : Run) (badLines : List Nat) (hs : cellsWf m.bytes = true) :
    cellsWf (m.finishZero i r badLines).bytes = true := by
  simp only [Mem.finishZero]
  exact Mem.foldl_canonical (by simpa using Mem.zeroRun_canonical m r hs) (fun m g hm => by simpa using hm) _

@[simp] theorem execGranuleZeroingDone_canonical (run : Nat) (badLines : List Nat) (s : State) (hs : cellsWf s.mem.bytes = true) :
    EndsCanonical (execGranuleZeroingDone run badLines s) := by
  unfold execGranuleZeroingDone
  split <;> simp [hs]

@[simp] theorem State.closeAttached_bytes (s : State) : s.closeAttached.mem.bytes = s.mem.bytes := by simp [State.closeAttached]

@[simp] theorem execFunctionLevelReset_canonical (fn : Nat) (s : State) (hs : cellsWf s.mem.bytes = true) :
    EndsCanonical (execFunctionLevelReset fn s) := by simp [execFunctionLevelReset, hs]

@[simp] theorem execPciePerstNFall_canonical (s : State) (hs : cellsWf s.mem.bytes = true) : EndsCanonical (execPciePerstNFall s) := by
  simp [execPciePerstNFall, hs]

@[simp] theorem State.startPort_mem (s : State) : s.startPort.mem = s.mem := by simp [State.startPort]

@[simp] theorem execPciePerstNRise_canonical (s : State) (hs : cellsWf s.mem.bytes = true) : EndsCanonical (execPciePerstNRise s) := by
  simp [execPciePerstNRise, hs]

@[simp] theorem State.writeAccount_canonical (s : State) (p dst : Nat) (bs : Bytes) (hs : cellsWf s.mem.bytes = true) :
    cellsWf (s.writeAccount p dst bs).mem.bytes = true := by simp [State.writeAccount, hs]

@[simp] theorem execAccountReadPlot_canonical (plot : Nat) (s : State) (hs : cellsWf s.mem.bytes = true) :
    EndsCanonical (execAccountReadPlot plot s) := by simp [execAccountReadPlot, hs]

@[simp] theorem execAccountReadAdapter_canonical (plot : Nat) (s : State) (hs : cellsWf s.mem.bytes = true) :
    EndsCanonical (execAccountReadAdapter plot s) := by simp [execAccountReadAdapter, hs]

/-! ### What leaves memory canonical: Sched -/

@[simp] theorem State.chargeAll_mem (s : State) : s.chargeAll.mem = s.mem := by simp [State.chargeAll]

@[simp] theorem State.catchUp_mem (s : State) (p : Nat) (least : Option Sched) : (s.catchUp p least).mem = s.mem := by
  unfold State.catchUp
  split <;> simp

@[simp] theorem State.boundary_mem (s : State) : s.boundary.mem = s.mem := by simp [State.boundary]

@[simp] theorem execSliceBoundary_canonical (s : State) (hs : cellsWf s.mem.bytes = true) : EndsCanonical (execSliceBoundary s) := by
  simp [execSliceBoundary, hs]

@[simp] theorem execPlotReady_canonical (plot : Nat) (s : State) (hs : cellsWf s.mem.bytes = true) :
    EndsCanonical (execPlotReady plot s) := by simp [execPlotReady, hs]

@[simp] theorem execEarlyBoundary_canonical (plot : Nat) (s : State) (hs : cellsWf s.mem.bytes = true) :
    EndsCanonical (execEarlyBoundary plot s) := by simp [execEarlyBoundary, hs]

@[simp] theorem execPlotSwitch_canonical (pav overrunTicks switchTicks : Nat) (s : State) (hs : cellsWf s.mem.bytes = true) :
    EndsCanonical (execPlotSwitch pav overrunTicks switchTicks s) := by simp [execPlotSwitch, hs]

/-! ### What leaves memory canonical: Errors -/

@[simp] theorem State.event_mem (s : State) (sensor value : Nat) : (s.event sensor value).mem = s.mem := by simp [State.event]

@[simp] theorem State.setModState_mem (s : State) (n : Nat) : (s.setModState n).mem = s.mem := by simp [State.setModState]

@[simp] theorem State.abortDrain_bytes (s : State) (pav : Nat) (c : List QDesc) (d : QDesc) :
    (s.abortDrain pav c d).mem.bytes = s.mem.bytes := by simp [State.abortDrain]

@[simp] theorem State.poisonOutputs_bytes (s : State) (pav queue : Nat) (c : List QDesc) (d : QDesc) :
    (s.poisonOutputs pav queue c d).mem.bytes = s.mem.bytes := by simp [State.poisonOutputs]

@[simp] theorem State.abortCommand_bytes (s : State) (pav queue : Nat) : (s.abortCommand pav queue).mem.bytes = s.mem.bytes := by
  simp [State.abortCommand]

@[simp] theorem execCommandWatchdog_canonical (pav : Nat) (queue : Queue) (s : State) (hs : cellsWf s.mem.bytes = true) :
    EndsCanonical (execCommandWatchdog pav queue s) := by
  simp only [execCommandWatchdog]
  (repeat' split) <;> simp [hs]

@[simp] theorem execWaitLimit_canonical (pav : Nat) (queue : Queue) (s : State) (hs : cellsWf s.mem.bytes = true) :
    EndsCanonical (execWaitLimit pav queue s) := by
  simp only [execWaitLimit]
  (repeat' split) <;> simp [hs]

@[simp] theorem State.voidSteps_mem (s : State) (p : Nat) (plans : List Nat) (block cause unit : Nat) :
    (s.voidSteps p plans block cause unit).mem = s.mem := by simp [State.voidSteps]

@[simp] theorem State.resetPavilion_mem (s : State) (pav block cause : Nat) : (s.resetPavilion pav block cause).mem = s.mem := by
  simp [State.resetPavilion]

@[simp] theorem State.portDown_mem (s : State) (i : Nat) : (s.portDown i).mem = s.mem := by simp [State.portDown]

@[simp] theorem State.resetUnit_canonical (s : State) (u : HwUnit) (block cause : Nat) (hs : cellsWf s.mem.bytes = true) :
    cellsWf (s.resetUnit u block cause).mem.bytes = true := by
  unfold State.resetUnit
  split <;> simp [hs]

@[simp] theorem State.tellFenced_mem (s : State) (ps : List Nat) (block cause unit : Nat) :
    (s.tellFenced ps block cause unit).mem = s.mem := by simp [State.tellFenced]

@[simp] theorem State.fencePavilion_mem (s : State) (i block cause : Nat) : (s.fencePavilion i block cause).mem = s.mem := by
  simp [State.fencePavilion]

@[simp] theorem State.fenceUnit_canonical (s : State) (u : HwUnit) (block cause : Nat) (hs : cellsWf s.mem.bytes = true) :
    cellsWf (s.fenceUnit u block cause).mem.bytes = true := by
  simp only [State.fenceUnit]
  split
  · simp [hs]
  · split
    · exact hs
    · split
      · exact State.foldl_canonical (by simpa using hs) (fun t i ht => by simp [ht]) _
      · exact State.foldl_canonical (by simpa using hs) (fun t p ht => by simp [ht]) _
      · simp [hs]
      · simp [hs]

@[simp] theorem State.resetAndTest_canonical (s : State) (u : HwUnit) (block cause : Nat) (hs : cellsWf s.mem.bytes = true) :
    cellsWf (s.resetAndTest u block cause).mem.bytes = true := by
  unfold State.resetAndTest
  split <;> simp [hs]

@[simp] theorem State.wedge_canonical (s : State) (u : HwUnit) (block cause : Nat) (hs : cellsWf s.mem.bytes = true) :
    cellsWf (s.wedge u block cause).mem.bytes = true := by
  unfold State.wedge
  (repeat' split) <;> simp [hs]

@[simp] theorem State.failBank_canonical (s : State) (b : SramBank) (hs : cellsWf s.mem.bytes = true) :
    cellsWf (s.failBank b).mem.bytes = true := by
  cases b <;> simp [State.failBank, State.fieldNote_mem, hs]

@[simp] theorem State.scrubVerify_canonical (s : State) (failed : List SramBank) (hs : cellsWf s.mem.bytes = true) :
    cellsWf (s.scrubVerify failed).mem.bytes = true := by
  simp only [State.scrubVerify]
  split
  · exact hs
  · refine State.foldl_canonical ?_ (fun t b ht => State.failBank_canonical t b ht) _
    exact hs

@[simp] theorem execPlotClose_canonical (failed : List SramBank) (s : State) (hs : cellsWf s.mem.bytes = true) :
    EndsCanonical (execPlotClose failed s) := by simp [execPlotClose, hs]

@[simp] theorem execTerraceTimeout_canonical (pav : Nat) (s : State) (hs : cellsWf s.mem.bytes = true) :
    EndsCanonical (execTerraceTimeout pav s) := by simp [execTerraceTimeout, hs]

@[simp] theorem execHeartbeatTimeout_canonical (unit : HwUnit) (s : State) (hs : cellsWf s.mem.bytes = true) :
    EndsCanonical (execHeartbeatTimeout unit s) := by simp [execHeartbeatTimeout, hs]

@[simp] theorem execGatehouseWatchdog_canonical (pair : Nat) (s : State) (hs : cellsWf s.mem.bytes = true) :
    EndsCanonical (execGatehouseWatchdog pair s) := by
  simp only [execGatehouseWatchdog]
  split <;> simp [State.fieldNote_mem, hs]

@[simp] theorem State.endPlots_mem (s : State) : s.endPlots.mem = s.mem := by simp [State.endPlots]

@[simp] theorem execLockStepMismatch_canonical (unit : HwUnit) (s : State) (hs : cellsWf s.mem.bytes = true) :
    EndsCanonical (execLockStepMismatch unit s) := by
  simp only [execLockStepMismatch]
  split <;> simp [State.fieldNote_mem, hs]

@[simp] theorem execTrngHealthFail_canonical (s : State) (hs : cellsWf s.mem.bytes = true) : EndsCanonical (execTrngHealthFail s) := by
  simp [execTrngHealthFail, hs]

@[simp] theorem execAddressFault_canonical (agent : Agent) (addr : Nat) (write hostDma : Bool) (s : State)
    (hs : cellsWf s.mem.bytes = true) : EndsCanonical (execAddressFault agent addr write hostDma s) := by
  simp only [execAddressFault]
  split <;> simp [hs]

@[simp] theorem State.structureFlag_mem (s : State) (x1 : DeviceItem) : (s.structureFlag x1).mem = s.mem := by
  unfold State.structureFlag
  split <;> simp

@[simp] theorem State.loseItem_canonical (s : State) (i : DeviceItem) (hs : cellsWf s.mem.bytes = true) :
    cellsWf (s.loseItem i).mem.bytes = true := by
  cases i <;> simp only [State.loseItem]
  case group => (repeat' split) <;> simp [hs]
  all_goals simp [State.fieldNote_mem, hs]

@[simp] theorem State.structureFault_canonical (s : State) (f : PatrolFind) (hs : cellsWf s.mem.bytes = true) :
    cellsWf (s.structureFault f).mem.bytes = true := by
  have hf : (f.holds.foldl State.structureFlag s).mem = s.mem := State.foldl_mem (fun t i => by simp) _ _
  simp only [State.structureFault]
  split
  · exact State.foldl_canonical (by rwa [hf]) (fun t i ht => by simp [ht]) _
  · simp [hs]

@[simp] theorem State.patrolLine_canonical (s : State) (f : PatrolFind) (hs : cellsWf s.mem.bytes = true) :
    cellsWf (s.patrolLine f).mem.bytes = true := by
  simp only [State.patrolLine]
  (repeat' split) <;> simp [hs]

@[simp] theorem execPatrolScrub_canonical (finds : List PatrolFind) (s : State) (hs : cellsWf s.mem.bytes = true) :
    EndsCanonical (execPatrolScrub finds s) := by
  simp only [execPatrolScrub]
  split
  · simpa using State.foldl_canonical hs (fun t f ht => by simp [ht]) finds
  · simp [hs]

/-! ### What leaves memory canonical: Power -/

@[simp] theorem Mem.foldl_retire_bytes (gs : List (Nat × Nat)) (m : Mem) :
    (gs.foldl (fun m g => if m.retired.contains g then m else m.retire g) m).bytes = m.bytes :=
  List.foldlRecOn (motive := fun n : Mem => n.bytes = m.bytes) gs _ rfl fun n hn g _ => by split <;> simp [hn]

@[simp] theorem State.moduleReset_canonical (s : State) : cellsWf s.moduleReset.mem.bytes = true := by
  simp only [State.moduleReset, Mem.foldl_retire_bytes]
  rfl

@[simp] theorem Mem.warm_canonical (m : Mem) : cellsWf m.warm.bytes = true := by
  simp only [Mem.warm, Mem.foldl_retire_bytes]
  rfl

@[simp] theorem State.warmCleared_canonical (s : State) : cellsWf s.warmCleared.mem.bytes = true := by
  simp [State.warmCleared]

@[simp] theorem State.fallBacks_mem (s : State) (b : BootReport) : (s.fallBacks b).mem = s.mem := by simp [State.fallBacks]

@[simp] theorem State.enterRecovery_mem (s : State) (reason : Nat) : (s.enterRecovery reason).mem = s.mem := by simp [State.enterRecovery]

@[simp] theorem State.gatehouseUp_mem (s : State) (b : BootReport) (warm : Bool) : (s.gatehouseUp b warm).mem = s.mem := by
  simp [State.gatehouseUp]

@[simp] theorem Mem.trained_bytes (m : Mem) (b : BootReport) : (m.trained b).bytes = m.bytes := by simp [Mem.trained]

@[simp] theorem State.selfTest_canonical (s : State) (b : BootReport) (hs : cellsWf s.mem.bytes = true) :
    cellsWf (s.selfTest b).mem.bytes = true := by simp +contextual [State.selfTest, hs]

@[simp] theorem State.endTrials_mem (s : State) : s.endTrials.mem = s.mem := by simp [State.endTrials]

@[simp] theorem State.bringUp_canonical (s : State) (b : BootReport) (warm : Bool) (hs : cellsWf s.mem.bytes = true) :
    cellsWf (s.bringUp b warm).mem.bytes = true := by simp [State.bringUp, hs]

@[simp] theorem State.boot_canonical (s : State) (b : BootReport) (warm : Bool) (hs : cellsWf s.mem.bytes = true) :
    cellsWf (s.boot b warm).mem.bytes = true := by simp [State.boot, hs]

@[simp] theorem State.warmBoot_canonical (s : State) (b : BootReport) : cellsWf (s.warmBoot b).mem.bytes = true :=
  State.scrubVerify_canonical _ _ (State.boot_canonical _ _ _ (by simp))

@[simp] theorem State.keyParity_mem (s : State) : s.keyParity.mem = s.mem := by simp [State.keyParity]

@[simp] theorem execWarmReset_canonical (boot : BootReport) (s : State) (hs : cellsWf s.mem.bytes = true) :
    EndsCanonical (execWarmReset boot s) := by simp [execWarmReset, hs]

@[simp] theorem execModResetNFall_canonical (micros : Nat) (s : State) (hs : cellsWf s.mem.bytes = true) :
    EndsCanonical (execModResetNFall micros s) := by simp [execModResetNFall, hs]

@[simp] theorem State.coldBoot_canonical (s : State) (b : BootReport) (hs : cellsWf s.mem.bytes = true) :
    cellsWf (s.coldBoot b).mem.bytes = true := by simp [State.coldBoot, hs]

@[simp] theorem execModResetNRise_canonical (boot : BootReport) (s : State) (hs : cellsWf s.mem.bytes = true) :
    EndsCanonical (execModResetNRise boot s) := by simp [execModResetNRise, hs]

@[simp] theorem execRefclkLoss_canonical (micros : Nat) (s : State) (hs : cellsWf s.mem.bytes = true) :
    EndsCanonical (execRefclkLoss micros s) := by
  simp only [execRefclkLoss]
  split <;> simp [hs]

@[simp] theorem execRefclkRestored_canonical (boot : BootReport) (s : State) (hs : cellsWf s.mem.bytes = true) :
    EndsCanonical (execRefclkRestored boot s) := by simp [execRefclkRestored, hs]

@[simp] theorem State.revertTrials_mem (s : State) (b : BootReport) : (s.revertTrials b).mem = s.mem := by
  simp only [State.revertTrials]
  rw [State.foldl_mem fun t c => by simp [State.fieldNote_mem]]

@[simp] theorem State.bootReverted_canonical (s : State) (b : BootReport) : cellsWf (s.bootReverted b).mem.bytes = true := by
  simp [State.bootReverted]

@[simp] theorem execTrialRevert_canonical (boot : BootReport) (s : State) (hs : cellsWf s.mem.bytes = true) :
    EndsCanonical (execTrialRevert boot s) := by simp [execTrialRevert, hs]

@[simp] theorem execDroopTrip_canonical (pav : Nat) (s : State) (hs : cellsWf s.mem.bytes = true) :
    EndsCanonical (execDroopTrip pav s) := by simp [execDroopTrip, hs]

@[simp] theorem execDroopRecovery_canonical (pav : Nat) (s : State) (hs : cellsWf s.mem.bytes = true) :
    EndsCanonical (execDroopRecovery pav s) := by simp [execDroopRecovery, hs]

@[simp] theorem State.peak_mem (s : State) (key celsius : Nat) : (s.peak key celsius).mem = s.mem := by simp [State.peak]

@[simp] theorem State.readHotspot_mem (s : State) (pav celsius : Nat) : (s.readHotspot pav celsius).mem = s.mem := by
  simp [State.readHotspot]

@[simp] theorem execThermalStepDown_canonical (pav celsius : Nat) (s : State) (hs : cellsWf s.mem.bytes = true) :
    EndsCanonical (execThermalStepDown pav celsius s) := by simp [execThermalStepDown, hs]

@[simp] theorem execThermalStepUp_canonical (pav celsius : Nat) (s : State) (hs : cellsWf s.mem.bytes = true) :
    EndsCanonical (execThermalStepUp pav celsius s) := by simp [execThermalStepUp, hs]

@[simp] theorem execThermalTrip_canonical (pav celsius : Nat) (s : State) (hs : cellsWf s.mem.bytes = true) :
    EndsCanonical (execThermalTrip pav celsius s) := by simp [execThermalTrip, hs]

@[simp] theorem execPavilionCooled_canonical (pav celsius : Nat) (s : State) (hs : cellsWf s.mem.bytes = true) :
    EndsCanonical (execPavilionCooled pav celsius s) := by simp [execPavilionCooled, hs]

@[simp] theorem Mem.refresh_bytes (m : Mem) (stack celsius : Nat) : (m.refresh stack celsius).bytes = m.bytes := by simp [Mem.refresh]

@[simp] theorem State.readStack_bytes (s : State) (stack celsius : Nat) : (s.readStack stack celsius).mem.bytes = s.mem.bytes := by
  simp [State.readStack]

@[simp] theorem execRefresh2x_canonical (stack celsius : Nat) (s : State) (hs : cellsWf s.mem.bytes = true) :
    EndsCanonical (execRefresh2x stack celsius s) := by simp [execRefresh2x, hs]

@[simp] theorem execMemoryThermalTrip_canonical (stack celsius : Nat) (s : State) (hs : cellsWf s.mem.bytes = true) :
    EndsCanonical (execMemoryThermalTrip stack celsius s) := by simp [execMemoryThermalTrip, hs]

@[simp] theorem State.railsOff_canonical (s : State) : cellsWf s.railsOff.mem.bytes = true := by
  simp [State.railsOff]

@[simp] theorem State.shutDown_canonical (s : State) (cause : Nat) : cellsWf (s.shutDown cause).mem.bytes = true := by
  simp [State.shutDown]

@[simp] theorem execLimiterAssert_canonical (watts : Nat) (s : State) (hs : cellsWf s.mem.bytes = true) :
    EndsCanonical (execLimiterAssert watts s) := by
  simp only [execLimiterAssert]
  split
  · rw [endsCanonical_next, State.event_mem, State.foldl_mem fun t p => by simp]
    simpa using hs
  · simpa using hs

@[simp] theorem execLimiterRelease_canonical (watts : Nat) (s : State) (hs : cellsWf s.mem.bytes = true) :
    EndsCanonical (execLimiterRelease watts s) := by
  simp only [execLimiterRelease]
  split
  · rw [endsCanonical_next, State.event_mem, State.updMod_mem, State.foldl_mem fun t p => by simp]
    simpa using hs
  · simpa using hs

@[simp] theorem execOverpowerShutdown_canonical (watts : Nat) (s : State) (hs : cellsWf s.mem.bytes = true) :
    EndsCanonical (execOverpowerShutdown watts s) := by
  simp only [execOverpowerShutdown]
  split <;> simp [hs]

@[simp] theorem execJunctionThermalTrip_canonical (celsius : Nat) (s : State) (hs : cellsWf s.mem.bytes = true) :
    EndsCanonical (execJunctionThermalTrip celsius s) := by
  simp only [execJunctionThermalTrip]
  split <;> simp [hs]

@[simp] theorem execUndervoltage_canonical (millivolts micros : Nat) (s : State) (hs : cellsWf s.mem.bytes = true) :
    EndsCanonical (execUndervoltage millivolts micros s) := by
  simp only [execUndervoltage]
  split <;> simp [hs]

@[simp] theorem execOvervoltage_canonical (millivolts micros : Nat) (s : State) (hs : cellsWf s.mem.bytes = true) :
    EndsCanonical (execOvervoltage millivolts micros s) := by
  simp only [execOvervoltage]
  split <;> simp [hs]

@[simp] theorem execInputApplied_canonical (millivolts : Nat) (s : State) (hs : cellsWf s.mem.bytes = true) :
    EndsCanonical (execInputApplied millivolts s) := by
  simp only [execInputApplied]
  split <;> simp [hs]

/-! ### What leaves memory canonical: Gatehouse -/

@[simp] theorem State.signed_mem (s : State) (label : String) (message : Bytes) : (s.signed label message).2.mem = s.mem := by
  simp [State.signed]

@[simp] theorem State.sessionKey_mem (s : State) (p : Nat) (keep : Bool) (nonce : Bytes) : (s.sessionKey p keep nonce).mem = s.mem := by
  simp [State.sessionKey]

@[simp] theorem execAttestGet_canonical (plot : Nat) (s : State) (hs : cellsWf s.mem.bytes = true) :
    EndsCanonical (execAttestGet plot s) := by simp [execAttestGet, hs]

@[simp] theorem State.rejectKey_mem (s : State) (p : Nat) (r : Req) (status : Nat) : (s.rejectKey p r status).mem = s.mem := by
  simp [State.rejectKey]

@[simp] theorem State.placeKey_mem (s : State) (p : Nat) (r : Req) (b key : Bytes) : (s.placeKey p r b key).mem = s.mem := by
  simp [State.placeKey]

@[simp] theorem State.installAttested_mem (s : State) (p : Nat) (r : Req) (b : Bytes) : (s.installAttested p r b).mem = s.mem := by
  simp only [State.installAttested]
  (repeat' split) <;> simp

@[simp] theorem State.installDeviceSet_mem (s : State) (p : Nat) (r : Req) (b : Bytes) : (s.installDeviceSet p r b).mem = s.mem := by
  unfold State.installDeviceSet
  (repeat' split) <;> simp

@[simp] theorem State.serveKey_canonical (s : State) (p op : Nat) (work : Req → State → State) (hs : cellsWf s.mem.bytes = true)
    (hw : ∀ r, cellsWf (work r s).mem.bytes = true) : cellsWf (s.serveKey p op work).mem.bytes = true := by
  refine State.serve_canonical hs fun r => ?_
  split <;> simp [hs, hw]

@[simp] theorem execKeyInstall_canonical (plot : Nat) (s : State) (hs : cellsWf s.mem.bytes = true) :
    EndsCanonical (execKeyInstall plot s) := by simp [execKeyInstall, hs]

@[simp] theorem execKeyDelete_canonical (plot : Nat) (s : State) (hs : cellsWf s.mem.bytes = true) :
    EndsCanonical (execKeyDelete plot s) := by simp [execKeyDelete, hs]

@[simp] theorem execKeyUnseal_canonical (plot : Nat) (s : State) (hs : cellsWf s.mem.bytes = true) :
    EndsCanonical (execKeyUnseal plot s) := by
  simp only [execKeyUnseal, endsCanonical_next]
  refine State.serve_canonical hs fun r => ?_
  dsimp only
  (repeat' split) <;> simp [hs]

@[simp] theorem execHallAnchor_canonical (buffer : Bytes) (s : State) (hs : cellsWf s.mem.bytes = true) :
    EndsCanonical (execHallAnchor buffer s) := by simp [execHallAnchor, hs]

@[simp] theorem State.updConn_mem (s : State) (c : Nat) (f : SpdmConn → SpdmConn) : (s.updConn c f).mem = s.mem := by simp [State.updConn]

@[simp] theorem State.spdmError_mem (s : State) (c code : Nat) : (s.spdmError c code).mem = s.mem := by simp [State.spdmError]

@[simp] theorem State.spdmSend_mem (s : State) (c code : Nat) (payload : Bytes) : (s.spdmSend c code payload).mem = s.mem := by
  simp [State.spdmSend]

@[simp] theorem State.spdm_canonical (s : State) (c : Nat) (work : State → State) (hs : cellsWf s.mem.bytes = true)
    (hw : cellsWf (work s).mem.bytes = true) : EndsCanonical (s.spdm c work) := by
  simp only [State.spdm]; split <;> simp [hs, hw]

@[simp] theorem State.spdmReady_canonical (s : State) (c : Nat) (work : State → State) (hs : cellsWf s.mem.bytes = true)
    (hw : cellsWf (work s).mem.bytes = true) : EndsCanonical (s.spdmReady c work) := by
  refine State.spdm_canonical _ _ _ hs ?_
  split <;> simp [hs, hw]

@[simp] theorem execGetVersion_canonical (conn : Nat) (s : State) (hs : cellsWf s.mem.bytes = true) :
    EndsCanonical (execGetVersion conn s) := by simp [execGetVersion, hs]

@[simp] theorem execGetCapabilities_canonical (conn version : Nat) (s : State) (hs : cellsWf s.mem.bytes = true) :
    EndsCanonical (execGetCapabilities conn version s) := by simp [execGetCapabilities, hs]

@[simp] theorem execNegotiateAlgorithms_canonical (conn : Nat) (supported : Bool) (s : State) (hs : cellsWf s.mem.bytes = true) :
    EndsCanonical (execNegotiateAlgorithms conn supported s) := by simp [execNegotiateAlgorithms, hs]

@[simp] theorem execGetDigests_canonical (conn : Nat) (s : State) (hs : cellsWf s.mem.bytes = true) :
    EndsCanonical (execGetDigests conn s) := by simp [execGetDigests, hs]

@[simp] theorem execGetCertificate_canonical (conn slot offset length : Nat) (s : State) (hs : cellsWf s.mem.bytes = true) :
    EndsCanonical (execGetCertificate conn slot offset length s) := by simp [execGetCertificate, hs]

@[simp] theorem execChallenge_canonical (conn slot : Nat) (nonce : Bytes) (s : State) (hs : cellsWf s.mem.bytes = true) :
    EndsCanonical (execChallenge conn slot nonce s) := by simp [execChallenge, hs]

@[simp] theorem execGetMeasurements_canonical (conn index : Nat) (signed : Bool) (nonce : Bytes) (s : State)
    (hs : cellsWf s.mem.bytes = true) : EndsCanonical (execGetMeasurements conn index signed nonce s) := by simp [execGetMeasurements, hs]

@[simp] theorem State.updSessions_mem (s : State) (f : List SpdmSession → List SpdmSession) : (s.updSessions f).mem = s.mem := by
  simp [State.updSessions]

@[simp] theorem execKeyExchange_canonical (conn : Nat) (ek : Bytes) (s : State) (hs : cellsWf s.mem.bytes = true) :
    EndsCanonical (execKeyExchange conn ek s) := by
  refine State.spdmReady_canonical _ _ _ hs ?_
  dsimp only
  (repeat' split) <;> simp [hs]

@[simp] theorem State.inSession_canonical (s : State) (conn id : Nat) (work : SpdmSession → State → State) (hs : cellsWf s.mem.bytes = true)
    (hw : ∀ x, cellsWf (work x s).mem.bytes = true) : EndsCanonical (s.inSession conn id work) := by
  refine State.spdmReady_canonical _ _ _ hs ?_
  (repeat' split) <;> simp [hs, hw]

@[simp] theorem execFinish_canonical (conn session : Nat) (verifyOk : Bool) (s : State) (hs : cellsWf s.mem.bytes = true) :
    EndsCanonical (execFinish conn session verifyOk s) := by
  refine State.spdmReady_canonical _ _ _ hs ?_
  (repeat' split) <;> simp [hs]

@[simp] theorem execSpdmHeartbeat_canonical (conn session : Nat) (s : State) (hs : cellsWf s.mem.bytes = true) :
    EndsCanonical (execSpdmHeartbeat conn session s) := by simp [execSpdmHeartbeat, hs]

@[simp] theorem execKeyUpdate_canonical (conn session : Nat) (s : State) (hs : cellsWf s.mem.bytes = true) :
    EndsCanonical (execKeyUpdate conn session s) := by simp [execKeyUpdate, hs]

@[simp] theorem execEndSession_canonical (conn session : Nat) (s : State) (hs : cellsWf s.mem.bytes = true) :
    EndsCanonical (execEndSession conn session s) := by simp [execEndSession, hs]

@[simp] theorem State.updVf_mem (s : State) (fn : Nat) (f : Vf → Vf) : (s.updVf fn f).mem = s.mem := by simp [State.updVf]

@[simp] theorem execIdeKm_canonical (session fn stream keySet key : Nat) (s : State) (hs : cellsWf s.mem.bytes = true) :
    EndsCanonical (execIdeKm session fn stream keySet key s) := by simp [execIdeKm, hs]

@[simp] theorem execChunkSend_canonical (conn handle seqNo : Nat) (last : Bool) (data : Bytes) (s : State)
    (hs : cellsWf s.mem.bytes = true) : EndsCanonical (execChunkSend conn handle seqNo last data s) := by simp [execChunkSend, hs]

@[simp] theorem execChunkGet_canonical (conn handle seqNo : Nat) (s : State) (hs : cellsWf s.mem.bytes = true) :
    EndsCanonical (execChunkGet conn handle seqNo s) := by simp [execChunkGet, hs]

@[simp] theorem State.tdispError_mem (s : State) (fn : Nat) : (s.tdispError fn).mem = s.mem := by simp [State.tdispError]

@[simp] theorem State.tdisp_canonical (s : State) (fn : Nat) (work : Vf → State → State) (hs : cellsWf s.mem.bytes = true)
    (hw : ∀ x, cellsWf (work x s).mem.bytes = true) : EndsCanonical (s.tdisp fn work) := by
  simp only [State.tdisp]; (repeat' split) <;> simp [hs, hw]

@[simp] theorem execGetTdispVersion_canonical (fn : Nat) (s : State) (hs : cellsWf s.mem.bytes = true) :
    EndsCanonical (execGetTdispVersion fn s) := by simp [execGetTdispVersion, hs]

@[simp] theorem execGetTdispCapabilities_canonical (fn : Nat) (s : State) (hs : cellsWf s.mem.bytes = true) :
    EndsCanonical (execGetTdispCapabilities fn s) := by simp [execGetTdispCapabilities, hs]

@[simp] theorem execLockInterfaceRequest_canonical (fn : Nat) (s : State) (hs : cellsWf s.mem.bytes = true) :
    EndsCanonical (execLockInterfaceRequest fn s) := by simp [execLockInterfaceRequest, hs]

@[simp] theorem execGetDeviceInterfaceReport_canonical (fn : Nat) (s : State) (hs : cellsWf s.mem.bytes = true) :
    EndsCanonical (execGetDeviceInterfaceReport fn s) := by simp [execGetDeviceInterfaceReport, hs]

@[simp] theorem execGetDeviceInterfaceState_canonical (fn : Nat) (s : State) (hs : cellsWf s.mem.bytes = true) :
    EndsCanonical (execGetDeviceInterfaceState fn s) := by simp [execGetDeviceInterfaceState, hs]

@[simp] theorem execStartInterfaceRequest_canonical (fn : Nat) (s : State) (hs : cellsWf s.mem.bytes = true) :
    EndsCanonical (execStartInterfaceRequest fn s) := by simp [execStartInterfaceRequest, hs]

@[simp] theorem State.endTdi_bytes (s : State) (fn state : Nat) : (s.endTdi fn state).mem.bytes = s.mem.bytes := by simp [State.endTdi]

@[simp] theorem execStopInterfaceRequest_canonical (fn : Nat) (s : State) (hs : cellsWf s.mem.bytes = true) :
    EndsCanonical (execStopInterfaceRequest fn s) := by simp [execStopInterfaceRequest, hs]

@[simp] theorem execIdeIntegrityFailure_canonical (fn : Nat) (s : State) (hs : cellsWf s.mem.bytes = true) :
    EndsCanonical (execIdeIntegrityFailure fn s) := by simp [execIdeIntegrityFailure, hs]

@[simp] theorem State.dropPeer_mem (s : State) (fabric : Nat) : (s.dropPeer fabric).mem = s.mem := by simp [State.dropPeer]

@[simp] theorem State.failWaiting_canonical (s : State) (fabric : Nat) (hs : cellsWf s.mem.bytes = true) :
    cellsWf (s.failWaiting fabric).mem.bytes = true := by
  unfold State.failWaiting
  refine State.foldl_canonical hs (fun t p ht => ?_) _
  refine State.foldl_canonical ?_ (fun u x hu => by split <;> simp [hu]) _
  rw [State.foldl_mem fun u x => by simp, State.foldl_mem fun u h => by simp]
  exact ht

@[simp] theorem State.pairFails_canonical (s : State) (fabric : Nat) (hs : cellsWf s.mem.bytes = true) :
    cellsWf (s.pairFails fabric).mem.bytes = true := by simp [State.pairFails, hs]

@[simp] theorem State.goOn_canonical (s : State) (fabric : Nat) (hs : cellsWf s.mem.bytes = true) :
    cellsWf (s.goOn fabric).mem.bytes = true := by
  unfold State.goOn
  refine State.foldl_canonical hs (fun t p ht => ?_) _
  refine State.foldl_canonical ?_ (fun u x hu => by dsimp only; (repeat' split) <;> simp [hu]) _
  exact State.foldl_canonical ht (fun u h hu => by simp [hu]) _

@[simp] theorem State.takeOffer_canonical (s : State) (port : Nat) (k : Keyx) (hs : cellsWf s.mem.bytes = true) :
    cellsWf (s.takeOffer port k).mem.bytes = true := by
  simp only [State.takeOffer]
  (repeat' split) <;> simp [hs]

@[simp] theorem State.takeAccept_canonical (s : State) (port : Nat) (k : Keyx) (hs : cellsWf s.mem.bytes = true) :
    cellsWf (s.takeAccept port k).mem.bytes = true := by
  unfold State.takeAccept
  split <;> simp [hs]

@[simp] theorem State.switchKey_mem (s : State) (port : Nat) : (s.switchKey port).mem = s.mem := by simp [State.switchKey]

@[simp] theorem State.takeKeys_mem (s : State) (port : Nat) (k : Keyx) : (s.takeKeys port k).mem = s.mem := by
  simp only [State.takeKeys]
  split
  · rfl
  · split
    · rfl
    · rw [State.foldl_mem fun t a => by (repeat' split) <;> simp]
      split <;> simp

@[simp] theorem execKeyx_canonical (l : Link) (k : Keyx) (s : State) (hs : cellsWf s.mem.bytes = true) :
    EndsCanonical (execKeyx l k s) := by
  unfold execKeyx
  refine .ite (by simp [hs]) (.of_next (State.hearControl_canonical _ _ _ _ _ hs fun t ht => ?_))
  dsimp only
  split <;> simp [ht, hs]

@[simp] theorem State.sendKey_mem (s : State) (port fabric : Nat) (k : Nat × Nat × Nat) : (s.sendKey port fabric k).mem = s.mem := by
  simp [State.sendKey]

@[simp] theorem execRekey_canonical (port : Nat) (s : State) (hs : cellsWf s.mem.bytes = true) : EndsCanonical (execRekey port s) := by
  simp only [execRekey]
  split <;> simp [hs]

@[simp] theorem execRekeyTimeout_canonical (port fabricId : Nat) (s : State) (hs : cellsWf s.mem.bytes = true) :
    EndsCanonical (execRekeyTimeout port fabricId s) := by simp [execRekeyTimeout, hs]

/-! ### What leaves memory canonical: Registers -/

@[simp] theorem State.setModes_bytes (s : State) (value : Nat) : (s.setModes value).mem.bytes = s.mem.bytes := by
  simp only [State.setModes]
  split <;> simp

@[simp] theorem execModModeWrite_canonical (value : Nat) (s : State) (hs : cellsWf s.mem.bytes = true) :
    EndsCanonical (execModModeWrite value s) := by simp [execModModeWrite, hs]

@[simp] theorem execModFabricIdWrite_canonical (value : Nat) (s : State) (hs : cellsWf s.mem.bytes = true) :
    EndsCanonical (execModFabricIdWrite value s) := by simp [execModFabricIdWrite, hs]

@[simp] theorem State.setPatrol_bytes (s : State) (value : Nat) : (s.setPatrol value).mem.bytes = s.mem.bytes := by simp [State.setPatrol]

@[simp] theorem execModPatrolCfgWrite_canonical (value : Nat) (s : State) (hs : cellsWf s.mem.bytes = true) :
    EndsCanonical (execModPatrolCfgWrite value s) := by simp [execModPatrolCfgWrite, hs]

@[simp] theorem State.setSlice_mem (s : State) (value : Nat) : (s.setSlice value).mem = s.mem := by simp [State.setSlice]

@[simp] theorem execModSchedCfgWrite_canonical (value : Nat) (s : State) (hs : cellsWf s.mem.bytes = true) :
    EndsCanonical (execModSchedCfgWrite value s) := by simp [execModSchedCfgWrite, hs]

theorem execBthMbRingTailWrite_mem {p v : Nat} {s t : State} (h : execBthMbRingTailWrite p v s = .next t) : t.mem = s.mem := by
  simp only [execBthMbRingTailWrite] at h
  (repeat' split at h) <;> cases h <;> simp

theorem execBthMbVecMaskWrite_mem {p v : Nat} {s t : State} (h : execBthMbVecMaskWrite p v s = .next t) : t.mem = s.mem := by
  simp only [execBthMbVecMaskWrite] at h
  (repeat' split at h) <;> cases h <;> simp

@[simp] theorem State.writeArea_mem (s : State) (p off : Nat) (data : Bytes) : (s.writeArea p off data).mem = s.mem := by
  have ht {v : Nat} {t : State} (h : t.mem = s.mem) : (match execBthMbRingTailWrite p v t with | .next u => u | _ => t).mem = s.mem := by
    split
    · rename_i u hu; rw [execBthMbRingTailWrite_mem hu, h]
    · exact h
  have hv {v : Nat} {t : State} (h : t.mem = s.mem) : (match execBthMbVecMaskWrite p v t with | .next u => u | _ => t).mem = s.mem := by
    split
    · rename_i u hu; rw [execBthMbVecMaskWrite_mem hu, h]
    · exact h
  simp only [State.writeArea]
  split
  · rfl
  · refine (apply_ite State.mem ..).trans ?_
    split
    · refine hv ?_
      split
      · exact ht rfl
      · rfl
    · split
      · exact ht rfl
      · rfl

@[simp] theorem State.chargeHost_mem (s : State) (p n : Nat) : (s.chargeHost p n).mem = s.mem := by simp [State.chargeHost]

@[simp] theorem andThen_canonical {s : State} {f : State → Out} (hs : cellsWf s.mem.bytes = true) (hf : EndsCanonical (f s)) :
    cellsWf (andThen s f).mem.bytes = true := by
  unfold andThen
  split
  · exact hf _ ‹_›
  · exact hs
  · exact hs

theorem writableRegs_canonical {b : RegBlock} {r : Nat × Bool × (Nat → State → Out)} (hr : r ∈ writableRegs b) (v : Nat) {s : State}
    (hs : cellsWf s.mem.bytes = true) : EndsCanonical (r.2.2 v s) := by
  cases b <;> simp only [writableRegs, List.mem_cons, List.not_mem_nil, or_false] at hr
  case module | memory => obtain rfl | rfl := hr <;> simp [hs]
  all_goals subst hr; simp [hs]

@[simp] theorem State.writeBlock_canonical (s : State) (b : RegBlock) (off : Nat) (data : Bytes) (hs : cellsWf s.mem.bytes = true) :
    cellsWf (s.writeBlock b off data).mem.bytes = true := by
  unfold State.writeBlock
  split
  · simp [hs]
  · refine List.foldlRecOn (motive := fun t : State => cellsWf t.mem.bytes = true) _ _ hs fun t ht r hr => ?_
    split
    · exact andThen_canonical ht (writableRegs_canonical hr _ ht)
    · exact ht

@[simp] theorem execRegisterWrite_canonical (agent : Agent) (addr : Nat) (data : Bytes) (s : State) (hs : cellsWf s.mem.bytes = true) :
    EndsCanonical (execRegisterWrite agent addr data s) := by
  have hf (agent : Agent) (addr : Nat) (w t : Bool) : EndsCanonical (execAddressFault agent addr w t s) :=
    execAddressFault_canonical agent addr w t s hs
  simp only [execRegisterWrite]
  (repeat' split) <;> simp [hs, hf]

/-! ### What leaves memory canonical: Telemetry -/

@[simp] theorem State.serveMgmt_canonical (s : State) (cls : Nat) (work : Req → State → State) (hs : cellsWf s.mem.bytes = true)
    (hw : ∀ r, cellsWf (work r s).mem.bytes = true) : cellsWf (s.serveMgmt cls work).mem.bytes = true := by
  refine State.serve_canonical hs fun r => ?_
  split <;> simp [hs, hw]

@[simp] theorem execCounters_canonical (s : State) (hs : cellsWf s.mem.bytes = true) : EndsCanonical (execCounters s) :=
  .of_next (State.serveMgmt_canonical _ _ _ hs fun _ => State.telemetry_canonical _ _ _ _ _ hs fun _ _ => rfl)

@[simp] theorem execSensors_canonical (s : State) (hs : cellsWf s.mem.bytes = true) : EndsCanonical (execSensors s) :=
  .of_next (State.serveMgmt_canonical _ _ _ hs fun _ => State.telemetry_canonical _ _ _ _ _ hs fun _ _ => rfl)

@[simp] theorem execAccounts_canonical (s : State) (hs : cellsWf s.mem.bytes = true) : EndsCanonical (execAccounts s) :=
  .of_next (State.serveMgmt_canonical _ _ _ hs fun _ => State.telemetry_canonical _ _ _ _ _ hs fun _ _ => rfl)

@[simp] theorem execErrorLog_canonical (s : State) (hs : cellsWf s.mem.bytes = true) : EndsCanonical (execErrorLog s) :=
  .of_next (State.serveMgmt_canonical _ _ _ hs fun _ => State.telemetry_canonical _ _ _ _ _ hs fun _ _ => by dsimp only; split <;> rfl)

@[simp] theorem State.fieldBytes_mem (s : State) : s.fieldBytes.2.mem = s.mem := by simp [State.fieldBytes]

@[simp] theorem execFieldRecord_canonical (s : State) (hs : cellsWf s.mem.bytes = true) : EndsCanonical (execFieldRecord s) :=
  .of_next (State.serveMgmt_canonical _ _ _ hs fun _ => State.telemetry_canonical _ _ _ _ _ (by simpa using hs) fun _ _ => rfl)

/-! ### What leaves memory canonical: Firmware -/

@[simp] theorem State.setStaged_mem (s : State) (cls : Nat) (b : Bank) : (s.setStaged cls b).mem = s.mem := by simp [State.setStaged]

@[simp] theorem execFwStage_canonical (s : State) (hs : cellsWf s.mem.bytes = true) : EndsCanonical (execFwStage s) := by
  simp only [execFwStage, endsCanonical_next]
  refine State.serve_canonical hs fun r => ?_
  (repeat' split) <;> simp [hs]

@[simp] theorem State.activateByReset_bytes (s : State) (r : Req) : (s.activateByReset r).mem.bytes = s.mem.bytes := by
  simp [State.activateByReset]

@[simp] theorem execFwActivate_canonical (s : State) (hs : cellsWf s.mem.bytes = true) : EndsCanonical (execFwActivate s) := by
  simp only [execFwActivate, endsCanonical_next]
  refine State.serve_canonical hs fun r => ?_
  (repeat' split) <;> simp [hs]

@[simp] theorem State.raiseFuse_mem (s : State) (cls svn : Nat) : (s.raiseFuse cls svn).mem = s.mem := by
  unfold State.raiseFuse
  refine State.foldl_mem (fun s x => ?_) _ _
  split <;> simp

@[simp] theorem execFwCommit_canonical (s : State) (hs : cellsWf s.mem.bytes = true) : EndsCanonical (execFwCommit s) := by
  simp [execFwCommit, hs]

@[simp] theorem execFwQuery_canonical (s : State) (hs : cellsWf s.mem.bytes = true) : EndsCanonical (execFwQuery s) := by
  simp [execFwQuery, hs]

@[simp] theorem State.pauseAll_mem (s : State) : s.pauseAll.mem = s.mem := by simp [State.pauseAll]

@[simp] theorem execBothyTakeOver_canonical (pauseUs : Nat) (s : State) (hs : cellsWf s.mem.bytes = true) :
    EndsCanonical (execBothyTakeOver pauseUs s) := by
  simp only [execBothyTakeOver]
  (repeat' split) <;> simp [hs]

@[simp] theorem execTakeOverRevert_canonical (boot : BootReport) (s : State) (hs : cellsWf s.mem.bytes = true) :
    EndsCanonical (execTakeOverRevert boot s) := by
  simp only [execTakeOverRevert]
  split <;> simp [State.fieldNote_mem, hs]

@[simp] theorem State.updRec_mem (s : State) (f : Recovery → Recovery) : (s.updRec f).mem = s.mem := by simp [State.updRec]

@[simp] theorem State.recResult_mem (s : State) (session code : Nat) : (s.recResult session code).mem = s.mem := by simp [State.recResult]

@[simp] theorem execRecoveryHello_canonical (s : State) (hs : cellsWf s.mem.bytes = true) : EndsCanonical (execRecoveryHello s) := by
  simp [execRecoveryHello, hs]

@[simp] theorem execRecoveryBegin_canonical (cls length digest : Nat) (s : State) (hs : cellsWf s.mem.bytes = true) :
    EndsCanonical (execRecoveryBegin cls length digest s) := by
  simp only [execRecoveryBegin]
  (repeat' split) <;> simp [hs]

@[simp] theorem execRecoveryData_canonical (session offset : Nat) (data : Bytes) (s : State) (hs : cellsWf s.mem.bytes = true) :
    EndsCanonical (execRecoveryData session offset data s) := by
  unfold execRecoveryData
  split <;> simp [hs]

@[simp] theorem execRecoveryCommit_canonical (session : Nat) (s : State) (hs : cellsWf s.mem.bytes = true) :
    EndsCanonical (execRecoveryCommit session s) := by
  unfold execRecoveryCommit
  split <;> simp [hs]

@[simp] theorem execRecoveryReboot_canonical (session : Nat) (boot : BootReport) (s : State) (hs : cellsWf s.mem.bytes = true) :
    EndsCanonical (execRecoveryReboot session boot s) := by simp [execRecoveryReboot, hs]

@[simp] theorem execRecoveryAbort_canonical (session : Nat) (s : State) (hs : cellsWf s.mem.bytes = true) :
    EndsCanonical (execRecoveryAbort session s) := by
  unfold execRecoveryAbort
  split <;> simp [hs]

@[simp] theorem execRecoverySessionTimeout_canonical (s : State) (hs : cellsWf s.mem.bytes = true) :
    EndsCanonical (execRecoverySessionTimeout s) := by
  unfold execRecoverySessionTimeout
  split <;> simp [hs]

/-! ### What leaves memory canonical: Clock -/

@[simp] theorem State.addEnergy_mem (s : State) (p share : Nat) : (s.addEnergy p share).mem = s.mem := by simp [State.addEnergy]

@[simp] theorem State.shareEnergy_mem (s : State) : s.shareEnergy.mem = s.mem := by simp [State.shareEnergy]

@[simp] theorem State.recoveryAck_mem (s : State) : s.recoveryAck.mem = s.mem := by
  unfold State.recoveryAck
  split <;> simp

@[simp] theorem State.idle_mem (s : State) : s.idle.mem = s.mem := by simp [State.idle]

/-! ### What leaves memory canonical: Management -/

@[simp] theorem State.updMgmt_mem (s : State) (f : Mgmt → Mgmt) : (s.updMgmt f).mem = s.mem := by simp [State.updMgmt]

theorem State.postMessage_mem {s t : State} {opcode tag : Nat} {payload : Bytes} (h : s.postMessage opcode payload = some (tag, t)) :
    t.mem = s.mem := by
  simp only [State.postMessage] at h
  split at h <;> cases h
  simp

@[simp] theorem execMctpControl_canonical (setEid : Bool) (eid : Nat) (s : State) (hs : cellsWf s.mem.bytes = true) :
    EndsCanonical (execMctpControl setEid eid s) := by simp [execMctpControl, hs]

@[simp] theorem execRecoveryRequest_canonical (vendorId code : Nat) (s : State) (hs : cellsWf s.mem.bytes = true) :
    EndsCanonical (execRecoveryRequest vendorId code s) := by simp [execRecoveryRequest, hs]

@[simp] theorem State.pldm_mem (s : State) (type cmd completion : Nat) (payload : Bytes) :
    (s.pldm type cmd completion payload).mem = s.mem := by simp [State.pldm]

@[simp] theorem State.pldmBase_canonical (s : State) (work : State → State) (hs : cellsWf s.mem.bytes = true)
    (hw : cellsWf (work s).mem.bytes = true) : EndsCanonical (s.pldmBase work) := by
  simp only [State.pldmBase]; split <;> simp [hs, hw]

@[simp] theorem State.pldmFull_canonical (s : State) (work : State → State) (hs : cellsWf s.mem.bytes = true)
    (hw : cellsWf (work s).mem.bytes = true) : EndsCanonical (s.pldmFull work) := by
  simp only [State.pldmFull]; split <;> simp [hs, hw]

@[simp] theorem execSetTid_canonical (tid : Nat) (s : State) (hs : cellsWf s.mem.bytes = true) : EndsCanonical (execSetTid tid s) := by
  simp [execSetTid, hs]

@[simp] theorem execGetTid_canonical (s : State) (hs : cellsWf s.mem.bytes = true) : EndsCanonical (execGetTid s) := by
  simp [execGetTid, hs]

@[simp] theorem execGetPldmVersion_canonical (type : Nat) (s : State) (hs : cellsWf s.mem.bytes = true) :
    EndsCanonical (execGetPldmVersion type s) := by simp [execGetPldmVersion, hs]

@[simp] theorem execGetPldmTypes_canonical (s : State) (hs : cellsWf s.mem.bytes = true) : EndsCanonical (execGetPldmTypes s) := by
  simp [execGetPldmTypes, hs]

@[simp] theorem execGetPldmCommands_canonical (type : Nat) (s : State) (hs : cellsWf s.mem.bytes = true) :
    EndsCanonical (execGetPldmCommands type s) := by simp [execGetPldmCommands, hs]

@[simp] theorem execGetPdr_canonical (recordHandle : Nat) (s : State) (hs : cellsWf s.mem.bytes = true) :
    EndsCanonical (execGetPdr recordHandle s) := by simp [execGetPdr, hs]

@[simp] theorem execGetSensorReading_canonical (sensor : Nat) (s : State) (hs : cellsWf s.mem.bytes = true) :
    EndsCanonical (execGetSensorReading sensor s) := by simp [execGetSensorReading, hs]

@[simp] theorem execGetStateSensorReadings_canonical (sensor : Nat) (s : State) (hs : cellsWf s.mem.bytes = true) :
    EndsCanonical (execGetStateSensorReadings sensor s) := by simp [execGetStateSensorReadings, hs]

@[simp] theorem execSetEventReceiver_canonical (enable : Bool) (eid : Nat) (s : State) (hs : cellsWf s.mem.bytes = true) :
    EndsCanonical (execSetEventReceiver enable eid s) := by simp [execSetEventReceiver, hs]

@[simp] theorem execPlatformEventMessage_canonical (s : State) (hs : cellsWf s.mem.bytes = true) :
    EndsCanonical (execPlatformEventMessage s) := by
  unfold execPlatformEventMessage
  split <;> simp [hs]

@[simp] theorem State.updPldm_mem (s : State) (f : PldmUpdate → PldmUpdate) : (s.updPldm f).mem = s.mem := by simp [State.updPldm]

@[simp] theorem State.inUpdate_canonical (s : State) (cmd : Nat) (stages : List Nat) (work : PldmUpdate → State → State) (hs : cellsWf s.mem.bytes = true)
    (hw : ∀ x, cellsWf (work x s).mem.bytes = true) : EndsCanonical (s.inUpdate cmd stages work) := by
  refine State.pldmFull_canonical _ _ hs ?_
  simp [hs, hw]

@[simp] theorem execQueryDeviceIdentifiers_canonical (s : State) (hs : cellsWf s.mem.bytes = true) :
    EndsCanonical (execQueryDeviceIdentifiers s) := by simp [execQueryDeviceIdentifiers, hs]

@[simp] theorem execGetFirmwareParameters_canonical (s : State) (hs : cellsWf s.mem.bytes = true) :
    EndsCanonical (execGetFirmwareParameters s) := by simp [execGetFirmwareParameters, hs]

@[simp] theorem execRequestUpdate_canonical (s : State) (hs : cellsWf s.mem.bytes = true) : EndsCanonical (execRequestUpdate s) := by
  simp [execRequestUpdate, hs]

@[simp] theorem execPassComponentTable_canonical (cls : Nat) (s : State) (hs : cellsWf s.mem.bytes = true) :
    EndsCanonical (execPassComponentTable cls s) := by simp [execPassComponentTable, hs]

@[simp] theorem State.askData_mem (s : State) (offset size : Nat) : (s.askData offset size).mem = s.mem := by simp [State.askData]

@[simp] theorem execUpdateComponent_canonical (cls size : Nat) (s : State) (hs : cellsWf s.mem.bytes = true) :
    EndsCanonical (execUpdateComponent cls size s) := by simp [execUpdateComponent, hs]

@[simp] theorem execRequestFirmwareData_canonical (offset : Nat) (data : Bytes) (s : State) (hs : cellsWf s.mem.bytes = true) :
    EndsCanonical (execRequestFirmwareData offset data s) := by simp [execRequestFirmwareData, hs]

@[simp] theorem execTransferComplete_canonical (s : State) (hs : cellsWf s.mem.bytes = true) : EndsCanonical (execTransferComplete s) := by
  simp [execTransferComplete, hs]

@[simp] theorem execVerifyComplete_canonical (s : State) (hs : cellsWf s.mem.bytes = true) : EndsCanonical (execVerifyComplete s) := by
  refine State.inUpdate_canonical _ _ _ _ hs fun x => ?_
  split
  · exact hs
  · rename_i h
    simp [State.postMessage_mem h, hs]

@[simp] theorem execApplyComplete_canonical (s : State) (hs : cellsWf s.mem.bytes = true) : EndsCanonical (execApplyComplete s) := by
  refine State.inUpdate_canonical _ _ _ _ hs fun x => ?_
  split <;> simp [hs]

@[simp] theorem execActivateFirmware_canonical (resetOk closePlots : Bool) (s : State) (hs : cellsWf s.mem.bytes = true) :
    EndsCanonical (execActivateFirmware resetOk closePlots s) := by
  refine State.inUpdate_canonical _ _ _ _ hs fun x => ?_
  split
  · simp [hs]
  · rw [State.pldm_mem, State.updPldm_mem, State.foldl_mem fun t c => by split; exacts [State.postMessage_mem ‹_›, rfl]]
    exact hs

@[simp] theorem execGetStatus_canonical (s : State) (hs : cellsWf s.mem.bytes = true) : EndsCanonical (execGetStatus s) := by
  simp [execGetStatus, hs]

@[simp] theorem execCancelUpdateComponent_canonical (s : State) (hs : cellsWf s.mem.bytes = true) :
    EndsCanonical (execCancelUpdateComponent s) := by simp [execCancelUpdateComponent, hs]

@[simp] theorem execCancelUpdate_canonical (s : State) (hs : cellsWf s.mem.bytes = true) : EndsCanonical (execCancelUpdate s) := by
  simp [execCancelUpdate, hs]

@[simp] theorem State.http_mem (s : State) (code status : Nat) (payload : Bytes) : (s.http code status payload).mem = s.mem := by
  simp [State.http]

@[simp] theorem State.redfish_canonical (s : State) (session role : Nat) (work : State → State) (hs : cellsWf s.mem.bytes = true)
    (hw : cellsWf (work s).mem.bytes = true) : EndsCanonical (s.redfish session role work) := by
  simp only [State.redfish]; (repeat' split) <;> simp [hs, hw]

@[simp] theorem State.postTask_mem (s : State) (opcode : Nat) (payload : Bytes) : (s.postTask opcode payload).mem = s.mem := by
  simp only [State.postTask]
  split
  · simp
  · rename_i h
    simp [State.postMessage_mem h]

@[simp] theorem execRedfishSession_canonical (account : Nat) (password : Bytes) (s : State) (hs : cellsWf s.mem.bytes = true) :
    EndsCanonical (execRedfishSession account password s) := by
  unfold execRedfishSession
  (repeat' split) <;> simp [hs]

@[simp] theorem execRedfishAccountPatch_canonical (session account : Nat) (password : Bytes) (role : Nat) (s : State)
    (hs : cellsWf s.mem.bytes = true) : EndsCanonical (execRedfishAccountPatch session account password role s) := by
  unfold execRedfishAccountPatch
  (repeat' split) <;> simp [hs]

@[simp] theorem execCertificateReplace_canonical (session : Nat) (certificate : Bytes) (s : State) (hs : cellsWf s.mem.bytes = true) :
    EndsCanonical (execCertificateReplace session certificate s) := by simp [execCertificateReplace, hs]

@[simp] theorem execManagerReset_canonical (session : Nat) (s : State) (hs : cellsWf s.mem.bytes = true) :
    EndsCanonical (execManagerReset session s) := by simp [execManagerReset, hs]

@[simp] theorem execManagerNetworkPatch_canonical (session : Nat) (settings : Bytes) (s : State) (hs : cellsWf s.mem.bytes = true) :
    EndsCanonical (execManagerNetworkPatch session settings s) := by simp [execManagerNetworkPatch, hs]

@[simp] theorem State.switchLodge_mem (s : State) : s.switchLodge.mem = s.mem := by
  unfold State.switchLodge
  split <;> simp

@[simp] theorem execComputerSystemReset_canonical (session : Nat) (s : State) (hs : cellsWf s.mem.bytes = true) :
    EndsCanonical (execComputerSystemReset session s) := by simp [execComputerSystemReset, hs]

@[simp] theorem execMultipartHttpPushUri_canonical (session cls : Nat) (image : Bytes) (s : State) (hs : cellsWf s.mem.bytes = true) :
    EndsCanonical (execMultipartHttpPushUri session cls image s) := by simp [execMultipartHttpPushUri, hs]

@[simp] theorem execRedfishActivate_canonical (session cls : Nat) (resetOk closePlots : Bool) (s : State)
    (hs : cellsWf s.mem.bytes = true) : EndsCanonical (execRedfishActivate session cls resetOk closePlots s) := by
  simp [execRedfishActivate, hs]

@[simp] theorem execRedfishCommit_canonical (session cls : Nat) (s : State) (hs : cellsWf s.mem.bytes = true) :
    EndsCanonical (execRedfishCommit session cls s) := by simp [execRedfishCommit, hs]

@[simp] theorem execCollectDiagnosticData_canonical (session : Nat) (s : State) (hs : cellsWf s.mem.bytes = true) :
    EndsCanonical (execCollectDiagnosticData session s) := by simp [execCollectDiagnosticData, hs]

@[simp] theorem execClearLog_canonical (session : Nat) (s : State) (hs : cellsWf s.mem.bytes = true) :
    EndsCanonical (execClearLog session s) := by simp [execClearLog, hs]

@[simp] theorem execSpdmGetSignedMeasurements_canonical (session : Nat) (nonce : Bytes) (s : State) (hs : cellsWf s.mem.bytes = true) :
    EndsCanonical (execSpdmGetSignedMeasurements session nonce s) := by simp [execSpdmGetSignedMeasurements, hs]

@[simp] theorem execEventSubscription_canonical (session : Nat) (remove : Bool) (id : Nat) (s : State) (hs : cellsWf s.mem.bytes = true) :
    EndsCanonical (execEventSubscription session remove id s) := by simp [execEventSubscription, hs]

@[simp] theorem execModulePatch_canonical (session mode sliceUs patrol : Nat) (s : State) (hs : cellsWf s.mem.bytes = true) :
    EndsCanonical (execModulePatch session mode sliceUs patrol s) := by simp [execModulePatch, hs]

@[simp] theorem execPlotOpenAction_canonical (session : Nat) (payload : Bytes) (s : State) (hs : cellsWf s.mem.bytes = true) :
    EndsCanonical (execPlotOpenAction session payload s) := by simp [execPlotOpenAction, hs]

@[simp] theorem execPlotCloseAction_canonical (session plot : Nat) (s : State) (hs : cellsWf s.mem.bytes = true) :
    EndsCanonical (execPlotCloseAction session plot s) := by simp [execPlotCloseAction, hs]

@[simp] theorem execHttpRedirect_canonical (s : State) (hs : cellsWf s.mem.bytes = true) : EndsCanonical (execHttpRedirect s) := by
  simp [execHttpRedirect, hs]

@[simp] theorem execRedfishTaskDone_canonical (task : Nat) (s : State) (hs : cellsWf s.mem.bytes = true) :
    EndsCanonical (execRedfishTaskDone task s) := by
  unfold execRedfishTaskDone
  (repeat' split) <;> simp [hs]

/-! ### Every command, and a step -/

/-- Whatever the command, memory in canonical form ends in canonical form. -/
theorem exec_canonical (c : Instr) (s : State) (hs : cellsWf s.mem.bytes = true) : EndsCanonical (exec c s) := by
  unfold exec
  cases c <;> simp [hs]

theorem step_canonical (s : State) (hs : cellsWf s.mem.bytes = true) : EndsCanonical (step s) := by
  unfold step
  split
  · simp [hs]
  · exact exec_canonical _ _ hs

/-- Settles O46: each function of the model keeps the device memory canonical, and a step is one of its commands or an idle tick. -/
theorem everyStepKeepsInvariant : Obligations.EveryStepKeepsInvariant := fun s t hs ht => step_canonical s hs t ht

/-- Settles O45: reset memory lists no cell. -/
theorem resetMeetsInvariant : Obligations.ResetMeetsInvariant := ⟨rfl, rfl, fun _ => rfl⟩

end Sys2Proof.Machine

/-! The interleaving of device memory over its controllers (O51). -/

namespace Sys2Proof.Machine

theorem controllerOf_terrace {T o : Nat} (hT : T < 2) (ho : o < 480 * 2 ^ 30) :
    controllerOf (T * (480 * 2 ^ 30) + o) = 6 * T + o / 4096 % 6 := by
  unfold controllerOf
  obtain rfl | rfl : T = 0 ∨ T = 1 := by omega
  · rw [if_pos (by omega)]; omega
  · rw [if_neg (by omega), if_pos (by omega)]; omega

theorem localAddress_terrace {T o : Nat} (hT : T < 2) (ho : o < 480 * 2 ^ 30) :
    localAddress (T * (480 * 2 ^ 30) + o) = o / 4096 / 6 * 4096 + o % 4096 := by
  unfold localAddress
  obtain rfl | rfl : T = 0 ∨ T = 1 := by omega
  · rw [if_pos (by omega)]; omega
  · rw [if_neg (by omega), if_pos (by omega)]; omega

theorem controllerOf_coldFrame {o : Nat} : controllerOf (0x10000000000 + o) = 12 + o / 4096 % 24 := by
  unfold controllerOf
  rw [if_neg (by omega), if_neg (by omega)]
  omega

theorem localAddress_coldFrame {o : Nat} : localAddress (0x10000000000 + o) = o / 4096 / 24 * 4096 + o % 4096 := by
  unfold localAddress
  rw [if_neg (by omega), if_neg (by omega)]
  omega

/-- An address of the HBM ranges by its Terrace and its place there. -/
theorem isHbm_iff {a : Nat} : isHbm a = true ↔ ∃ T o, T < 2 ∧ o < 480 * 2 ^ 30 ∧ a = T * (480 * 2 ^ 30) + o := by
  simp only [isHbm, decide_eq_true_eq]
  refine ⟨fun ha => ⟨a / (480 * 2 ^ 30), a % (480 * 2 ^ 30), by omega, by omega, by omega⟩, ?_⟩
  rintro ⟨T, o, hT, ho, rfl⟩
  omega

/-- The place in its Terrace of a stack's local address: units of 4 KiB in turn over the Terrace's six stacks (R155). -/
def terracePlace (stack l : Nat) : Nat := (l / 4096 * 6 + stack % 6) * 4096 + l % 4096

theorem terracePlace_lt {stack l : Nat} (hl : l < 80 * 2 ^ 30) : terracePlace stack l < 480 * 2 ^ 30 := by
  unfold terracePlace
  omega

theorem terracePlace_stack (stack l : Nat) : terracePlace stack l / 4096 % 6 = stack % 6 := by
  unfold terracePlace
  omega

theorem terracePlace_local (stack l : Nat) : terracePlace stack l / 4096 / 6 * 4096 + terracePlace stack l % 4096 = l := by
  unfold terracePlace
  omega

/-- A place in a Terrace is that of its stack and of its local address. -/
theorem terracePlace_eq (T o : Nat) : terracePlace (6 * T + o / 4096 % 6) (o / 4096 / 6 * 4096 + o % 4096) = o := by
  unfold terracePlace
  omega

/-- Settles O51: `terracePlace` is the inverse of the map from a Terrace's addresses to stacks and local addresses. -/
theorem memoryInterleaving : Obligations.MemoryInterleaving := by
  refine ⟨fun T o hT ho => ⟨controllerOf_terrace hT ho, localAddress_terrace hT ho⟩,
    fun o _ => ⟨controllerOf_coldFrame, localAddress_coldFrame⟩, fun a ha => ?_, fun stack l hs hl => ?_⟩
  · obtain ⟨T, o, hT, ho, rfl⟩ := isHbm_iff.1 ha
    rw [controllerOf_terrace hT ho, localAddress_terrace hT ho]
    omega
  · have hT : stack / 6 < 2 := by omega
    have ho := terracePlace_lt (stack := stack) hl
    refine ⟨stack / 6 * (480 * 2 ^ 30) + terracePlace stack l, isHbm_iff.2 ⟨_, _, hT, ho, rfl⟩, ?_, ?_, fun b hb hc hloc => ?_⟩
    · rw [controllerOf_terrace hT ho, terracePlace_stack]
      omega
    · rw [localAddress_terrace hT ho, terracePlace_local]
    · obtain ⟨T, o, hT', ho', rfl⟩ := isHbm_iff.1 hb
      rw [controllerOf_terrace hT' ho'] at hc
      rw [localAddress_terrace hT' ho'] at hloc
      have hTs : T = stack / 6 := by omega
      rw [← hc, ← hloc, terracePlace_eq, hc, hTs]

end Sys2Proof.Machine

/-! The messages of memory windows (O13, O14): MEM_MAP, MEM_UNMAP and MEM_SCRUB (R162 to R166). -/

namespace Sys2Proof.Machine

/-! ### The arms of the three commands -/

theorem exec_memMap_eq (p : Nat) (s : State) : exec (.memMap p) s = execMemMap p s := rfl

theorem exec_memUnmap_eq (p : Nat) (s : State) : exec (.memUnmap p) s = execMemUnmap p s := rfl

theorem exec_memScrub_eq (p : Nat) (s : State) : exec (.memScrub p) s = execMemScrub p s := rfl

/-! ### What a completion changes -/

theorem State.otherPlots_updPlot (s : State) (p : Nat) (f : Plot → Plot) : s.otherPlots (s.updPlot p f) p :=
  fun q hq => s.plot_updPlot_ne p q f hq

theorem State.otherPlots_updMem (s : State) (f : Mem → Mem) (p : Nat) : s.otherPlots (s.updMem f) p := fun _ _ => rfl

theorem State.otherPlots_completeWith (s : State) (p : Nat) (r : Req) (st dcode detail : Nat) (body : Bytes) :
    s.otherPlots (s.completeWith p r st dcode detail body) p :=
  fun q hq => s.plot_completeWith_ne p q r st dcode detail body hq

theorem State.otherPlots.trans {s t u : State} {p : Nat} (hst : s.otherPlots t p) (htu : t.otherPlots u p) : s.otherPlots u p :=
  fun q hq => (htu q hq).trans (hst q hq)

theorem State.keepsBut_completeWith (s : State) (p : Nat) (r : Req) (st dcode detail : Nat) (body : Bytes) :
    s.keepsBut (s.completeWith p r st dcode detail body) [.plots] := by
  intro x hx
  cases x <;> simp_all [State.agree]

/-- A refused message: its completion is all that changes. -/
theorem State.refuse_spec {s : State} {p : Nat} (r : Req) (st : Nat) (hopen : s.isOpen p = true) :
    (s.refuse p r st).plot p = (s.plot p).answered r st 0 0 [] ∧ s.otherPlots (s.refuse p r st) p ∧ s.keepsBut (s.refuse p r st) [.plots] :=
  ⟨s.plot_completeWith_self p r st 0 0 [] hopen, s.otherPlots_completeWith p r st 0 0 [], s.keepsBut_completeWith p r st 0 0 []⟩

/-- A message answered after its work on memory and on its own plot, which stays OPEN. -/
theorem State.ok_spec {s u : State} {p : Nat} (r : Req) (body : Bytes) (hopen : u.isOpen p = true) (hother : s.otherPlots u p)
    (hkeeps : s.keepsBut u [.mem, .plots]) : (u.ok p r body).plot p = (u.plot p).answeredOk r body ∧ (u.ok p r body).mem = u.mem ∧
      s.otherPlots (u.ok p r body) p ∧ s.keepsBut (u.ok p r body) [.mem, .plots] :=
  ⟨u.plot_completeWith_self p r 0 0 0 body hopen, u.completeWith_mem p r 0 0 0 body,
    hother.trans (u.otherPlots_completeWith p r 0 0 0 body), hkeeps.trans ((u.keepsBut_completeWith p r 0 0 0 body).mono (by simp))⟩

section Messages

variable {s : State} {p : Nat} {r : Req} {run : Run}

/-! ### MEM_MAP (R164) -/

theorem exec_memMap_error {st : Nat} (hbusy : s.memMessageBusy p = false) (h : Turn s p opMemMap r)
    (hplace : s.placeWindow p (fieldAt r.payload 0 1) (fieldAt r.payload 4 4) (fieldAt r.payload 8 8) = .error st) :
    exec (.memMap p) s = .next (s.refuse p r st) := by
  simp [exec_memMap_eq, execMemMap, hbusy, State.serve_turn h, hplace]

theorem exec_memMap_ok {w : Nat} (hbusy : s.memMessageBusy p = false) (h : Turn s p opMemMap r)
    (hplace : s.placeWindow p (fieldAt r.payload 0 1) (fieldAt r.payload 4 4) (fieldAt r.payload 8 8) = .ok (w, run)) :
    exec (.memMap p) s = .next ((s.mapWindow p w run).ok p r (natLE 8 run.base ++ natLE 4 run.count ++ natLE 2 w)) := by
  simp [exec_memMap_eq, execMemMap, hbusy, State.serve_turn h, hplace]

theorem State.mapWindow_spec (hopen : s.isOpen p = true) (w : Nat) : (s.mapWindow p w run).isOpen p = true ∧
    (s.mapWindow p w run).plot p = { s.plot p with windows := (s.plot p).windows.set w run } ∧
    s.otherPlots (s.mapWindow p w run) p ∧ s.keepsBut (s.mapWindow p w run) [.mem, .plots] := by
  have hplot : (s.mapWindow p w run).plot p = { s.plot p with windows := (s.plot p).windows.set w run } := by simp [State.mapWindow]
  refine ⟨by simpa [State.isOpen, hplot] using hopen, hplot, (s.updMem _).otherPlots_updPlot p _, ?_⟩
  exact ((s.keepsBut_updMem _).mono (by simp)).trans (((s.updMem _).keepsBut_updPlot p _).mono (by simp))

/-- A window is refused for its shape or its place with ST_NOT_PERMITTED, and for want of room with ST_NO_MEMORY. -/
theorem State.placeWindow_error {tier n hint st : Nat} (h : s.placeWindow p tier n hint = .error st) :
    st = stNotPermitted ∨ st = stNoMemory := by
  simp only [State.placeWindow] at h
  (repeat' split at h) <;> cases h <;> simp

theorem State.placeWindow_shape {tier n hint : Nat} (h : 3 < tier ∨ n = 0 ∨ 262144 < n) :
    s.placeWindow p tier n hint = .error stNotPermitted := by
  simp [State.placeWindow, h]

/-! ### MEM_UNMAP (R166) -/

theorem exec_memUnmap_none (hbusy : s.memMessageBusy p = false) (h : Turn s p opMemUnmap r)
    (hw : (s.plot p).windows.find (fieldAt r.payload 0 2) = none) : exec (.memUnmap p) s = .next (s.refuse p r stNotPermitted) := by
  simp [exec_memUnmap_eq, execMemUnmap, hbusy, State.serve_turn h, hw]

theorem exec_memUnmap_busy (hbusy : s.memMessageBusy p = false) (h : Turn s p opMemUnmap r)
    (hw : (s.plot p).windows.find (fieldAt r.payload 0 2) = some run) (hb : (s.plot p).windowBusy run = true) :
    exec (.memUnmap p) s = .next (s.refuse p r stWindowBusy) := by
  simp [exec_memUnmap_eq, execMemUnmap, hbusy, State.serve_turn h, hw, hb]

/-- The plot without a window of it. -/
def State.withoutWindow (s : State) (p w : Nat) : State := s.updPlot p (fun q => { q with windows := q.windows.erase w })

/-- A request that waits for the writes of a window's run. -/
def State.awaitWrites (s : State) (p : Nat) (r : Req) (run : Run) : State :=
  s.updMail p (fun m => { m with held := m.held.map (fun h =>
    if h.slot = r.slot then { h with phase := .started, waits := [(run.tier, run.first), (run.count, 0)] } else h) })

theorem exec_memUnmap_waits (hbusy : s.memMessageBusy p = false) (h : Turn s p opMemUnmap r)
    (hw : (s.plot p).windows.find (fieldAt r.payload 0 2) = some run) (hb : (s.plot p).windowBusy run = false)
    (hheld : s.mem.holdsWrites p run = true) :
    exec (.memUnmap p) s = .next ((s.withoutWindow p (fieldAt r.payload 0 2)).awaitWrites p r run) := by
  simp [exec_memUnmap_eq, execMemUnmap, hbusy, State.serve_turn h, hw, hb, hheld, State.withoutWindow, State.awaitWrites]

theorem exec_memUnmap_frees (hbusy : s.memMessageBusy p = false) (h : Turn s p opMemUnmap r)
    (hw : (s.plot p).windows.find (fieldAt r.payload 0 2) = some run) (hb : (s.plot p).windowBusy run = false)
    (hheld : s.mem.holdsWrites p run = false) :
    exec (.memUnmap p) s = .next ((s.withoutWindow p (fieldAt r.payload 0 2)).finishUnmap p r run) := by
  simp [exec_memUnmap_eq, execMemUnmap, hbusy, State.serve_turn h, hw, hb, hheld, State.withoutWindow]

theorem State.plot_withoutWindow (s : State) (p w : Nat) :
    (s.withoutWindow p w).plot p = { s.plot p with windows := (s.plot p).windows.erase w } := s.plot_updPlot_self p _

theorem State.plot_awaitWrites (s : State) (p : Nat) (r : Req) (run : Run) : (s.awaitWrites p r run).plot p =
    { s.plot p with mail := { (s.plot p).mail with held := (s.plot p).mail.held.map (fun h =>
      if h.slot = r.slot then { h with phase := .started, waits := [(run.tier, run.first), (run.count, 0)] } else h) } } :=
  s.plot_updMail_self p _

theorem State.unmapWaits_spec (s : State) (p w : Nat) (r : Req) (run : Run) : s.otherPlots ((s.withoutWindow p w).awaitWrites p r run) p ∧
    s.keepsBut ((s.withoutWindow p w).awaitWrites p r run) [.plots] :=
  ⟨(s.otherPlots_updPlot p _).trans ((s.withoutWindow p w).otherPlots_updPlot p _),
    (s.keepsBut_updPlot p _).trans ((s.withoutWindow p w).keepsBut_updPlot p _)⟩

/-- A run whose writes have landed is handed to zeroing, and the message is answered. -/
theorem State.finishUnmap_spec (hopen : s.isOpen p = true) (w : Nat) (r : Req) (run : Run) :
    ((s.withoutWindow p w).finishUnmap p r run).plot p =
      ({ s.plot p with windows := (s.plot p).windows.erase w }).answeredOk r (List.replicate 8 0) ∧
    ((s.withoutWindow p w).finishUnmap p r run).mem = s.mem.release p false [run] ∧
    s.otherPlots ((s.withoutWindow p w).finishUnmap p r run) p ∧ s.keepsBut ((s.withoutWindow p w).finishUnmap p r run) [.mem, .plots] := by
  have hplot : ((s.withoutWindow p w).updMem (fun m => m.release p false [run])).plot p =
      { s.plot p with windows := (s.plot p).windows.erase w } := s.plot_withoutWindow p w
  have hok := State.ok_spec (s := s) (u := (s.withoutWindow p w).updMem (fun m => m.release p false [run])) (p := p) r (List.replicate 8 0)
    (by simpa [State.isOpen, hplot] using hopen) ((s.otherPlots_updPlot p _).trans (State.otherPlots_updMem _ _ p))
    (((s.keepsBut_updPlot p _).mono (by simp)).trans (((s.withoutWindow p w).keepsBut_updMem _).mono (by simp)))
  rw [hplot] at hok
  exact hok

/-! ### MEM_SCRUB -/

/-- The granules of a run that a MEM_SCRUB names. -/
def scrubRun (run : Run) (r : Req) : Run := { tier := run.tier, first := run.first + fieldAt r.payload 4 4, count := fieldAt r.payload 8 4 }

/-- A run of zeroed granules, charged to its plot. -/
def State.scrubbed (s : State) (p : Nat) (z : Run) : State := (s.updMem (fun m => m.zeroRun z)).chargeWrite p z.base z.bytes

theorem exec_memScrub_none (hbusy : s.memMessageBusy p = false) (h : Turn s p opMemScrub r)
    (hw : (s.plot p).windows.find (fieldAt r.payload 0 2) = none) : exec (.memScrub p) s = .next (s.refuse p r stNotPermitted) := by
  simp [exec_memScrub_eq, execMemScrub, hbusy, State.serve_turn h, hw]

theorem exec_memScrub_outside (hbusy : s.memMessageBusy p = false) (h : Turn s p opMemScrub r)
    (hw : (s.plot p).windows.find (fieldAt r.payload 0 2) = some run) (hn : run.count < fieldAt r.payload 4 4 + fieldAt r.payload 8 4) :
    exec (.memScrub p) s = .next (s.refuse p r stNotPermitted) := by
  simp [exec_memScrub_eq, execMemScrub, hbusy, State.serve_turn h, hw, hn]

theorem exec_memScrub_stopped (hbusy : s.memMessageBusy p = false) (h : Turn s p opMemScrub r)
    (hw : (s.plot p).windows.find (fieldAt r.payload 0 2) = some run) (hn : fieldAt r.payload 4 4 + fieldAt r.payload 8 4 ≤ run.count)
    (hstop : s.mem.stopped (scrubRun run r).base (scrubRun run r).bytes = true) : exec (.memScrub p) s = .next s := by
  simp only [scrubRun] at hstop
  simp [exec_memScrub_eq, execMemScrub, hbusy, State.serve_turn h, hw, Nat.not_lt.2 hn, hstop]

theorem exec_memScrub_zeroes (hbusy : s.memMessageBusy p = false) (h : Turn s p opMemScrub r)
    (hw : (s.plot p).windows.find (fieldAt r.payload 0 2) = some run) (hn : fieldAt r.payload 4 4 + fieldAt r.payload 8 4 ≤ run.count)
    (hstop : s.mem.stopped (scrubRun run r).base (scrubRun run r).bytes = false) :
    exec (.memScrub p) s = .next ((s.scrubbed p (scrubRun run r)).ok p r (List.replicate 8 0)) := by
  simp only [scrubRun] at hstop
  simp [exec_memScrub_eq, execMemScrub, hbusy, State.serve_turn h, hw, Nat.not_lt.2 hn, hstop, State.scrubbed, scrubRun]

theorem scrubRun_base (run : Run) (r : Req) : (scrubRun run r).base = run.base + fieldAt r.payload 4 4 * granuleBytes := by
  simp only [scrubRun, Run.base]
  rw [Nat.add_mul, Nat.add_assoc]

theorem scrubRun_bytes (run : Run) (r : Req) : (scrubRun run r).bytes = fieldAt r.payload 8 4 * granuleBytes := rfl

theorem State.scrubbed_spec (hopen : s.isOpen p = true) (z : Run) : (s.scrubbed p z).isOpen p = true ∧
    ((s.scrubbed p z).plot p).mail = (s.plot p).mail ∧ ((s.scrubbed p z).plot p).windows = (s.plot p).windows ∧
    (s.scrubbed p z).mem = s.mem.zeroRun z ∧ s.otherPlots (s.scrubbed p z) p ∧ s.keepsBut (s.scrubbed p z) [.mem, .plots] := by
  refine ⟨?_, ?_, ?_, rfl, (s.otherPlots_updMem _ p).trans ((s.updMem _).otherPlots_updPlot p _), ?_⟩
  · simpa [State.isOpen, State.scrubbed, State.chargeWrite] using hopen
  · simp [State.scrubbed, State.chargeWrite]
  · simp [State.scrubbed, State.chargeWrite]
  exact ((s.keepsBut_updMem _).mono (by simp)).trans (((s.updMem _).keepsBut_updPlot p _).mono (by simp))

end Messages

/-! ### O13 -/

/-- Settles O13, message by message. -/
theorem memoryWindowMessages : Obligations.MemoryWindowMessages := by
  refine ⟨?map, ?unmap, ?waits, ?scrub, ?stopped⟩
  case map =>
    intro s p w r run hbusy h hplace
    obtain ⟨hopen, hplot, hother, hkeeps⟩ := State.mapWindow_spec (run := run) h.1 w
    have hok := State.ok_spec r (natLE 8 run.base ++ natLE 4 run.count ++ natLE 2 w) hopen hother hkeeps
    rw [hplot] at hok
    exact ⟨_, exec_memMap_ok hbusy h hplace, hok⟩
  case unmap =>
    intro s p r run hbusy h hw hb hheld
    exact ⟨_, exec_memUnmap_frees hbusy h hw hb hheld, State.finishUnmap_spec h.1 _ r run⟩
  case waits =>
    intro s p r run hbusy h hw hb hheld
    refine ⟨_, exec_memUnmap_waits hbusy h hw hb hheld, ?_, ?_, ?_, s.unmapWaits_spec p _ r run⟩
    · simp [State.plot_awaitWrites, State.plot_withoutWindow]
    · simp [State.plot_awaitWrites, State.plot_withoutWindow]
    · intro x hx hslot
      rw [State.plot_awaitWrites] at hx
      obtain ⟨y, -, rfl⟩ := List.mem_map.1 hx
      split at hslot <;> simp_all
  case scrub =>
    intro s p r run hbusy h hw hn hstop
    rw [← scrubRun_base, ← scrubRun_bytes run] at hstop
    obtain ⟨hopen, hmail, hwin, hmem, hother, hkeeps⟩ := State.scrubbed_spec h.1 (scrubRun run r)
    obtain ⟨hplot, hmem', hother', hkeeps'⟩ := State.ok_spec r (List.replicate 8 0) hopen hother hkeeps
    rw [hmem, Mem.zeroRun] at hmem'
    refine ⟨_, exec_memScrub_zeroes hbusy h hw hn hstop, fun a ha ha' => ?_, fun b hb => ?_, ?_, ?_, hother', hkeeps'⟩
    · rw [hmem']
      refine Mem.read_zero_inside _ _ _ _ (by rwa [scrubRun_base]) ?_
      rw [scrubRun_base, scrubRun_bytes, Nat.add_assoc, ← Nat.add_mul]
      exact ha'
    · rw [hmem']
      refine Mem.read_zero_outside _ _ _ _ ?_
      rwa [scrubRun_base, scrubRun_bytes]
    · rw [hplot, ← hmail]
      rfl
    · rw [hplot, ← hwin]
      rfl
  case stopped =>
    intro s p r run hbusy h hw hn hstop
    rw [← scrubRun_base, ← scrubRun_bytes run] at hstop
    exact exec_memScrub_stopped hbusy h hw hn hstop

/-! ### O14 -/

/-- What a memory message leaves: no answer yet, ST_OK, or a refusal that changes nothing else (Table MEM-6, R165). -/
def MemAnswer (s t : State) (p : Nat) (r : Req) : Prop :=
  s.otherPlots t p ∧ s.keepsBut t [.mem, .plots] ∧
    ((t.plot p).mail.backlog = (s.plot p).mail.backlog ∨
     ∃ body, (t.plot p).mail = (s.plot p).mail.answered r 0 0 0 body ∨
      ∃ st ∈ [stNotPermitted, stNoMemory, stWindowBusy], t.plot p = (s.plot p).answered r st 0 0 [] ∧ t.mem = s.mem)

section Answers

variable {s : State} {p : Nat} {r : Req}

theorem MemAnswer.of_refuse {st : Nat} (hopen : s.isOpen p = true) (hst : st ∈ [stNotPermitted, stNoMemory, stWindowBusy]) :
    MemAnswer s (s.refuse p r st) p r := by
  obtain ⟨hplot, hother, hkeeps⟩ := State.refuse_spec (s := s) (p := p) r st hopen
  exact ⟨hother, hkeeps.mono (by simp), .inr ⟨[], .inr ⟨st, hst, hplot, s.completeWith_mem p r st 0 0 []⟩⟩⟩

theorem MemAnswer.of_ok {t : State} {body : Bytes} (hother : s.otherPlots t p) (hkeeps : s.keepsBut t [.mem, .plots])
    (hmail : (t.plot p).mail = (s.plot p).mail.answered r 0 0 0 body) : MemAnswer s t p r := ⟨hother, hkeeps, .inr ⟨body, .inl hmail⟩⟩

theorem memMap_answer (hbusy : s.memMessageBusy p = false) (h : Turn s p opMemMap r) :
    ∃ t, exec (.memMap p) s = .next t ∧ MemAnswer s t p r := by
  cases hplace : s.placeWindow p (fieldAt r.payload 0 1) (fieldAt r.payload 4 4) (fieldAt r.payload 8 8) with
  | error st =>
    refine ⟨_, exec_memMap_error hbusy h hplace, .of_refuse h.1 ?_⟩
    obtain rfl | rfl := State.placeWindow_error hplace <;> simp
  | ok x =>
    obtain ⟨hopen, hplot, hother, hkeeps⟩ := State.mapWindow_spec (run := x.2) h.1 x.1
    obtain ⟨hok, -, hother', hkeeps'⟩ := State.ok_spec r (natLE 8 x.2.base ++ natLE 4 x.2.count ++ natLE 2 x.1) hopen hother hkeeps
    exact ⟨_, exec_memMap_ok hbusy h hplace, .of_ok hother' hkeeps' (by rw [hok, hplot]; rfl)⟩

theorem memUnmap_answer (hbusy : s.memMessageBusy p = false) (h : Turn s p opMemUnmap r) :
    ∃ t, exec (.memUnmap p) s = .next t ∧ MemAnswer s t p r := by
  cases hw : (s.plot p).windows.find (fieldAt r.payload 0 2) with
  | none => exact ⟨_, exec_memUnmap_none hbusy h hw, .of_refuse h.1 (by simp)⟩
  | some run =>
    cases hb : (s.plot p).windowBusy run with
    | true => exact ⟨_, exec_memUnmap_busy hbusy h hw hb, .of_refuse h.1 (by simp)⟩
    | false =>
      cases hheld : s.mem.holdsWrites p run with
      | true =>
        obtain ⟨hother, hkeeps⟩ := s.unmapWaits_spec p (fieldAt r.payload 0 2) r run
        refine ⟨_, exec_memUnmap_waits hbusy h hw hb hheld, hother, hkeeps.mono (by simp), .inl ?_⟩
        simp [State.plot_awaitWrites, State.plot_withoutWindow]
      | false =>
        obtain ⟨hplot, -, hother, hkeeps⟩ := State.finishUnmap_spec h.1 (fieldAt r.payload 0 2) r run
        exact ⟨_, exec_memUnmap_frees hbusy h hw hb hheld, .of_ok hother hkeeps (by rw [hplot]; rfl)⟩

theorem memScrub_answer (hbusy : s.memMessageBusy p = false) (h : Turn s p opMemScrub r) :
    ∃ t, exec (.memScrub p) s = .next t ∧ MemAnswer s t p r := by
  cases hw : (s.plot p).windows.find (fieldAt r.payload 0 2) with
  | none => exact ⟨_, exec_memScrub_none hbusy h hw, .of_refuse h.1 (by simp)⟩
  | some run =>
    rcases Nat.lt_or_ge run.count (fieldAt r.payload 4 4 + fieldAt r.payload 8 4) with hn | hn
    · exact ⟨_, exec_memScrub_outside hbusy h hw hn, .of_refuse h.1 (by simp)⟩
    · cases hstop : s.mem.stopped (scrubRun run r).base (scrubRun run r).bytes with
      | true => exact ⟨s, exec_memScrub_stopped hbusy h hw hn hstop, fun _ _ => rfl, .refl s _, .inl rfl⟩
      | false =>
        obtain ⟨hopen, hmail, -, -, hother, hkeeps⟩ := State.scrubbed_spec h.1 (scrubRun run r)
        obtain ⟨hplot, -, hother', hkeeps'⟩ := State.ok_spec r (List.replicate 8 0) hopen hother hkeeps
        exact ⟨_, exec_memScrub_zeroes hbusy h hw hn hstop, .of_ok hother' hkeeps' (by rw [hplot, ← hmail]; rfl)⟩

end Answers

/-- Settles O14. -/
theorem refusedMemoryMessages : Obligations.RefusedMemoryMessages := by
  refine ⟨⟨rfl, rfl⟩, ?answers, ?shape, ?unknown, ?busy⟩
  case answers =>
    intro s p op c r hc hbusy h
    simp only [List.mem_cons, Prod.mk.injEq, List.not_mem_nil, or_false] at hc
    obtain ⟨rfl, rfl⟩ | ⟨rfl, rfl⟩ | ⟨rfl, rfl⟩ := hc
    · exact memMap_answer hbusy h
    · exact memUnmap_answer hbusy h
    · exact memScrub_answer hbusy h
  case shape =>
    intro s p r hbusy h hshape
    exact ⟨_, exec_memMap_error hbusy h (State.placeWindow_shape hshape), State.refuse_spec r _ h.1⟩
  case unknown =>
    intro s p op c r hc hbusy h hw
    simp only [List.mem_cons, Prod.mk.injEq, List.not_mem_nil, or_false] at hc
    obtain ⟨rfl, rfl⟩ | ⟨rfl, rfl⟩ := hc
    · exact ⟨_, exec_memUnmap_none hbusy h hw, State.refuse_spec r _ h.1⟩
    · exact ⟨_, exec_memScrub_none hbusy h hw, State.refuse_spec r _ h.1⟩
  case busy =>
    intro s p r run hbusy h hw hb
    exact ⟨_, exec_memUnmap_busy hbusy h hw hb, State.refuse_spec r _ h.1⟩

end Sys2Proof.Machine

/-! What an agent's access does (O4): REGISTER_WRITE and ADDRESS_FAULT. -/

namespace Sys2Proof.Machine

/-! ### The arms of the two commands -/

theorem exec_registerWrite_eq (agent : Agent) (addr : Nat) (data : Bytes) (s : State) :
    exec (.registerWrite agent addr data) s = execRegisterWrite agent addr data s := rfl

theorem exec_addressFault_eq (agent : Agent) (addr : Nat) (write hostDma : Bool) (s : State) :
    exec (.addressFault agent addr write hostDma) s = execAddressFault agent addr write hostDma s := rfl

/-! ### Posted writes (R159, R160) -/

/-- Every agent reads a posted write, whether it has landed or waits at a stopped controller. -/
theorem Mem.read_post_inside {m : Mem} (hw : m.wf = true) (plot a : Nat) {bs : Bytes} {i : Nat} (hi : i < bs.length) :
    (m.post plot a bs).read (a + i) = bs.getD i 0 := by
  unfold Mem.post
  split
  · exact Mem.read_enqueue_inside (carries_lineWrites plot a bs false) hi
  · exact m.read_write_inside a i bs hw hi

theorem Mem.read_post_outside (m : Mem) (plot a : Nat) (bs : Bytes) {b : Nat} (hb : b < a ∨ a + bs.length ≤ b) :
    (m.post plot a bs).read b = m.read b := by
  unfold Mem.post
  split
  · exact Mem.read_enqueue_outside (carries_lineWrites plot a bs false) hb
  · exact m.read_write_outside a b bs hb

/-! ### Windows and mailbox areas (R153, R361) -/

/-- Bytes that lie in windows begin in one. -/
theorem State.inWindows_first {s : State} {p a n : Nat} (hn : 0 < n) (h : s.inWindows p a n = true) : s.inWindows p a 1 = true := by
  obtain ⟨k, rfl⟩ := Nat.exists_eq_add_one_of_ne_zero hn.ne'
  simp only [State.inWindows, coveredBy] at h
  rw [State.inWindows]
  split at h
  · cases h
  · next e he =>
    obtain ⟨r, hr, rfl⟩ := Option.map_eq_some_iff.1 he
    have hin := List.find?_some hr
    simp only [Bool.and_eq_true, decide_eq_true_eq] at hin
    unfold coveredBy
    simp [he, show a + 1 ≤ r.base + r.bytes by omega]

theorem inMailbox_of_lt {p off : Nat} (h : off < 0x10000) : inMailbox p (mailboxBase p + off) = true := by
  simp only [inMailbox, Bool.and_eq_true, decide_eq_true_eq]
  omega

theorem firstBad_first {reaches : Nat → Bool} {addr n : Nat} (hn : 0 < n) (h : reaches addr = false) : firstBad reaches addr n = addr := by
  obtain ⟨k, rfl⟩ := Nat.exists_eq_add_one_of_ne_zero hn.ne'
  simp [firstBad, List.range_succ_eq_map, h]

/-! ### An agent's write of device memory -/

/-- A write that a plot's agent has posted, charged to the plot. -/
def State.agentWrite (s : State) (p addr : Nat) (data : Bytes) : State :=
  ((s.updMem (fun m => m.post p addr data)).chargeWrite p addr data.length).chargeHost p data.length

theorem State.agentWrite_mem (s : State) (p addr : Nat) (data : Bytes) : (s.agentWrite p addr data).mem = s.mem.post p addr data := by
  simp [State.agentWrite]

theorem State.plot_agentWrite (s : State) (p addr : Nat) (data : Bytes) :
    ((s.agentWrite p addr data).plot p).mail = (s.plot p).mail ∧ ((s.agentWrite p addr data).plot p).windows = (s.plot p).windows ∧
    ((s.agentWrite p addr data).plot p).account.hostBytes = if (s.plot p).cfg.driver = 0 then (s.plot p).account.hostBytes
      else (s.plot p).account.hostBytes + BitVec.ofNat 64 data.length := by
  simp only [State.agentWrite, State.chargeWrite, State.chargeHost, State.plot_charge_self, State.plot_updMem]
  split <;> simp [apply_ite Account.hostBytes]

theorem State.agentWrite_within (s : State) (p addr : Nat) (data : Bytes) :
    s.within (s.agentWrite p addr data) p 0 [.mem, .plots] := by
  have hwrite : s.within ((s.updMem (fun m => m.post p addr data)).chargeWrite p addr data.length) p 0 [.mem, .plots] :=
    ((s.within_updMem p 0 _).mono (by simp)).trans ((State.within_charge _ p 0 _).mono (by simp))
  simp only [State.agentWrite, State.chargeHost]
  split
  · exact hwrite
  · exact hwrite.trans ((State.within_charge _ p 0 _).mono (by simp))

section Agents

variable {s : State} {p addr : Nat} {data : Bytes}

theorem exec_registerWrite_window (hdata : data ≠ []) (hmail : inMailbox p addr = false) (hwin : s.inWindows p addr data.length = true)
    (hrun : (s.plot p).cfg.driver = 2 → s.confidentialRun p = true) :
    exec (.registerWrite (.plot p) addr data) s = .next (s.agentWrite p addr data) := by
  have hlen : data.length ≠ 0 := by simpa using hdata
  have hclosed : ¬((s.plot p).cfg.driver = 2 ∧ s.confidentialRun p = false) := fun h => by simp [hrun h.1] at h
  simp [exec_registerWrite_eq, execRegisterWrite, hlen, hmail, hwin, hclosed, State.agentWrite]

/-! ### A write of mailbox slots (R363) -/

theorem touches_above {word off : Nat} (h : off + data.length ≤ word) : touches word off data = false := by
  simp only [touches, Bool.and_eq_false_iff, decide_eq_false_iff_not]
  omega

theorem Mailbox.writeVectors_below (m : Mailbox) {off : Nat} (h : off + data.length ≤ 0x8100) : m.writeVectors off data = m := by
  refine List.foldlRecOn (motive := fun x => x = m) _ _ rfl fun x hx v _ => ?_
  have haddr : touches (0x8100 + 0x10 * v) off data = false := touches_above (by omega)
  have hdata : touches (0x8100 + 0x10 * v + 8) off data = false := touches_above (by omega)
  simp [hx, haddr, hdata]

theorem State.writeArea_slots {off : Nat} (hopen : (s.plot p).state ≠ 0) (hin : off + data.length ≤ 0x8000) :
    s.writeArea p off data = s.updMail p (fun m => { m with slots := cellPutAll m.slots off data }) := by
  have htake : data.take (0x8000 - off) = data := List.take_of_length_le (by omega)
  simp only [State.writeArea, hopen, if_false, touches_above hin, touches_above (show off + data.length ≤ 0x8018 by omega),
    Bool.false_eq_true, htake]
  congr 1
  funext m
  rw [m.writeVectors_below (by omega)]

theorem exec_registerWrite_slots {off : Nat} (hopen : (s.plot p).state ≠ 0) (hdata : data ≠ []) (hin : off + data.length ≤ 0x8000) :
    exec (.registerWrite (.plot p) (mailboxBase p + off) data) s =
      .next (s.updMail p (fun m => { m with slots := cellPutAll m.slots off data })) := by
  have hlen : data.length ≠ 0 := by simpa using hdata
  have hlast : mailboxBase p + off + data.length - 1 = mailboxBase p + (off + data.length - 1) := by omega
  have hoff : mailboxBase p + off - mailboxBase p = off := by omega
  simp [exec_registerWrite_eq, execRegisterWrite, hlen, hlast, inMailbox_of_lt (show off < 0x10000 by omega),
    inMailbox_of_lt (show off + data.length - 1 < 0x10000 by omega), hoff, State.writeArea_slots hopen hin]

/-! ### Dropped accesses (R157, Table ERR-2) -/

theorem exec_registerWrite_outside (hdata : data ≠ []) (hwin : s.inWindows p addr 1 = false) (hmail : inMailbox p addr = false) :
    exec (.registerWrite (.plot p) addr data) s = exec (.addressFault (.plot p) addr true false) s := by
  have hlen : 0 < data.length := List.length_pos_iff.2 hdata
  have hall : s.inWindows p addr data.length = false :=
    Bool.eq_false_iff.2 fun h => by simp [State.inWindows_first hlen h] at hwin
  have hfirst : firstBad (fun a => s.inWindows p a 1 || inMailbox p a) addr data.length = addr :=
    firstBad_first hlen (by simp [hwin, hmail])
  simp [exec_registerWrite_eq, exec_addressFault_eq, execRegisterWrite, hlen.ne', hall, hmail, hfirst]

theorem exec_registerWrite_locked (hdriver : (s.plot p).cfg.driver = 2) (hrun : s.confidentialRun p = false) (hmail : inMailbox p addr = false)
    (hwin : s.inWindows p addr data.length = true) : exec (.registerWrite (.plot p) addr data) s = .next s := by
  simp [exec_registerWrite_eq, execRegisterWrite, hdriver, hrun, hmail, hwin]

theorem exec_registerWrite_plain (hrun : s.confidentialRun p = true) : exec (.registerWrite (.hostPlain p) addr data) s = .next s := by
  simp [exec_registerWrite_eq, execRegisterWrite, hrun]

end Agents

/-! ### An error's record in management's log -/

@[simp] theorem State.unsolicited_mgmt (s : State) (p source : Nat) (body : Bytes) : (s.unsolicited p source body).mgmt = s.mgmt := by
  unfold State.unsolicited
  split
  · exact s.post_mgmt p _
  · split <;> rfl

@[simp] theorem State.unsolicited_sent (s : State) (p source : Nat) (body : Bytes) : (s.unsolicited p source body).sent = s.sent := by
  unfold State.unsolicited
  split
  · exact s.post_sent p _
  · split <;> rfl

/-- Of management and of what is sent, a plot's error changes what its entry in the log does. -/
theorem State.raise_logs (s : State) (p : Nat) (e : ErrRec) :
    (s.raise p e).mgmt = (s.logError p e).mgmt ∧ (s.raise p e).sent = (s.logError p e).sent := by
  obtain ⟨body, h⟩ | ⟨plan, u, hu, h⟩ := s.raise_eq p e
  · rw [h, State.unsolicited_mgmt, State.unsolicited_sent]
    exact ⟨rfl, rfl⟩
  · have hm : u.mgmt = (s.logError p e).mgmt := by rw [hu, State.updPlot_mgmt]
    have hs : u.sent = (s.logError p e).sent := by rw [hu, State.updPlot_sent]
    obtain h | ⟨f, h⟩ | ⟨body, h⟩ := h <;> rw [h]
    · exact ⟨hm, hs⟩
    · rw [State.updMail_mgmt, State.updMail_sent]
      exact ⟨hm, hs⟩
    · rw [State.unsolicited_mgmt, State.unsolicited_sent]
      exact ⟨hm, hs⟩

theorem State.logError_last (s : State) (p : Nat) (e : ErrRec) : (s.logError p e).mgmt.errorLog.getLast? = some (e, p) := by
  simp [State.logError, List.getLast?_drop]

theorem State.sent_subset_logError (s : State) (p : Nat) (e : ErrRec) : s.sent ⊆ (s.logError p e).sent := by
  unfold State.logError State.notify
  split
  · exact List.Subset.refl _
  · exact List.subset_append_left _ _

theorem State.keepsBut_emit (s : State) (o : Sent) : s.keepsBut (s.emit o) [.sent] := by
  intro x hx
  cases x <;> simp_all [State.agree]

/-- An access outside the plot's windows: a flag of the memory and an error without an address. -/
theorem State.addressFault_spec {s : State} {p addr : Nat} (h : s.inWindows p addr 1 = false) :
    (s.addressFault p addr).mem = { s.mem with err := s.mem.err ||| 8 } ∧
    (s.addressFault p addr).mgmt.errorLog.getLast? = some ({ s.errOf 5 3 3 0xFFFF (s.plot p).eventStep with address := 0 }, p) ∧
    s.sent ⊆ (s.addressFault p addr).sent ∧
    s.otherPlots (s.addressFault p addr) p ∧ s.keepsBut (s.addressFault p addr) [.mem, .plots, .bothy, .mgmt, .sent] := by
  have hshown : (s.updMem (fun m => { m with err := m.err ||| 8 })).shownAddress p addr = 0 := by
    have hwin : (s.updMem (fun m => { m with err := m.err ||| 8 })).inWindows p addr 1 = false := h
    rw [State.shownAddress, hwin]
    rfl
  simp only [State.addressFault, hshown]
  generalize hu : s.updMem (fun m => { m with err := m.err ||| 8 }) = u
  generalize he : ({ u.errOf 5 3 3 0xFFFF (u.plot p).eventStep with address := 0 } : ErrRec) = e
  obtain ⟨hmgmt, hsent⟩ := u.raise_logs p e
  have htells := u.tells_raise p e
  refine ⟨by rw [htells.mem, ← hu]; rfl, ?_, ?_, ?_, ?_⟩
  · rw [hmgmt, u.logError_last, ← he, ← hu]
    rfl
  · rw [hsent]
    exact fun x hx => u.sent_subset_logError p e (by rw [← hu]; exact hx)
  · exact fun q hq => ((u.keepsSems_raise p e).1 q hq).trans (by rw [← hu]; rfl)
  · exact State.keepsBut.trans (by rw [← hu]; exact (s.keepsBut_updMem _).mono (by simp)) (htells.1.mono (by simp))

/-! ### O4 -/

/-- Settles O4, clause by clause. -/
theorem agentAccesses : Obligations.AgentAccesses := by
  refine ⟨?window, ?slots, ?fault, ?outside, ?locked, ?plain⟩
  case window =>
    intro s p addr data hwf hdata hmail hwin hrun
    obtain ⟨hmails, hwindows, hhost⟩ := s.plot_agentWrite p addr data
    obtain ⟨hother, -, hkeeps⟩ := s.agentWrite_within p addr data
    refine ⟨_, exec_registerWrite_window hdata hmail hwin hrun, fun i hi => ?_, fun b hb => ?_, hmails, hwindows, hhost, hother, hkeeps⟩
    · rw [s.agentWrite_mem]
      exact Mem.read_post_inside hwf p addr hi
    · rw [s.agentWrite_mem]
      exact s.mem.read_post_outside p addr data hb
  case slots =>
    intro s p off data hopen hdata hin
    exact ⟨_, exec_registerWrite_slots hopen hdata hin, s.plot_updMail_self p _, s.otherPlots_updPlot p _, s.keepsBut_updPlot p _⟩
  case fault =>
    intro s p addr write hostDma hwin hmail
    obtain ⟨u, hu⟩ : ∃ u, u = if hostDma && !write then s.emit (.hostUr addr) else s := ⟨_, rfl⟩
    have hkeep : s.keepsBut u [.sent] := by
      rw [hu]
      split
      · exact s.keepsBut_emit _
      · exact .refl s _
    have hwin' : u.inWindows p addr 1 = false := by
      rw [hu]
      split <;> exact hwin
    obtain ⟨hmem, hlog, hsent, hother, hkeeps⟩ := State.addressFault_spec hwin'
    have hexec : exec (.addressFault (.plot p) addr write hostDma) s = .next (u.addressFault p addr) := by
      rw [hu]
      simp [exec_addressFault_eq, execAddressFault, hwin, hmail]
    refine ⟨_, hexec, ?_, ?_, fun hdma hread => hsent ?_, ?_, (hkeep.mono (by simp)).trans hkeeps⟩
    · rw [hmem, hkeep .mem (by decide)]
    · rw [hlog, hu]
      split <;> rfl
    · simp [hu, hdma, hread]
    · refine State.otherPlots.trans (fun q _ => ?_) hother
      have hplots : u.plots = s.plots := hkeep .plots (by decide)
      rw [State.plot, hplots, State.plot]
  case outside => exact fun s p addr data hdata hwin hmail => exec_registerWrite_outside hdata hwin hmail
  case locked => exact fun s p addr data hdriver hrun hmail hwin => exec_registerWrite_locked hdriver hrun hmail hwin
  case plain =>
    intro s p addr data hrun
    exact ⟨exec_registerWrite_plain hrun, by simp [exec_addressFault_eq, execAddressFault, hrun],
      by simp [exec_addressFault_eq, execAddressFault, hrun]⟩

end Sys2Proof.Machine

/-! Traffic of device memory (O7): queued writes, moves between tiers, spills and patrol scrub. -/

namespace Sys2Proof.Machine

/-! ### Cells put over cells -/

theorem cellGet_eq_zero {m : List Host.Cell} {b : Nat} (h : ∀ c ∈ m, c.1 ≠ b) : cellGet m b = 0 := by
  induction m with
  | nil => rfl
  | cons c m ih =>
    rw [cellGet, if_neg (Ne.symm (h c List.mem_cons_self))]
    exact ih fun d hd => h d (List.mem_cons_of_mem c hd)

/-- Canonical cells put over others give their own values, and leave the others'. -/
theorem cellGet_cellPutCells {cs z : List Host.Cell} (hcs : cellsWf cs = true) (hz : cellsWf z = true) (b : Nat) :
    cellGet (cellPutCells z cs) b = if cellGet cs b = 0 then cellGet z b else cellGet cs b := by
  induction cs generalizing z with
  | nil => simp [cellPutCells, cellGet]
  | cons c cs ih =>
    obtain ⟨hrise, hne⟩ := (cellsWf_iff (c :: cs)).1 hcs
    obtain ⟨hlt, hrise'⟩ := List.pairwise_cons.1 hrise
    have hcs' : cellsWf cs = true := (cellsWf_iff cs).2 ⟨hrise', fun d hd => hne d (List.mem_cons_of_mem c hd)⟩
    rw [cellPutCells, ih hcs' (cellPut_wf z c.1 c.2 hz), cellGet]
    by_cases hb : b = c.1
    · have habsent : cellGet cs b = 0 := cellGet_eq_zero fun d hd => by
        have hafter : c.1 < d.1 := hlt d.1 (List.mem_map_of_mem hd)
        omega
      rw [if_pos habsent, if_pos hb, if_neg (hne c List.mem_cons_self), hb, cellGet_cellPut_self z c.1 c.2 hz]
    · simp [hb, cellGet_cellPut_ne z c.1 b c.2 hb]

theorem cellGet_filter {f : Host.Cell → Bool} {b : Nat} (m : List Host.Cell) (h : ∀ v, f (b, v) = true) :
    cellGet (m.filter f) b = cellGet m b := by
  induction m with
  | nil => rfl
  | cons c m ih =>
    obtain ⟨k, v⟩ := c
    by_cases hk : b = k
    · subst hk
      simp [h v, cellGet]
    · rw [List.filter_cons]
      split <;> simp [cellGet, hk, ih]

/-! ### A copied range (R168) -/

/-- Cells moved from one address to another. -/
def cellsMoved (src dst : Nat) (cs : List Host.Cell) : List Host.Cell := cs.map (fun c => (c.1 - src + dst, c.2))

theorem cellGet_cellsMoved {src dst : Nat} {cs : List Host.Cell} (h : ∀ c ∈ cs, src ≤ c.1) (i : Nat) :
    cellGet (cellsMoved src dst cs) (dst + i) = cellGet cs (src + i) := by
  induction cs with
  | nil => rfl
  | cons c cs ih =>
    have hc := h c List.mem_cons_self
    have hat : dst + i = c.1 - src + dst ↔ src + i = c.1 := by omega
    simp only [cellsMoved, List.map_cons, cellGet, hat]
    rw [← cellsMoved, ih fun d hd => h d (List.mem_cons_of_mem c hd)]

theorem cellsMoved_wf {src dst : Nat} {cs : List Host.Cell} (h : ∀ c ∈ cs, src ≤ c.1) (hcs : cellsWf cs = true) :
    cellsWf (cellsMoved src dst cs) = true := by
  obtain ⟨hrise, hne⟩ := (cellsWf_iff cs).1 hcs
  refine (cellsWf_iff _).2 ⟨?_, fun c hc => ?_⟩
  · rw [cellsMoved, List.map_map, List.pairwise_map]
    refine (List.pairwise_map.1 hrise).imp_of_mem fun {c d} hc hd hlt => ?_
    have hsc := h c hc
    simp only [Function.comp_apply]
    omega
  · obtain ⟨d, hd, rfl⟩ := List.mem_map.1 hc
    exact hne d hd

/-- The listed cells of a range. -/
def cellsIn (src n : Nat) (cs : List Host.Cell) : List Host.Cell := cs.filter (fun c => decide (src ≤ c.1) && decide (c.1 < src + n))

theorem mem_cellsIn {src n : Nat} {cs : List Host.Cell} {c : Host.Cell} (h : c ∈ cellsIn src n cs) : src ≤ c.1 ∧ c.1 < src + n := by
  simpa using (List.mem_filter.1 h).2

theorem cellGet_cellsIn {src n i : Nat} (cs : List Host.Cell) (hi : i < n) : cellGet (cellsIn src n cs) (src + i) = cellGet cs (src + i) :=
  cellGet_filter cs fun v => by simp [hi]

/-- Nothing waits at the controllers. -/
def Mem.quiet (m : Mem) : Prop := ∀ e ∈ m.queues, e.2 = []

section Quiet

variable {m : Mem}

theorem Mem.quiet.queue (h : m.quiet) (c : Nat) : m.queues.get [] c = [] := by
  have hget (q : NMap (List LineWrite)) (hq : ∀ e ∈ q, e.2 = []) : NMap.get [] q c = [] := by
    induction q with
    | nil => rfl
    | cons e q ih =>
      obtain ⟨k, l⟩ := e
      have hl : l = [] := hq (k, l) List.mem_cons_self
      simp only [NMap.get, hl]
      split
      · rfl
      · exact ih fun e he => hq e (List.mem_cons_of_mem _ he)
  exact hget m.queues h

theorem Mem.quiet.read (h : m.quiet) (a : Nat) : m.read a = cellGet m.bytes a := by
  simp [Mem.read, h.queue, queuedByte]

theorem Mem.quiet.settled (h : m.quiet) : m.settled = m.bytes :=
  List.foldlRecOn (motive := fun b => b = m.bytes) m.queues _ rfl fun b hb e he => by simp [h e he, hb]

theorem Mem.quiet.zero (h : m.quiet) (a n : Nat) : (m.zero a n).quiet := by
  intro e he
  obtain ⟨x, hx, rfl⟩ := List.mem_map.1 he
  simp [h x hx]

theorem Mem.queues_poisonLine (m : Mem) (l : Nat) : (m.poisonLine l).queues = m.queues := by
  unfold Mem.poisonLine
  split <;> rfl

/-- What a copy leaves in the device, while nothing waits at the controllers. -/
theorem Mem.quiet.copyRange (h : m.quiet) (src dst n : Nat) : (m.copyRange src dst n).quiet ∧
    (m.copyRange src dst n).bytes = cellPutCells (m.zero dst n).bytes (cellsMoved src dst (cellsIn src n m.bytes)) := by
  refine List.foldlRecOn (motive := fun d : Mem => d.quiet ∧
    d.bytes = cellPutCells (m.zero dst n).bytes (cellsMoved src dst (cellsIn src n m.bytes))) _ _ ⟨h.zero dst n, ?_⟩ ?_
  · rw [h.settled]
    rfl
  · rintro d ⟨hq, hb⟩ l -
    exact ⟨fun e he => hq e (by rwa [← d.queues_poisonLine l]), by rw [d.poisonLine_bytes, hb]⟩

variable (h : m.quiet) (hwf : m.wf = true)
include h hwf

theorem Mem.read_copyRange (src dst n b : Nat) : (m.copyRange src dst n).read b =
    if cellGet (cellsMoved src dst (cellsIn src n m.bytes)) b = 0 then (m.zero dst n).read b
    else cellGet (cellsMoved src dst (cellsIn src n m.bytes)) b := by
  obtain ⟨hq, hb⟩ := h.copyRange src dst n
  rw [hq.read, hb, (h.zero dst n).read]
  exact cellGet_cellPutCells (cellsMoved_wf (fun c hc => (mem_cellsIn hc).1) (cellFilter_wf m.bytes _ hwf)) (m.zero_wf dst n hwf) b

theorem Mem.read_copyRange_inside {src dst n i : Nat} (hi : i < n) : (m.copyRange src dst n).read (dst + i) = m.read (src + i) := by
  rw [Mem.read_copyRange h hwf, cellGet_cellsMoved (fun c hc => (mem_cellsIn hc).1), cellGet_cellsIn _ hi,
    m.read_zero_inside dst n _ (by omega) (by omega), h.read]
  split
  · next hzero => exact hzero.symm
  · rfl

theorem Mem.read_copyRange_outside {src dst n b : Nat} (hb : b < dst ∨ dst + n ≤ b) : (m.copyRange src dst n).read b = m.read b := by
  have habsent : cellGet (cellsMoved src dst (cellsIn src n m.bytes)) b = 0 := by
    refine cellGet_eq_zero fun c hc => ?_
    obtain ⟨d, hd, rfl⟩ := List.mem_map.1 hc
    obtain ⟨hlo, hhi⟩ := mem_cellsIn hd
    simp only
    omega
  rw [Mem.read_copyRange h hwf, if_pos habsent, m.read_zero_outside dst n b hb]

end Quiet

/-! ### A MEM_UNMAP that waits for accesses (R166) -/

/-- What a MEM_UNMAP that completes changes: the windows' books and the mailbox of its plot. -/
def State.unmaps (s t : State) (p : Nat) : Prop :=
  (t.mem = s.mem ∨ ∃ run, t.mem = s.mem.release p false [run]) ∧ (∃ m, t.plot p = { s.plot p with mail := m }) ∧
    s.otherPlots t p ∧ s.keepsBut t [.mem, .plots]

theorem State.mail_completeWith (s : State) (p : Nat) (r : Req) (st dcode detail : Nat) (body : Bytes) :
    ∃ m, (s.completeWith p r st dcode detail body).plot p = { s.plot p with mail := m } := by
  unfold State.completeWith State.post
  split <;> exact ⟨_, by simp only [State.plot_updMail_self, State.setPhase]; rfl⟩

theorem State.unmaps_finishUnmap (s : State) (p : Nat) (r : Req) (run : Run) : s.unmaps (s.finishUnmap p r run) p := by
  unfold State.finishUnmap State.ok
  refine ⟨.inr ⟨run, State.completeWith_mem _ p r 0 0 0 _⟩, State.mail_completeWith (s.updMem _) p r 0 0 0 _, ?_, ?_⟩
  · exact (s.otherPlots_updMem _ p).trans (State.otherPlots_completeWith _ p r 0 0 0 _)
  · exact ((s.keepsBut_updMem _).mono (by simp)).trans ((State.keepsBut_completeWith _ p r 0 0 0 _).mono (by simp))

theorem State.unmaps_settleUnmap (s : State) (p : Nat) : s.unmaps (s.settleUnmap p) p := by
  have hsame : s.unmaps s p := ⟨.inl rfl, ⟨_, rfl⟩, fun _ _ => rfl, .refl s _⟩
  unfold State.settleUnmap
  split
  · exact hsame
  · split
    · exact hsame
    · split
      · exact hsame
      · exact s.unmaps_finishUnmap p _ _

section Unmaps

variable {s t : State} {p : Nat} (h : s.unmaps t p)
include h

theorem State.unmaps.bytes : t.mem.bytes = s.mem.bytes := by
  obtain ⟨hm | ⟨run, hm⟩, -⟩ := h <;> rw [hm]
  rfl

theorem State.unmaps.queues : t.mem.queues = s.mem.queues := by
  obtain ⟨hm | ⟨run, hm⟩, -⟩ := h <;> rw [hm]
  rfl

theorem State.unmaps.poison : t.mem.poison = s.mem.poison := by
  obtain ⟨hm | ⟨run, hm⟩, -⟩ := h <;> rw [hm]
  rfl

theorem State.unmaps.moving : t.mem.moving = s.mem.moving := by
  obtain ⟨hm | ⟨run, hm⟩, -⟩ := h <;> rw [hm]
  rfl

theorem State.unmaps.read (a : Nat) : t.mem.read a = s.mem.read a := by
  rw [Mem.read, h.bytes, h.queues, Mem.read]

end Unmaps

end Sys2Proof.Machine

/-! The commands of memory traffic and the settlement of O7. -/

namespace Sys2Proof.Machine

/-! ### The arms of the five commands -/

theorem exec_memoryWriteRetire_eq (controller : Nat) (s : State) :
    exec (.memoryWriteRetire controller) s = execMemoryWriteRetire controller s := rfl

theorem exec_tierMove_eq (s : State) : exec .tierMove s = execTierMove s := rfl

theorem exec_moveRetire_eq (faults : List HwFault) (s : State) : exec (.moveRetire faults) s = execMoveRetire faults s := rfl

theorem exec_patrolScrub_eq (finds : List PatrolFind) (s : State) : exec (.patrolScrub finds) s = execPatrolScrub finds s := rfl

theorem exec_kvSpill_eq (plot bytes : Nat) (s : State) : exec (.kvSpill plot bytes) s = execKvSpill plot bytes s := rfl

/-! ### MEMORY_WRITE_RETIRE (R159, R172) -/

theorem Mem.mem_poisonLine {m : Mem} {k l : Nat} : l ∈ (m.poisonLine k).poison ↔ l = k ∨ l ∈ m.poison := by
  unfold Mem.poisonLine
  split
  · next h =>
    have hk : k ∈ m.poison := by simpa using h
    exact ⟨.inr, fun hl => hl.elim (fun he => he ▸ hk) id⟩
  · simp only [List.mem_append, List.mem_filter, List.mem_cons, decide_eq_true_eq]
    rcases Nat.lt_trichotomy l k with hlt | rfl | hlt
    · simp [hlt, hlt.ne, hlt.asymm]
    · simp
    · simp [hlt, hlt.ne', hlt.asymm]

theorem Mem.issue_poison (m : Mem) (w : LineWrite) : (m.issue w).bytes = cellPutCells m.bytes w.bytes ∧
    (w.poisoned = true → w.line ∈ (m.issue w).poison) ∧
    (w.poisoned = false → w.bytes.length = 64 → w.line ∉ (m.issue w).poison) ∧
    ∀ l, l ≠ w.line → (l ∈ (m.issue w).poison ↔ l ∈ m.poison) := by
  simp only [Mem.issue]
  cases hp : w.poisoned with
  | true => exact ⟨by simp, fun _ => Mem.mem_poisonLine.2 (.inl rfl), nofun, fun l hl => by simp [Mem.mem_poisonLine, hl]⟩
  | false =>
    by_cases hlen : w.bytes.length = 64
    · simp +contextual [hlen]
    · simp [hlen]

/-- The oldest write of a queue has reached the device and is charged to its plot. -/
def State.lineLanded (s : State) (c : Nat) (w : LineWrite) (ws : List LineWrite) : State :=
  (s.updMem (fun m => { (m.issue w) with queues := m.queues.set c ws })).chargeWrite w.plot (w.line * 64) w.bytes.length

theorem exec_memoryWriteRetire {s : State} {c : Nat} {w : LineWrite} {ws : List LineWrite} (hq : s.mem.queues.get [] c = w :: ws)
    (hup : s.mem.stackTripped.contains c = false) :
    exec (.memoryWriteRetire c) s = .next ((s.lineLanded c w ws).settleUnmap w.plot).pumpAll := by
  simp only [exec_memoryWriteRetire_eq, execMemoryWriteRetire, hq, hup, Bool.false_eq_true, if_false]
  rfl

theorem exec_memoryWriteRetire_tripped {s : State} {c : Nat} (hup : s.mem.stackTripped.contains c = true) :
    exec (.memoryWriteRetire c) s = .next s := by
  simp only [exec_memoryWriteRetire_eq, execMemoryWriteRetire, hup, if_true]
  split <;> rfl

theorem State.lineLanded_within (s : State) (c : Nat) (w : LineWrite) (ws : List LineWrite) :
    s.within (s.lineLanded c w ws) w.plot 0 [.mem, .plots] :=
  ((s.within_updMem w.plot 0 _).mono (by simp)).trans ((State.within_charge _ w.plot 0 _).mono (by simp))

/-! ### TIER_MOVE (R168) -/

theorem MoveFor.cls_pos (x : MoveFor) : 1 ≤ x.cls ∧ x.cls ≤ 4 := by cases x <;> simp [MoveFor.cls]

/-- The first class that waits is served, by its oldest move. -/
theorem nextMove_spec {ms : List Move} {m : Move} (h : nextMove ms = some m) :
    m ∈ ms ∧ ∀ x ∈ ms, m.purpose.cls ≤ x.purpose.cls := by
  have hfound {c : Nat} (hc : ms.find? (fun m => m.purpose.cls == c) = some m) : m ∈ ms ∧ m.purpose.cls = c :=
    ⟨List.mem_of_find?_eq_some hc, by simpa using List.find?_some hc⟩
  have hnone {c : Nat} (hc : ms.find? (fun m => m.purpose.cls == c) = none) : ∀ x ∈ ms, x.purpose.cls ≠ c := by
    simpa using hc
  simp only [nextMove, List.foldl_cons, List.foldl_nil] at h
  cases h1 : ms.find? (fun m => m.purpose.cls == 1) with
  | some a =>
    simp only [h1, Option.some.injEq] at h
    obtain ⟨hm, hcls⟩ := hfound (h ▸ h1)
    exact ⟨hm, fun x _ => hcls ▸ x.purpose.cls_pos.1⟩
  | none =>
    cases h2 : ms.find? (fun m => m.purpose.cls == 2) with
    | some a =>
      simp only [h1, h2, Option.some.injEq] at h
      obtain ⟨hm, hcls⟩ := hfound (h ▸ h2)
      exact ⟨hm, fun x hx => by have := hnone h1 x hx; have := x.purpose.cls_pos; omega⟩
    | none =>
      cases h3 : ms.find? (fun m => m.purpose.cls == 3) with
      | some a =>
        simp only [h1, h2, h3, Option.some.injEq] at h
        obtain ⟨hm, hcls⟩ := hfound (h ▸ h3)
        exact ⟨hm, fun x hx => by have := hnone h1 x hx; have := hnone h2 x hx; have := x.purpose.cls_pos; omega⟩
      | none =>
        simp only [h1, h2, h3] at h
        obtain ⟨hm, hcls⟩ := hfound h
        exact ⟨hm, fun x hx => by
          have := hnone h1 x hx; have := hnone h2 x hx; have := hnone h3 x hx; have := x.purpose.cls_pos; omega⟩

theorem exec_tierMove {s : State} {m : Move} (hfence : s.unitFenced 30 = false) (hnext : nextMove s.mem.moveQueue = some m)
    (hfits : s.moveFits m = true) (hcredits : s.mem.creditsHeld (controllerOf m.dst) + 64 ≤ queueLines (controllerOf m.dst)) :
    exec .tierMove s = .next (s.updMem (fun d => { d with moveQueue := dropFirst m d.moveQueue, moving := d.moving ++ [m] })) := by
  simp [exec_tierMove_eq, execTierMove, hfence, hnext, hfits, Move.credits, hcredits]

/-! ### MOVE_RETIRE (R168) -/

/-- The bytes of a move stand at its destination, and it is charged to its plot. -/
def State.moved (s : State) (mv : Move) (rest : List Move) : State :=
  (s.updMem (fun m => { (m.copyRange mv.src mv.dst mv.len) with moving := rest })).chargeMove mv

section Moves

variable {s : State} {mv : Move} {rest : List Move}

theorem State.moved_within (s : State) (mv : Move) (rest : List Move) : s.within (s.moved mv rest) mv.plot 0 [.mem, .plots] :=
  ((s.within_updMem mv.plot 0 _).mono (by simp)).trans
    (((State.within_charge _ mv.plot 0 _).trans (State.within_charge _ mv.plot 0 _)).mono (by simp))

theorem State.plot_moved (s : State) (mv : Move) (rest : List Move) :
    ∃ a, (s.moved mv rest).plot mv.plot = { s.plot mv.plot with account := a } :=
  ⟨_, by simp only [State.moved, State.chargeMove, State.chargeRead, State.chargeWrite, State.plot_charge_self, State.plot_updMem]; rfl⟩

theorem State.moved_mem (s : State) (mv : Move) (rest : List Move) :
    (s.moved mv rest).mem = { (s.mem.copyRange mv.src mv.dst mv.len) with moving := rest } := by simp [State.moved]

variable (hmoving : s.mem.moving = mv :: rest) (hsrc : s.mem.stopped mv.src mv.len = false) (hdst : s.mem.stopped mv.dst mv.len = false)
include hmoving hsrc hdst

/-- The policies of a plan that has been promoted have given up the old one. -/
def State.promoted (s : State) (p plan : Nat) : State :=
  s.updPlot p (fun q => { q with policies := q.policies.mapVals (fun pol => if pol.plan = plan then { pol with retired := true } else pol) })

theorem exec_moveRetire_promotion {plan : Nat} (hfor : mv.purpose = .promotion plan) :
    exec (.moveRetire []) s = .next (((s.moved mv rest).promoted mv.plot plan).settleUnmap mv.plot) := by
  simp [exec_moveRetire_eq, execMoveRetire, State.moveReads, hmoving, hsrc, hdst, hfor, State.moved, State.promoted]

theorem exec_moveRetire_spill {i page : Nat} (hfor : mv.purpose = .spill i page) :
    exec (.moveRetire []) s = .next (((({ s.moved mv rest with
      trellis := { s.trellis with spills := s.trellis.spills + 1 } } : State).switchPage mv.plot i page mv).retryFetch mv.plot).settleUnmap
        mv.plot) := by
  simp only [exec_moveRetire_eq, execMoveRetire, State.moveReads, List.foldl_nil, hmoving, hsrc, hdst, hfor, Bool.or_self, Bool.false_eq_true, if_false]
  rfl

theorem exec_moveRetire_prefetch {i page : Nat} (hfor : mv.purpose = .trellisPrefetch i page) :
    exec (.moveRetire []) s = .next ((({ s.moved mv rest with
      trellis := { s.trellis with prefetches := s.trellis.prefetches + 1 } } : State).switchPage mv.plot i page mv).settleUnmap mv.plot) := by
  simp only [exec_moveRetire_eq, execMoveRetire, State.moveReads, List.foldl_nil, hmoving, hsrc, hdst, hfor, Bool.or_self, Bool.false_eq_true, if_false]
  rfl

end Moves

theorem Mem.setPte_moves (m : Mem) (root page e : Nat) :
    (m.setPte root page e).moving = m.moving ∧ (m.setPte root page e).moveQueue = m.moveQueue := by
  unfold Mem.setPte
  split <;> exact ⟨rfl, rfl⟩

theorem State.kvAlloc_updSeq (s : State) (p i : Nat) (f : SeqEntry → SeqEntry) : ((s.updSeq p i f).plot p).kvAlloc = (s.plot p).kvAlloc := by
  simp only [State.updSeq, State.plot_updPlot_self]
  split <;> rfl

/-- A page of a sequence stands at its new address, and its old block is free (R284). -/
theorem State.switchPage_spec {s : State} {p i page : Nat} {mv : Move} {e : SeqEntry} (he : (s.plot p).seqs.find i = some e) :
    (s.switchPage p i page mv).mem.moving = s.mem.moving ∧ (∀ x ∈ ((s.switchPage p i page mv).plot p).kvAlloc, x.1 ≠ mv.src) ∧
    s.otherPlots (s.switchPage p i page mv) p ∧ s.keepsBut (s.switchPage p i page mv) [.mem, .plots] := by
  simp only [State.switchPage, he]
  refine ⟨(s.mem.setPte_moves _ _ _).1, fun x hx => ?_, ?_, ?_⟩
  · rw [State.kvAlloc_updSeq, State.kvDrop, State.plot_updPlot_self] at hx
    simpa using (List.mem_filter.1 hx).2
  · exact ((s.otherPlots_updMem _ p).trans (State.otherPlots_updPlot _ p _)).trans (State.otherPlots_updPlot _ p _)
  · exact (((s.keepsBut_updMem _).mono (by simp)).trans ((State.keepsBut_updPlot _ p _).mono (by simp))).trans
      ((State.keepsBut_updPlot _ p _).mono (by simp))

/-! ### KV_SPILL (R284) -/

/-- The move of a block that is spilled. -/
def spillMove (p : Nat) (x : SpillBlock × Nat) : Move :=
  { plot := p, purpose := .spill x.1.index x.1.page, src := x.1.addr, dst := x.2, len := x.1.size, discard := false }

theorem State.startSpill_spec (s : State) (p : Nat) (x : SpillBlock × Nat) :
    (s.startSpill p x.1 x.2).mem.moveQueue = s.mem.moveQueue ++ [spillMove p x] ∧
    ((s.startSpill p x.1 x.2).plot p).kvAlloc = (s.plot p).kvAlloc ++ [(x.2, x.1.size)] ∧
    s.otherPlots (s.startSpill p x.1 x.2) p ∧ s.keepsBut (s.startSpill p x.1 x.2) [.mem, .plots] := by
  refine ⟨rfl, by simp [State.startSpill], (s.otherPlots_updPlot p _).trans (State.otherPlots_updMem _ _ p), ?_⟩
  exact ((s.keepsBut_updPlot p _).mono (by simp)).trans ((State.keepsBut_updMem _ _).mono (by simp))

/-- The blocks of a plan of spills are asked for in its order. -/
theorem State.startSpills_spec (s : State) (p : Nat) (l : List (SpillBlock × Nat)) :
    (l.foldl (fun t x => t.startSpill p x.1 x.2) s).mem.moveQueue = s.mem.moveQueue ++ l.map (spillMove p) ∧
    ((l.foldl (fun t x => t.startSpill p x.1 x.2) s).plot p).kvAlloc = (s.plot p).kvAlloc ++ l.map (fun x => (x.2, x.1.size)) ∧
    s.otherPlots (l.foldl (fun t x => t.startSpill p x.1 x.2) s) p ∧
    s.keepsBut (l.foldl (fun t x => t.startSpill p x.1 x.2) s) [.mem, .plots] := by
  induction l generalizing s with
  | nil => exact ⟨by simp, by simp, fun _ _ => rfl, .refl s _⟩
  | cons x l ih =>
    obtain ⟨hqueue, halloc, hother, hkeeps⟩ := s.startSpill_spec p x
    obtain ⟨hqueue', halloc', hother', hkeeps'⟩ := ih (s.startSpill p x.1 x.2)
    exact ⟨by simp [hqueue', hqueue], by simp [halloc', halloc], hother.trans hother', hkeeps.trans hkeeps'⟩

/-! ### PATROL_SCRUB (R174, R175) -/

section Patrol

variable {s : State} {line : Nat} {f : PatrolFind}

/-- A pass of the patrol has ended. -/
def State.patrolled (s : State) : State := s.updMem (fun m => { m with patrolPasses := m.patrolPasses + 1 })

theorem exec_patrolScrub (hon : s.mem.patrolEnable = true) (hready : s.mem.ready = true) (finds : List PatrolFind) :
    exec (.patrolScrub finds) s = .next (finds.foldl State.patrolLine s).patrolled := by
  simp [exec_patrolScrub_eq, execPatrolScrub, hon, hready, State.patrolled]

theorem State.keepsBut_patrolled {u : State} (f : Mem → Mem) (h : u = s.updMem f) : s.keepsBut u.patrolled [.mem] := by
  rw [h]
  exact (s.keepsBut_updMem f).trans (State.keepsBut_updMem _ _)

theorem State.patrolLine_corrected (hf : f.uncorrectable = false) (hmem : isMemory (f.line * 64) = true)
    (hup : s.mem.stopped (f.line * 64) 64 = false) : s.patrolLine f = s.updMem (fun m => m.corrected (f.line * 64)) := by
  simp [State.patrolLine, hf, hmem, hup]

theorem Mem.corrected_eq (m : Mem) (a : Nat) : m.corrected a = { m with
    correctedHbm := m.correctedHbm + (if isHbm a then 1 else 0), correctedCf := m.correctedCf + (if isHbm a then 0 else 1) } := by
  unfold Mem.corrected
  split <;> simp [*]

/-- A line of a granule lies in a Terrace's HBM or in the Cold Frame. -/
theorem regionOf_of_granuleOf {a : Nat} {g : Nat × Nat} (h : granuleOf a = some g) : regionOf a = .coldFrame ∨ ∃ t, regionOf a = .hbm t := by
  unfold granuleOf at h
  split at h
  · next t ht => exact .inr ⟨t, ht⟩
  · next ht => exact .inl ht
  · cases h

theorem State.tellPoison_outside {a : Nat} (h : ∀ p ∈ tenantPlots, s.inWindows p a 64 = false) : s.tellPoison a = s :=
  List.foldlRecOn (motive := fun t => t = s) tenantPlots _ rfl fun t ht p hp => by simp [ht, h p hp]

theorem State.patrolLine_uncorrectable {g : Nat × Nat} (hf : f.uncorrectable = true) (hg : granuleOf (f.line * 64) = some g)
    (hup : s.mem.stopped (f.line * 64) 64 = false) (hout : ∀ p ∈ tenantPlots, s.inWindows p (f.line * 64) 64 = false) :
    s.patrolLine f = s.updMem (fun m => m.uncorrectable f.line) := by
  have htell : (s.updMem (fun m => m.uncorrectable f.line)).tellPoison (f.line * 64) = s.updMem (fun m => m.uncorrectable f.line) :=
    State.tellPoison_outside hout
  obtain hr | ⟨t, hr⟩ := regionOf_of_granuleOf hg <;> simp [State.patrolLine, hf, hup, isMemory, hr, htell]

/-- A granule with an uncorrectable line: suspect while it is in use, and retired when it is free. -/
theorem Mem.suspect_spec (m : Mem) (g : Nat × Nat) : (m.suspect g).poison = m.poison ∧ (m.suspect g).lastPoison = m.lastPoison ∧
    (m.suspect g).poisonedLines = m.poisonedLines ∧ (m.suspect g).bytes = m.bytes ∧
    (m.inUse g = true → g ∈ (m.suspect g).suspectGranules) ∧
    (m.inUse g = false → g ∈ (m.suspect g).retired ++ (m.suspect g).retiredVolatile) := by
  unfold Mem.suspect Mem.retire
  cases hin : m.inUse g with
  | true =>
    by_cases hs : g ∈ m.suspectGranules <;> simp [hs]
  | false =>
    by_cases hr : g ∈ m.retired ∨ g ∈ m.retiredVolatile
    · simp [hr]
    · simp only [List.contains_eq_mem, Bool.or_eq_true, decide_eq_true_eq, hr, if_false, Bool.false_eq_true]
      split <;> simp

/-- The memory with a line marked and counted, before its granule is judged. -/
def Mem.markedLine (m : Mem) (line : Nat) : Mem :=
  { ({ m with err := setFlag m.err (if isHbm (line * 64) then 0 else 1) } : Mem).poisonLine line with
    poisonedLines := m.poisonedLines + 1, lastPoison := line * 64 }

theorem Mem.inUse_poisonLine (m : Mem) (l : Nat) (g : Nat × Nat) : (m.poisonLine l).inUse g = m.inUse g := by
  unfold Mem.poisonLine
  split <;> rfl

theorem Mem.uncorrectable_eq {m : Mem} {line : Nat} {g : Nat × Nat} (hg : granuleOf (line * 64) = some g) :
    m.uncorrectable line = (m.markedLine line).suspect g := by
  obtain hr | ⟨t, hr⟩ := regionOf_of_granuleOf hg <;>
    simp [Mem.uncorrectable, hr, hg, Mem.markedLine]

theorem Mem.uncorrectable_spec {m : Mem} {line : Nat} {g : Nat × Nat} (hg : granuleOf (line * 64) = some g) :
    line ∈ (m.uncorrectable line).poison ∧ (m.uncorrectable line).lastPoison = line * 64 ∧
    (m.uncorrectable line).poisonedLines = m.poisonedLines + 1 ∧ (m.uncorrectable line).bytes = m.bytes ∧
    (m.inUse g = true → g ∈ (m.uncorrectable line).suspectGranules) ∧
    (m.inUse g = false → g ∈ (m.uncorrectable line).retired ++ (m.uncorrectable line).retiredVolatile) := by
  have huse : (m.markedLine line).inUse g = m.inUse g := Mem.inUse_poisonLine _ line g
  obtain ⟨hpoison, hlast, hcount, hbytes, hin, hfree⟩ := (m.markedLine line).suspect_spec g
  rw [Mem.uncorrectable_eq hg, hpoison, hlast, hcount, hbytes, ← huse]
  exact ⟨Mem.mem_poisonLine.2 (.inl rfl), rfl, rfl, Mem.poisonLine_bytes _ _, hin, hfree⟩

end Patrol

/-! ### O7 -/

/-- A promotion that retires: the bytes stand at the destination, and the policies of the plan have given up the old one. -/
theorem moveRetire_promotion {s : State} {mv : Move} {rest : List Move} {plan : Nat} (hwf : s.mem.wf = true) (hquiet : s.mem.quiet)
    (hmoving : s.mem.moving = mv :: rest) (hfor : mv.purpose = .promotion plan) (hsrc : s.mem.stopped mv.src mv.len = false)
    (hdst : s.mem.stopped mv.dst mv.len = false) : ∃ t, exec (.moveRetire []) s = .next t ∧ t.mem.moving = rest ∧
      (∀ i < mv.len, t.mem.read (mv.dst + i) = s.mem.read (mv.src + i)) ∧ s.bytesOutside t mv.dst mv.len ∧
      (∀ e ∈ (t.plot mv.plot).policies, e.2.plan = plan → e.2.retired = true) ∧
      s.otherPlots t mv.plot ∧ s.keepsBut t [.mem, .plots] := by
  have hunmap := ((s.moved mv rest).promoted mv.plot plan).unmaps_settleUnmap mv.plot
  have hin := s.moved_within mv rest
  have hread (a : Nat) : ((((s.moved mv rest).promoted mv.plot plan).settleUnmap mv.plot).mem).read a =
      (s.mem.copyRange mv.src mv.dst mv.len).read a := hunmap.read a
  refine ⟨_, exec_moveRetire_promotion hmoving hsrc hdst hfor, hunmap.moving, fun i hi => ?_, fun b hb => ?_, fun e he hplan => ?_,
    (hin.1.trans (State.otherPlots_updPlot _ _ _)).trans hunmap.2.2.1,
    (hin.2.2.trans ((State.keepsBut_updPlot _ _ _).mono (by simp))).trans hunmap.2.2.2⟩
  · rw [hread, Mem.read_copyRange_inside hquiet hwf hi]
  · rw [hread, Mem.read_copyRange_outside hquiet hwf hb]
  · obtain ⟨m, hplot⟩ := hunmap.2.1
    rw [hplot, State.promoted, State.plot_updPlot_self] at he
    obtain ⟨x, -, rfl⟩ := List.mem_map.1 he
    simp only at hplan ⊢
    split at hplan
    · next hx => simp [hx]
    · next hx => exact absurd hplan hx

/-- The state once a page's move has retired and been counted. -/
def State.pageMoved (s : State) (mv : Move) (rest : List Move) (x : Trellis) (i page : Nat) : State :=
  ({ s.moved mv rest with trellis := x } : State).switchPage mv.plot i page mv

theorem State.pageMoved_spec {s : State} {mv : Move} {i : Nat} {e : SeqEntry} (rest : List Move) (x : Trellis) (page : Nat)
    (he : (s.plot mv.plot).seqs.find i = some e) : (s.pageMoved mv rest x i page).mem.moving = rest ∧
      (∀ y ∈ ((s.pageMoved mv rest x i page).plot mv.plot).kvAlloc, y.1 ≠ mv.src) ∧ (s.pageMoved mv rest x i page).trellis = x ∧
      s.otherPlots (s.pageMoved mv rest x i page) mv.plot ∧ s.keepsBut (s.pageMoved mv rest x i page) [.mem, .plots, .trellis] := by
  obtain ⟨a, hplot⟩ := s.plot_moved mv rest
  obtain ⟨hother, -, hkeeps⟩ := s.moved_within mv rest
  have hseq : (({ s.moved mv rest with trellis := x } : State).plot mv.plot).seqs.find i = some e := by
    rw [← he]
    exact congrArg (fun q => q.seqs.find i) hplot
  have hfrom : s.keepsBut { s.moved mv rest with trellis := x } [.mem, .plots, .trellis] :=
    (hkeeps.mono (by simp)).trans fun y hy => by cases y <;> simp_all [State.agree]
  obtain ⟨hm, halloc, ho, hk⟩ := State.switchPage_spec (page := page) (mv := mv) hseq
  exact ⟨hm, halloc, hk .trellis (by decide), State.otherPlots.trans (fun q hq => hother q hq) ho, hfrom.trans (hk.mono (by simp))⟩

theorem exec_kvSpill {s : State} {p bytes : Nat} {l : List (SpillBlock × Nat)}
    (hplan : spillPlan (s.plot p) [(bytes, if bytes ≤ 512 then 512 else 4096)] (s.spillable p) (s.plot p).kvAlloc [] = some l) :
    exec (.kvSpill p bytes) s = .next (l.foldl (fun t x => t.startSpill p x.1 x.2) s) := by
  simp only [exec_kvSpill_eq, execKvSpill, hplan]

/-- Settles O7, clause by clause. -/
theorem memoryTraffic : Obligations.MemoryTraffic := by
  refine ⟨?retire, ?tripped, ?mover, ?promotion, ?page, ?spill, ?patrol, ?corrected, ?uncorrectable⟩
  case retire =>
    intro s c w ws hq hup
    obtain ⟨hbytes, hbad, hgood, hothers⟩ := s.mem.issue_poison w
    have hunmap := (s.lineLanded c w ws).unmaps_settleUnmap w.plot
    have hland := s.lineLanded_within c w ws
    refine ⟨_, exec_memoryWriteRetire hq hup, hunmap.bytes.trans hbytes, hunmap.queues, ?_, ?_, ?_,
      hland.1.trans hunmap.2.2.1, hland.2.2.trans hunmap.2.2.2⟩ <;> rw [hunmap.poison]
    · exact hbad
    · exact hgood
    · exact hothers
  case tripped => exact fun s c hup => exec_memoryWriteRetire_tripped hup
  case mover =>
    intro s m hfence hnext hfits hcredits
    obtain ⟨hmem, hleast⟩ := nextMove_spec hnext
    exact ⟨_, exec_tierMove hfence hnext hfits hcredits, hmem, hleast, rfl, s.keepsBut_updMem _⟩
  case promotion =>
    exact fun s mv rest plan hwf hquiet hmoving hfor hsrc hdst => moveRetire_promotion hwf hquiet hmoving hfor hsrc hdst
  case page =>
    intro s mv rest i page e hmoving hfor he hsrc hdst
    rcases hfor with hfor | hfor
    · obtain ⟨hm, halloc, htrellis, ho, hk⟩ := State.pageMoved_spec rest { s.trellis with spills := s.trellis.spills + 1 } page he
      refine ⟨_, ?_, hm, halloc, fun _ => htrellis, fun h => by simp [hfor] at h, ho, hk⟩
      rw [if_pos hfor]
      exact exec_moveRetire_spill hmoving hsrc hdst hfor
    · obtain ⟨hm, halloc, htrellis, ho, hk⟩ :=
        State.pageMoved_spec rest { s.trellis with prefetches := s.trellis.prefetches + 1 } page he
      refine ⟨_, ?_, hm, halloc, fun h => by simp [hfor] at h, fun _ => htrellis, ho, hk⟩
      rw [if_neg (by simp [hfor])]
      exact exec_moveRetire_prefetch hmoving hsrc hdst hfor
  case spill =>
    intro s p bytes l hplan
    obtain ⟨hqueue, halloc, hother, hkeeps⟩ := s.startSpills_spec p l
    exact ⟨_, exec_kvSpill hplan, hqueue, halloc, hother, hkeeps⟩
  case patrol =>
    intro s hon hready
    exact ⟨_, exec_patrolScrub hon hready [], rfl, s.keepsBut_updMem _⟩
  case corrected =>
    intro s line holds both hon hready hmem hup
    have hline := State.patrolLine_corrected (s := s)
      (f := { line := line, uncorrectable := false, holds := holds, bothFail := both }) rfl hmem hup
    refine ⟨_, exec_patrolScrub hon hready _, ?_, State.keepsBut_patrolled _ hline⟩
    rw [List.foldl_cons, List.foldl_nil, hline, State.patrolled, State.updMem_mem, State.updMem_mem, Mem.corrected_eq]
  case uncorrectable =>
    intro s line g holds both hon hready hg hup hout
    obtain ⟨hpoison, hlast, hcount, hbytes, hin, hfree⟩ := Mem.uncorrectable_spec (m := s.mem) hg
    have hline := State.patrolLine_uncorrectable (s := s)
      (f := { line := line, uncorrectable := true, holds := holds, bothFail := both }) rfl hg hup hout
    have hkeeps := State.keepsBut_patrolled _ hline
    refine ⟨_, exec_patrolScrub hon hready _, ?_⟩
    rw [List.foldl_cons, List.foldl_nil]
    rw [hline] at hkeeps ⊢
    exact ⟨hpoison, hlast, hcount, hbytes, hin, hfree, hkeeps⟩

end Sys2Proof.Machine

/-! The statement of resets and boots (O24) fails in its clause of a sound warm reset. The board limiter acts in every module
state (R453), and a warm reset does not release it, so a module that its limiter throttles comes up at n = 6 (Table PAV-14),
where the clause asks for the step of the policy alone. -/

namespace Sys2Proof.Machine

/-! ### A warm reset does not release the limiter -/

theorem State.foldl_limiter {α : Type} {f : State → α → State} (hf : ∀ s x, (f s x).mod.limiter = s.mod.limiter) (l : List α)
    (s : State) : (l.foldl f s).mod.limiter = s.mod.limiter := by
  induction l generalizing s with
  | nil => rfl
  | cons x l ih => rw [List.foldl_cons, ih, hf]

@[simp] theorem State.updClass_mod (s : State) (c : Nat) (f : FwClass → FwClass) : (s.updClass c f).mod = s.mod := rfl

@[simp] theorem State.notify_mod (s : State) (sensor value : Nat) : (s.notify sensor value).mod = s.mod := by
  unfold State.notify
  split <;> rfl

@[simp] theorem State.event_limiter (s : State) (sensor value : Nat) : (s.event sensor value).mod.limiter = s.mod.limiter := by
  unfold State.event
  dsimp only
  split <;> simp

@[simp] theorem State.setModState_limiter (s : State) (n : Nat) : (s.setModState n).mod.limiter = s.mod.limiter := by
  unfold State.setModState
  split <;> simp

@[simp] theorem State.enterRecovery_limiter (s : State) (reason : Nat) : (s.enterRecovery reason).mod.limiter = s.mod.limiter := by
  simp [State.enterRecovery]

@[simp] theorem State.warmCleared_limiter (s : State) : s.warmCleared.mod.limiter = s.mod.limiter := rfl

@[simp] theorem State.gatehouseUp_mod (s : State) (b : BootReport) (warm : Bool) : (s.gatehouseUp b warm).mod = s.mod := rfl

@[simp] theorem State.startPort_mod (s : State) : s.startPort.mod = s.mod := by
  unfold State.startPort
  split <;> rfl

@[simp] theorem State.endTrials_limiter (s : State) : s.endTrials.mod.limiter = s.mod.limiter :=
  State.foldl_limiter (fun t c => by split <;> simp) fwClasses s

@[simp] theorem State.fallBacks_limiter (s : State) (b : BootReport) : (s.fallBacks b).mod.limiter = s.mod.limiter :=
  State.foldl_limiter (fun t c => by dsimp only; split <;> simp) fwClasses s

/-- A self-test that finds every Pavilion good fences none. -/
theorem State.selfTest_limiter {b : BootReport} (hgood : b.badPavilions = []) (s : State) :
    (s.selfTest b).mod.limiter = s.mod.limiter := by
  simp [State.selfTest, hgood]

theorem State.bringUp_limiter {b : BootReport} (hgood : b.badPavilions = []) (s : State) (warm : Bool) :
    (s.bringUp b warm).mod.limiter = s.mod.limiter := by
  have htest := State.selfTest_limiter hgood ((s.gatehouseUp b warm).updMem (fun m => m.trained b))
  unfold State.bringUp
  dsimp only
  split_ifs <;> simpa using htest

theorem State.boot_limiter {b : BootReport} (hgood : b.badPavilions = []) (s : State) (warm : Bool) :
    (s.boot b warm).mod.limiter = s.mod.limiter := by
  have hswitch : (fwClasses.foldl (fun t c => t.updClass c FwClass.switchNow) s).mod.limiter = s.mod.limiter :=
    State.foldl_limiter (fun t c => by simp) fwClasses s
  unfold State.boot
  dsimp only
  split_ifs <;> simpa [State.bringUp_limiter hgood] using hswitch

theorem State.scrubVerify_nil (s : State) : s.scrubVerify [] = s := rfl

/-- A warm reset that finds no Pavilion and no bank failed keeps the limiter where it is. -/
theorem State.warmBoot_limiter {b : BootReport} (hgood : b.badPavilions = []) (hbanks : b.failedBanks = []) (s : State) :
    (s.warmBoot b).mod.limiter = s.mod.limiter := by
  rw [State.warmBoot, hbanks, State.scrubVerify_nil, State.boot_limiter hgood, State.warmCleared_limiter, State.setModState_limiter]

/-- While the limiter throttles, no Pavilion whose modes are in force runs above n = 6 (Table PAV-14). -/
theorem State.clockStep_le_of_limiter {s : State} (hmodes : s.mod.modesApplied = true) (hon : s.mod.limiter = true) (i : Nat) :
    s.clockStep i ≤ 6 := by
  simp [State.clockStep, hmodes, hon]

theorem exec_warmReset_pending {s : State} {b : BootReport} (hparity : b.keyParity = false) (hwarm : s.mod.warmPending = true)
    (hrails : s.mod.rails = true) (hhigh : s.mod.resetHigh = true) (hrun : s.gatehouse.halted = false) :
    exec (.warmReset b) s = .next (s.warmBoot b) := by
  have hexec : exec (.warmReset b) s = execWarmReset b s := rfl
  simp [hexec, execWarmReset, hparity, hwarm, hrails, hhigh, hrun]

/-- A READY module outside steady-clock mode, with its limiter asserted and a warm reset pending. -/
def throttledWarm : State :=
  { State.reset with mod := { Mod.init with state := 3, resetHigh := true, limiter := true, warmPending := true } }

/-- A boot at which every bank, self-test and memory channel holds. -/
def soundReport : BootReport :=
  { hbmFailed := 0, cfFailed := 0, hbmMs := 0, lpddrMs := 0, badPavilions := [], badUnits := 0, katOk := true, trngOk := true
    banksOk := 255, inTime := true, debugToken := false, signer := 0, keyParity := false, failedBanks := [] }

theorem throttledWarm_bootsWell : throttledWarm.bootsWell soundReport := by
  unfold State.bootsWell
  decide +kernel

/-- Refutes O24: `throttledWarm` satisfies every premise of the clause of a sound warm reset, yet its limiter still holds after
the boot, so no Pavilion runs above n = 6 where the clause asks for n = 12. -/
theorem not_resetsAndBoots : ¬ Obligations.ResetsAndBoots := by
  rintro ⟨-, -, -, -, -, -, -, -, -, hwarm, -⟩
  obtain ⟨t, hexec, hbooted, -, -, -, -, -, -, -, -, -, -, -, -, -, -, hstep⟩ :=
    hwarm throttledWarm soundReport rfl rfl rfl rfl throttledWarm_bootsWell rfl rfl
  rw [exec_warmReset_pending rfl rfl rfl rfl rfl] at hexec
  obtain rfl : throttledWarm.warmBoot soundReport = t := by injection hexec
  obtain ⟨-, hmodes, -⟩ := hbooted
  have hlimited := State.clockStep_le_of_limiter hmodes (State.warmBoot_limiter rfl rfl throttledWarm) 0
  have hpolicy : (throttledWarm.warmBoot soundReport).clockStep 0 = 12 := hstep 0 (by decide)
  omega

end Sys2Proof.Machine

/-! The statement of the optimiser's updates and the Belvedere's settings (O22): BELVEDERE_CFG (R197) and OPTIMISER_UPDATE
(R191, R193 to R195). -/

namespace Sys2Proof.Machine

/-! ### The arms of the three commands -/

theorem exec_belvedereCfg_eq (plot : Nat) (s : State) : exec (.belvedereCfg plot) s = execBelvedereCfg plot s := rfl

theorem exec_belvedereCfgQuery_eq (plot : Nat) (s : State) : exec (.belvedereCfgQuery plot) s = execBelvedereCfgQuery plot s := rfl

theorem exec_optimiserUpdate_eq (plot plan : Nat) (s : State) : exec (.optimiserUpdate plot plan) s = execOptimiserUpdate plot plan s := rfl

/-! ### BELVEDERE_CFG (R197) -/

section Settings

variable {s : State} {p : Nat} {r : Req}

/-- A plot that takes new settings. -/
def State.withBel (s : State) (p : Nat) (b : BelSettings) : State := s.updPlot p (fun q => { q with bel := b })

theorem exec_belvedereCfg_sets (h : Turn s p opBelvedereCfg r) (hset : bitOf (fieldAt r.payload 0 1) 0 = false)
    (hb : (parseBel r.payload).holds = true) : exec (.belvedereCfg p) s =
      .next ((s.withBel p (parseBel r.payload)).ok p r (parseBel r.payload).body) := by
  simp [exec_belvedereCfg_eq, execBelvedereCfg, State.serve_turn h, hset, hb, State.withBel]

theorem exec_belvedereCfg_refuses (h : Turn s p opBelvedereCfg r) (hset : bitOf (fieldAt r.payload 0 1) 0 = false)
    (hb : (parseBel r.payload).holds = false) : exec (.belvedereCfg p) s = .next (s.refuse p r stNotPermitted) := by
  simp [exec_belvedereCfg_eq, execBelvedereCfg, State.serve_turn h, hset, hb]

theorem exec_belvedereCfgQuery_shows (h : Turn s p opBelvedereCfg r) (hquery : bitOf (fieldAt r.payload 0 1) 0 = true) :
    exec (.belvedereCfgQuery p) s = .next (s.ok p r (s.plot p).bel.body) := by
  simp [exec_belvedereCfgQuery_eq, execBelvedereCfgQuery, State.serve_turn h, hquery]

/-- A message answered at once: its completion is all that changes. -/
theorem State.okAtOnce_spec (r : Req) (body : Bytes) (hopen : s.isOpen p = true) :
    (s.ok p r body).plot p = (s.plot p).answeredOk r body ∧ s.otherPlots (s.ok p r body) p ∧ s.keepsBut (s.ok p r body) [.plots] :=
  ⟨s.plot_completeWith_self p r 0 0 0 body hopen, s.otherPlots_completeWith p r 0 0 0 body, s.keepsBut_completeWith p r 0 0 0 body⟩

theorem State.withBel_ok_spec (r : Req) (b : BelSettings) (hopen : s.isOpen p = true) :
    ((s.withBel p b).ok p r b.body).plot p = ({ s.plot p with bel := b }).answeredOk r b.body ∧
    s.otherPlots ((s.withBel p b).ok p r b.body) p ∧ s.keepsBut ((s.withBel p b).ok p r b.body) [.plots] := by
  have hplot : (s.withBel p b).plot p = { s.plot p with bel := b } := s.plot_updPlot_self p _
  obtain ⟨hself, hother, hkeeps⟩ :=
    State.okAtOnce_spec (s := s.withBel p b) (p := p) r b.body (by simpa [State.isOpen, hplot] using hopen)
  exact ⟨hplot ▸ hself, (s.otherPlots_updPlot p _).trans hother, (s.keepsBut_updPlot p _).trans hkeeps⟩

end Settings

/-! ### Changes of a mailbox alone -/

/-- Nothing but a plot's mailbox changes, and what is lost of its records is counted. -/
def State.mailsOnly (s t : State) (p : Nat) : Prop :=
  s.otherPlots t p ∧ s.keepsBut t [.plots, .bothy] ∧ ∃ m, t.plot p = { s.plot p with mail := m }

theorem State.mailsOnly.refl (s : State) (p : Nat) : s.mailsOnly s p := ⟨fun _ _ => rfl, .refl s _, _, rfl⟩

theorem State.mailsOnly.trans {s t u : State} {p : Nat} (hst : s.mailsOnly t p) (htu : t.mailsOnly u p) : s.mailsOnly u p := by
  obtain ⟨hother, hkeeps, m, hm⟩ := hst
  obtain ⟨hother', hkeeps', m', hm'⟩ := htu
  exact ⟨hother.trans hother', hkeeps.trans hkeeps', m', by rw [hm', hm]⟩

theorem State.mailsOnly_ok (s : State) (p : Nat) (r : Req) (body : Bytes) : s.mailsOnly (s.ok p r body) p :=
  ⟨s.otherPlots_completeWith p r 0 0 0 body, (s.keepsBut_completeWith p r 0 0 0 body).mono (by simp),
    s.mail_completeWith p r 0 0 0 body⟩

theorem State.mailsOnly_unsolicited (s : State) (p source : Nat) (body : Bytes) : s.mailsOnly (s.unsolicited p source body) p := by
  refine ⟨fun q hq => s.plot_unsolicited_ne p q source body hq, fun x hx => ?_, ?_⟩
  · by_cases hmgmt : x = .mgmt
    · subst hmgmt
      exact s.unsolicited_mgmt p source body
    by_cases hsent : x = .sent
    · subst hsent
      exact s.unsolicited_sent p source body
    · exact (s.tells_unsolicited p source body).1 x (by simp_all)
  · unfold State.unsolicited State.post
    split_ifs <;> exact ⟨_, by simp only [State.plot, State.updMail_plots, NMap.get_modify_self]; rfl⟩

theorem State.mailsOnly_foldl {α : Type} {f : State → α → State} {p : Nat} (hf : ∀ (t : State) x, t.mailsOnly (f t x) p) (l : List α)
    (s : State) : s.mailsOnly (l.foldl f s) p :=
  List.foldlRecOn (motive := fun t => s.mailsOnly t p) l f (.refl s p) (fun t ht x _ => ht.trans (hf t x))

theorem State.mailsOnly_settleAdmits (s : State) (p h : Nat) : s.mailsOnly (s.settleAdmits p h) p :=
  State.mailsOnly_foldl (fun (t : State) r => by split <;> exact t.mailsOnly_ok p r _) _ s

theorem State.mailsOnly_settleDrops (s : State) (p h : Nat) : s.mailsOnly (s.settleDrops p h) p :=
  State.mailsOnly_foldl (fun (t : State) r => t.mailsOnly_ok p r _) _ s

theorem State.mailsOnly_settleEvicts (s : State) (p h gone : Nat) : s.mailsOnly (s.settleEvicts p h gone) p := by
  simp only [State.settleEvicts]
  split
  · exact s.mailsOnly_settleDrops p h
  · exact (s.mailsOnly_settleDrops p h).trans (State.mailsOnly_foldl (fun (t : State) r => t.mailsOnly_ok p r _) _ _)

/-! ### What stands while a step's update runs -/

/-- The adapters that the running step of a plan has updated, and those that it has skipped. -/
def Plot.marksOf (q : Plot) (plan : Nat) : Option (List Nat × List Nat) := (q.runOf plan).map (fun st => (st.updated, st.skipped))

/-- A plot keeps its binding and its handles, and the step of a plan notes `u` more adapters as updated and `k` more as skipped. -/
def Plot.updates (q r : Plot) (plan : Nat) (u k : List Nat) : Prop :=
  r.binding = q.binding ∧ (∀ h, (r.adapters.find h).isSome = (q.adapters.find h).isSome) ∧
    r.marksOf plan = (q.marksOf plan).map (fun m => (m.1 ++ u, m.2 ++ k))

/-- The same of the state, of which the update changes memory, the plot, the Orangery and the Bothy's counts alone. -/
def State.updates (s t : State) (p plan : Nat) (u k : List Nat) : Prop :=
  s.otherPlots t p ∧ s.keepsBut t [.mem, .plots, .bothy, .orangery] ∧ (s.plot p).updates (t.plot p) plan u k

theorem Plot.updates.refl (q : Plot) (plan : Nat) : q.updates q plan [] [] := ⟨rfl, fun _ => rfl, by simp⟩

theorem State.updates.refl (s : State) (p plan : Nat) : s.updates s p plan [] [] := ⟨fun _ _ => rfl, .refl s _, .refl _ plan⟩

theorem State.updates.trans {s t v : State} {p plan : Nat} {u k u' k' : List Nat} (hst : s.updates t p plan u k)
    (htv : t.updates v p plan u' k') : s.updates v p plan (u ++ u') (k ++ k') := by
  obtain ⟨hother, hkeeps, hbind, hfind, hmarks⟩ := hst
  obtain ⟨hother', hkeeps', hbind', hfind', hmarks'⟩ := htv
  refine ⟨hother.trans hother', hkeeps.trans hkeeps', hbind'.trans hbind, fun h => (hfind' h).trans (hfind h), ?_⟩
  rw [hmarks', hmarks]
  simp [Function.comp_def]

/-- A change that notes nothing, then another. -/
theorem State.updates.next {s t v : State} {p plan : Nat} {u k : List Nat} (hst : s.updates t p plan [] [])
    (htv : t.updates v p plan u k) : s.updates v p plan u k := hst.trans htv

theorem State.updates.ite {s t v : State} {p plan : Nat} {u k : List Nat} {c : Prop} [Decidable c] (ht : s.updates t p plan u k)
    (hv : s.updates v p plan u k) : s.updates (if c then t else v) p plan u k := by
  split
  · exact ht
  · exact hv

theorem State.updates_of_plots_eq {s t : State} (hkeeps : s.keepsBut t [.mem, .orangery]) (p plan : Nat) : s.updates t p plan [] [] := by
  have hplot (i : Nat) : t.plot i = s.plot i := by simp only [State.plot, show t.plots = s.plots from hkeeps .plots (by decide)]
  exact ⟨fun i _ => hplot i, hkeeps.mono (by simp), by rw [hplot]; exact .refl _ plan⟩

theorem State.updates_updMem (s : State) (f : Mem → Mem) (p plan : Nat) : s.updates (s.updMem f) p plan [] [] :=
  State.updates_of_plots_eq ((s.keepsBut_updMem f).mono (by simp)) p plan

theorem State.mailsOnly.updates {s t : State} {p : Nat} (h : s.mailsOnly t p) (plan : Nat) : s.updates t p plan [] [] := by
  obtain ⟨hother, hkeeps, m, hm⟩ := h
  exact ⟨hother, hkeeps.mono (by simp), by rw [hm]; exact Plot.updates.refl (s.plot p) plan⟩

theorem State.updates_updPlot (s : State) (p : Nat) {plan : Nat} {u k : List Nat} {f : Plot → Plot}
    (hf : ∀ q : Plot, q.updates (f q) plan u k) : s.updates (s.updPlot p f) p plan u k := by
  refine ⟨s.otherPlots_updPlot p f, (s.keepsBut_updPlot p f).mono (by simp), ?_⟩
  rw [State.plot_updPlot_self]
  exact hf _

theorem State.updates_charge (s : State) (p plan : Nat) (f : Account → Account) : s.updates (s.charge p f) p plan [] [] :=
  s.updates_updPlot p (fun q => Plot.updates.refl q plan)

theorem State.plot_updAdapter {s : State} {p h : Nat} {a : Adapter} (ha : (s.plot p).adapters.find h = some a) (f : Adapter → Adapter) :
    (s.updAdapter p h f).plot p = { s.plot p with adapters := (s.plot p).adapters.set h (f a) } := by
  simp [State.updAdapter, ha]

theorem State.updates_updAdapter (s : State) (p plan h : Nat) (f : Adapter → Adapter) : s.updates (s.updAdapter p h f) p plan [] [] := by
  refine s.updates_updPlot p (fun q => ?_)
  split
  · next a ha =>
    obtain ⟨-, -, hmarks⟩ := Plot.updates.refl q plan
    refine ⟨rfl, fun i => ?_, hmarks⟩
    by_cases hi : i = h
    · subst hi
      simp [NMap.find_set_self, ha]
    · simp [NMap.find_set_ne _ _ _ _ hi]
  · exact .refl q plan

/-- The step of a plan once it has changed. -/
theorem State.runOf_updStep (s : State) (p plan : Nat) {f : Step → Step} (hf : ∀ st, (f st).plan = st.plan) :
    ((s.updStep p plan f).plot p).runOf plan = ((s.plot p).runOf plan).map f := by
  simp only [State.updStep, State.plot_updPlot_self, Plot.runOf]
  induction (s.plot p).running with
  | nil => rfl
  | cons st sts ih =>
    by_cases hst : st.plan = plan
    · simp [hst, hf]
    · simpa [hst] using ih

theorem State.updates_updStep (s : State) (p plan : Nat) {u k : List Nat} {f : Step → Step} (hplan : ∀ st, (f st).plan = st.plan)
    (hu : ∀ st, (f st).updated = st.updated ++ u) (hk : ∀ st, (f st).skipped = st.skipped ++ k) :
    s.updates (s.updStep p plan f) p plan u k := by
  have hrun := s.runOf_updStep p plan hplan
  refine ⟨s.otherPlots_updPlot p _, (s.keepsBut_updPlot p _).mono (by simp), ?_, fun h => ?_, ?_⟩
  · simp [State.updStep]
  · simp [State.updStep]
  · simp [Plot.marksOf, hrun, Function.comp_def, hu, hk]

theorem State.updates_foldl {α : Type} {f : State → α → State} {p plan : Nat} (hf : ∀ (t : State) x, t.updates (f t x) p plan [] [])
    (l : List α) (s : State) : s.updates (l.foldl f s) p plan [] [] :=
  List.foldlRecOn (motive := fun t => s.updates t p plan [] []) l f (.refl s p plan) (fun t ht x _ => ht.trans (hf t x))

theorem State.updates_foldl_fst {α β : Type} {f : State × β → α → State × β} {p plan : Nat}
    (hf : ∀ (y : State × β) x, y.1.updates (f y x).1 p plan [] []) (l : List α) (s : State) (b : β) :
    s.updates (l.foldl f (s, b)).1 p plan [] [] :=
  List.foldlRecOn (motive := fun z => s.updates z.1 p plan [] []) l f (.refl s p plan) (fun z hz x _ => hz.trans (hf z x))

/-! ### A poisoned record (R250) -/

theorem State.updates_poolDrop (s : State) (p plan a n : Nat) : s.updates (s.poolDrop p a n) p plan [] [] :=
  (s.updates_updMem _ p plan).trans (State.updates_updPlot _ p (fun q => Plot.updates.refl q plan))

theorem State.updates_dropCopy (s : State) (p plan h : Nat) : s.updates (s.dropCopy p h) p plan [] [] := by
  unfold State.dropCopy
  split
  · exact .refl s p plan
  · next a _ =>
    split
    · exact s.updates_updAdapter p plan h _
    · exact (s.updates_poolDrop p plan a.resAddr a.recordBytes).trans (State.updates_updAdapter _ p plan h _)
    · exact (s.updates_updMem _ p plan).trans (State.updates_updAdapter _ p plan h _)

/-- While steps run, the sequences of a poisoned adapter are not marked yet (R247). -/
theorem State.settleGone_of_steps {s : State} {p h step : Nat} {a : Adapter} (ha : (s.plot p).adapters.find h = some a)
    {l : List (Nat × Nat)} (hgone : a.gone = some l) (hl : l ≠ []) : s.settleGone p h step = s := by
  obtain ⟨x, l, rfl⟩ := List.exists_cons_of_ne_nil hl
  simp [State.settleGone, ha, hgone]

/-- A poisoned adapter, whose sequences are marked once the steps of `steps` have ended. -/
def Adapter.poisonMark (a : Adapter) (steps : List (Nat × Nat)) : Adapter :=
  { a with state := .poisoned, slots := [], leaving := false, prefetch := 0, dropResident := false, gone := some steps }

/-- The first of a poisoning: RECORD_POISON is set, and a copy that is loading is dropped. -/
def State.poisonFlagged (s : State) (p h : Nat) (a : Adapter) : State :=
  let t := { s with orangery := { s.orangery with err := setFlag s.orangery.err 0 } }
  if a.residency = .loading then t.dropCopy p h else t

theorem State.updates_poisonFlagged (s : State) (p plan h : Nat) (a : Adapter) : s.updates (s.poisonFlagged p h a) p plan [] [] := by
  have hflag : s.updates { s with orangery := { s.orangery with err := setFlag s.orangery.err 0 } } p plan [] [] :=
    State.updates_of_plots_eq (fun x hx => by cases x <;> simp_all [State.agree]) p plan
  exact .ite (hflag.next (State.updates_dropCopy _ p plan h)) hflag

/-- The event of a poisoning, and what it answers: the ADMITs that wait, and the evictions that wait for no marking. -/
theorem State.mailsOnly_poisonAnswers (s : State) (p h gone : Nat) (body : Bytes) (c : Prop) [Decidable c] :
    s.mailsOnly (if c then (s.unsolicited p srcAdapterEvent body).settleAdmits p h
      else ((s.unsolicited p srcAdapterEvent body).settleAdmits p h).settleEvicts p h gone) p := by
  have hadmits := (s.mailsOnly_unsolicited p srcAdapterEvent body).trans (State.mailsOnly_settleAdmits _ p h)
  split
  · exact hadmits
  · exact hadmits.trans (State.mailsOnly_settleEvicts _ p h gone)

/-- A poisoning marks the adapter, answers what waits for it, and leaves its sequences to `State.settleGone`. -/
theorem State.recordPoison_eq {s : State} {p h : Nat} {a : Adapter} (ha : (s.plot p).adapters.find h = some a)
    (hstate : ¬ (a.state = .poisoned ∨ a.state = .stale)) : ∃ t,
      ((s.poisonFlagged p h a).updAdapter p h (·.poisonMark ((s.poisonFlagged p h a).plot p).runningSteps)).mailsOnly t p ∧
      s.recordPoison p h = t.settleGone p h (s.plot p).eventStep := by
  simp only [State.recordPoison, ha, if_neg hstate]
  exact ⟨_, State.mailsOnly_poisonAnswers _ p h _ _ _, rfl⟩

theorem Plot.runningSteps_ne_nil {q : Plot} {plan : Nat} (h : (q.marksOf plan).isSome) : q.runningSteps ≠ [] := by
  intro hnil
  simp [Plot.marksOf, Plot.runOf, List.map_eq_nil_iff.1 hnil] at h

theorem State.updates.marked {s t : State} {p plan : Nat} {u k : List Nat} (h : s.updates t p plan u k)
    (hrun : ((s.plot p).marksOf plan).isSome) : ((t.plot p).marksOf plan).isSome := by
  obtain ⟨-, -, -, -, hmarks⟩ := h
  simpa [hmarks] using hrun

theorem State.updates.bound {s t : State} {p plan : Nat} {u k : List Nat} (h : s.updates t p plan u k) :
    (t.plot p).binding = (s.plot p).binding := by
  obtain ⟨-, -, hbind, -, -⟩ := h
  exact hbind

theorem State.updates.found {s t : State} {p plan : Nat} {u k : List Nat} (h : s.updates t p plan u k) (i : Nat) :
    ((t.plot p).adapters.find i).isSome = ((s.plot p).adapters.find i).isSome := by
  obtain ⟨-, -, -, hfind, -⟩ := h
  exact hfind i

/-- While a step runs, a poisoning removes no handle. -/
theorem State.updates_recordPoison {s : State} {p plan : Nat} (hrun : ((s.plot p).marksOf plan).isSome) (h : Nat) :
    s.updates (s.recordPoison p h) p plan [] [] := by
  cases ha : (s.plot p).adapters.find h with
  | none =>
    simp only [State.recordPoison, ha]
    exact .refl s p plan
  | some a =>
    by_cases hstate : a.state = .poisoned ∨ a.state = .stale
    · simp only [State.recordPoison, ha, if_pos hstate]
      exact .refl s p plan
    obtain ⟨t, hmail, heq⟩ := State.recordPoison_eq ha hstate
    have hflag := s.updates_poisonFlagged p plan h a
    obtain ⟨a', ha'⟩ := Option.isSome_iff_exists.1 ((hflag.found h).trans (by rw [ha, Option.isSome_some]))
    have hmark : (t.plot p).adapters.find h = some (a'.poisonMark ((s.poisonFlagged p h a).plot p).runningSteps) := by
      obtain ⟨-, -, m, hm⟩ := hmail
      rw [hm, State.plot_updAdapter ha', NMap.find_set_self]
    rw [heq, State.settleGone_of_steps hmark rfl (Plot.runningSteps_ne_nil (hflag.marked hrun))]
    exact hflag.trans ((State.updates_updAdapter _ p plan h _).trans (hmail.updates plan))

/-! ### The update of one adapter (R193 to R195) -/

theorem State.updates_updateElem (s : State) (a : Adapter) (k : Scalars) (x : Part) (i : Nat) (g : W32) (bad : Bool) (p plan : Nat) :
    s.updates (s.updateElem a k x i g bad).1 p plan [] [] := s.updates_updMem _ p plan

theorem State.updates_updateRun (s : State) (a : Adapter) (k : Scalars) (x : Part) (es : List (Nat × W32 × Bool)) (p plan : Nat) :
    s.updates (s.updateRun a k x es).1 p plan [] [] := by
  refine State.updates_foldl_fst (fun y e => ?_) es s ([], [])
  exact y.1.updates_updateElem a k x e.1 e.2.1 e.2.2 p plan

theorem State.updates_updateTensor (s : State) (p : Nat) (pl : Plan) (st : Step) (a : Adapter) (k : Scalars) (x : Part) (tensor plan : Nat) :
    s.updates (s.updateTensor p pl st a k x tensor).1 p plan [] [] := by
  refine State.updates_foldl_fst (fun y es => ?_) _ s (0, 0)
  exact y.1.updates_updateRun a k x es p plan

theorem State.updates_chargeRead (s : State) (p a n plan : Nat) : s.updates (s.chargeRead p a n) p plan [] [] := s.updates_charge p plan _

theorem State.updates_chargeWrite (s : State) (p a n plan : Nat) : s.updates (s.chargeWrite p a n) p plan [] [] := s.updates_charge p plan _

theorem State.updates_applyTensor (s : State) (p : Nat) (pl : Plan) (st : Step) (a : Adapter) (k : Scalars) (x : Part) (tensor : Nat) :
    s.updates (s.applyTensor p pl st a k x tensor) p pl.handle [] [] := by
  unfold State.applyTensor
  refine .next ?_ (State.updates_updStep _ p _ (fun _ => rfl) (fun _ => (List.append_nil _).symm) (fun _ => (List.append_nil _).symm))
  refine .next ?_ (State.updates_updAdapter _ p _ a.handle _)
  refine .next ?_ (State.updates_chargeWrite _ p _ _ _)
  exact (s.updates_updateTensor p pl st a k x tensor pl.handle).next (State.updates_chargeRead _ p _ _ _)

theorem State.updates_keepLines (s : State) (p : Nat) (pl : Plan) (b : Binding) (a : Adapter) (x : Partner) (plan : Nat) :
    s.updates (s.keepLines p pl b a x) p plan [] [] := by
  unfold State.keepLines
  refine .ite ?_ (.refl s p plan)
  refine .next ?_ (State.updates_chargeWrite _ p _ _ plan)
  refine .next ?_ (State.updates_chargeRead _ p _ _ plan)
  exact (s.updates_updMem _ p plan).next (State.updates_updPlot _ p (fun q => Plot.updates.refl q plan))

theorem State.updates_keepMarked (s : State) (p : Nat) (pl : Plan) (b : Binding) (a : Adapter) (plan : Nat) :
    s.updates (s.keepMarked p pl b a) p plan [] [] := by
  unfold State.keepMarked
  refine State.updates_foldl (fun t e => ?_) _ s
  exact t.updates_keepLines p pl b a e.2 plan

theorem State.updates_applyAdapter (s : State) (p : Nat) (pl : Plan) (st : Step) (a : Adapter) (b : Binding) :
    s.updates (s.applyAdapter p pl st a b) p pl.handle [] [] := by
  unfold State.applyAdapter
  refine .next ?_ (State.updates_updMem _ _ p pl.handle)
  refine (s.updates_keepMarked p pl b a pl.handle).next (State.updates_foldl (fun t x => ?_) _ _)
  exact t.updates_applyTensor p pl st a _ x.2 x.1

/-! ### One adapter of a step (R191, R194) -/

/-- A step that skips an adapter. -/
def Step.skipping (x st : Step) (h updates : Nat) : Step :=
  { x with skipped := x.skipped ++ [h], events := x.events ++ [st.skipEvent h updates] }

section Adapters

variable {s : State} {p h : Nat} {pl : Plan} {st : Step} {skip : List Nat} {a : Adapter} {b : Binding}

theorem State.stepAdapter_skips (ha : (s.plot p).adapters.find h = some a) (hb : (s.plot p).binding = some b)
    (hskip : skip.contains h = true) : State.stepAdapter p pl st skip s h =
      (s.updAdapter p h (fun a => { a with skipped := a.skipped + 1 })).updStep p pl.handle (·.skipping st h (s.paramNat a 0)) := by
  simp only [State.stepAdapter, ha, hb, hskip, if_true]
  rfl

theorem State.updates_stepAdapter_skips (ha : (s.plot p).adapters.find h = some a) (hb : (s.plot p).binding = some b)
    (hskip : skip.contains h = true) : s.updates (State.stepAdapter p pl st skip s h) p pl.handle [] [h] := by
  rw [State.stepAdapter_skips ha hb hskip]
  exact (s.updates_updAdapter p _ h _).trans
    (State.updates_updStep _ p _ (fun _ => rfl) (fun _ => (List.append_nil _).symm) (fun _ => rfl))

/-- An adapter that is not skipped is noted as updated, whether its state lets it take the update or not. -/
theorem State.updates_stepAdapter_updates (ha : (s.plot p).adapters.find h = some a) (hb : (s.plot p).binding = some b)
    (hrun : ((s.plot p).marksOf pl.handle).isSome) (hskip : skip.contains h = false) :
    s.updates (State.stepAdapter p pl st skip s h) p pl.handle [h] [] := by
  simp only [State.stepAdapter, ha, hb, hskip, Bool.false_eq_true, if_false]
  have hpoison : s.updates (if s.recordBad a b = true then s.recordPoison p h else s) p pl.handle [] [] :=
    .ite (State.updates_recordPoison hrun h) (.refl s p _)
  refine .next ?_ (State.updates_updStep _ p _ (fun _ => rfl) (fun _ => rfl) (fun _ => (List.append_nil _).symm))
  exact hpoison.next (.ite (.refl _ p _) (State.updates_applyAdapter _ p pl st a b))

end Adapters

/-! ### The adapters of a step in their order (R195) -/

theorem insertBy_perm {α : Type} (before : α → α → Bool) (a : α) (l : List α) : (insertBy before a l).Perm (a :: l) := by
  induction l with
  | nil => exact .refl _
  | cons b l ih =>
    unfold insertBy
    split
    · exact .refl _
    · exact (ih.cons b).trans (.swap a b l)

theorem sortBy_perm {α : Type} (before : α → α → Bool) (l : List α) : (sortBy before l).Perm l := by
  induction l with
  | nil => exact .refl _
  | cons a l ih => exact (insertBy_perm before a _).trans (ih.cons a)

/-- Each adapter of a list is noted once: as skipped when the skip set holds it, as updated when not. -/
theorem State.updates_stepAdapters {p : Nat} {pl : Plan} (st : Step) (skip : List Nat) {l : List Nat} {s : State}
    (hfind : ∀ h ∈ l, ((s.plot p).adapters.find h).isSome) (hbind : (s.plot p).binding.isSome)
    (hrun : ((s.plot p).marksOf pl.handle).isSome) :
    s.updates (l.foldl (State.stepAdapter p pl st skip) s) p pl.handle (l.filter (!skip.contains ·)) (l.filter (skip.contains ·)) := by
  induction l generalizing s with
  | nil => exact .refl s p _
  | cons h l ih =>
    obtain ⟨a, ha⟩ := Option.isSome_iff_exists.1 (hfind h (by simp))
    obtain ⟨b, hb⟩ := Option.isSome_iff_exists.1 hbind
    have hstep : s.updates (State.stepAdapter p pl st skip s h) p pl.handle ([h].filter (!skip.contains ·)) ([h].filter (skip.contains ·)) := by
      cases hskip : skip.contains h with
      | true => simpa only [List.filter, hskip, Bool.not_true, Bool.not_false] using State.updates_stepAdapter_skips ha hb hskip
      | false => simpa only [List.filter, hskip, Bool.not_true, Bool.not_false] using State.updates_stepAdapter_updates ha hb hrun hskip
    have hrest := ih (fun i hi => (hstep.found i).trans (hfind i (by simp [hi]))) (by rw [hstep.bound, hbind]) (hstep.marked hrun)
    rw [← List.singleton_append, List.filter_append, List.filter_append]
    exact hstep.trans hrest

/-! ### OPTIMISER_UPDATE -/

section Update

variable {s : State} {p plan : Nat} {st : Step} {pl : Plan} {skip : List Nat}

theorem exec_optimiserUpdate_runs (hst : (s.plot p).runOf plan = some st) (hpl : (s.plot p).plans.find plan = some pl)
    (hskip : st.skipSet = some skip) (hwork : pl.header.workload = 0) (hlanded : st.landed = true) (hstop : st.stopped = false)
    (hu : st.updated = []) (hk : st.skipped = []) : exec (.optimiserUpdate p plan) s =
      .next ((sortBy (fun a b => decide (a < b)) pl.adapters).foldl (State.stepAdapter p pl st skip) s) := by
  simp [exec_optimiserUpdate_eq, execOptimiserUpdate, hst, hpl, hskip, hwork, hlanded, hstop, hu, hk]

/-- Every adapter of the plan is noted, and no other: those of the skip set as skipped, the rest as updated. -/
theorem optimiserUpdate_marks (hexec : exec (.optimiserUpdate p plan) s =
      .next ((sortBy (fun a b => decide (a < b)) pl.adapters).foldl (State.stepAdapter p pl st skip) s))
    (hst : (s.plot p).runOf plan = some st) (hh : pl.handle = plan) (hu : st.updated = []) (hk : st.skipped = [])
    (hbind : (s.plot p).binding ≠ none) (hfind : ∀ h ∈ pl.adapters, (s.plot p).adapters.find h ≠ none) :
    ∃ t x, exec (.optimiserUpdate p plan) s = .next t ∧ (t.plot p).runOf plan = some x ∧
      (∀ h, h ∈ x.updated ↔ h ∈ pl.adapters ∧ h ∉ skip) ∧ (∀ h, h ∈ x.skipped ↔ h ∈ pl.adapters ∧ h ∈ skip) ∧
      s.otherPlots t p ∧ s.keepsBut t [.mem, .plots, .bothy, .orangery] := by
  subst hh
  have hmem (h : Nat) : h ∈ sortBy (fun a b => decide (a < b)) pl.adapters ↔ h ∈ pl.adapters := (sortBy_perm _ _).mem_iff
  have hmarks : (s.plot p).marksOf pl.handle = some ([], []) := by simp [Plot.marksOf, hst, hu, hk]
  obtain ⟨hother, hkeeps, -, -, hnoted⟩ := State.updates_stepAdapters st skip
    (fun h hh => Option.isSome_iff_ne_none.2 (hfind h ((hmem h).1 hh))) (Option.isSome_iff_ne_none.2 hbind)
    (Option.isSome_of_eq_some hmarks)
  obtain ⟨x, hx, hpair⟩ := Option.map_eq_some_iff.1 (hnoted.trans (congrArg _ hmarks))
  obtain ⟨hupdated, hskipped⟩ := Prod.mk.inj hpair
  refine ⟨_, x, hexec, hx, fun h => ?_, fun h => ?_, hother, hkeeps⟩
  · simp [hupdated, hmem]
  · simp [hskipped, hmem]

end Update

/-- The event of a skipped adapter names it, and is of kind 1 or 2 (R191). -/
theorem Step.skipEvent_spec (st : Step) (h updates : Nat) :
    (st.skipEvent h updates).adapter = h ∧ ((st.skipEvent h updates).kind = 1 ∨ (st.skipEvent h updates).kind = 2) := by
  refine ⟨rfl, ?_⟩
  simp only [Step.skipEvent, belEvent]
  split <;> simp

/-- Settles O22: BELVEDERE_CFG by its three answers, OPTIMISER_UPDATE by its fold over the plan's adapters, whose every step
notes one adapter (`State.updates`). -/
theorem updatesAndBelvedere : Obligations.UpdatesAndBelvedere := by
  refine ⟨?cfg, ?query, ?update, ?skip⟩
  case cfg =>
    intro s p r h hset
    exact ⟨fun hb => ⟨_, exec_belvedereCfg_sets h hset hb, State.withBel_ok_spec r _ h.1⟩,
      fun hb => ⟨_, exec_belvedereCfg_refuses h hset hb, State.refuse_spec r _ h.1⟩⟩
  case query =>
    intro s p r h hquery
    exact ⟨_, exec_belvedereCfgQuery_shows h hquery, State.okAtOnce_spec r _ h.1⟩
  case update =>
    intro s p plan st pl skip hst hpl hh hskip hwork hlanded hstop hu hk hbind hfind
    obtain ⟨t, x, hexec, hx, hupdated, hskipped, hother, hkeeps⟩ := optimiserUpdate_marks
      (exec_optimiserUpdate_runs hst hpl hskip hwork hlanded hstop hu hk) hst hh hu hk hbind hfind
    refine ⟨t, x, hexec, hx, fun h hmem => ⟨fun hin => (hskipped h).2 ⟨hmem, hin⟩, fun hout => (hupdated h).2 ⟨hmem, hout⟩⟩,
      fun h hnoted => ?_, hother, hkeeps⟩
    rcases hnoted with hnoted | hnoted
    · exact ((hskipped h).1 hnoted).1
    · exact ((hupdated h).1 hnoted).1
  case skip =>
    intro s p plan h st pl a hst hpl hh hskip hwork hlanded hstop hu hk hbind hads ha
    subst hh
    obtain ⟨b, hb⟩ := Option.ne_none_iff_exists'.1 hbind
    have hexec := exec_optimiserUpdate_runs hst hpl hskip hwork hlanded hstop hu hk
    rw [hads, show sortBy (fun a b => decide (a < b)) [h] = [h] from rfl, List.foldl_cons, List.foldl_nil,
      State.stepAdapter_skips ha hb (by simp)] at hexec
    refine ⟨_, hexec, ?_, ⟨st.skipping st h (s.paramNat a 0), st.skipEvent h (s.paramNat a 0), ?_, rfl, st.skipEvent_spec h _⟩, ?_, ?_⟩
    · rw [State.updStep, State.plot_updPlot_self, State.plot_updAdapter ha]
      exact NMap.find_set_self _ _ _
    · rw [State.runOf_updStep _ _ _ (f := (·.skipping st h (s.paramNat a 0))) (fun _ => rfl), State.plot_updAdapter ha]
      exact congrArg (Option.map _) hst
    · exact (s.otherPlots_updPlot p _).trans (State.otherPlots_updPlot _ p _)
    · exact (s.keepsBut_updPlot p _).trans (State.keepsBut_updPlot _ p _)

end Sys2Proof.Machine

/-! The checks of the Cascade inside the module (O55): the transfers that CRC-32C guards and the sums that residues guard. -/

namespace Sys2Proof.Machine

/-! ### Retries (R214) -/

theorem passes_eq_some {holds : List (Nat × Nat) → Bool} {ups : Upsets} {n : Nat} :
    passes holds ups = some n ↔ n ≤ 3 ∧ holds (ups.getD n []) = true ∧ ∀ k < n, holds (ups.getD k []) = false := by
  simp only [passes, maxRetries, List.find?_range_eq_some, List.mem_range, Bool.not_eq_true', Nat.lt_succ_iff]
  tauto

theorem passes_eq_none {holds : List (Nat × Nat) → Bool} {ups : Upsets} :
    passes holds ups = none ↔ ∀ k < 4, holds (ups.getD k []) = false := by
  simp [passes, maxRetries]

/-- Words whose first transfer fails and whose retry is undisturbed pass at the retry. -/
theorem passes_second {holds : List (Nat × Nat) → Bool} {h : List (Nat × Nat)} (hbad : holds h = false) (hgood : holds [] = true) :
    passes holds [h] = some 1 := by
  refine passes_eq_some.2 ⟨by decide, hgood, fun k hk => ?_⟩
  obtain rfl := Nat.lt_one_iff.1 hk
  exact hbad

/-! ### CRC-32C tells two byte strings apart that differ in one byte (R215) -/

theorem crcBit_lt {c : Nat} (h : c < 2 ^ 32) : crcBit c < 2 ^ 32 := by
  unfold crcBit
  split
  · exact Nat.xor_lt_two_pow (by omega) (by decide)
  · omega

/-- The bit that is shifted out shows in bit 31 of the result, so a step of the CRC can be undone. -/
theorem testBit_crcBit {c : Nat} (h : c < 2 ^ 32) : (crcBit c).testBit 31 = decide (c % 2 = 1) := by
  have hhalf : (c / 2).testBit 31 = false := Nat.testBit_lt_two_pow (by omega)
  unfold crcBit
  split
  · next hodd => rw [Nat.testBit_xor, hhalf, decide_eq_true hodd]; decide
  · next heven => rw [hhalf, decide_eq_false heven]

theorem crcBit_inj {c d : Nat} (hc : c < 2 ^ 32) (hd : d < 2 ^ 32) (h : crcBit c = crcBit d) : c = d := by
  have hodd : c % 2 = 1 ↔ d % 2 = 1 := by
    have := testBit_crcBit hc
    rwa [h, testBit_crcBit hd, decide_eq_decide, Iff.comm] at this
  have hhalf : c / 2 = d / 2 := by
    by_cases hcd : c % 2 = 1
    · rw [crcBit, crcBit, if_pos hcd, if_pos (hodd.1 hcd)] at h
      exact Nat.xor_left_injective h
    · rwa [crcBit, crcBit, if_neg hcd, if_neg (mt hodd.2 hcd)] at h
  omega

/-- Eight steps of the CRC keep its 32 bits, and can be undone. -/
theorem foldl_crcBit_inj (l : List Nat) {c d : Nat} (hc : c < 2 ^ 32) (hd : d < 2 ^ 32) :
    l.foldl (fun c _ => crcBit c) c < 2 ^ 32 ∧
    (l.foldl (fun c _ => crcBit c) c = l.foldl (fun c _ => crcBit c) d → c = d) := by
  induction l generalizing c d with
  | nil => exact ⟨hc, id⟩
  | cons _ l ih =>
    obtain ⟨hlt, hinj⟩ := ih (crcBit_lt hc) (crcBit_lt hd)
    exact ⟨hlt, fun h => crcBit_inj hc hd (hinj h)⟩

theorem xor_byte_lt {c : Nat} (h : c < 2 ^ 32) (b : Byte) : c ^^^ b.toNat < 2 ^ 32 :=
  Nat.xor_lt_two_pow h (lt_trans b.isLt (by decide))

theorem crcByte_lt {c : Nat} (h : c < 2 ^ 32) (b : Byte) : crcByte c b < 2 ^ 32 :=
  (foldl_crcBit_inj _ (xor_byte_lt h b) (xor_byte_lt h b)).1

theorem crcByte_inj_left {c d : Nat} (hc : c < 2 ^ 32) (hd : d < 2 ^ 32) {b : Byte} (h : crcByte c b = crcByte d b) : c = d :=
  Nat.xor_left_injective ((foldl_crcBit_inj _ (xor_byte_lt hc b) (xor_byte_lt hd b)).2 h)

theorem crcByte_inj_right {c : Nat} (hc : c < 2 ^ 32) {a b : Byte} (h : crcByte c a = crcByte c b) : a = b :=
  BitVec.eq_of_toNat_eq (Nat.xor_right_injective ((foldl_crcBit_inj _ (xor_byte_lt hc a) (xor_byte_lt hc b)).2 h))

theorem foldl_crcByte_lt (l : Bytes) {c : Nat} (h : c < 2 ^ 32) : l.foldl crcByte c < 2 ^ 32 :=
  List.foldlRecOn (motive := (· < 2 ^ 32)) l crcByte h (fun _ hc b _ => crcByte_lt hc b)

theorem foldl_crcByte_inj (l : Bytes) {c d : Nat} (hc : c < 2 ^ 32) (hd : d < 2 ^ 32) (h : l.foldl crcByte c = l.foldl crcByte d) :
    c = d := by
  induction l generalizing c d with
  | nil => exact h
  | cons b l ih => exact crcByte_inj_left hc hd (ih (crcByte_lt hc b) (crcByte_lt hd b) h)

/-- The CRC changes with any one byte of a string. -/
theorem crc32c_set_ne {bs : Bytes} {i : Nat} (hi : i < bs.length) {b : Byte} (hb : b ≠ bs[i]) : crc32c (bs.set i b) ≠ crc32c bs := by
  have hfront : (bs.take i).foldl crcByte 0xFFFFFFFF < 2 ^ 32 := foldl_crcByte_lt _ (by decide)
  intro h
  have hfold := Nat.xor_left_injective h
  rw [List.set_eq_take_append_cons_drop, if_pos hi] at hfold
  nth_rw 3 [← List.take_append_drop i bs] at hfold
  rw [List.drop_eq_getElem_cons hi, List.foldl_append, List.foldl_append, List.foldl_cons, List.foldl_cons] at hfold
  exact hb (crcByte_inj_right hfront (foldl_crcByte_inj _ (crcByte_lt hfront b) (crcByte_lt hfront _) hfold))

/-! ### The bytes of a tile's words -/

/-- Byte `i` of a tile's words. -/
def wordByte (ws : NMap W64) (i : Nat) : Byte := (natLE 8 (ws.get 0 (i / 8)).toNat).getD (i % 8) 0

/-- Rows of equal length stand one after the other. -/
theorem flatten_rows {α : Type} (f : Nat → α) (n m : Nat) :
    ((List.range n).map (fun a => (List.range m).map (fun b => f (m * a + b)))).flatten = (List.range (m * n)).map f := by
  induction n with
  | zero => simp
  | succ n ih =>
    rw [List.range_succ, List.map_append, List.flatten_append, ih, Nat.mul_succ, List.range_add, List.map_append, List.map_map]
    simp [Function.comp_def]

theorem natLE_word_eq (ws : NMap W64) (k : Nat) :
    natLE 8 (ws.get 0 k).toNat = (List.range 8).map (fun b => wordByte ws (8 * k + b)) := by
  refine List.ext_getElem (by simp [natLE_length]) (fun b hb _ => ?_)
  rw [natLE_length] at hb
  simp [wordByte, Nat.mul_add_div, Nat.div_eq_of_lt hb, Nat.mod_eq_of_lt hb, natLE_length, hb]

theorem tileBytes_eq (ws : NMap W64) : tileBytes ws = (List.range 65536).map (wordByte ws) := by
  have hframe (i : Nat) : wordPayload ws i = (List.range 4096).map (fun b => wordByte ws (4096 * i + b)) := by
    rw [wordPayload, ← flatten_rows (fun b => wordByte ws (4096 * i + b)) 512 8]
    simp only [natLE_word_eq, Nat.mul_add, ← Nat.mul_assoc, Nat.add_assoc]
  have hrows := flatten_rows (wordByte ws) 16 4096
  rw [tileBytes, funext hframe]
  exact hrows

/-- Bit `j` of byte `b` of a little-endian word. -/
theorem getLsbD_natLE {n b j : Nat} (hb : b < n) (hj : j < 8) (v : Nat) :
    ((natLE n v).getD b 0).getLsbD j = v.testBit (8 * b + j) := by
  have hbit := bitAt_natLE n v (8 * b + j) (by omega)
  rwa [bitAt_add, bitAt, Nat.div_eq_of_lt hj, Nat.mod_eq_of_lt hj] at hbit

/-- A change of one byte of a word changes that byte alone. -/
theorem natLE_xor_byte (w : W64) {a b : Nat} (ha : a < 8) (hb : b < 8) (change : Nat) :
    (natLE 8 (w ^^^ BitVec.ofNat 64 (change % 256 * 2 ^ (8 * a))).toNat).getD b 0 =
      (natLE 8 w.toNat).getD b 0 ^^^ (if b = a then BitVec.ofNat 8 change else 0) := by
  refine BitVec.eq_of_getLsbD_eq (fun j hj => ?_)
  rw [BitVec.getLsbD_xor, getLsbD_natLE hb hj, getLsbD_natLE hb hj, BitVec.toNat_xor, Nat.testBit_xor, BitVec.toNat_ofNat,
    Nat.testBit_mod_two_pow, Nat.testBit_mul_two_pow, show 256 = 2 ^ 8 from rfl, Nat.testBit_mod_two_pow,
    decide_eq_true (show 8 * b + j < 64 by omega), Bool.true_and]
  congr 1
  split
  · next h =>
    subst h
    rw [BitVec.getLsbD_ofNat, Nat.add_sub_cancel_left, decide_eq_true (Nat.le_add_right _ _), Bool.true_and]
  · next h =>
    have houtside : ¬ (8 * a ≤ 8 * b + j ∧ 8 * b + j - 8 * a < 8) := by omega
    rw [show (0 : Byte).getLsbD j = false from BitVec.getLsbD_zero]
    grind

/-- A change of one byte changes that byte of the tile alone. -/
theorem wordByte_hitBytes (ws : NMap W64) {byte : Nat} (hb : byte < 65536) (change i : Nat) :
    wordByte (hitBytes ws [(byte, change)]) i = wordByte ws i ^^^ (if i = byte then BitVec.ofNat 8 change else 0) := by
  have hhit : hitBytes ws [(byte, change)] = ws.modify 0 (byte / 8) (· ^^^ BitVec.ofNat 64 (change % 256 * 2 ^ (8 * (byte % 8)))) :=
    if_pos hb
  rw [wordByte, wordByte, hhit]
  by_cases hword : i / 8 = byte / 8
  · rw [hword, NMap.get_modify_self, natLE_xor_byte _ (Nat.mod_lt _ (by decide)) (Nat.mod_lt _ (by decide))]
    congr 2
    exact propext (by omega)
  · rw [NMap.get_modify_ne _ _ _ _ _ hword, if_neg (fun h => hword (by rw [h]))]
    exact (BitVec.xor_zero).symm

theorem map_range_set {α : Type} {f g : Nat → α} {i : Nat} {v : α} (n : Nat) (hi : g i = v) (h : ∀ k, k ≠ i → g k = f k) :
    (List.range n).map g = ((List.range n).map f).set i v := by
  refine List.ext_getElem (by simp) (fun k _ _ => ?_)
  rw [List.getElem_set, List.getElem_map, List.getElem_map, List.getElem_range]
  by_cases hk : k = i
  · rw [if_pos hk.symm, hk, hi]
  · rw [if_neg (Ne.symm hk), h k hk]

theorem tileBytes_hitBytes (ws : NMap W64) {byte : Nat} (hb : byte < 65536) (change : Nat) :
    tileBytes (hitBytes ws [(byte, change)]) = (tileBytes ws).set byte (wordByte ws byte ^^^ BitVec.ofNat 8 change) := by
  rw [tileBytes_eq, tileBytes_eq]
  refine map_range_set _ ?_ (fun k hk => ?_)
  · rw [wordByte_hitBytes ws hb, if_pos rfl]
  · rw [wordByte_hitBytes ws hb, if_neg hk]
    exact BitVec.xor_zero

/-- The CRC catches a change of one byte of a tile (R215). -/
theorem crc32c_hitBytes_ne (ws : NMap W64) {byte change : Nat} (hb : byte < 65536) (hc : change % 256 ≠ 0) :
    crc32c (tileBytes (hitBytes ws [(byte, change)])) ≠ crc32c (tileBytes ws) := by
  have hlen : byte < (tileBytes ws).length := by
    rw [tileBytes_eq, List.length_map, List.length_range]
    exact hb
  rw [tileBytes_hitBytes ws hb]
  refine crc32c_set_ne hlen (fun heq => hc ?_)
  have hbyte : (tileBytes ws)[byte] = wordByte ws byte := by
    simp only [tileBytes_eq, List.getElem_map, List.getElem_range]
  have hzero : BitVec.ofNat 8 change = 0 := by
    rw [hbyte] at heq
    simpa using heq
  simpa using congrArg BitVec.toNat hzero

/-! ### A transfer (R215) -/

/-- What the CRC's check of an attempt says. -/
theorem crcHolds_iff (ws : NMap W64) (h : List (Nat × Nat)) :
    (h.isEmpty || crc32c (tileBytes (hitBytes ws h)) == crc32c (tileBytes ws)) = true ↔
      crc32c (tileBytes (hitBytes ws h)) = crc32c (tileBytes ws) := by
  cases h with
  | nil => simp [hitBytes]
  | cons x h => simp

theorem crcTransfer_some {ws d : NMap W64} {ups : Upsets} {n : Nat} (h : crcTransfer ws ups = some (d, n)) :
    n ≤ 3 ∧ d = hitBytes ws (ups.getD n []) ∧ crc32c (tileBytes d) = crc32c (tileBytes ws) ∧
    ∀ k < n, crc32c (tileBytes (hitBytes ws (ups.getD k []))) ≠ crc32c (tileBytes ws) := by
  obtain ⟨k, hk, heq⟩ := Option.map_eq_some_iff.1 h
  obtain ⟨rfl, rfl⟩ := Prod.mk.inj heq
  obtain ⟨hle, hgood, hbad⟩ := passes_eq_some.1 hk
  exact ⟨hle, rfl, (crcHolds_iff ws _).1 hgood, fun j hj => mt (crcHolds_iff ws _).2 (Bool.eq_false_iff.1 (hbad j hj))⟩

theorem crcTransfer_none (ws : NMap W64) (ups : Upsets) : crcTransfer ws ups = none ↔
    ∀ k < 4, crc32c (tileBytes (hitBytes ws (ups.getD k []))) ≠ crc32c (tileBytes ws) := by
  rw [crcTransfer, Option.map_eq_none_iff, passes_eq_none]
  exact forall₂_congr (fun k _ => by rw [← Bool.not_eq_true, crcHolds_iff])

theorem crcTransfer_byte (ws : NMap W64) {byte change : Nat} (hb : byte < 65536) (hc : change % 256 ≠ 0) :
    crcTransfer ws [[(byte, change)]] = some (ws, 1) := by
  have hbad := mt (crcHolds_iff ws [(byte, change)]).1 (crc32c_hitBytes_ne ws hb hc)
  rw [crcTransfer, passes_second (Bool.eq_false_iff.2 hbad) rfl]
  rfl

/-! ### Residues of lines (R216) -/

theorem sum_range_change {f g : Nat → Int} {j : Nat} (h : ∀ k, k ≠ j → g k = f k) (n : Nat) :
    ((List.range n).map g).sum = ((List.range n).map f).sum + (if j < n then g j - f j else 0) := by
  induction n with
  | zero => simp
  | succ n ih =>
    rw [List.range_succ, List.map_append, List.map_append, List.sum_append, List.sum_append, ih]
    simp only [List.map_cons, List.map_nil, List.sum_singleton]
    by_cases hj : n = j
    · subst hj
      simp
    · rw [h n hj]
      split_ifs <;> omega

/-- A number with one bit changed is that bit's weight away. -/
theorem xor_bit_cases (n bit : Nat) : n ^^^ 2 ^ bit = n + 2 ^ bit ∨ (n ^^^ 2 ^ bit) + 2 ^ bit = n := by
  have hpos : 0 < 2 ^ bit := by positivity
  have hdiv : (n ^^^ 2 ^ bit) / 2 ^ bit = n / 2 ^ bit ^^^ 1 := by rw [Nat.xor_div_two_pow, Nat.div_self hpos]
  have hmod : (n ^^^ 2 ^ bit) % 2 ^ bit = n % 2 ^ bit := by rw [Nat.xor_mod_two_pow, Nat.mod_self, Nat.xor_zero]
  have hold := Nat.div_add_mod n (2 ^ bit)
  have hnew := Nat.div_add_mod (n ^^^ 2 ^ bit) (2 ^ bit)
  rw [hdiv, hmod] at hnew
  rcases Nat.even_or_odd (n / 2 ^ bit) with heven | hodd
  · rw [Nat.xor_one_of_even heven, Nat.mul_succ] at hnew
    omega
  · obtain ⟨q, hq⟩ := Nat.exists_eq_succ_of_ne_zero hodd.pos.ne'
    rw [Nat.xor_one_of_odd hodd, hq, Nat.succ_sub_one] at hnew
    rw [hq, Nat.mul_succ] at hold
    omega

/-- A word with one bit changed is worth that bit's weight more or less, as a signed integer. -/
theorem natAbs_toInt_xor_bit (w : W64) {bit : Nat} (h : bit < 64) :
    ((w ^^^ BitVec.ofNat 64 (2 ^ bit)).toInt - w.toInt).natAbs = 2 ^ bit := by
  have hnat : (w ^^^ BitVec.ofNat 64 (2 ^ bit)).toNat = w.toNat ^^^ 2 ^ bit := by
    rw [BitVec.toNat_xor, BitVec.toNat_ofNat, Nat.mod_eq_of_lt (Nat.pow_lt_pow_right (by decide) h)]
  have hcases := xor_bit_cases w.toNat bit
  have hlt := w.isLt
  have hlt' := (w ^^^ BitVec.ofNat 64 (2 ^ bit)).isLt
  rw [BitVec.toInt_eq_toNat_cond, BitVec.toInt_eq_toNat_cond, hnat] at *
  rcases Nat.lt_or_ge bit 63 with hbit | hbit
  · have htop : (w.toNat ^^^ 2 ^ bit) / 2 ^ 63 = w.toNat / 2 ^ 63 := by
      rw [Nat.xor_div_two_pow, Nat.div_eq_of_lt (Nat.pow_lt_pow_right (by decide) hbit), Nat.xor_zero]
    generalize 2 ^ bit = weight at *
    split_ifs <;> omega
  · obtain rfl : bit = 63 := by omega
    omega

theorem residueOf_lineWords (ws : NMap W64) (i l : Nat) : residueOf (lineWords ws i l) =
    (((List.range 8).map (fun k => (ws.get 0 (512 * i + 8 * l + k)).toInt)).sum % 65535).toNat := by
  simp only [residueOf, lineWords, List.map_map, Function.comp_def]

/-- The residue of a line catches a change of one bit (R216). -/
theorem residueOf_hitWords_ne (ws : NMap W64) {word bit : Nat} (hw : word < 8192) (hb : bit < 64) :
    residueOf (lineWords (hitWords ws [(word, 2 ^ bit)]) (word / 512) (word % 512 / 8)) ≠
      residueOf (lineWords ws (word / 512) (word % 512 / 8)) := by
  have hhit : hitWords ws [(word, 2 ^ bit)] = ws.modify 0 word (· ^^^ BitVec.ofNat 64 (2 ^ bit)) := if_pos hw
  have hplace : 512 * (word / 512) + 8 * (word % 512 / 8) + word % 8 = word := by omega
  have hdiff := natAbs_toInt_xor_bit (ws.get 0 word) hb
  rw [residueOf_lineWords, residueOf_lineWords, sum_range_change (j := word % 8) (n := 8) (fun k hk => ?other), if_pos (by omega)]
  case other =>
    rw [hhit, NMap.get_modify_ne _ _ _ _ _ (fun h => hk (by omega))]
  simp only [hplace, hhit, NMap.get_modify_self]
  intro heq
  have hdvd : (65535 : Int) ∣ (ws.get 0 word ^^^ BitVec.ofNat 64 (2 ^ bit)).toInt - (ws.get 0 word).toInt := by omega
  have hnat : 65535 ∣ 2 ^ bit := by
    rw [← hdiff]
    exact Int.natCast_dvd.1 hdvd
  have hone := (Nat.Coprime.pow_right bit (by decide : Nat.Coprime 65535 2)).eq_one_of_dvd hnat
  exact absurd hone (by decide)

theorem residuesOf_hitWords_ne (ws : NMap W64) {word bit : Nat} (hw : word < 8192) (hb : bit < 64) :
    residuesOf (hitWords ws [(word, 2 ^ bit)]) (word / 512) ≠ residuesOf ws (word / 512) := fun h =>
  residueOf_hitWords_ne ws hw hb (List.map_inj_left.1 h (word % 512 / 8) (List.mem_range.2 (by omega)))

/-! ### An addition (R216, R217) -/

/-- What the residues' check of an attempt says, when the inputs carry the residues of the sum. -/
theorem linesAgree_iff {ws : NMap W64} {carried : Nat → List Nat} (hcarried : ∀ i < 16, carried i = residuesOf ws i)
    (h : List (Nat × Nat)) : (List.range tileFrames).all (fun i => residuesOf (hitWords ws h) i == carried i) = true ↔
      ∀ i < 16, residuesOf (hitWords ws h) i = residuesOf ws i := by
  simp only [List.all_eq_true, List.mem_range, beq_iff_eq, tileFrames]
  exact forall₂_congr (fun i hi => by rw [hcarried i hi])

/-- An addition that one changed bit disturbs in its first attempt, or in all of them. -/
theorem checkedSum_bit {ws : NMap W64} {carried : Nat → List Nat} {word bit : Nat} (hw : word < 8192) (hb : bit < 64)
    (hcarried : ∀ i < 16, carried i = residuesOf ws i) :
    checkedSum ws carried [] = some (ws, 0) ∧ checkedSum ws carried [[(word, 2 ^ bit)]] = some (ws, 1) ∧
    checkedSum ws carried (List.replicate 4 [(word, 2 ^ bit)]) = none := by
  have hgood := (linesAgree_iff hcarried []).2 (fun _ _ => rfl)
  have hbad := Bool.eq_false_iff.2 (fun h =>
    residuesOf_hitWords_ne ws hw hb ((linesAgree_iff hcarried [(word, 2 ^ bit)]).1 h (word / 512) (by omega)))
  refine ⟨?_, ?_, ?_⟩
  · rw [checkedSum, passes_eq_some.2 ⟨Nat.zero_le 3, hgood, fun k hk => absurd hk (Nat.not_lt_zero k)⟩]
    rfl
  · rw [checkedSum, passes_second hbad hgood]
    rfl
  · rw [checkedSum, passes_eq_none.2 (fun k hk => ?_)]
    · rfl
    · rw [List.getD_replicate _ hk]
      exact hbad

/-! ### The residues that an adder carries (R216) -/

theorem residueOf_addWords {a b : NMap W64} (hb : (b.map (·.1)).Nodup)
    (hrange : ∀ k, -(2 ^ 63 : Int) ≤ (a.get 0 k).toInt + (b.get 0 k).toInt ∧ (a.get 0 k).toInt + (b.get 0 k).toInt < 2 ^ 63) (i l : Nat) :
    residueOf (lineWords (addWords a b) i l) = (residueOf (lineWords a i l) + residueOf (lineWords b i l)) % 65535 := by
  have hword (k : Nat) : ((addWords a b).get 0 k).toInt = (a.get 0 k).toInt + (b.get 0 k).toInt := by
    obtain ⟨hlow, hhigh⟩ := hrange k
    rw [get_addWords a hb, BitVec.toInt_add, Int.bmod_eq_of_le (by omega) (by omega)]
  simp only [residueOf_lineWords, hword, List.sum_map_add]
  omega

theorem residuesOf_addWords {a b : NMap W64} (hb : (b.map (·.1)).Nodup)
    (hrange : ∀ k, -(2 ^ 63 : Int) ≤ (a.get 0 k).toInt + (b.get 0 k).toInt ∧ (a.get 0 k).toInt + (b.get 0 k).toInt < 2 ^ 63) (i : Nat) :
    residuesOf (addWords a b) i = addResidues (residuesOf a i) (residuesOf b i) := by
  simp only [residuesOf, addResidues, List.zip_map', List.map_map, Function.comp_def, residueOf_addWords hb hrange]

/-- Settles O55: a step of the CRC can be undone, so one changed byte shows in it; a changed bit shifts a line's sum by a power
of two, which 65,535 does not divide; and residues add as the signed words do. -/
theorem transferChecks : Obligations.TransferChecks :=
  ⟨fun _ _ _ _ h => crcTransfer_some h, crcTransfer_none, fun ws _ _ hb hc => crcTransfer_byte ws hb hc,
    fun _ _ _ _ hw hb hcarried => checkedSum_bit hw hb hcarried, fun _ _ i hb hrange => residuesOf_addWords hb hrange i⟩

end Sys2Proof.Machine

/-! What sending over the Avenue changes: a frame that is put on a port, a list of frames, and a frame of VC0. -/

namespace Sys2Proof.Machine

/-! ### The frame of a change -/

theorem State.keepsBut_updPort (s : State) (i : Nat) (f : Port → Port) : s.keepsBut (s.updPort i f) [.ports] := by
  intro x hx
  cases x <;> simp_all [State.agree]

theorem State.keepsBut_updEngine (s : State) (i : Nat) (f : Engine → Engine) : s.keepsBut (s.updEngine i f) [.engines] := by
  intro x hx
  cases x <;> simp_all [State.agree]

theorem State.otherPorts_updPort (s : State) (i : Nat) (f : Port → Port) : s.otherPorts (s.updPort i f) i :=
  fun j hj => s.port_updPort_ne i j f hj

theorem State.otherPorts.trans {s t u : State} {i : Nat} (hst : s.otherPorts t i) (htu : t.otherPorts u i) : s.otherPorts u i :=
  fun j hj => (htu j hj).trans (hst j hj)

theorem State.keepsBut.plot {s t : State} {l : List Piece} (h : s.keepsBut t l) (hl : .plots ∉ l) (p : Nat) : t.plot p = s.plot p :=
  congrArg (fun m => NMap.get Plot.init m p) (h .plots hl)

theorem State.keepsBut.port {s t : State} {l : List Piece} (h : s.keepsBut t l) (hl : .ports ∉ l) (i : Nat) : t.port i = s.port i :=
  congrArg (fun m => NMap.get Port.init m i) (h .ports hl)

/-! ### A frame on a port (R226, R227) -/

/-- Whether a port keeps what it sends until that is acknowledged. -/
def Retained.keeps (r : Retained) : Bool := match r.body with | some m => !onlyAcks m | none => true

/-- A frame as a port keeps it once it has gone. -/
def State.gone (s : State) (i : Nat) (r : Retained) : Retained :=
  { r with frame := s.stamp r.dest i r.frame r.body, sentTick := s.now }

/-- A port that has sent a frame. -/
def Port.sending (v : Port) (x : Retained) : Port :=
  { v with txSeq := v.txSeq + 1, txFrames := v.txFrames + 1, keyFrames := v.keyFrames + 1
           retention := if x.keeps then v.retention ++ [x] else v.retention }

/-- A frame that goes is stamped and kept by its port, charged to its plot unless it is of VC0, and sent. -/
theorem State.transmit_eq (s : State) (i : Nat) (r : Retained) : ∃ c, s.transmit i r =
    (if r.frame.vc = 0 then s.updPort i (·.sending (s.gone i r))
     else (s.updPort i (·.sending (s.gone i r))).charge r.plot c).emit (s.wireOf r.dest i (s.gone i r).frame r.body) := ⟨_, rfl⟩

theorem State.transmit_sent (s : State) (i : Nat) (r : Retained) :
    (s.transmit i r).sent = s.sent ++ [s.wireOf r.dest i (s.gone i r).frame r.body] := by
  obtain ⟨c, heq⟩ := s.transmit_eq i r
  rw [heq]
  split <;> rfl

theorem State.port_transmit_self (s : State) (i : Nat) (r : Retained) : (s.transmit i r).port i = (s.port i).sending (s.gone i r) := by
  obtain ⟨c, heq⟩ := s.transmit_eq i r
  rw [heq, State.port_emit]
  split
  · rw [State.port_updPort_self]
  · rw [State.port_charge, State.port_updPort_self]

theorem State.otherPorts_transmit (s : State) (i : Nat) (r : Retained) : s.otherPorts (s.transmit i r) i := by
  obtain ⟨c, heq⟩ := s.transmit_eq i r
  intro j hj
  rw [heq, State.port_emit]
  split
  · rw [State.port_updPort_ne _ _ _ _ hj]
  · rw [State.port_charge, State.port_updPort_ne _ _ _ _ hj]

theorem State.otherPlots_transmit (s : State) (i : Nat) (r : Retained) : s.otherPlots (s.transmit i r) r.plot := by
  obtain ⟨c, heq⟩ := s.transmit_eq i r
  intro q hq
  rw [heq, State.plot_emit]
  split
  · rfl
  · exact State.plot_updPlot_ne _ _ _ _ hq

/-- A frame of VC0 is charged to no plot. -/
theorem State.keepsBut_transmit_vc0 (s : State) (i : Nat) {r : Retained} (h : r.frame.vc = 0) :
    s.keepsBut (s.transmit i r) [.ports, .sent] := by
  obtain ⟨c, heq⟩ := s.transmit_eq i r
  rw [heq, if_pos h]
  exact ((s.keepsBut_updPort i _).mono (by simp)).trans ((State.keepsBut_emit _ _).mono (by simp))

theorem State.keepsBut_transmit (s : State) (i : Nat) (r : Retained) : s.keepsBut (s.transmit i r) [.plots, .ports, .sent] := by
  by_cases h : r.frame.vc = 0
  · exact (s.keepsBut_transmit_vc0 i h).mono (by simp)
  · obtain ⟨c, heq⟩ := s.transmit_eq i r
    rw [heq, if_neg h]
    exact (((s.keepsBut_updPort i _).mono (by simp)).trans ((State.keepsBut_updPlot _ _ _).mono (by simp))).trans
      ((State.keepsBut_emit _ _).mono (by simp))

/-! ### A list of frames -/

theorem State.sendFrames_spec (s : State) (p dest : Nat) (route : List Nat) (fs : List Frame) :
    (s.sendFrames p dest route fs).sent.length = s.sent.length + fs.length ∧
    s.keepsBut (s.sendFrames p dest route fs) [.plots, .ports, .sent] ∧ s.otherPlots (s.sendFrames p dest route fs) p := by
  induction fs generalizing s with
  | nil => exact ⟨rfl, .refl s _, fun _ _ => rfl⟩
  | cons f fs ih =>
    let r : Retained := { frame := f, body := none, route := route, dest := dest, plot := p, sentTick := 0, attempts := 1 }
    obtain ⟨hsent, hkeeps, hother⟩ := ih (s.transmit (portFor route f.frameIdx) r)
    refine ⟨?_, (s.keepsBut_transmit _ r).trans hkeeps, (s.otherPlots_transmit _ r).trans hother⟩
    rw [s.transmit_sent] at hsent
    simp only [List.length_append, List.length_singleton] at hsent
    rw [List.length_cons, Nat.add_comm fs.length, ← Nat.add_assoc]
    exact hsent

end Sys2Proof.Machine

/-! The relay (O56): the frames of a transfer carry the bytes of its view in order, and its batches go whole. -/

namespace Sys2Proof.Machine

/-! ### The frames of a transfer (R229) -/

/-- Pieces of one length, one after the other, are the list. -/
theorem flatten_pieces {α : Type} (l : List α) (k n : Nat) :
    ((List.range n).map (fun i => (l.drop (k * i)).take k)).flatten = l.take (k * n) := by
  induction n with
  | zero => simp
  | succ n ih =>
    rw [List.range_succ, List.map_append, List.flatten_append, ih, Nat.mul_succ, List.take_add]
    simp

/-- Frame `i` of a relay transfer over the places of its view. -/
def State.relayFrame (s : State) (g : Group) (st : Step) (r : RelaySend) (ls : List Loc) (i : Nat) : Frame :=
  let part := (ls.drop (8192 * i)).take 8192
  { g.frame s.fabric 5 3 st.step with
    frameIdx := i % 8, frameCnt := min 8 (ceilDiv ls.length 8192 - i / 8 * 8), seq := r.microbatch, tensor := r.tensor, tile := i
    poison := part.any (s.locPoison 0), payload := part.map (s.locByte 0) }

theorem State.relayFrames_eq (s : State) (p : Nat) (g : Group) (st : Step) (pl : Plan) (r : RelaySend) :
    s.relayFrames p g st pl r = (List.range (ceilDiv
        (s.viewPlaces { plot := p, pav := 0, lanes := [] } (pl.viewAt r.view).2 (pl.viewAt r.view).1).length 8192)).map
      (s.relayFrame g st r (s.viewPlaces { plot := p, pav := 0, lanes := [] } (pl.viewAt r.view).2 (pl.viewAt r.view).1)) := rfl

theorem State.relayFrames_payload (s : State) (g : Group) (st : Step) (r : RelaySend) (ls : List Loc) :
    (((List.range (ceilDiv ls.length 8192)).map (s.relayFrame g st r ls)).map (·.payload)).flatten = ls.map (s.locByte 0) := by
  have hall : ls.length ≤ 8192 * ceilDiv ls.length 8192 := by unfold ceilDiv; omega
  have hpieces := flatten_pieces ls 8192 (ceilDiv ls.length 8192)
  rw [List.take_of_length_le hall] at hpieces
  conv_rhs => rw [← hpieces]
  rw [List.map_flatten, List.map_map, List.map_map]
  rfl

/-- What the header of each frame says, and what its payload holds. -/
theorem State.relayFrame_spec (s : State) (g : Group) (st : Step) (r : RelaySend) (ls : List Loc) {i : Nat}
    (hi : i < ceilDiv ls.length 8192) :
    (s.relayFrame g st r ls i).frameIdx < (s.relayFrame g st r ls i).frameCnt ∧ (s.relayFrame g st r ls i).frameCnt ≤ 8 ∧
    0 < (s.relayFrame g st r ls i).payload.length ∧ (s.relayFrame g st r ls i).payload.length ≤ 8192 ∧
    ((s.relayFrame g st r ls i).poison = true ↔ ∃ x ∈ (ls.drop (8192 * i)).take 8192, s.locPoison 0 x = true) := by
  have hstart : 8192 * i < ls.length := by unfold ceilDiv at hi; omega
  simp only [State.relayFrame, List.length_map, List.length_take, List.length_drop, List.any_eq_true]
  exact ⟨by omega, by omega, by omega, by omega, trivial⟩

/-! ### Batches (R17, R229) -/

/-- How far a transfer's batches go. -/
theorem State.sendBatches_spec {p dest : Nat} {route : List Nat} {fuel n : Nat} {fs : List Frame} {s t : State}
    (hfuel : fs.length ≤ fuel) (h : s.sendBatches p dest route fuel fs = (t, n)) :
    n ≤ fs.length ∧ (n = fs.length ∨ (n % 8 = 0 ∧ t.creditsFree p dest route ((fs.drop n).take 8) = false)) ∧
    t.sent.length = s.sent.length + n ∧ s.keepsBut t [.plots, .ports, .sent] ∧ s.otherPlots t p := by
  induction fuel generalizing s fs n with
  | zero =>
    obtain ⟨rfl, rfl⟩ := Prod.mk.inj h
    exact ⟨Nat.zero_le _, .inl (Nat.le_zero.1 hfuel).symm, rfl, .refl s _, fun _ _ => rfl⟩
  | succ fuel ih =>
    rw [State.sendBatches] at h
    dsimp only at h
    split at h
    · next hgo =>
      obtain ⟨hsome, -⟩ := Bool.and_eq_true_iff.1 hgo
      obtain ⟨hsent, hkeeps, hother⟩ := s.sendFrames_spec p dest route (fs.take 8)
      obtain ⟨rfl, rfl⟩ := Prod.mk.inj h
      have hlong : 0 < fs.length := by
        cases fs with
        | nil => cases hsome
        | cons => exact Nat.succ_pos _
      obtain ⟨hle, hend, hsent', hkeeps', hother'⟩ := ih (s := s.sendFrames p dest route (fs.take 8)) (fs := fs.drop 8)
        (by rw [List.length_drop]; omega) rfl
      rw [List.length_drop] at hle
      rw [List.length_take] at hsent ⊢
      refine ⟨by omega, ?_, by omega, hkeeps.trans hkeeps', hother.trans hother'⟩
      rcases hend with hend | ⟨hmod, hstuck⟩
      · rw [List.length_drop] at hend
        exact .inl (by omega)
      · rcases Nat.lt_or_ge fs.length 8 with hshort | hfull
        · exact .inl (by omega)
        · rw [Nat.min_eq_left hfull]
          rw [List.drop_drop, Nat.add_comm] at hstuck
          exact .inr ⟨by omega, hstuck⟩
    · next hstop =>
      obtain ⟨rfl, rfl⟩ := Prod.mk.inj h
      refine ⟨Nat.zero_le _, ?_, rfl, .refl s _, fun _ _ => rfl⟩
      cases fs with
      | nil => exact .inl rfl
      | cons f fs =>
        refine .inr ⟨rfl, ?_⟩
        simpa using hstop

/-- Settles O56: the frames are the view's pieces of 8,192 bytes, and each batch goes whole or stays. -/
theorem relaySending : Obligations.RelaySending := by
  refine ⟨fun s p g st pl r ls hls => ?_, fun s t p dest n route fs h => State.sendBatches_spec le_rfl h⟩
  subst hls
  rw [State.relayFrames_eq]
  refine ⟨s.relayFrames_payload g st r _, fun i f hf => ?_⟩
  rw [List.getElem?_map, Option.map_eq_some_iff] at hf
  obtain ⟨j, hj, rfl⟩ := hf
  obtain ⟨hi, rfl⟩ := List.getElem?_eq_some_iff.1 hj
  rw [List.length_range] at hi
  rw [List.getElem_range]
  exact ⟨rfl, rfl, rfl, rfl, rfl, rfl, rfl, rfl, rfl, s.relayFrame_spec g st r _ hi⟩

end Sys2Proof.Machine

/-! The statement of leases and losses (O17): a LOSS notice that brings a suspected neighbour back sends again what waits for
it, the frames of other plots among them. -/

namespace Sys2Proof.Machine

/-- The group of plot 1: a chain of three modules, of which this one, FABRIC_ID 1, is the first; its neighbour is suspected. -/
def suspectChain : Group :=
  { handle := 0, groupId := 7, kind := 1, jobTag := 0, digest := 0, window := 1, generation := 1, state := groupSuspect,
    live := [1, 5, 6], lost := [], answered := [5], heard := [], pauseTicks := [], joinTick := 0, regroupTick := 0, timeoutS := 60,
    joinSlot := none, early := [], suspended := false, peerReleased := false }

/-- A frame of plot 2's image for module 5 (R312), sent once over port 0 and not yet acknowledged. -/
def imageWaits : Retained :=
  { frame := { blankFrame 1 with kind := 9, vc := 3 }, body := none, route := [0], dest := 5, plot := 2, sentTick := 0, attempts := 1 }

/-- Port 0 leads to module 5, which plot 1 suspects; plot 2 has no group. -/
def suspectedNeighbour : State :=
  { State.reset with
    mod := { Mod.init with fabricId := 1 }
    ports := [(0, { Port.init with linkUp := true, peerId := 5, peerValid := true, retention := [imageWaits] })]
    plots := [(1, { Plot.init with groups := [suspectChain] })] }

/-- A frame of module 5 arrives at port 0. -/
def neighbourLink : Link := { port := 0, src := 5, srcPort := 0, fcsOk := true, tagOk := true, keyEpoch := 0, linkSeq := 0 }

/-- The loss of module 6, at rank 2, is told by module 5: the group is ACTIVE again, and plot 2's frame is sent and charged
again (Table CSC-5). -/
theorem exec_loss_charges_other_plot : ∃ t, exec (.loss neighbourLink 7 1 2) suspectedNeighbour = .next t ∧
    (t.plot 2).account.avenueTx = 82#64 := ⟨_, rfl, by decide +kernel⟩

theorem suspectedNeighbour_groupsOnlyOf : suspectedNeighbour.groupsOnlyOf 1 := by
  intro q hq
  have hplot : suspectedNeighbour.plot q = Plot.init := if_neg hq
  rw [hplot]
  exact ⟨rfl, rfl⟩

/-- Refutes O17: a LOSS from a suspected neighbour renews its lease, so every frame that waits for it goes again, and plot 2,
which has no group, is charged for its own, where the statement leaves all other plots unchanged. -/
theorem not_leasesAndLoss : ¬ Obligations.LeasesAndLoss := by
  rintro ⟨-, -, -, -, -, -, -, -, -, -, -, hloss, -⟩
  obtain ⟨⟨t, hexec, -, -, hother, -⟩, -⟩ := hloss suspectedNeighbour neighbourLink 1 2 suspectChain ⟨rfl, rfl⟩ (by decide)
    suspectedNeighbour_groupsOnlyOf ⟨rfl, rfl⟩ ⟨rfl, rfl, rfl, rfl, rfl, rfl⟩ (by decide) (by decide) (by decide)
  obtain ⟨u, hexec', hcharged⟩ := exec_loss_charges_other_plot
  obtain rfl : t = u := Host.Outcome.next.inj (hexec.symm.trans hexec')
  rw [hother 2 (by decide)] at hcharged
  exact absurd hcharged (by decide)

end Sys2Proof.Machine

/-! What frames of VC0 change: what a port has sent and keeps, and nothing of its link. -/

namespace Sys2Proof.Machine

/-! ### A change that only sends -/

/-- A port that has sent frames, or made them wait: its link, its peer, its keys and what it has received are unchanged. -/
def Port.speaks (v w : Port) : Prop := v.waiting ⊆ w.waiting ∧
  w = { v with txSeq := w.txSeq, txFrames := w.txFrames, keyFrames := w.keyFrames, retention := w.retention, waiting := w.waiting }

theorem Port.speaks.refl (v : Port) : v.speaks v := ⟨List.Subset.refl _, rfl⟩

theorem Port.speaks.trans {u v w : Port} (huv : u.speaks v) (hvw : v.speaks w) : u.speaks w := by
  obtain ⟨hwait, hv⟩ := huv
  obtain ⟨hwait', hw⟩ := hvw
  refine ⟨List.Subset.trans hwait hwait', ?_⟩
  rw [hw, hv]

/-- A change of the parts named in which ports only send. -/
def State.speaks (s t : State) (l : List Piece) : Prop :=
  s.keepsBut t l ∧ s.sent ⊆ t.sent ∧ ∀ i, (s.port i).speaks (t.port i)

theorem State.speaks.refl (s : State) (l : List Piece) : s.speaks s l :=
  ⟨.refl s l, List.Subset.refl _, fun i => .refl (s.port i)⟩

theorem State.speaks.trans {s t u : State} {l : List Piece} (hst : s.speaks t l) (htu : t.speaks u l) : s.speaks u l := by
  obtain ⟨hkeeps, hsent, hports⟩ := hst
  obtain ⟨hkeeps', hsent', hports'⟩ := htu
  exact ⟨hkeeps.trans hkeeps', List.Subset.trans hsent hsent', fun i => (hports i).trans (hports' i)⟩

theorem State.speaks.mono {s t : State} {l l' : List Piece} (h : s.speaks t l) (hl : l ⊆ l') : s.speaks t l' :=
  ⟨h.1.mono hl, h.2⟩

/-- A change of other parts. -/
theorem State.speaks_of_keepsBut {s t : State} {l : List Piece} (h : s.keepsBut t l) (hports : .ports ∉ l) (hsent : .sent ∉ l) :
    s.speaks t l :=
  ⟨h, (h .sent hsent).symm ▸ List.Subset.refl _, fun i => (h.port hports i).symm ▸ Port.speaks.refl _⟩

theorem State.speaks_foldl {α : Type} {f : State → α → State} {l : List Piece} (h : ∀ (t : State) x, t.speaks (f t x) l) (xs : List α)
    (s : State) : s.speaks (xs.foldl f s) l :=
  List.foldlRecOn (motive := fun t => s.speaks t l) xs f (.refl s l) (fun t ht x _ => ht.trans (h t x))

/-- What has been said stays said. -/
theorem State.speaks.said {s t : State} {l : List Piece} (h : s.speaks t l) {dest : Nat} {m : Control} (hsaid : s.said dest m) :
    t.said dest m := by
  obtain ⟨-, hsent, hports⟩ := h
  obtain ⟨i, ⟨u, f, hdst, hmem⟩ | ⟨r, hmem, hr⟩⟩ := hsaid
  · exact ⟨i, .inl ⟨u, f, hdst, hsent hmem⟩⟩
  · exact ⟨i, .inr ⟨r, (hports i).1 hmem, hr⟩⟩

theorem Port.speaks.link {v w : Port} (h : v.speaks w) :
    w.linkUp = v.linkUp ∧ w.faulty = v.faulty ∧ w.peerValid = v.peerValid ∧ w.peerId = v.peerId := by
  rw [h.2]
  exact ⟨rfl, rfl, rfl, rfl⟩

/-- Sending changes no route. -/
theorem State.speaks.portLeads {s t : State} {l : List Piece} (h : s.speaks t l) (hmod : .mod ∉ l) (i fabric : Nat) :
    t.portLeads i fabric = s.portLeads i fabric := by
  have hm : t.mod = s.mod := h.1 .mod hmod
  obtain ⟨hup, hfaulty, hvalid, hpeer⟩ := (h.2.2 i).link
  simp only [State.portLeads, hm, hup, hfaulty, hvalid, hpeer]

theorem State.speaks.portTo {s t : State} {l : List Piece} (h : s.speaks t l) (hmod : .mod ∉ l) (fabric : Nat) :
    t.portTo fabric = s.portTo fabric := by
  simp only [State.portTo, h.portLeads hmod]

theorem State.speaks.fabric {s t : State} {l : List Piece} (h : s.speaks t l) (hmod : .mod ∉ l) : t.fabric = s.fabric :=
  congrArg (fun m : Mod => m.fabricId % 2 ^ 36) (h.1 .mod hmod)

/-! ### One frame of VC0 (R226) -/

theorem Port.speaks_sending (v : Port) (x : Retained) : v.speaks (v.sending x) := ⟨List.Subset.refl _, rfl⟩

theorem State.speaks_transmit_vc0 (s : State) (i : Nat) {r : Retained} (h : r.frame.vc = 0) : s.speaks (s.transmit i r) [.ports, .sent] := by
  refine ⟨s.keepsBut_transmit_vc0 i h, s.transmit_sent i r ▸ List.subset_append_left _ _, fun j => ?_⟩
  by_cases hj : j = i
  · subst hj
    rw [s.port_transmit_self]
    exact Port.speaks_sending _ _
  · rw [s.otherPorts_transmit i r j hj]
    exact .refl _

/-- A frame of VC0 as a port sends it. -/
def controlOut (i dest : Nat) (hdr : Frame) (m : Control) : Retained :=
  { frame := { hdr with kind := controlKind m, vc := 0 }, body := some m, route := [i], dest := dest, plot := 0, sentTick := 0, attempts := 1 }

/-- A frame of VC0 goes, or waits for one of the buffers of VC0. -/
theorem State.sendOn_cases (s : State) (i dest : Nat) (hdr : Frame) (m : Control) :
    s.sendOn i dest hdr m = s.transmit i (controlOut i dest hdr m) ∨
    s.sendOn i dest hdr m = s.updPort i (fun v => { v with waiting := v.waiting ++ [controlOut i dest hdr m] }) := by
  unfold State.sendOn
  dsimp only
  split
  · exact .inl rfl
  · exact .inr rfl

/-- A frame that only acknowledges does not wait. -/
theorem State.sendOn_ack (s : State) (i dest : Nat) (hdr : Frame) (seqs : List Nat) :
    s.sendOn i dest hdr (.ack seqs) = s.transmit i (controlOut i dest hdr (.ack seqs)) := rfl

theorem State.speaks_sendOn (s : State) (i dest : Nat) (hdr : Frame) (m : Control) : s.speaks (s.sendOn i dest hdr m) [.ports, .sent] := by
  rcases s.sendOn_cases i dest hdr m with heq | heq <;> rw [heq]
  · exact s.speaks_transmit_vc0 i rfl
  · refine ⟨(s.keepsBut_updPort i _).mono (by simp), List.Subset.refl _, fun j => ?_⟩
    by_cases hj : j = i
    · subst hj
      rw [State.port_updPort_self]
      exact ⟨List.subset_append_left _ _, rfl⟩
    · rw [State.port_updPort_ne _ _ _ _ hj]
      exact .refl _

theorem State.otherPorts_sendOn (s : State) (i dest : Nat) (hdr : Frame) (m : Control) : s.otherPorts (s.sendOn i dest hdr m) i := by
  rcases s.sendOn_cases i dest hdr m with heq | heq <;> rw [heq]
  · exact s.otherPorts_transmit i _
  · exact s.otherPorts_updPort i _

theorem State.said_sendOn (s : State) (i dest : Nat) (hdr : Frame) (m : Control) : (s.sendOn i dest hdr m).said dest m := by
  rcases s.sendOn_cases i dest hdr m with heq | heq <;> rw [heq]
  · exact ⟨i, .inl ⟨s, (s.gone i (controlOut i dest hdr m)).frame, rfl, by rw [s.transmit_sent]; simp [controlOut]⟩⟩
  · exact ⟨i, .inr ⟨controlOut i dest hdr m, by rw [State.port_updPort_self]; simp, rfl, rfl⟩⟩

theorem State.speaks_sendControl (s : State) (dest : Nat) (hdr : Frame) (m : Control) : s.speaks (s.sendControl dest hdr m) [.ports, .sent] := by
  unfold State.sendControl
  split
  · exact .refl s _
  · exact s.speaks_sendOn _ dest hdr m

theorem State.said_sendControl {s : State} {dest : Nat} (h : s.portTo dest ≠ none) (hdr : Frame) (m : Control) :
    (s.sendControl dest hdr m).said dest m := by
  obtain ⟨i, hi⟩ := Option.ne_none_iff_exists'.1 h
  simp only [State.sendControl, hi]
  exact s.said_sendOn i dest hdr m

end Sys2Proof.Machine

/-! What an arrival changes: the groups of a plot, the leases that a frame renews, and a frame that is accepted. -/

namespace Sys2Proof.Machine

/-! ### A group of a plot -/

theorem State.plot_updGroup_self (s : State) (p handle : Nat) (f : Group → Group) : (s.updGroup p handle f).plot p =
    { s.plot p with groups := (s.plot p).groups.map (fun g => if g.handle = handle then f g else g) } := s.plot_updPlot_self p _

theorem State.keepsBut_updGroup (s : State) (p handle : Nat) (f : Group → Group) : s.keepsBut (s.updGroup p handle f) [.plots] :=
  s.keepsBut_updPlot p _

theorem State.otherPlots_updGroup (s : State) (p handle : Nat) (f : Group → Group) : s.otherPlots (s.updGroup p handle f) p :=
  s.otherPlots_updPlot p _

/-- The one group of a plot changes. -/
theorem State.groups_updGroup_single {s : State} {p : Nat} {g : Group} (h : (s.plot p).groups = [g]) (f : Group → Group) :
    ((s.updGroup p g.handle f).plot p).groups = [f g] := by
  rw [State.plot_updGroup_self, h, List.map_singleton, if_pos rfl]

/-- Every plot keeps its groups. -/
def State.sameGroups (s t : State) : Prop := ∀ q, (t.plot q).groups = (s.plot q).groups

theorem State.sameGroups.trans {s t u : State} (hst : s.sameGroups t) (htu : t.sameGroups u) : s.sameGroups u :=
  fun q => (htu q).trans (hst q)

theorem State.sameGroups_of_plots_eq {s t : State} (h : t.plots = s.plots) : s.sameGroups t := fun q => by simp only [State.plot, h]

theorem State.sameGroups_updPlot (s : State) (p : Nat) {f : Plot → Plot} (h : ∀ q, (f q).groups = q.groups) :
    s.sameGroups (s.updPlot p f) := by
  intro q
  by_cases hq : q = p
  · subst hq
    rw [State.plot_updPlot_self, h]
  · rw [State.plot_updPlot_ne _ _ _ _ hq]

theorem State.sameGroups_unsolicited (s : State) (p source : Nat) (body : Bytes) : s.sameGroups (s.unsolicited p source body) := by
  obtain ⟨hother, -, m, hm⟩ := s.mailsOnly_unsolicited p source body
  intro q
  by_cases hq : q = p
  · subst hq
    rw [hm]
  · rw [hother q hq]

/-- An error of a plot leaves its groups. -/
theorem State.sameGroups_raise (s : State) (p : Nat) (e : ErrRec) : s.sameGroups (s.raise p e) := by
  have hlog : s.sameGroups (s.logError p e) := State.sameGroups_of_plots_eq (by
    unfold State.logError State.notify
    split <;> rfl)
  have hmerge (plan : Nat) : s.sameGroups ((s.logError p e).updPlot p (fun q => q.withError plan e.shown)) :=
    hlog.trans (State.sameGroups_updPlot _ p (fun _ => rfl))
  rcases s.raise_eq p e with ⟨body, heq⟩ | ⟨plan, u, rfl, heq | ⟨f, heq⟩ | ⟨body, heq⟩⟩ <;> rw [heq]
  · exact hlog.trans (State.sameGroups_unsolicited _ p _ body)
  · exact hmerge plan
  · exact (hmerge plan).trans (State.sameGroups_updPlot _ p (fun _ => rfl))
  · exact (hmerge plan).trans (State.sameGroups_unsolicited _ p _ body)

theorem State.keepsBut_raise (s : State) (p : Nat) (e : ErrRec) : s.keepsBut (s.raise p e) [.plots, .bothy, .mgmt, .sent] :=
  (s.tells_raise p e).1

/-! ### Leases (R208, R297) -/

theorem State.plot_hearEnds (s : State) (src p : Nat) : (s.hearEnds src).plot p = (s.plot p).hearEnd src s.now :=
  NMap.get_mapVals s.plots (fun q => q.hearEnd src s.now) Plot.init Plot.init rfl p

theorem State.keepsBut_hearEnds (s : State) (src : Nat) : s.keepsBut (s.hearEnds src) [.plots] := by
  intro x hx
  cases x <;> simp_all [State.agree, State.hearEnds]

theorem State.port_heardOn (s : State) (l : Link) : (s.heardOn l).port l.port =
    { s.port l.port with rxFrames := (s.port l.port).rxFrames + 1, toAck := (s.port l.port).toAck ++ [(l.src, l.linkSeq)] } :=
  (s.hearEnds l.src).port_updPort_self l.port _

theorem State.otherPorts_heardOn (s : State) (l : Link) : s.otherPorts (s.heardOn l) l.port :=
  (s.hearEnds l.src).otherPorts_updPort l.port _

theorem State.keepsBut_heardOn (s : State) (l : Link) : s.keepsBut (s.heardOn l) [.plots, .ports] :=
  ((s.keepsBut_hearEnds l.src).mono (by simp)).trans (((s.hearEnds l.src).keepsBut_updPort l.port _).mono (by simp))

theorem State.plot_heardOn (s : State) (l : Link) (p : Nat) : (s.heardOn l).plot p = (s.plot p).hearEnd l.src s.now :=
  s.plot_hearEnds l.src p

/-- A usable frame of VC0 that is to be acknowledged is worked in the state that its arrival leaves. -/
theorem State.hearControl_arrives {s : State} {l : Link} (h : Arrives s l) (work : State → State) :
    s.hearControl l false true work = work (s.heardOn l) := by
  obtain ⟨hup, hlink⟩ := h
  simp only [State.hearControl, hup, Bool.not_true, Bool.false_eq_true, if_false, Bool.false_or, hlink]
  rfl

/-! ### Frames that are accepted or kept (R217, R227) -/

/-- A port that has accepted a frame. -/
def Port.accepting (v : Port) (f : Frame) : Port :=
  { v with rxFrames := v.rxFrames + 1, toAck := v.toAck ++ [(f.src, f.linkSeq)], seen := v.seen ++ [frameKey f] }

/-- A group that has heard a member. -/
def Group.hearing (g : Group) (src now : Nat) : Group := { g with heard := g.heard.set src now }

theorem State.port_acceptFrame (s : State) (i p handle : Nat) (f : Frame) :
    (s.acceptFrame i p handle f).port i = (s.port i).accepting f := by
  rw [State.acceptFrame, State.hear, State.updGroup, State.port_updPlot, State.port_charge, State.port_updPort_self]
  rfl

theorem State.otherPorts_acceptFrame (s : State) (i p handle : Nat) (f : Frame) : s.otherPorts (s.acceptFrame i p handle f) i := by
  intro j hj
  rw [State.acceptFrame, State.hear, State.updGroup, State.port_updPlot, State.port_charge, State.port_updPort_ne _ _ _ _ hj]

theorem State.otherPlots_acceptFrame (s : State) (i p handle : Nat) (f : Frame) : s.otherPlots (s.acceptFrame i p handle f) p :=
  ((s.updPort i _).otherPlots_updPlot p _).trans (State.otherPlots_updGroup _ p handle _)

theorem State.keepsBut_acceptFrame (s : State) (i p handle : Nat) (f : Frame) :
    s.keepsBut (s.acceptFrame i p handle f) [.plots, .ports] :=
  (((s.keepsBut_updPort i _).mono (by simp)).trans ((State.keepsBut_updPlot _ p _).mono (by simp))).trans
    ((State.keepsBut_updGroup _ p handle _).mono (by simp))

/-- The plot of an accepted frame is charged for it, and its group has heard the sender. -/
theorem State.plot_acceptFrame (s : State) (i p handle : Nat) (f : Frame) : ∃ c, (s.acceptFrame i p handle f).plot p =
    { s.plot p with account := c, groups := (s.plot p).groups.map (fun g => if g.handle = handle then g.hearing f.src s.now else g) } := by
  rw [State.acceptFrame, State.hear, State.plot_updGroup_self, State.plot_charge_self]
  exact ⟨_, rfl⟩

end Sys2Proof.Machine

/-! The tiles of a step (O40): a tile is put back into its step, handed off, and converted. -/

namespace Sys2Proof.Machine

/-! ### A tile of a step -/

theorem find?_of_filter_single {α : Type} {l : List α} {p : α → Bool} {x : α} (h : l.filter p = [x]) : l.find? p = some x := by
  rw [← List.head?_filter, h]
  rfl

/-- A lookup by a key that a change of the entries keeps. -/
theorem find?_map_of_key {α : Type} {p : α → Bool} {f : α → α} (h : ∀ x, p (f x) = p x) (l : List α) :
    (l.map f).find? p = (l.find? p).map f := by
  rw [List.find?_map, show p ∘ f = p from funext h]

theorem State.tilesOf_eq (s : State) (p plan : Nat) :
    s.tilesOf p plan = (((s.plot p).running.find? (fun st => st.plan == plan)).map (·.tiles)).getD [] := by
  unfold State.tilesOf
  split <;> simp [*]

theorem State.tileAt_eq_some {s : State} {p plan seq : Nat} {st : Step} {t : Tile}
    (hst : (s.plot p).running.filter (fun x => x.plan == plan) = [st]) (ht : st.tiles.filter (fun u => u.seq == seq) = [t]) :
    s.tileAt p plan seq = some t := by
  simp only [State.tileAt, State.tilesOf, find?_of_filter_single hst, find?_of_filter_single ht]

theorem State.tileAt_of_tilesOf {s : State} {p plan seq : Nat} {t : Tile} (h : (s.tilesOf p plan).filter (fun u => u.seq == seq) = [t]) :
    s.tileAt p plan seq = some t := find?_of_filter_single h

theorem State.seq_of_tileAt {s : State} {p plan seq : Nat} {t : Tile} (h : s.tileAt p plan seq = some t) : t.seq = seq := by
  simpa using List.find?_some h

/-- What a plot's running steps alone decide. -/
theorem State.tilesOf_congr {s t : State} {p : Nat} (h : (t.plot p).running = (s.plot p).running) (plan : Nat) :
    t.tilesOf p plan = s.tilesOf p plan := by
  simp only [State.tilesOf, h]

theorem State.tileAt_congr {s t : State} {p : Nat} (h : (t.plot p).running = (s.plot p).running) (plan seq : Nat) :
    t.tileAt p plan seq = s.tileAt p plan seq := by
  simp only [State.tileAt, State.tilesOf_congr h]

theorem State.keepsBut_putTile (s : State) (p plan : Nat) (t : Tile) : s.keepsBut (s.putTile p plan t) [.plots] :=
  s.keepsBut_updPlot p _

theorem State.otherPlots_putTile (s : State) (p plan : Nat) (t : Tile) : s.otherPlots (s.putTile p plan t) p :=
  s.otherPlots_updPlot p _

/-- A step of which one tile has been put back. -/
def Step.withTile (st : Step) (plan : Nat) (t : Tile) : Step :=
  if st.plan = plan then { st with tiles := st.tiles.map (fun u => if u.seq = t.seq then t else u) } else st

theorem Step.withTile_plan (st : Step) (plan : Nat) (t : Tile) : (st.withTile plan t).plan = st.plan := by
  unfold Step.withTile
  split <;> rfl

theorem State.plot_putTile (s : State) (p plan : Nat) (t : Tile) :
    (s.putTile p plan t).plot p = { s.plot p with running := (s.plot p).running.map (·.withTile plan t) } := s.plot_updPlot_self p _

theorem State.tilesOf_putTile (s : State) (p plan : Nat) (t : Tile) :
    (s.putTile p plan t).tilesOf p plan = (s.tilesOf p plan).map (fun u => if u.seq = t.seq then t else u) := by
  rw [State.tilesOf_eq, State.tilesOf_eq, State.plot_putTile,
    find?_map_of_key (fun st => by rw [Step.withTile_plan])]
  cases hrun : (s.plot p).running.find? (fun st => st.plan == plan) with
  | none => rfl
  | some st =>
    have hplan : st.plan = plan := by simpa using List.find?_some hrun
    simp only [Option.map_some, Option.getD_some, Step.withTile, hplan, if_true]

/-- A tile that is put back into its step stands there. -/
theorem State.tileAt_putTile {s : State} {p plan : Nat} {t t' : Tile} (h : s.tileAt p plan t'.seq = some t) :
    (s.putTile p plan t').tileAt p plan t'.seq = some t' := by
  rw [State.tileAt, State.tilesOf_putTile, find?_map_of_key (fun u => ?key)]
  · rw [State.tileAt] at h
    rw [h, Option.map_some, if_pos (State.seq_of_tileAt h)]
  case key =>
    split
    · next hu => rw [hu]
    · rfl

/-! ### TILE_HANDOFF (R209) -/

/-- A tile as it enters the Cascade. -/
def Step.entering (st : Step) (t : Tile) : Tile :=
  { t with data := [], poison := if st.isVoid then List.range 256 else [], phase := 1,
           count := st.countOf t.adapter, dropped := st.droppedMbs.length }

theorem exec_tileHandoff_some {s : State} {pav : Nat} {g : GTile} {st : Step} {t : Tile} (h : s.handedOff pav = some (g, st, t)) :
    exec (.tileHandoff pav) s = .next ((s.putTile g.plot st.plan (st.entering t)).pump g.plot st.plan) := by
  show execTileHandoff pav s = _
  simp only [execTileHandoff, h]
  rfl

theorem exec_tileHandoff_none {s : State} {pav : Nat} (h : s.handedOff pav = none) : exec (.tileHandoff pav) s = .next s := by
  show execTileHandoff pav s = _
  simp only [execTileHandoff, h]

/-! ### The engines' counters -/

/-- An engine that has counted retries of R215. -/
def Engine.retried (e : Engine) (n : Nat) : Engine := { e with crcRetries := e.crcRetries + BitVec.ofNat 64 n }

theorem State.engine_updEngine (s : State) (i : Nat) (f : Engine → Engine) (j : Nat) :
    (s.updEngine i f).engine j = if j = i then f (s.engine j) else s.engine j := by
  split
  · next hj => rw [hj, State.engine_updEngine_self]
  · next hj => rw [State.engine_updEngine_ne _ _ _ _ hj]

theorem State.engine_countRetries (s : State) (i n j : Nat) :
    (s.countRetries i n true).engine j = if j = i then (s.engine j).retried n else s.engine j := by
  unfold State.countRetries
  split
  · next hn => simp [hn, Engine.retried]
  · rw [State.engine_updEngine]
    rfl

theorem State.keepsBut_countRetries (s : State) (i n : Nat) (crc : Bool) : s.keepsBut (s.countRetries i n crc) [.engines] := by
  unfold State.countRetries
  split
  · exact .refl s _
  · exact s.keepsBut_updEngine i _

/-! ### TILE_CONVERT (R57, R215) -/

/-- Reading a tile charges its plot at most. -/
theorem State.readTile_cases (s : State) (p plan : Nat) (t : Tile) :
    (s.readTile p plan t).1 = s ∨ ∃ f, (s.readTile p plan t).1 = s.charge p f := by
  unfold State.readTile
  split
  · dsimp only
    split
    · exact .inl rfl
    · exact .inr ⟨_, rfl⟩
  · exact .inl rfl

/-- The state in which a tile's contribution meets its check: its tile has been read, and the Terrace's engine has counted it. -/
def State.contributed (s : State) (p plan m : Nat) (t : Tile) (w : WaveEntry) : State :=
  (s.readTile p plan t).1.updEngine (t.pav / 64) (fun e => { e with
    tilesIn := e.tilesIn + 1, flushed := e.flushed + BitVec.ofNat 64 (t.flushCount m w) })

/-- The state in which a contribution has passed, and its gradient tile is released. -/
def State.passed (s : State) (p plan : Nat) (t : Tile) (ws : NMap W64) (n : Nat) : State :=
  ((s.countRetries t.portUnit n true).updPav t.pav (fun v => { v with
      gbuf := v.gbuf.filter (fun g => !(g.plot == p && g.plan == plan && g.handle == t.gtile)) })).putTile p plan
    { t with phase := 4, words := ws }

/-- The state in which a contribution has failed three retries. -/
def State.unpassed (s : State) (p plan : Nat) (t : Tile) : State :=
  (s.countRetries t.portUnit maxRetries true).putTile p plan { t with failed := some (t.portUnit, 0) }

section Contribution

variable (s : State) (p plan m : Nat) (t : Tile) (w : WaveEntry)

theorem State.keepsBut_readTile : s.keepsBut (s.readTile p plan t).1 [.plots] := by
  rcases s.readTile_cases p plan t with h | ⟨f, h⟩ <;> rw [h]
  · exact .refl s _
  · exact s.keepsBut_updPlot p _

theorem State.otherPlots_readTile : s.otherPlots (s.readTile p plan t).1 p := by
  rcases s.readTile_cases p plan t with h | ⟨f, h⟩ <;> rw [h]
  · exact fun _ _ => rfl
  · exact s.otherPlots_updPlot p _

theorem State.running_readTile : ((s.readTile p plan t).1.plot p).running = (s.plot p).running := by
  rcases s.readTile_cases p plan t with h | ⟨f, h⟩ <;> rw [h]
  rw [State.plot_charge_self]

theorem State.keepsBut_contributed : s.keepsBut (s.contributed p plan m t w) [.plots, .engines] :=
  ((s.keepsBut_readTile p plan t).mono (by simp)).trans ((State.keepsBut_updEngine _ _ _).mono (by simp))

theorem State.otherPlots_contributed : s.otherPlots (s.contributed p plan m t w) p := s.otherPlots_readTile p plan t

theorem State.running_contributed : ((s.contributed p plan m t w).plot p).running = (s.plot p).running := s.running_readTile p plan t

theorem State.engine_contributed (j : Nat) : (s.contributed p plan m t w).engine j = if j = t.pav / 64 then { s.engine j with
    tilesIn := (s.engine j).tilesIn + 1, flushed := (s.engine j).flushed + BitVec.ofNat 64 (t.flushCount m w) } else s.engine j := by
  have hread (j : Nat) : (s.readTile p plan t).1.engine j = s.engine j := by
    rcases s.readTile_cases p plan t with h | ⟨f, h⟩ <;> rw [h]
    rw [State.engine_charge]
  rw [State.contributed, State.engine_updEngine, hread]

end Contribution

theorem State.flowOf_names {s : State} {p plan : Nat} {fl : Flow} (h : s.flowOf p plan = some fl) : fl.plot = p ∧ fl.plan = plan := by
  unfold State.flowOf at h
  dsimp only at h
  split at h
  · obtain ⟨g, -, hg⟩ := Option.bind_eq_some_iff.1 h
    split at hg
    · obtain rfl := Option.some.inj hg
      exact ⟨rfl, rfl⟩
    · cases hg
  · cases h

section Convert

variable {s : State} {fl : Flow} {t : Tile} {w : WaveEntry}

/-- What the check of a contribution delivers: a group of one member passes nothing over (R213). -/
def Flow.contribution (fl : Flow) (own : Nat) (t : Tile) (w : WaveEntry) : Option (NMap W64 × Nat) :=
  let ws := t.convert fl.seed fl.step (fl.group.rankOf own) fl.group.size w
  if fl.group.size ≤ 1 then some (ws, 0) else crcTransfer ws fl.faults.crc

theorem State.convertTile_eq (hw : t.final.getD t.own = w) : s.convertTile fl t =
    match fl.contribution s.fabric t w with
    | none => (s.contributed fl.plot fl.plan fl.group.size t w).unpassed fl.plot fl.plan t
    | some x => fl.run ((s.contributed fl.plot fl.plan fl.group.size t w).passed fl.plot fl.plan t x.1 x.2) := by
  have hfabric : (s.readTile fl.plot fl.plan t).1.fabric = s.fabric :=
    congrArg (fun m : Mod => m.fabricId % 2 ^ 36) (s.keepsBut_readTile fl.plot fl.plan t .mod (by decide))
  subst hw
  simp only [State.convertTile, hfabric]
  unfold Flow.contribution
  dsimp only
  split <;> simp only [*] <;> rfl

end Convert

section Passed

variable {s u : State} {p plan m n : Nat} {t : Tile} {w : WaveEntry} {ws : NMap W64}

theorem State.keepsBut_passed : u.keepsBut (u.passed p plan t ws n) [.plots, .pavs, .engines] :=
  (((u.keepsBut_countRetries _ _ _).mono (by simp)).trans ((State.keepsBut_updPav _ _ _).mono (by simp))).trans
    ((State.keepsBut_putTile _ p plan _).mono (by simp))

theorem State.keepsBut_unpassed : u.keepsBut (u.unpassed p plan t) [.plots, .engines] :=
  ((u.keepsBut_countRetries _ _ _).mono (by simp)).trans ((State.keepsBut_putTile _ p plan _).mono (by simp))

theorem State.plot_countRetries (i k : Nat) (crc : Bool) (q : Nat) : (u.countRetries i k crc).plot q = u.plot q :=
  (u.keepsBut_countRetries i k crc).plot (by decide) q

theorem State.otherPlots_passed : u.otherPlots (u.passed p plan t ws n) p := fun q hq =>
  (State.otherPlots_putTile _ p plan _ q hq).trans (State.plot_countRetries _ _ _ q)

theorem State.otherPlots_unpassed : u.otherPlots (u.unpassed p plan t) p := fun q hq =>
  (State.otherPlots_putTile _ p plan _ q hq).trans (State.plot_countRetries _ _ _ q)

theorem State.tileAt_passed (h : u.tileAt p plan t.seq = some t) :
    (u.passed p plan t ws n).tileAt p plan t.seq = some { t with phase := 4, words := ws } :=
  State.tileAt_putTile (t := t) (t' := { t with phase := 4, words := ws })
    ((State.tileAt_congr (by rw [State.plot_updPav, State.plot_countRetries]) _ _).trans h)

theorem State.tileAt_unpassed (h : u.tileAt p plan t.seq = some t) :
    (u.unpassed p plan t).tileAt p plan t.seq = some { t with failed := some (t.portUnit, 0) } :=
  State.tileAt_putTile (t := t) (t' := { t with failed := some (t.portUnit, 0) })
    ((State.tileAt_congr (by rw [State.plot_countRetries]) _ _).trans h)

theorem State.engine_passed (j : Nat) :
    (u.passed p plan t ws n).engine j = if j = t.portUnit then (u.engine j).retried n else u.engine j := u.engine_countRetries t.portUnit n j

theorem State.engine_unpassed (j : Nat) :
    (u.unpassed p plan t).engine j = if j = t.portUnit then (u.engine j).retried 3 else u.engine j := u.engine_countRetries t.portUnit 3 j

theorem State.pav_countRetries (i k : Nat) (crc : Bool) (j : Nat) : (u.countRetries i k crc).pav j = u.pav j :=
  congrArg (fun m => NMap.get Pavilion.init m j) (u.keepsBut_countRetries i k crc .pavs (by decide))

theorem State.gbuf_passed : ((u.passed p plan t ws n).pav t.pav).gbuf =
    (u.pav t.pav).gbuf.filter (fun g => !(g.plot == p && g.plan == plan && g.handle == t.gtile)) := by
  rw [State.passed, State.putTile, State.pav_updPlot, State.pav_updPav_self, State.pav_countRetries]

theorem State.otherPavs_passed : u.otherPavs (u.passed p plan t ws n) t.pav := by
  intro j hj
  rw [State.passed, State.putTile, State.pav_updPlot, State.pav_updPav_ne _ _ _ _ hj, State.pav_countRetries]

/-- A failed check of a tile is settled when no other tile has failed. -/
theorem State.settleFailed_unpassed (htile : u.tileAt p plan t.seq = some t) (hclean : ∀ x ∈ u.tilesOf p plan, x.failed = none) :
    (u.unpassed p plan t).settleFailed p plan = (u.unpassed p plan t).checkFails t.portUnit 0 := by
  have hfirst : ((u.unpassed p plan t).tilesOf p plan).findSome? (·.failed) = some (t.portUnit, 0) := by
    have htiles : (u.unpassed p plan t).tilesOf p plan =
        (u.tilesOf p plan).map (fun x => if x.seq = t.seq then { t with failed := some (t.portUnit, 0) } else x) := by
      have hsame := State.tilesOf_congr (s := u) (t := u.countRetries t.portUnit maxRetries true) (p := p)
        (by rw [State.plot_countRetries]) plan
      rw [State.unpassed, State.tilesOf_putTile, hsame]
    rw [htiles, List.findSome?_map]
    obtain ⟨hseq, pre, post, hlist, hpre⟩ := List.find?_eq_some_iff_append.1 htile
    rw [hlist, List.findSome?_append, List.findSome?_cons, List.findSome?_eq_none_iff.2 (fun x hx => ?_)]
    · simp
    · have hne : x.seq ≠ t.seq := by simpa using hpre x hx
      simpa [hne] using hclean x (by rw [hlist]; simp [hx])
  simp only [State.settleFailed, hfirst]

end Passed

section Commands

variable {s : State} {p plan seq : Nat} {flt : TileFaults} {fl : Flow} {t : Tile} {w : WaveEntry}

theorem exec_tileConvert (hfl : s.flowOf p plan = some fl) (ht : (s.tilesOf p plan).filter (fun u => u.seq == seq) = [t])
    (hphase : t.phase = 3) (hfailed : t.failed = none) :
    exec (.tileConvert p plan seq flt) s = .next ((s.convertTile { fl with faults := flt } t).settleFailed p plan) := by
  have hfind : (s.tilesOf p plan).find? (fun u => u.seq == seq && u.phase == 3 && u.failed.isNone) = some t := by
    have hrest : ((s.tilesOf p plan).filter (fun u => u.seq == seq)).find? (fun u => u.phase == 3 && u.failed.isNone) = some t := by
      rw [ht]
      simp [hphase, hfailed]
    rw [← hrest, List.find?_filter]
    refine congrArg (fun q => (s.tilesOf p plan).find? q) (funext fun u => ?_)
    rw [Bool.eq_iff_iff]
    simp [and_assoc]
  show execTileConvert p plan seq flt s = _
  simp only [execTileConvert, hfl, hfind]

/-- A tile whose contribution passes its check, at once or after retries. -/
theorem tileConvert_passes {got : NMap W64} {n : Nat} (hfl : s.flowOf p plan = some fl)
    (ht : (s.tilesOf p plan).filter (fun u => u.seq == seq) = [t]) (hphase : t.phase = 3) (hfailed : t.failed = none)
    (hw : t.final = some w) (hpass : { fl with faults := flt }.contribution s.fabric t w = some (got, n)) :
    ∃ u, exec (.tileConvert p plan seq flt) s = .next ((Flow.run { fl with faults := flt } u).settleFailed p plan) ∧
      u.tileAt p plan seq = some { t with phase := 4, words := got } ∧
      (u.engine (t.pav / 64)).tilesIn = (s.engine (t.pav / 64)).tilesIn + 1 ∧
      (u.engine (t.pav / 64)).flushed = (s.engine (t.pav / 64)).flushed + BitVec.ofNat 64 (t.flushCount fl.group.size w) ∧
      (u.engine t.portUnit).crcRetries = (s.engine t.portUnit).crcRetries + BitVec.ofNat 64 n ∧
      (u.pav t.pav).gbuf = (s.pav t.pav).gbuf.filter (fun x => !(x.plot == p && x.plan == plan && x.handle == t.gtile)) ∧
      s.otherPlots u p ∧ s.otherPavs u t.pav ∧ (∀ e, e ≠ t.pav / 64 → e ≠ t.portUnit → u.engine e = s.engine e) ∧
      s.keepsBut u [.plots, .pavs, .engines] := by
  obtain ⟨rfl, rfl⟩ := State.flowOf_names hfl
  have hat := State.tileAt_of_tilesOf ht
  obtain rfl := State.seq_of_tileAt hat
  let c := s.contributed fl.plot fl.plan fl.group.size t w
  have hpavs : c.pavs = s.pavs := s.keepsBut_contributed _ _ _ t w .pavs (by decide)
  have hpav (i : Nat) : c.pav i = s.pav i := congrArg (fun m => NMap.get Pavilion.init m i) hpavs
  have hat' : c.tileAt fl.plot fl.plan t.seq = some t := (State.tileAt_congr (s.running_contributed _ _ _ t w) _ _).trans hat
  refine ⟨c.passed fl.plot fl.plan t got n, ?_, State.tileAt_passed hat', ?_, ?_, ?_, ?_,
    (s.otherPlots_contributed _ _ _ t w).trans State.otherPlots_passed,
    (State.otherPavs_of_pavs_eq hpavs t.pav).trans State.otherPavs_passed, fun e he he' => ?_,
    ((s.keepsBut_contributed _ _ _ t w).mono (by simp)).trans State.keepsBut_passed⟩
  · rw [exec_tileConvert hfl ht hphase hfailed, State.convertTile_eq (w := w) (by rw [hw]; rfl), hpass]
  · rw [State.engine_passed, State.engine_contributed, if_pos rfl]
    split <;> rfl
  · rw [State.engine_passed, State.engine_contributed, if_pos rfl]
    split <;> rfl
  · rw [State.engine_passed, State.engine_contributed, if_pos rfl]
    split <;> rfl
  · rw [State.gbuf_passed, hpav]
  · rw [State.engine_passed, State.engine_contributed, if_neg he', if_neg he]

/-- A tile whose contribution has failed three retries. -/
theorem tileConvert_fails (hfl : s.flowOf p plan = some fl)
    (ht : (s.tilesOf p plan).filter (fun u => u.seq == seq) = [t]) (hphase : t.phase = 3) (hfailed : t.failed = none)
    (hw : t.final = some w) (hfail : { fl with faults := flt }.contribution s.fabric t w = none)
    (hclean : ∀ x ∈ s.tilesOf p plan, x.failed = none) :
    ∃ u, exec (.tileConvert p plan seq flt) s = .next (u.checkFails t.portUnit 0) ∧
      u.tileAt p plan seq = some { t with failed := some (t.portUnit, 0) } ∧
      (u.engine t.portUnit).crcRetries = (s.engine t.portUnit).crcRetries + 3 ∧ u.pavs = s.pavs ∧
      s.otherPlots u p ∧ s.keepsBut u [.plots, .engines] := by
  obtain ⟨rfl, rfl⟩ := State.flowOf_names hfl
  have hat := State.tileAt_of_tilesOf ht
  obtain rfl := State.seq_of_tileAt hat
  let c := s.contributed fl.plot fl.plan fl.group.size t w
  have hrunning := s.running_contributed fl.plot fl.plan fl.group.size t w
  have hat' : c.tileAt fl.plot fl.plan t.seq = some t := (State.tileAt_congr hrunning _ _).trans hat
  have hkeeps := (s.keepsBut_contributed fl.plot fl.plan fl.group.size t w).trans (State.keepsBut_unpassed (p := fl.plot) (plan := fl.plan) (t := t))
  refine ⟨c.unpassed fl.plot fl.plan t, ?_, State.tileAt_unpassed hat', ?_, hkeeps .pavs (by decide),
    (s.otherPlots_contributed _ _ _ t w).trans State.otherPlots_unpassed, hkeeps⟩
  · rw [exec_tileConvert hfl ht hphase hfailed, State.convertTile_eq (w := w) (by rw [hw]; rfl), hfail]
    exact congrArg _ (State.settleFailed_unpassed hat' (by rwa [State.tilesOf_congr hrunning]))
  · rw [State.engine_unpassed, if_pos rfl, State.engine_contributed]
    split <;> rfl

end Commands

/-! ### A check that has failed (R215, R217, R218) -/

theorem foldl_eq_self {σ α : Type} {f : σ → α → σ} {s : σ} {l : List α} (h : ∀ x ∈ l, f s x = s) : l.foldl f s = s :=
  List.foldlRecOn (motive := fun t => t = s) l f rfl (fun t ht x hx => by rw [ht, h x hx])

/-- A plot without groups has none that an engine serves. -/
theorem State.servedBy_of_noGroups {s : State} {p : Nat} (h : (s.plot p).groups = []) (e : Nat) : s.servedBy p e = [] := by
  simp only [State.servedBy, h, List.filter_nil, List.map_nil]

/-- A module whose tenants have no group has no member to withdraw. -/
theorem State.checkFails_of_noGroups {s : State} (h : ∀ p ∈ tenantPlots, (s.plot p).groups = []) (e flag : Nat) :
    s.checkFails e flag = s.updEngine e (fun x => { x with err := setFlag x.err flag, fenced := true }) := by
  refine foldl_eq_self (fun p hp => ?_)
  rw [State.servedBy_of_noGroups (s := s.updEngine e _) (h p hp)]
  rfl

end Sys2Proof.Machine

/-! The frames of a reduction (O40): a frame is dropped, repeated, kept until its step starts, asked for again, or worked. -/

namespace Sys2Proof.Machine

/-! ### The arrival of a frame (R220, R226 to R228) -/

section Arrival

variable {s : State} {i : Nat} {f : Frame}

theorem State.arrive_linkDown (h : (s.port i).linkUp = false) : s.arrive i f = .dropped s := by
  simp [State.arrive, h]

theorem State.arrive_badLink {flag : Option Nat} (hup : (s.port i).linkUp = true) (h : s.badLink (linkOf f i) false = some flag) :
    s.arrive i f = .dropped (s.dropFrame i flag) := by
  simp [State.arrive, hup, h]

variable {p : Nat} {g : Group}

theorem State.arrive_older (hup : (s.port i).linkUp = true) (hlink : s.badLink (linkOf f i) false = none)
    (hg : s.groupFor f.groupId f.src = some (p, g)) (hgen : f.generation < g.generation) : s.arrive i f = .dropped (s.stale i) := by
  simp [State.arrive, hup, hlink, hg, hgen]

/-- A frame of its group's generation renews its sender's lease, repeated or not. -/
theorem State.arrive_current (hup : (s.port i).linkUp = true) (hlink : s.badLink (linkOf f i) false = none)
    (hg : s.groupFor f.groupId f.src = some (p, g)) (hgen : f.generation = g.generation) :
    (((s.renew p g f.src).hearEnds f.src).seenBefore f = false →
      ∃ x, s.arrive i f = .taken p x ((s.renew p g f.src).hearEnds f.src)) ∧
    (((s.renew p g f.src).hearEnds f.src).seenBefore f = true → s.arrive i f = .duplicate
      (((s.renew p g f.src).hearEnds f.src).updPort i (fun t => { t with toAck := t.toAck ++ [(f.src, f.linkSeq)] }))) := by
  constructor <;> intro hseen <;> simp [State.arrive, hup, hlink, hg, hgen, hseen]

end Arrival

/-! ### What a reduction's frame meets -/

section Reduction

variable {s r u : State} {port p : Nat} {f : Frame} {g : Group} {flt : TileFaults} {x : Instr} {kind : Nat}
  {work : Nat → Group → State → State}

theorem State.arriving_taken (hkind : f.kind = kind) (h : s.arrive port f = .taken p g r) :
    s.arriving port f kind work = work p g r := by
  simp only [State.arriving, hkind, h, if_true]

theorem State.arriving_dropped (hkind : f.kind = kind) (h : s.arrive port f = .dropped u) : s.arriving port f kind work = u := by
  simp only [State.arriving, hkind, h, if_true]

theorem State.arriving_duplicate (hkind : f.kind = kind) (h : s.arrive port f = .duplicate u) : s.arriving port f kind work = u := by
  simp only [State.arriving, hkind, h, if_true]

theorem exec_wave_eq : exec (.wave port f) s = .next (s.arriving port f 2 (fun p g s =>
    s.forStep port p g f (fun st s => (s.acceptFrame port p g.handle f).takeWave p g st f))) := rfl

theorem exec_up_eq : exec (.up port f flt) s = .next (s.arriving port f 3 (fun p g s => s.forStep port p g f (fun st s =>
    (s.takeValues port p g st f false flt).settleFailed p st.plan))) := rfl

theorem exec_down_eq : exec (.down port f flt) s = .next (s.arriving port f 4 (fun p g s => s.forStep port p g f (fun st s =>
    (s.takeValues port p g st f false flt).settleFailed p st.plan))) := rfl

/-- The command that a reduction's frame stands for. -/
theorem exec_reduction (hkind : f.kind = 2 ∨ f.kind = 3 ∨ f.kind = 4)
    (hx : x = (if f.kind = 2 then .wave port f else if f.kind = 3 then .up port f flt else .down port f flt)) :
    ∃ work : Nat → Group → Step → State → State, ∀ s : State,
      exec x s = .next (s.arriving port f f.kind (fun p g u => u.forStep port p g f (work p g))) := by
  rcases hkind with hk | hk | hk <;> rw [hk] at hx ⊢ <;> subst hx
  · exact ⟨_, fun s => exec_wave_eq⟩
  · exact ⟨_, fun s => exec_up_eq⟩
  · exact ⟨_, fun s => exec_down_eq⟩

variable {st : Step} {task : Step → State → State}

theorem State.forStep_early (hred : (s.plot p).reducing g = none) (hok : f.kind = 2 ∨ linesHold f = true) :
    s.forStep port p g f task = (s.acceptFrame port p g.handle f).keepEarly port p g f := by
  simp only [State.forStep, hred, hok, if_true]

theorem State.forStep_asks (hred : (s.plot p).reducing g = none) (hkind : f.kind ≠ 2) (hbad : linesHold f = false) :
    s.forStep port p g f task = s.askAgain port p f := by
  simp [State.forStep, hred, hkind, hbad]

theorem State.forStep_fault (hred : (s.plot p).reducing g = some st) (hstep : st.step ≠ f.step) :
    s.forStep port p g f task = s.protocolFault port p g := by
  simp only [State.forStep, hred, hstep, if_false]

theorem State.forStep_now (hred : (s.plot p).reducing g = some st) (hstep : st.step = f.step) :
    s.forStep port p g f task = task st s := by
  simp only [State.forStep, hred, hstep, if_true]

/-! ### A frame before its step, and one that is asked for again (R217, R226) -/

theorem State.groups_acceptFrame_single (h : (s.plot p).groups = [g]) :
    ((s.acceptFrame port p g.handle f).plot p).groups = [g.hearing f.src s.now] := by
  obtain ⟨c, hc⟩ := s.plot_acceptFrame port p g.handle f
  rw [hc, h, List.map_singleton, if_pos rfl]

theorem State.keepEarly_spec (h : (s.plot p).groups = [g]) :
    ∃ t x, t = (s.acceptFrame port p g.handle f).keepEarly port p g f ∧ (t.plot p).groups = [x] ∧ x.early = g.early ++ [(port, f)] ∧
      t.port port = (s.port port).accepting f ∧ s.otherPlots t p ∧ s.otherPorts t port ∧ s.keepsBut t [.plots, .ports] :=
  ⟨_, _, rfl, State.groups_updGroup_single (g := g.hearing f.src s.now) (State.groups_acceptFrame_single h) _, rfl,
    s.port_acceptFrame port p g.handle f, (s.otherPlots_acceptFrame port p g.handle f).trans (State.otherPlots_updGroup _ p _ _),
    s.otherPorts_acceptFrame port p g.handle f, (s.keepsBut_acceptFrame port p g.handle f).trans ((State.keepsBut_updGroup _ p _ _).mono (by simp))⟩

/-- A line that fails its check is counted, and its frame is asked for again over the port that it came in. -/
theorem State.askAgain_spec (s : State) (port p : Nat) (f : Frame) :
    (s.askAgain port p f).said f.src (.resend f.seq f.frameIdx f.groupId) ∧
    ((s.askAgain port p f).engine (2 + port)).residueRetries = (s.engine (2 + port)).residueRetries + 1 ∧
    s.keepsBut (s.askAgain port p f) [.engines, .ports, .sent] := by
  obtain ⟨u, hdr, hu, heq⟩ : ∃ u hdr, u = s.updEngine (2 + port) (fun e => { e with residueRetries := e.residueRetries + 1 }) ∧
    s.askAgain port p f = u.sendOn port f.src hdr (.resend f.seq f.frameIdx f.groupId) := ⟨_, _, rfl, rfl⟩
  have hspeaks := u.speaks_sendOn port f.src hdr (.resend f.seq f.frameIdx f.groupId)
  have hengines : (s.askAgain port p f).engines = u.engines := by rw [heq, hspeaks.1 .engines (by decide)]
  refine ⟨heq ▸ u.said_sendOn port f.src hdr _, ?_, ?_⟩
  · rw [State.engine, hengines, ← State.engine, hu, State.engine_updEngine_self]
  · rw [heq, hu]
    exact ((s.keepsBut_updEngine _ _).mono (by simp)).trans ((State.speaks_sendOn _ _ _ _ _).1.mono (by simp))

/-- A protocol fault suspends the group and sets PROTOCOL (R226). -/
theorem State.protocolFault_spec (h : (s.plot p).groups = [g]) :
    ∃ x, ((s.protocolFault port p g).plot p).groups = [x] ∧ x.suspended = true ∧
      ((s.protocolFault port p g).engine (2 + port)).err = setFlag (s.engine (2 + port)).err 3 ∧
      (s.protocolFault port p g).ports = s.ports := by
  obtain ⟨u, e, hu, heq⟩ : ∃ u e, u = (s.updEngine (2 + port) (fun e => { e with err := setFlag e.err 3 })).updGroup p g.handle
    (fun x => { x with suspended := true }) ∧ s.protocolFault port p g = u.raise p e := ⟨_, _, rfl, rfl⟩
  have hkeeps := u.keepsBut_raise p e
  have hengines : (u.raise p e).engines = u.engines := hkeeps .engines (by decide)
  have hports : (u.raise p e).ports = u.ports := hkeeps .ports (by decide)
  refine ⟨{ g with suspended := true }, ?_, rfl, ?_, ?_⟩
  · rw [heq, u.sameGroups_raise, hu]
    exact State.groups_updGroup_single (s := s.updEngine _ _) h _
  · rw [heq, State.engine, hengines, ← State.engine, hu, State.updGroup, State.engine_updPlot, State.engine_updEngine_self]
  · rw [heq, hports, hu]
    rfl

end Reduction

end Sys2Proof.Machine

/-! The frames of a running step (O40): wave entries and values come into their tiles, and a line that fails its check is asked
for again or takes its port out of the routes. -/

namespace Sys2Proof.Machine

/-! ### States of groups, and ports that leave the routes (R207, R225) -/

theorem State.keepsBut_foldl {α : Type} {f : State → α → State} {l : List Piece} (h : ∀ (t : State) x, t.keepsBut (f t x) l) (xs : List α)
    (s : State) : s.keepsBut (xs.foldl f s) l :=
  List.foldlRecOn (motive := fun t => s.keepsBut t l) xs f (.refl s l) (fun t ht x _ => ht.trans (h t x))

theorem State.keepsBut_survivalEvent (s : State) (p kind : Nat) (g : Group) (fabric dropped : Nat) :
    s.keepsBut (s.survivalEvent p kind g fabric dropped) [.plots, .bothy] := (s.mailsOnly_unsolicited p _ _).2.1

theorem State.keepsBut_setGroupState (s : State) (p handle state fabric : Nat) :
    s.keepsBut (s.setGroupState p handle state fabric) [.plots, .bothy] := by
  unfold State.setGroupState
  split
  · exact .refl s _
  · dsimp only
    split
    · exact .refl s _
    · exact ((s.keepsBut_updGroup p handle _).mono (by simp)).trans (State.keepsBut_survivalEvent _ p 1 _ fabric 0)

theorem State.keepsBut_routeCheck (s : State) (p fabric i cause : Nat) :
    s.keepsBut (s.routeCheck p fabric i cause) [.plots, .bothy, .mgmt, .sent] := by
  unfold State.routeCheck
  dsimp only
  split_ifs
  · exact .refl s _
  · have hsuspect := State.keepsBut_foldl (fun (t : State) (g : Group) => t.keepsBut_setGroupState p g.handle groupSuspect fabric)
      (s.groupsTouching p fabric) s
    exact (hsuspect.mono (by simp)).trans (State.keepsBut_raise _ p _)
  · exact .refl s _

/-- A port that leaves the routes changes no port besides. -/
theorem State.keepsBut_routesChanged (s : State) (i cause : Nat) : s.keepsBut (s.routesChanged i cause) [.plots, .bothy, .mgmt, .sent] :=
  State.keepsBut_foldl (fun t p => State.keepsBut_foldl (fun u f => u.keepsBut_routeCheck p f i cause) _ t) _ s

/-! ### A tile that takes what a frame brings -/

section Worked

variable {s : State} {port p plan handle : Nat} {f : Frame} {t t' : Tile}

theorem State.running_acceptFrame (s : State) (port p handle : Nat) (f : Frame) :
    ((s.acceptFrame port p handle f).plot p).running = (s.plot p).running := by
  obtain ⟨c, hc⟩ := s.plot_acceptFrame port p handle f
  rw [hc]

theorem State.fabric_acceptFrame (s : State) (port p handle : Nat) (f : Frame) : (s.acceptFrame port p handle f).fabric = s.fabric := rfl

theorem State.tileAt_acceptFrame (ht : s.tileAt p plan t.seq = some t) : (s.acceptFrame port p handle f).tileAt p plan t.seq = some t :=
  (State.tileAt_congr (s.running_acceptFrame port p handle f) plan t.seq).trans ht

/-- A frame is accepted and its tile put back. -/
theorem State.putTile_acceptFrame (ht : s.tileAt p plan t'.seq = some t) :
    ((s.acceptFrame port p handle f).putTile p plan t').tileAt p plan t'.seq = some t' ∧
    s.otherPlots ((s.acceptFrame port p handle f).putTile p plan t') p ∧
    s.otherPorts ((s.acceptFrame port p handle f).putTile p plan t') port ∧
    s.keepsBut ((s.acceptFrame port p handle f).putTile p plan t') [.plots, .ports] :=
  ⟨State.tileAt_putTile ((State.tileAt_congr (s.running_acceptFrame port p handle f) plan t'.seq).trans ht),
    (s.otherPlots_acceptFrame port p handle f).trans (State.otherPlots_putTile _ p plan t'), s.otherPorts_acceptFrame port p handle f,
    (s.keepsBut_acceptFrame port p handle f).trans ((State.keepsBut_putTile _ p plan t').mono (by simp))⟩

end Worked

/-! ### Wave entries (R211) -/

section Wave

variable {s r : State} {port p plan sender : Nat} {f : Frame} {g : Group} {st : Step} {t : Tile} {w : WaveEntry}

theorem State.takeEntry_parent (ht : s.tileAt p plan w.seq = some t) (hparent : g.parent s.fabric = some sender) :
    s.takeEntry p plan g sender w = s.putTile p plan { t with final := some w } := by
  rw [State.tileAt] at ht
  simp only [State.takeEntry, ht, hparent, if_true]

theorem State.takeEntry_child (ht : s.tileAt p plan w.seq = some t) (hparent : g.parent s.fabric ≠ some sender)
    (hchild : sender ∈ g.children s.fabric) : s.takeEntry p plan g sender w =
      s.putTile p plan { t with childWaves := t.childWaves.filter (fun c => c.1 != sender) ++ [(sender, w)] } := by
  rw [State.tileAt] at ht
  simp only [State.takeEntry, ht, hparent, if_false, List.contains_iff_mem.2 hchild, if_true]

/-- A WAVE frame of one entry, once it is accepted. -/
theorem exec_wave_single (hkind : f.kind = 2) (h : s.arrive port f = .taken p g r) (hred : (r.plot p).reducing g = some st)
    (hstep : st.step = f.step) (hlen : f.payload.length = 16) : exec (.wave port f) s =
      .next (((r.acceptFrame port p g.handle f).takeEntry p st.plan g f.senderRank (waveEntryAt f.payload 0)).pump p st.plan) := by
  rw [exec_wave_eq, State.arriving_taken hkind h, State.forStep_now hred hstep, State.takeWave, hlen]
  rfl

end Wave

/-! ### Values (R212, R215 to R217) -/

section Values

variable {s r : State} {port p : Nat} {f : Frame} {g : Group} {st : Step} {t : Tile} {flt : TileFaults} {x : Instr}

theorem exec_values (hkind : f.kind = 3 ∨ f.kind = 4) (hx : x = (if f.kind = 3 then .up port f flt else .down port f flt))
    (h : s.arrive port f = .taken p g r) (hred : (r.plot p).reducing g = some st) (hstep : st.step = f.step) :
    exec x s = .next ((r.takeValues port p g st f false flt).settleFailed p st.plan) := by
  rcases hkind with hk | hk <;> rw [hk] at hx <;> subst hx
  · rw [if_pos rfl, exec_up_eq, State.arriving_taken hk h, State.forStep_now hred hstep]
  · rw [if_neg (by decide), exec_down_eq, State.arriving_taken hk h, State.forStep_now hred hstep]

theorem State.takeValues_up (ht : s.tileAt p st.plan f.seq = some t) (hlines : linesHold f = true) (hkind : f.kind = 3) :
    s.takeValues port p g st f false flt = (s.acceptFrame port p g.handle f).takeUp port p g st f t flt := by
  simp [State.takeValues, ht, hlines, hkind]

theorem State.takeValues_down (ht : s.tileAt p st.plan f.seq = some t) (hlines : linesHold f = true) (hkind : f.kind = 4) :
    s.takeValues port p g st f false flt = (s.acceptFrame port p g.handle f).takeDown p g st f t flt := by
  simp [State.takeValues, ht, hlines, hkind]

theorem State.takeValues_bad (ht : s.tileAt p st.plan f.seq = some t) (hlines : linesHold f = false) :
    s.takeValues port p g st f false flt = s.residueFault port p st.plan f t := by
  simp [State.takeValues, ht, hlines]

/-- A tile that holds a child's frame. -/
def Tile.withChild (t : Tile) (f : Frame) : Tile :=
  { t with childFrames := t.childFrames ++ [(f.senderRank, f.frameIdx, payloadWords f.payload f.frameIdx, f.residues)] }

/-- A tile that holds one more frame of the total. -/
def Tile.withTotal (t : Tile) (f : Frame) : Tile :=
  { t with total := addWords t.total (payloadWords f.payload f.frameIdx)
           totalResidues := t.totalResidues.set f.frameIdx f.residues, downHeld := t.downHeld ++ [f.frameIdx] }

/-- A child's frame is put into its tile; with the last of a child the port's engine counts. -/
theorem State.takeUp_child (hchild : f.senderRank ∈ g.children s.fabric) (hphase : t.phase < 5) :
    ∃ u, s.takeUp port p g st f t flt = (u.putTile p st.plan (t.withChild f)).pumpWith p st.plan flt ∧
      u.plots = s.plots ∧ u.ports = s.ports ∧ s.keepsBut u [.engines] := by
  refine ⟨if (t.withChild f).childComplete f.senderRank then
    s.updEngine (portEngine port) (fun e => { e with tilesIn := e.tilesIn + 1 }) else s, ?_, ?_⟩
  · simp only [State.takeUp, List.contains_iff_mem.2 hchild, hphase, and_self, if_true]
    rfl
  · split
    · exact ⟨rfl, rfl, s.keepsBut_updEngine _ _⟩
    · exact ⟨rfl, rfl, .refl s _⟩

theorem State.takeDown_parent (hparent : g.parent s.fabric = some f.senderRank) (hphase : t.phase = 5) (hup : t.upSent = true)
    (hheld : f.frameIdx ∉ t.downHeld) :
    s.takeDown p g st f t flt = (s.putTile p st.plan (t.withTotal f)).pumpWith p st.plan flt := by
  have hnew : t.downHeld.contains f.frameIdx = false := by simpa using hheld
  exact if_pos ⟨hparent, hphase, hup, hnew⟩

theorem State.residueFault_retry (h : t.retries.get 0 (retryKey f) < 3) : s.residueFault port p st.plan f t =
    (s.putTile p st.plan { t with retries := t.retries.set (retryKey f) (t.retries.get 0 (retryKey f) + 1) }).askAgain port p f :=
  if_pos h

theorem State.residueFault_last (h : 3 ≤ t.retries.get 0 (retryKey f)) : s.residueFault port p st.plan f t =
    (s.updPort port (fun v => { v with faulty := true })).routesChanged port 3 := if_neg (Nat.not_lt.2 h)

end Values

end Sys2Proof.Machine

/-! The commands of the Cascade (O40), clause by clause. -/

namespace Sys2Proof.Machine

/-! ### Frames before their step, of another step, and dropped -/

section Frames

variable {s r : State} {port p : Nat} {f : Frame} {g : Group} {flt : TileFaults} {x : Instr} {st : Step} {t : Tile}

/-- The premise of a reduction's frame: the command is the one that its KIND names (Table CSC-9). -/
abbrev ReductionFrame (f : Frame) (port : Nat) (flt : TileFaults) (x : Instr) : Prop :=
  (f.kind = 2 ∨ f.kind = 3 ∨ f.kind = 4) ∧
  x = (if f.kind = 2 then .wave port f else if f.kind = 3 then .up port f flt else .down port f flt)

theorem exec_reduction_taken (hx : ReductionFrame f port flt x) (h : s.arrive port f = .taken p g r) :
    ∃ task, exec x s = .next (r.forStep port p g f task) := by
  obtain ⟨work, hexec⟩ := exec_reduction hx.1 hx.2
  exact ⟨work p g, by rw [hexec, State.arriving_taken rfl h]⟩

theorem exec_reduction_dropped {u : State} (hx : ReductionFrame f port flt x) (h : s.arrive port f = .dropped u) : exec x s = .next u := by
  obtain ⟨work, hexec⟩ := exec_reduction hx.1 hx.2
  rw [hexec, State.arriving_dropped rfl h]

theorem exec_reduction_duplicate {u : State} (hx : ReductionFrame f port flt x) (h : s.arrive port f = .duplicate u) :
    exec x s = .next u := by
  obtain ⟨work, hexec⟩ := exec_reduction hx.1 hx.2
  rw [hexec, State.arriving_duplicate rfl h]

theorem reduction_early (hx : ReductionFrame f port flt x) (h : s.arrive port f = .taken p g r) (hg : (r.plot p).groups = [g])
    (hred : (r.plot p).reducing g = none) (hok : f.kind = 2 ∨ linesHold f = true) :
    ∃ t h, exec x s = .next t ∧ (t.plot p).groups = [h] ∧ h.early = g.early ++ [(port, f)] ∧
      (t.port port).toAck = (r.port port).toAck ++ [(f.src, f.linkSeq)] ∧ (t.port port).rxFrames = (r.port port).rxFrames + 1 ∧
      (t.port port).seen = (r.port port).seen ++ [frameKey f] ∧
      r.otherPlots t p ∧ r.otherPorts t port ∧ r.keepsBut t [.plots, .ports] := by
  obtain ⟨task, hexec⟩ := exec_reduction_taken hx h
  obtain ⟨t, y, ht, hgroups, hearly, hport, hframe⟩ := State.keepEarly_spec (port := port) (f := f) hg
  rw [State.forStep_early hred hok, ← ht] at hexec
  exact ⟨t, y, hexec, hgroups, hearly, by rw [hport]; rfl, by rw [hport]; rfl, by rw [hport]; rfl, hframe⟩

theorem reduction_asks (hx : ReductionFrame f port flt x) (h : s.arrive port f = .taken p g r)
    (hred : (r.plot p).reducing g = none) (hkind : f.kind ≠ 2) (hbad : linesHold f = false) :
    ∃ t, exec x s = .next t ∧ t.said f.src (.resend f.seq f.frameIdx f.groupId) ∧
      (t.engine (2 + port)).residueRetries = (r.engine (2 + port)).residueRetries + 1 ∧ t.plots = r.plots := by
  obtain ⟨task, hexec⟩ := exec_reduction_taken hx h
  obtain ⟨hsaid, hcount, hkeeps⟩ := r.askAgain_spec port p f
  exact ⟨_, by rw [hexec, State.forStep_asks hred hkind hbad], hsaid, hcount, hkeeps .plots (by decide)⟩

theorem reduction_fault (hx : ReductionFrame f port flt x) (h : s.arrive port f = .taken p g r) (hg : (r.plot p).groups = [g])
    (hred : (r.plot p).reducing g = some st) (hstep : st.step ≠ f.step) :
    ∃ t h, exec x s = .next t ∧ (t.plot p).groups = [h] ∧ h.suspended = true ∧
      (t.engine (2 + port)).err = setFlag (r.engine (2 + port)).err 3 ∧ t.ports = r.ports := by
  obtain ⟨task, hexec⟩ := exec_reduction_taken hx h
  obtain ⟨y, hgroups, hrest⟩ := State.protocolFault_spec (port := port) hg
  exact ⟨_, y, by rw [hexec, State.forStep_fault hred hstep], hgroups, hrest⟩

/-- A frame that the receiver does not take (R220, R226, R227). -/
theorem reduction_untaken (hx : ReductionFrame f port flt x) :
    ((s.port port).linkUp = false → exec x s = .next s) ∧
    ((s.port port).linkUp = true → f.fcsOk = false → ∃ t, exec x s = .next t ∧
      t.port port = { s.port port with rxDropped := (s.port port).rxDropped + 1 } ∧ s.otherPorts t port ∧ s.keepsBut t [.ports]) ∧
    (∀ p g, (s.port port).linkUp = true → s.badLink (linkOf f port) false = none → s.groupFor f.groupId f.src = some (p, g) →
      (f.generation < g.generation → ∃ t, exec x s = .next t ∧
        (t.engine (2 + port)).stale = (s.engine (2 + port)).stale + 1 ∧ s.otherEngines t (2 + port) ∧ s.keepsBut t [.engines]) ∧
      (f.generation = g.generation → ∀ r, r = (s.renew p g f.src).hearEnds f.src →
        (r.seenBefore f = false → ∃ h, s.arrive port f = .taken p h r) ∧
        (r.seenBefore f = true → ∃ t, exec x s = .next t ∧
          t.port port = { r.port port with toAck := (r.port port).toAck ++ [(f.src, f.linkSeq)] } ∧
          r.otherPorts t port ∧ r.keepsBut t [.ports]))) := by
  refine ⟨fun hdown => exec_reduction_dropped hx (State.arrive_linkDown hdown), fun hup hfcs => ?_, fun p g hup hlink hg => ⟨fun hgen => ?_, ?_⟩⟩
  · have hbad : s.badLink (linkOf f port) false = some none := by simp [State.badLink, linkOf, hfcs]
    exact ⟨_, exec_reduction_dropped hx (State.arrive_badLink hup hbad), s.port_updPort_self port _, s.otherPorts_updPort port _,
      s.keepsBut_updPort port _⟩
  · refine ⟨_, exec_reduction_dropped hx (State.arrive_older hup hlink hg hgen), ?_, fun j hj => State.engine_updEngine_ne _ _ _ _ hj,
      s.keepsBut_updEngine _ _⟩
    rw [State.stale, portEngine, State.engine_updEngine_self]
  · rintro hgen r rfl
    obtain ⟨htaken, hdup⟩ := State.arrive_current hup hlink hg hgen
    exact ⟨htaken, fun hseen => ⟨_, exec_reduction_duplicate hx (hdup hseen), State.port_updPort_self _ port _,
      State.otherPorts_updPort _ port _, State.keepsBut_updPort _ port _⟩⟩

end Frames

/-! ### Frames of the running step -/

section Running

variable {s r : State} {port p : Nat} {f : Frame} {g : Group} {flt : TileFaults} {x : Instr} {st : Step} {t : Tile}

theorem wave_parent (h : s.arrive port f = .taken p g r) (hred : (r.plot p).reducing g = some st) (hstep : st.step = f.step)
    (ht : r.tileAt p st.plan t.seq = some t) (hkind : f.kind = 2) (hlen : f.payload.length = 16)
    (hseq : (waveEntryAt f.payload 0).seq = t.seq) (hparent : g.parent r.fabric = some f.senderRank) :
    ∃ u, exec (.wave port f) s = .next (u.pump p st.plan) ∧
      u.tileAt p st.plan t.seq = some { t with final := some (waveEntryAt f.payload 0) } ∧
      r.otherPlots u p ∧ r.otherPorts u port ∧ r.keepsBut u [.plots, .ports] := by
  have hat := State.tileAt_acceptFrame (port := port) (handle := g.handle) (f := f) ht
  refine ⟨_, ?_, State.putTile_acceptFrame (port := port) (handle := g.handle) (f := f)
    (t' := { t with final := some (waveEntryAt f.payload 0) }) ht⟩
  rw [exec_wave_single hkind h hred hstep hlen, State.takeEntry_parent (s := r.acceptFrame port p g.handle f) (plan := st.plan)
    (t := t) (w := waveEntryAt f.payload 0) (hseq ▸ hat) hparent]

theorem wave_child (h : s.arrive port f = .taken p g r) (hred : (r.plot p).reducing g = some st) (hstep : st.step = f.step)
    (ht : r.tileAt p st.plan t.seq = some t) (hkind : f.kind = 2) (hlen : f.payload.length = 16)
    (hseq : (waveEntryAt f.payload 0).seq = t.seq) (hparent : g.parent r.fabric ≠ some f.senderRank)
    (hchild : f.senderRank ∈ g.children r.fabric) :
    ∃ u, exec (.wave port f) s = .next (u.pump p st.plan) ∧
      u.tileAt p st.plan t.seq = some { t with
        childWaves := t.childWaves.filter (fun c => c.1 != f.senderRank) ++ [(f.senderRank, waveEntryAt f.payload 0)] } ∧
      r.otherPlots u p ∧ r.otherPorts u port ∧ r.keepsBut u [.plots, .ports] := by
  have hat := State.tileAt_acceptFrame (port := port) (handle := g.handle) (f := f) ht
  refine ⟨_, ?_, State.putTile_acceptFrame (port := port) (handle := g.handle) (f := f) (t' := { t with
    childWaves := t.childWaves.filter (fun c => c.1 != f.senderRank) ++ [(f.senderRank, waveEntryAt f.payload 0)] }) ht⟩
  rw [exec_wave_single hkind h hred hstep hlen, State.takeEntry_child (s := r.acceptFrame port p g.handle f) (plan := st.plan)
    (t := t) (w := waveEntryAt f.payload 0) (hseq ▸ hat) hparent hchild]

theorem up_child (h : s.arrive port f = .taken p g r) (hred : (r.plot p).reducing g = some st) (hstep : st.step = f.step)
    (ht : r.tileAt p st.plan t.seq = some t) (hkind : f.kind = 3) (hseq : f.seq = t.seq) (hlines : linesHold f = true)
    (hchild : f.senderRank ∈ g.children r.fabric) (hphase : t.phase < 5) :
    ∃ u, exec (.up port f flt) s = .next ((u.pumpWith p st.plan flt).settleFailed p st.plan) ∧
      u.tileAt p st.plan t.seq = some (t.withChild f) ∧
      r.otherPlots u p ∧ r.otherPorts u port ∧ r.keepsBut u [.plots, .ports, .engines] := by
  obtain ⟨u, htake, hplots, hports, hkeeps⟩ := State.takeUp_child (s := r.acceptFrame port p g.handle f) (port := port) (p := p) (st := st)
    (flt := flt) hchild hphase
  have hplot (q : Nat) : u.plot q = (r.acceptFrame port p g.handle f).plot q := congrArg (fun m => NMap.get Plot.init m q) hplots
  have hport (j : Nat) : u.port j = (r.acceptFrame port p g.handle f).port j := congrArg (fun m => NMap.get Port.init m j) hports
  have hat : u.tileAt p st.plan t.seq = some t := (State.tileAt_congr (by rw [hplot]) _ _).trans (State.tileAt_acceptFrame ht)
  refine ⟨u.putTile p st.plan (t.withChild f), ?_, State.tileAt_putTile (t' := t.withChild f) hat, fun q hq => ?_, fun j hj => ?_,
    ((r.keepsBut_acceptFrame port p g.handle f).mono (by simp)).trans ((hkeeps.mono (by simp)).trans
      ((State.keepsBut_putTile u p _ _).mono (by simp)))⟩
  · have hx : (Instr.up port f flt) = if f.kind = 3 then .up port f flt else .down port f flt := by simp [hkind]
    rw [exec_values (.inl hkind) hx h hred hstep, State.takeValues_up (hseq ▸ ht) hlines hkind, htake]
  · rw [State.otherPlots_putTile u p _ _ q hq, hplot, r.otherPlots_acceptFrame port p g.handle f q hq]
  · exact (hport j).trans (r.otherPorts_acceptFrame port p g.handle f j hj)

theorem down_parent (h : s.arrive port f = .taken p g r) (hred : (r.plot p).reducing g = some st) (hstep : st.step = f.step)
    (ht : r.tileAt p st.plan t.seq = some t) (hkind : f.kind = 4) (hseq : f.seq = t.seq) (hlines : linesHold f = true)
    (hparent : g.parent r.fabric = some f.senderRank) (hphase : t.phase = 5) (hup : t.upSent = true) (hheld : f.frameIdx ∉ t.downHeld) :
    ∃ u, exec (.down port f flt) s = .next ((u.pumpWith p st.plan flt).settleFailed p st.plan) ∧
      u.tileAt p st.plan t.seq = some (t.withTotal f) ∧
      r.otherPlots u p ∧ r.otherPorts u port ∧ r.keepsBut u [.plots, .ports] := by
  have hsame : (t.withTotal f).seq = t.seq := by simp only [Tile.withTotal]
  have ht' : r.tileAt p st.plan (t.withTotal f).seq = some t := by rw [hsame, ht]
  obtain ⟨htile, hframe⟩ := State.putTile_acceptFrame (port := port) (handle := g.handle) (f := f) ht'
  rw [hsame] at htile
  refine ⟨_, ?_, htile, hframe⟩
  have hx : (Instr.down port f flt) = if f.kind = 3 then .up port f flt else .down port f flt := by simp [hkind]
  rw [exec_values (.inr hkind) hx h hred hstep, State.takeValues_down (hseq ▸ ht) hlines hkind,
    State.takeDown_parent (s := r.acceptFrame port p g.handle f) hparent hphase hup hheld]

/-- A line of the running step that fails its check: asked for again, and after three retries the port is faulty. -/
theorem values_bad (h : s.arrive port f = .taken p g r) (hred : (r.plot p).reducing g = some st) (hstep : st.step = f.step)
    (ht : r.tileAt p st.plan t.seq = some t) (hkind : f.kind = 3 ∨ f.kind = 4) (hseq : f.seq = t.seq) (hlines : linesHold f = false)
    (hx : x = (if f.kind = 3 then .up port f flt else .down port f flt)) :
    (t.retries.get 0 (retryKey f) < 3 →
      ∃ u, exec x s = .next (u.settleFailed p st.plan) ∧
      u.tileAt p st.plan t.seq = some { t with retries := t.retries.set (retryKey f) (t.retries.get 0 (retryKey f) + 1) } ∧
      u.said f.src (.resend f.seq f.frameIdx f.groupId) ∧
      (u.engine (2 + port)).residueRetries = (r.engine (2 + port)).residueRetries + 1 ∧ r.otherPlots u p) ∧
    (3 ≤ t.retries.get 0 (retryKey f) →
      ∃ u, exec x s = .next (u.settleFailed p st.plan) ∧ u.port port = { r.port port with faulty := true } ∧ r.otherPorts u port) := by
  have hexec := exec_values (flt := flt) hkind hx h hred hstep
  rw [State.takeValues_bad (hseq ▸ ht) hlines] at hexec
  refine ⟨fun hfew => ?_, fun hmany => ?_⟩
  · rw [State.residueFault_retry hfew] at hexec
    let t' : Tile := { t with retries := t.retries.set (retryKey f) (t.retries.get 0 (retryKey f) + 1) }
    obtain ⟨hsaid, hcount, hkeeps⟩ := (r.putTile p st.plan t').askAgain_spec port p f
    have hplot (q : Nat) := hkeeps.plot (by decide) q
    refine ⟨_, hexec, ?_, hsaid, hcount, fun q hq => (hplot q).trans (r.otherPlots_putTile p _ t' q hq)⟩
    exact (State.tileAt_congr (by rw [hplot]) _ _).trans (State.tileAt_putTile (t' := t') ht)
  · rw [State.residueFault_last hmany] at hexec
    have hport (j : Nat) := ((r.updPort port (fun v => { v with faulty := true })).keepsBut_routesChanged port 3).port (by decide) j
    refine ⟨_, hexec, ?_, fun j hj => ?_⟩
    · rw [hport, State.port_updPort_self]
    · rw [hport, State.port_updPort_ne _ _ _ _ hj]

end Running

/-- Settles O40, command by command: what a command or a frame sets in its tile, before the step's tiles advance. -/
theorem cascadeCommands : Obligations.CascadeCommands := by
  refine ⟨?handoff, fun s pav h => exec_tileHandoff_none h, ?convert, fun s e flag h => State.checkFails_of_noGroups h e flag, ?early,
    ?running, fun s port f flt x hkind hx => reduction_untaken ⟨hkind, hx⟩⟩
  case handoff =>
    intro s pav g st t h _ _ hst ht
    exact ⟨_, exec_tileHandoff_some h, State.tileAt_putTile (t' := st.entering t) (State.tileAt_eq_some hst ht),
      s.otherPlots_putTile _ _ _, s.keepsBut_putTile _ _ _⟩
  case convert =>
    intro s p plan seq m flt fl st t w ws hfl _ hphase hfailed _ ht hw hm hws
    subst hm hws
    exact ⟨fun got n hpass => tileConvert_passes hfl ht hphase hfailed hw hpass,
      fun hm hnone hclean => tileConvert_fails hfl ht hphase hfailed hw ((if_neg (Nat.not_le.2 hm)).trans hnone) hclean⟩
  case early =>
    intro s port p f g r flt x hkind hx h hg
    exact ⟨reduction_early ⟨hkind, hx⟩ h hg, reduction_asks ⟨hkind, hx⟩ h, fun st => reduction_fault ⟨hkind, hx⟩ h hg⟩
  case running =>
    intro s port p f g r flt st t h _ hrun hred hstep ht
    have hat : r.tileAt p st.plan t.seq = some t := State.tileAt_eq_some (st := st) (by simp [hrun]) ht
    exact ⟨fun hkind hlen hseq => ⟨wave_parent h hred hstep hat hkind hlen hseq, wave_child h hred hstep hat hkind hlen hseq⟩,
      up_child h hred hstep hat, down_parent h hred hstep hat,
      fun hkind hseq hlines x hx => values_bad h hred hstep hat hkind hseq hlines hx⟩

end Sys2Proof.Machine

/-! Links (R207, R224, R225): HELLO, LINK_DOWN and frames that are not the Avenue's (O41). -/

namespace Sys2Proof.Machine

/-! ### A link comes up -/

/-- A port whose link has come up. -/
def Port.raised (v : Port) : Port := { v with linkUp := true, lanesUp := 15, faulty := false }

/-- A port with a new transmit key (R411). -/
def Port.keyed (v : Port) (key salt now : Nat) : Port :=
  { v with txKey := some (key, salt, 1), newKey := none, rekeyWaits := [], keyFrames := 0, keyTick := now }

/-- In hall mode with an anchor a port takes a key that the Gatehouse draws. -/
def State.keyLink (s : State) (i : Nat) : State :=
  if s.mod.hall && s.mod.anchor.isSome && s.gatehouse.trngOk then
    (s.draw 256).2.draw 32 |>.2.updPort i (·.keyed (s.draw 256).1 ((s.draw 256).2.draw 32).1 s.now)
  else s

section Raise

variable {s : State} {i : Nat}

theorem State.raiseLink_up (h : (s.port i).linkUp = true) : s.raiseLink i = s := if_pos h

theorem State.raiseLink_down (h : (s.port i).linkUp = false) : s.raiseLink i =
    ((s.updPort i Port.raised).keyLink i).sendOn i (((s.updPort i Port.raised).keyLink i).port i).peerId (blankFrame s.fabric)
      (.hello s.fabric) := by
  have hfabric : ((s.updPort i Port.raised).keyLink i).fabric = s.fabric := by
    unfold State.keyLink
    split <;> rfl
  rw [← hfabric, State.raiseLink, if_neg (by simp [h])]
  rfl

theorem State.keyLink_rack (h : s.mod.hall = false) : s.keyLink i = s := by simp [State.keyLink, h]

theorem State.keyLink_hall (hhall : s.mod.hall = true) (hanchor : s.mod.anchor ≠ none) (htrng : s.gatehouse.trngOk = true) :
    ∃ u key salt, s.keepsBut u [.free] ∧ s.keyLink i = u.updPort i (·.keyed key salt s.now) := by
  refine ⟨_, _, _, fun x hx => ?_, if_pos (by simp [hhall, htrng, Option.isSome_iff_ne_none, hanchor])⟩
  cases x <;> simp_all [State.agree]

/-- What a link that comes up says: the state before, then its HELLO. -/
theorem State.hello_spec {u : State} {v : Port} {l : List Piece} (hv : u.port i = v) (hpeer : v.peerId = (s.port i).peerId)
    (hother : s.otherPorts u i) (hkeeps : s.keepsBut u l) :
    v.speaks ((u.sendOn i (u.port i).peerId (blankFrame s.fabric) (.hello s.fabric)).port i) ∧
    (u.sendOn i (u.port i).peerId (blankFrame s.fabric) (.hello s.fabric)).said (s.port i).peerId (.hello s.fabric) ∧
    s.otherPorts (u.sendOn i (u.port i).peerId (blankFrame s.fabric) (.hello s.fabric)) i ∧
    s.keepsBut (u.sendOn i (u.port i).peerId (blankFrame s.fabric) (.hello s.fabric)) (l ++ [.ports, .sent]) := by
  have hspeaks := u.speaks_sendOn i (u.port i).peerId (blankFrame s.fabric) (.hello s.fabric)
  rw [hv, hpeer] at hspeaks ⊢
  refine ⟨hv ▸ hspeaks.2.2 i, u.said_sendOn i _ _ _, hother.trans (u.otherPorts_sendOn i _ _ _), ?_⟩
  exact (hkeeps.mono (by simp)).trans (hspeaks.1.mono (by simp))

theorem State.raiseLink_rack (hdown : (s.port i).linkUp = false) (hhall : s.mod.hall = false) :
    (s.port i).raised.speaks ((s.raiseLink i).port i) ∧ (s.raiseLink i).said (s.port i).peerId (.hello s.fabric) ∧
    s.otherPorts (s.raiseLink i) i ∧ s.keepsBut (s.raiseLink i) [.ports, .sent] := by
  rw [State.raiseLink_down hdown, State.keyLink_rack (s := s.updPort i Port.raised) hhall]
  obtain ⟨hport, hsaid, hother, hkeeps⟩ := State.hello_spec (s := s) (s.port_updPort_self i Port.raised) rfl (s.otherPorts_updPort i _)
    (s.keepsBut_updPort i _)
  exact ⟨hport, hsaid, hother, hkeeps.mono (by simp)⟩

theorem State.raiseLink_hall (hdown : (s.port i).linkUp = false) (hhall : s.mod.hall = true) (hanchor : s.mod.anchor ≠ none)
    (htrng : s.gatehouse.trngOk = true) : ∃ key salt,
    ((s.port i).raised.keyed key salt s.now).speaks ((s.raiseLink i).port i) ∧
    (s.raiseLink i).said (s.port i).peerId (.hello s.fabric) ∧
    s.otherPorts (s.raiseLink i) i ∧ s.keepsBut (s.raiseLink i) [.ports, .free, .sent] := by
  obtain ⟨u, key, salt, hfree, heq⟩ := State.keyLink_hall (s := s.updPort i Port.raised) (i := i) hhall hanchor htrng
  refine ⟨key, salt, ?_⟩
  rw [State.raiseLink_down hdown, heq]
  have hraised : u.port i = (s.port i).raised := (hfree.port (by decide) i).trans (s.port_updPort_self i Port.raised)
  have hother : s.otherPorts u i := fun j hj => (hfree.port (by decide) j).trans (s.otherPorts_updPort i Port.raised j hj)
  obtain ⟨hport, hsaid, hother, hkeeps⟩ := State.hello_spec (s := s) (u := u.updPort i (·.keyed key salt s.now))
    (v := (s.port i).raised.keyed key salt s.now) ((u.port_updPort_self i _).trans (by rw [hraised])) rfl
    (hother.trans (u.otherPorts_updPort i _)) (((s.keepsBut_updPort i Port.raised).mono (l' := [.ports, .free]) (by simp)).trans
      ((hfree.mono (by simp)).trans ((u.keepsBut_updPort i _).mono (by simp))))
  exact ⟨hport, hsaid, hother, hkeeps.mono (by simp)⟩

end Raise

/-! ### HELLO (R224) -/

section Hello

variable {s : State} {l : Link}

theorem exec_hello_fenced (h : s.unitFenced (16 + l.port) = true) (peer : Option Nat) : exec (.hello l peer) s = .next s := if_pos h

theorem exec_hello_none (h : s.unitFenced (16 + l.port) = false) : exec (.hello l none) s = .next (s.raiseLink l.port) :=
  if_neg (by simp [h])

/-- A port that has heard its peer's HELLO. -/
def Port.met (v : Port) (peer peerPort : Nat) : Port := { v with peerId := peer, peerValid := true, peerPort := peerPort }

theorem exec_hello_peer {f : Nat} (h : s.unitFenced (16 + l.port) = false) (hf : f < 2 ^ 36)
    (hup : ((s.raiseLink l.port).port l.port).linkUp = true) (hlink : (s.raiseLink l.port).badLink l true = none) :
    exec (.hello l (some f)) s = .next (((s.raiseLink l.port).heardOn l).updPort l.port (·.met f l.srcPort)) := by
  have hexec : exec (.hello l (some f)) s = .next ((s.raiseLink l.port).hearControl l true true (fun s =>
    s.updPort l.port (·.met (f % 2 ^ 36) l.srcPort))) := if_neg (by simp [h])
  rw [hexec, Nat.mod_eq_of_lt hf, State.hearControl, hup, Bool.true_or, hlink]
  rfl

/-- What waits and what has gone stays said. -/
theorem State.said_congr {s t : State} (hsent : t.sent = s.sent) (hwaiting : ∀ i, (t.port i).waiting = (s.port i).waiting)
    {dest : Nat} {m : Control} (h : s.said dest m) : t.said dest m := by
  obtain ⟨i, ⟨u, f, hdst, hmem⟩ | ⟨r, hmem, hr⟩⟩ := h
  · exact ⟨i, .inl ⟨u, f, hdst, hsent ▸ hmem⟩⟩
  · exact ⟨i, .inr ⟨r, (hwaiting i).symm ▸ hmem, hr⟩⟩

/-- A module whose port hears its peer. -/
theorem State.met_spec (s : State) (l : Link) (f : Nat) :
    ((s.heardOn l).updPort l.port (·.met f l.srcPort)).port l.port = ((s.heardOn l).port l.port).met f l.srcPort ∧
    s.otherPorts ((s.heardOn l).updPort l.port (·.met f l.srcPort)) l.port ∧
    (s.heardOn l).keepsBut ((s.heardOn l).updPort l.port (·.met f l.srcPort)) [.ports] :=
  ⟨State.port_updPort_self _ _ _, (s.otherPorts_heardOn l).trans (State.otherPorts_updPort _ _ _), State.keepsBut_updPort _ _ _⟩

/-- The link comes up with the HELLO of its peer in rack mode. -/
theorem hello_both {f : Nat} (hfence : s.unitFenced (16 + l.port) = false) (hf : f < 2 ^ 36) (hdown : (s.port l.port).linkUp = false)
    (hhall : s.mod.hall = false) (hfcs : l.fcsOk = true) : ∃ t, exec (.hello l (some f)) s = .next t ∧
      (t.port l.port).linkUp = true ∧ (t.port l.port).peerId = f ∧ (t.port l.port).peerValid = true ∧
      (t.port l.port).peerPort = l.srcPort ∧ t.said (s.port l.port).peerId (.hello s.fabric) ∧
      (t.port l.port).rxFrames = (s.port l.port).rxFrames + 1 ∧ s.otherPorts t l.port ∧ s.keepsBut t [.plots, .ports, .sent] := by
  obtain ⟨hport, hsaid, hother, hkeeps⟩ := State.raiseLink_rack hdown hhall
  have hup : ((s.raiseLink l.port).port l.port).linkUp = true := by rw [hport.2]; rfl
  have hmod : (s.raiseLink l.port).mod = s.mod := hkeeps .mod (by decide)
  have hlink : (s.raiseLink l.port).badLink l true = none := by simp [State.badLink, hfcs, hmod, hhall]
  obtain ⟨hmet, hother', hkeeps'⟩ := (s.raiseLink l.port).met_spec l f
  refine ⟨_, exec_hello_peer hfence hf hup hlink, ?_, ?_, ?_, ?_, ?_, ?_, hother.trans hother', ?_⟩
  case refine_5 =>
    refine State.said_congr (s := s.raiseLink l.port) ?_ (fun j => ?_) hsaid
    · rfl
    by_cases hj : j = l.port
    · subst hj
      rw [hmet, State.port_heardOn, Port.met]
    · rw [hother' j hj]
  case refine_7 =>
    exact (hkeeps.mono (by simp)).trans (((State.keepsBut_heardOn _ l).mono (by simp)).trans (hkeeps'.mono (by simp)))
  all_goals rw [hmet, State.port_heardOn]
  · exact hup
  · rfl
  · rfl
  · rfl
  · simp only [Port.met]
    rw [hport.2]
    rfl

end Hello

/-! ### LINK_DOWN (R207, R225) -/

section LinkDown

variable {s : State} {i p f : Nat} {g : Group}

/-- A port whose link has gone. -/
def Port.lowered (v : Port) : Port := { v with linkUp := false, lanesUp := 0, peerValid := false, err := setFlag v.err 0 }

theorem exec_linkDown_up (h : (s.port i).linkUp = true) : exec (.linkDown i) s = .next ((s.updPort i Port.lowered).routesChanged i 0) :=
  if_pos h

/-- Without groups no route matters. -/
theorem State.routesChanged_of_noGroups (h : ∀ p ∈ tenantPlots, (s.plot p).groups = []) (i cause : Nat) : s.routesChanged i cause = s :=
  foldl_eq_self (fun p hp => by simp [h p hp])

/-- One element of a list acts, once. -/
theorem foldl_eq_once {σ α : Type} {f : σ → α → σ} {s t : σ} {l : List α} {x : α} (hx : x ∈ l) (hl : l.Nodup)
    (hbefore : ∀ y ∈ l, y ≠ x → f s y = s) (hturn : f s x = t) (hafter : ∀ y ∈ l, y ≠ x → f t y = t) : l.foldl f s = t := by
  obtain ⟨as, bs, rfl⟩ := List.append_of_mem hx
  obtain ⟨-, hxs, hdisjoint⟩ := List.nodup_append.1 hl
  have has : ∀ y ∈ as, y ≠ x := fun y hy => hdisjoint y hy x (List.mem_cons_self ..)
  have hbs : ∀ y ∈ bs, y ≠ x := fun y hy heq => (List.nodup_cons.1 hxs).1 (heq ▸ hy)
  rw [List.foldl_append, List.foldl_cons, foldl_eq_self (fun y hy => hbefore y (by simp [hy]) (has y hy)), hturn,
    foldl_eq_self (fun y hy => hafter y (by simp [hy]) (hbs y hy))]

theorem nodup_tenantPlots : tenantPlots.Nodup := by decide

theorem State.setGroupState_eq {handle st : Nat} (hof : (s.plot p).groupOf handle = some g) (hst : g.state ≠ st) (fabric : Nat) :
    s.setGroupState p handle st fabric = (s.updGroup p handle (fun x => { x with state := st })).survivalEvent p 1 { g with state := st }
      fabric 0 := by simp only [State.setGroupState, hof, hst, if_false]

/-- A group that changes state; no other plot's groups change. -/
theorem State.groups_setGroupState (h : (s.plot p).groups = [g]) {st : Nat} (hst : g.state ≠ st) (fabric : Nat) :
    ((s.setGroupState p g.handle st fabric).plot p).groups = [{ g with state := st }] ∧
    ∀ q, q ≠ p → ((s.setGroupState p g.handle st fabric).plot q).groups = (s.plot q).groups := by
  have hof : (s.plot p).groupOf g.handle = some g := by simp [Plot.groupOf, h]
  have hsame := State.sameGroups_unsolicited (s.updGroup p g.handle (fun x => { x with state := st })) p
  rw [State.setGroupState_eq hof hst]
  refine ⟨(hsame _ _ p).trans (State.groups_updGroup_single h _), fun q hq => (hsame _ _ q).trans ?_⟩
  rw [s.otherPlots_updGroup p g.handle _ q hq]

/-- A neighbour of the one group of a plot has lost its last port (R207). -/
theorem State.groups_routeCheck (h : (s.plot p).groups = [g]) (hstate : g.state = groupActive) (hf : f ∈ g.neighbours s.fabric)
    (hroute : s.route p f = []) (cause : Nat) :
    ((s.routeCheck p f i cause).plot p).groups = [{ g with state := groupSuspect }] ∧
    ∀ q, q ≠ p → ((s.routeCheck p f i cause).plot q).groups = (s.plot q).groups := by
  have htouch : s.groupsTouching p f = [g] := by
    simp [State.groupsTouching, h, hstate, hf]
  obtain ⟨hgroups, hothers⟩ := State.groups_setGroupState h (st := groupSuspect) (by rw [hstate]; decide) f
  have heq : s.routeCheck p f i cause = (s.setGroupState p g.handle groupSuspect f).raise p
      ((s.setGroupState p g.handle groupSuspect f).errOf 2 5 cause i ((s.setGroupState p g.handle groupSuspect f).plot p).eventStep) := by
    simp [State.routeCheck, htouch, hroute]
  have hsame := State.sameGroups_raise (s.setGroupState p g.handle groupSuspect f) p
  rw [heq]
  exact ⟨(hsame _ p).trans hgroups, fun q hq => (hsame _ q).trans (hothers q hq)⟩

/-- The peer's port leaves the routes of the one plot with a group, whose one neighbour has no port left. -/
theorem State.routesChanged_last (hp : p ∈ tenantPlots) (hothers : ∀ q ∈ tenantPlots, q ≠ p → (s.plot q).groups = [])
    (h : (s.plot p).groups = [g]) (hneighbours : g.neighbours s.fabric = [f]) (hstate : g.state = groupActive)
    (hmask : bitOf ((s.plot p).routeMask f) i = true) (hpeer : (s.port i).peerId = f) (hroute : s.route p f = []) (cause : Nat) :
    s.routesChanged i cause = s.routeCheck p f i cause := by
  have hgone := State.groups_routeCheck (i := i) h hstate (by simp [hneighbours]) hroute cause
  have hturn : ([g].map (fun g => g.neighbours s.fabric)).flatten.eraseDups.filter (fun f => bitOf ((s.plot p).routeMask f) i &&
      (s.mod.hall || (s.port i).peerId == f)) = [f] := by
    simp [hneighbours, hmask, hpeer, List.eraseDups_cons]
  unfold State.routesChanged
  refine foldl_eq_once hp nodup_tenantPlots (fun q hq hne => ?_) ?_ (fun q hq hne => ?_)
  · simp [hothers q hq hne]
  · simp only [h, hturn, List.foldl_cons, List.foldl_nil]
  · simp [hgone.2 q hne, hothers q hq hne]

/-- LINK_DOWN of the last port to the one neighbour of the one group (Table CSC-5). -/
theorem linkDown_suspects (hup : (s.port i).linkUp = true) (hpeer : (s.port i).peerId = f) (hp : p ∈ tenantPlots)
    (hothers : ∀ q ∈ tenantPlots, q ≠ p → (s.plot q).groups = []) (hg : (s.plot p).groups = [g])
    (hneighbours : g.neighbours s.fabric = [f]) (hstate : g.state = groupActive) (hmask : bitOf ((s.plot p).routeMask f) i = true)
    (hlast : ∀ j < 12, j ≠ i → s.portLeads j f = false) : ∃ t x, exec (.linkDown i) s = .next t ∧ (t.plot p).groups = [x] ∧
      x = { g with state := groupSuspect } ∧ (t.port i).linkUp = false ∧ s.otherPorts t i := by
  let u := s.updPort i Port.lowered
  have hport : u.port i = (s.port i).lowered := s.port_updPort_self i _
  have hleads (j : Nat) (hj : j < 12) : u.portLeads j f = false := by
    by_cases hji : j = i
    · subst hji
      simp [State.portLeads, hport, Port.lowered]
    · have hsame : u.port j = s.port j := s.otherPorts_updPort i _ j hji
      rw [← hlast j hj hji, State.portLeads, State.portLeads, hsame]
      rfl
  have hroute : u.route p f = [] := List.filter_eq_nil_iff.2 (fun j hj => by simp [hleads j (List.mem_range.1 hj)])
  have hchanged := State.routesChanged_last (s := u) hp hothers hg hneighbours hstate hmask (by rw [hport]; exact hpeer) hroute 0
  obtain ⟨hgroups, -⟩ := State.groups_routeCheck (s := u) (i := i) hg hstate (hneighbours ▸ List.mem_singleton_self f) hroute 0
  have hports (j : Nat) : (u.routeCheck p f i 0).port j = u.port j := (u.keepsBut_routeCheck p f i 0).port (by decide) j
  refine ⟨_, _, (exec_linkDown_up hup).trans (congrArg _ hchanged), hgroups, rfl, ?_, fun j hj => ?_⟩
  · rw [hports, hport, Port.lowered]
  · rw [hports, s.otherPorts_updPort i _ j hj]

end LinkDown

/-! ### FOREIGN_FRAME (R223) -/

theorem exec_foreignFrame_hall {s : State} {i ty : Nat} {bs : Bytes} (hhall : s.mod.hall = true) (hup : (s.port i).linkUp = true)
    (hty : ty ≠ 0x88B5) : exec (.foreignFrame i ty bs) s = .next { s with sent := s.sent ++ [.ethernet i bs] } :=
  if_pos ⟨hhall, hup, hty⟩

theorem exec_foreignFrame_rack {s : State} {i ty : Nat} {bs : Bytes} (hhall : s.mod.hall = false) :
    exec (.foreignFrame i ty bs) s = .next s := if_neg (by simp [hhall])

end Sys2Proof.Machine

/-! Acknowledgement and retention (R217, R225 to R227): CONTROL, ACK_TIMER, RESEND and FRAME_RETRANSMIT (O41). -/

namespace Sys2Proof.Machine

/-! ### CONTROL (R227) -/

/-- A port that has counted a frame that is not to be acknowledged. -/
def Port.counting (v : Port) : Port := { v with rxFrames := v.rxFrames + 1 }

/-- What the arrival of an acknowledgement alone does. -/
def State.countedOn (s : State) (l : Link) : State := (s.hearEnds l.src).updPort l.port Port.counting

/-- A port whose frames have been acknowledged. -/
def Port.relieved (v : Port) (i now : Nat) (acks : List Nat) : Port :=
  { v with retention := v.retention.filter (fun r => !acks.contains r.frame.linkSeq)
           creditWait := v.creditWait + BitVec.ofNat 64 (Config.creditWait i now)
           fecCorrected := v.fecCorrected + BitVec.ofNat 64 (Config.fecCorrected i now) }

section Control

variable {s : State} {l : Link} {acks : List Nat} {i : Nat} {r : Retained}

theorem exec_control_arrives (h : Arrives s l) :
    exec (.control l acks) s = .next ((s.countedOn l).acknowledge l.port acks).pumpTraffic := by
  obtain ⟨hup, hlink⟩ := h
  have hexec : exec (.control l acks) s = .next (s.hearControl l false false (fun s => (s.acknowledge l.port acks).pumpTraffic)) := rfl
  rw [hexec, State.hearControl, hup, Bool.false_or, hlink]
  rfl

theorem exec_control_dropped {flag : Option Nat} (hup : (s.port l.port).linkUp = true)
    (hlink : s.badLink l (!s.holdsKeys l.src) = some flag) : exec (.control l acks) s = .next (s.dropFrame l.port flag) := by
  have hexec : exec (.control l acks) s = .next (s.hearControl l false false (fun s => (s.acknowledge l.port acks).pumpTraffic)) := rfl
  rw [hexec, State.hearControl, hup, Bool.false_or, hlink]
  rfl

theorem State.acknowledge_eq (s : State) (i : Nat) (acks : List Nat) :
    s.acknowledge i acks = (s.updPort i (·.relieved i s.now acks)).drainWaiting i := rfl

theorem State.drainWaiting_nil (h : (s.port i).waiting = []) : s.drainWaiting i = s := by rw [State.drainWaiting, h, List.foldl_nil]

/-- The one frame that waits goes when a buffer is free. -/
theorem State.drainWaiting_single (h : (s.port i).waiting = [r]) (hfree : s.controlFree i r.dest = true) :
    s.drainWaiting i = (s.updPort i (fun v => { v with waiting := v.waiting.tail })).transmit i r := by
  simp [State.drainWaiting, h, hfree]

theorem State.controlFree_congr {s t : State} (h : (t.port i).retention = (s.port i).retention) (dest : Nat) :
    t.controlFree i dest = s.controlFree i dest := by
  have hout : (t.port i).outstanding 0 0 dest = (s.port i).outstanding 0 0 dest := by rw [Port.outstanding, h, Port.outstanding]
  rw [State.controlFree, hout, State.controlFree]

/-- The state in which a CONTROL frame's acknowledgements have freed their buffers. -/
theorem State.relieved_spec (s : State) (l : Link) (acks : List Nat) {u : State}
    (hu : u = (s.countedOn l).updPort l.port (·.relieved l.port (s.countedOn l).now acks)) :
    u.port l.port = (s.port l.port).counting.relieved l.port s.now acks ∧ s.otherPorts u l.port ∧
    u.plots = (s.hearEnds l.src).plots ∧ s.keepsBut u [.plots, .ports] ∧ u.sent = s.sent := by
  subst hu
  refine ⟨?_, fun j hj => ?_, rfl, ?_, rfl⟩
  · rw [State.port_updPort_self, State.countedOn, State.port_updPort_self]
    rfl
  · rw [State.port_updPort_ne _ _ _ _ hj, State.countedOn, State.port_updPort_ne _ _ _ _ hj]
    rfl
  · exact (((s.keepsBut_hearEnds l.src).mono (by simp)).trans ((State.keepsBut_updPort _ _ _).mono (by simp))).trans
      ((State.keepsBut_updPort _ _ _).mono (by simp))

theorem control_nobody_waits (h : Arrives s l) (hwait : (s.port l.port).waiting = []) :
    ∃ u, exec (.control l acks) s = .next u.pumpTraffic ∧
      u.port l.port = { s.port l.port with
        rxFrames := (s.port l.port).rxFrames + 1
        retention := (s.port l.port).retention.filter (fun r => !acks.contains r.frame.linkSeq)
        creditWait := (u.port l.port).creditWait, fecCorrected := (u.port l.port).fecCorrected } ∧
      s.otherPorts u l.port ∧ u.plots = (s.hearEnds l.src).plots ∧ s.keepsBut u [.plots, .ports] := by
  obtain ⟨hport, hother, hplots, hkeeps, -⟩ := s.relieved_spec l acks rfl
  refine ⟨_, ?_, by rw [hport]; rfl, hother, hplots, hkeeps⟩
  rw [exec_control_arrives h, State.acknowledge_eq, State.drainWaiting_nil (by rw [hport]; exact hwait)]

theorem control_one_waits (h : Arrives s l) (hwait : (s.port l.port).waiting = [r])
    (hfree : (s.updPort l.port (fun x => { x with
      retention := (s.port l.port).retention.filter (fun r => !acks.contains r.frame.linkSeq) })).controlFree l.port r.dest = true) :
    ∃ u, exec (.control l acks) s = .next u.pumpTraffic ∧ (u.port l.port).waiting = [] ∧
      (∃ (v : State) (f : Frame), u.sent = s.sent ++ [v.wireOf r.dest l.port f r.body]) ∧ s.otherPorts u l.port := by
  obtain ⟨hport, hother, -, -, hsent⟩ := s.relieved_spec l acks rfl
  let w := (s.countedOn l).updPort l.port (·.relieved l.port (s.countedOn l).now acks)
  have hroom : w.controlFree l.port r.dest = true := by
    rw [← hfree]
    refine State.controlFree_congr ?_ r.dest
    rw [hport, State.port_updPort_self]
    rfl
  have hdrain := State.drainWaiting_single (s := w) (by rw [hport]; exact hwait) hroom
  refine ⟨_, (exec_control_arrives h).trans (congrArg (fun u : State => Host.Outcome.next u.pumpTraffic) hdrain), ?_, ?_, ?_⟩
  · rw [State.port_transmit_self, State.port_updPort_self, hport]
    change (s.port l.port).waiting.tail = []
    rw [hwait, List.tail_cons]
  · exact ⟨_, _, (State.transmit_sent _ l.port r).trans (congrArg (· ++ _) hsent)⟩
  · exact hother.trans ((State.otherPorts_updPort _ _ _).trans (State.otherPorts_transmit _ _ _))

end Control

/-! ### ACK_TIMER (R227) -/

/-- What one step of a list says stands at its end. -/
theorem State.said_foldl {α : Type} {f : State → α → State} {l : List Piece} {dest : Nat} {m : Control}
    (hspeaks : ∀ (t : State) x, t.speaks (f t x) l) {xs : List α} {x : α} (hx : x ∈ xs) (s : State)
    (hsaid : ∀ t : State, s.speaks t l → (f t x).said dest m) : (xs.foldl f s).said dest m := by
  obtain ⟨as, bs, rfl⟩ := List.append_of_mem hx
  rw [List.foldl_append, List.foldl_cons]
  exact (State.speaks_foldl hspeaks bs _).said (hsaid _ (State.speaks_foldl hspeaks as s))

/-- The acknowledgement of what a port has taken from a module. -/
def State.ackTo (s : State) (i own : Nat) (due : List (Nat × Nat)) (src : Nat) : State :=
  s.sendOn i src (blankFrame own) (.ack ((due.filter (fun e => e.1 == src)).map (·.2)))

section AckTimer

variable {s : State} {i : Nat}

/-- The acknowledgement that a module is sent. -/
def ackOf (due : List (Nat × Nat)) (src : Nat) : Control := .ack ((due.filter (fun e => e.1 == src)).map (·.2))

theorem State.speaks_ackTo (s : State) (i own : Nat) (due : List (Nat × Nat)) (src : Nat) : s.speaks (s.ackTo i own due src) [.ports, .sent] :=
  s.speaks_sendOn i src _ _

theorem State.said_ackTo (s : State) (i own : Nat) (due : List (Nat × Nat)) (src : Nat) : (s.ackTo i own due src).said src (ackOf due src) :=
  s.said_sendOn i src _ _

theorem exec_ackTimer (s : State) (i : Nat) : exec (.ackTimer i) s = .next (((s.port i).toAck.map (·.1)).eraseDups.foldl
    (fun t src => t.ackTo i s.fabric (s.port i).toAck src) (s.updPort i (fun v => { v with toAck := [] }))) := rfl

/-- Acknowledgements are not kept. -/
theorem State.retention_ackTo (s : State) (i own : Nat) (due : List (Nat × Nat)) (src : Nat) :
    ((s.ackTo i own due src).port i).retention = (s.port i).retention := by
  rw [State.ackTo, State.sendOn_ack, State.port_transmit_self]
  rfl

theorem ackTimer_spec (s : State) (i : Nat) : ∃ t, exec (.ackTimer i) s = .next t ∧ (t.port i).toAck = [] ∧
    (∀ e ∈ (s.port i).toAck, t.said e.1 (.ack (((s.port i).toAck.filter (fun x => x.1 == e.1)).map (·.2)))) ∧
    (t.port i).retention = (s.port i).retention ∧ ((s.port i).toAck = [] → t.sent = s.sent ∧ ∀ j, t.port j = s.port j) ∧
    s.otherPorts t i ∧ s.keepsBut t [.ports, .sent] := by
  let u := s.updPort i (fun v => { v with toAck := [] })
  have hu : u.port i = { s.port i with toAck := [] } := s.port_updPort_self i _
  have hspeaks := State.speaks_foldl (l := [.ports, .sent]) (fun t src => t.speaks_ackTo i s.fabric (s.port i).toAck src)
    ((s.port i).toAck.map (·.1)).eraseDups u
  refine ⟨_, exec_ackTimer s i, ?_, fun e he => ?_, ?_, fun hnil => ?_, ?_, ((s.keepsBut_updPort i _).mono (by simp)).trans hspeaks.1⟩
  · exact (congrArg Port.toAck (hspeaks.2.2 i).2).trans (congrArg Port.toAck hu)
  · exact State.said_foldl (fun t src => t.speaks_ackTo i s.fabric (s.port i).toAck src)
      (List.mem_eraseDups.2 (List.mem_map_of_mem he)) u (fun t _ => t.said_ackTo i s.fabric (s.port i).toAck e.1)
  · exact List.foldlRecOn (motive := fun t : State => (t.port i).retention = (s.port i).retention) _ _
      (show (u.port i).retention = _ by rw [hu])
      (fun t ht src _ => (t.retention_ackTo i _ _ src).trans ht)
  · simp only [hnil, List.map_nil, List.eraseDups_nil, List.foldl_nil]
    refine ⟨rfl, fun j => ?_⟩
    by_cases hj : j = i
    · subst hj
      exact hu.trans (by rw [← hnil])
    · exact s.otherPorts_updPort i _ j hj
  · exact List.foldlRecOn (motive := fun t : State => s.otherPorts t i) _ _ (s.otherPorts_updPort i _)
      (fun t ht src _ => ht.trans (t.otherPorts_sendOn i src _ _))

end AckTimer

/-! ### A frame goes again (R217, R227) -/

/-- A frame that goes again, with its attempts. -/
def Retained.again (r : Retained) (n : Nat) : Retained := { r with frame := { r.frame with resent := true }, attempts := n }

/-- A port that no longer keeps a frame. -/
def Port.losing (v : Port) (r : Retained) : Port := { v with retention := v.retention.filter (· != r) }

/-- A port that repeats a frame. -/
def Port.repeating (v : Port) : Port := { v with retransmits := v.retransmits + 1 }

section Repeat

variable {s : State} {i k : Nat} {r : Retained}

theorem State.repeatFrame_on (h : (if (s.waysOf r).contains i then some i else (s.waysOf r).head?) = some k) : s.repeatFrame i r =
    ((s.updPort i (·.losing r)).updPort k Port.repeating).transmit k (r.again (if k = i ∧ r.attempts < 8 then r.attempts + 1 else 1)) := by
  simp only [State.repeatFrame, h]
  rfl

theorem State.repeatFrame_none (h : s.waysOf r = []) : s.repeatFrame i r = s := by simp [State.repeatFrame, h]

theorem State.gone_keeps (h : ∀ m, r.body = some m → onlyAcks m = false) (n : Nat) : (s.gone i (r.again n)).keeps = true := by
  cases hbody : r.body with
  | none => simp [Retained.keeps, State.gone, Retained.again, hbody]
  | some m => simp [Retained.keeps, State.gone, Retained.again, hbody, h m hbody]

/-- A frame that goes again over its own port. -/
theorem State.repeatFrame_own (hi : i ∈ s.waysOf r) (hbody : ∀ m, r.body = some m → onlyAcks m = false) :
    ∃ (t : State) (x : Retained), s.repeatFrame i r = t ∧ (t.port i).retention = (s.port i).retention.filter (· != r) ++ [x] ∧
      x.frame.resent = true ∧ x.frame.payload = r.frame.payload ∧ x.frame.linkSeq = (s.port i).txSeq ∧
      x.attempts = (if r.attempts < 8 then r.attempts + 1 else 1) ∧ x.sentTick = s.now ∧
      (t.port i).retransmits = (s.port i).retransmits + 1 ∧ (t.port i).txSeq = (s.port i).txSeq + 1 ∧
      (∃ v : State, t.sent = s.sent ++ [v.wireOf r.dest i x.frame r.body]) ∧ s.otherPorts t i ∧
      s.keepsBut t [.plots, .ports, .sent] := by
  let u := (s.updPort i (·.losing r)).updPort i Port.repeating
  let y := r.again (if r.attempts < 8 then r.attempts + 1 else 1)
  have hu : u.port i = ((s.port i).losing r).repeating := by
    rw [State.port_updPort_self, State.port_updPort_self]
  have heq : s.repeatFrame i r = u.transmit i y := by
    rw [State.repeatFrame_on (k := i) (if_pos (List.contains_iff_mem.2 hi))]
    simp only [true_and]
    rfl
  have hother : s.otherPorts u i := (s.otherPorts_updPort i _).trans (State.otherPorts_updPort _ i _)
  have hkeeps : s.keepsBut u [.ports] := (s.keepsBut_updPort i _).trans (State.keepsBut_updPort _ i _)
  have hport : (u.transmit i y).port i = (((s.port i).losing r).repeating).sending (u.gone i y) := by rw [State.port_transmit_self, hu]
  refine ⟨_, u.gone i y, heq, ?_, rfl, rfl, by simp only [State.gone, State.stamp, hu]; rfl, rfl, rfl, ?_, ?_,
    ⟨u, u.transmit_sent i y⟩, hother.trans (u.otherPorts_transmit i y), (hkeeps.mono (by simp)).trans (u.keepsBut_transmit i y)⟩
  · rw [hport, Port.sending, State.gone_keeps hbody]
    rfl
  · rw [hport]
    rfl
  · rw [hport]
    rfl

/-- A frame that goes again over another port. -/
theorem State.repeatFrame_other {ks : List Nat} (hi : i ∉ s.waysOf r) (hk : s.waysOf r = k :: ks)
    (hbody : ∀ m, r.body = some m → onlyAcks m = false) :
    ∃ (t : State) (x : Retained), s.repeatFrame i r = t ∧ t.port i = (s.port i).losing r ∧
      (t.port k).retention = (s.port k).retention ++ [x] ∧ x.frame.payload = r.frame.payload ∧ x.frame.resent = true ∧
      x.dest = r.dest ∧ x.attempts = 1 ∧ (∃ v : State, t.sent = s.sent ++ [v.wireOf r.dest k x.frame r.body]) ∧
      s.keepsBut t [.plots, .ports, .sent] := by
  have hne : k ≠ i := fun h => hi (by rw [hk, h]; exact List.mem_cons_self ..)
  let u := (s.updPort i (·.losing r)).updPort k Port.repeating
  have hui : u.port i = (s.port i).losing r := by
    rw [State.port_updPort_ne _ _ _ _ hne.symm, State.port_updPort_self]
  have huk : u.port k = (s.port k).repeating := by
    rw [State.port_updPort_self, State.port_updPort_ne _ _ _ _ hne]
  have heq : s.repeatFrame i r = u.transmit k (r.again 1) := by
    have hway : (if (s.waysOf r).contains i then some i else (s.waysOf r).head?) = some k := by
      rw [if_neg (by simpa using hi), hk, List.head?_cons]
    rw [State.repeatFrame_on hway, if_neg (fun h => hne h.1)]
  have hkeeps : s.keepsBut u [.ports] := (s.keepsBut_updPort i _).trans (State.keepsBut_updPort _ k _)
  refine ⟨_, u.gone k (r.again 1), heq, ?_, ?_, rfl, rfl, rfl, rfl, ⟨u, u.transmit_sent k _⟩,
    (hkeeps.mono (by simp)).trans (u.keepsBut_transmit k _)⟩
  · rw [u.otherPorts_transmit k _ i hne.symm, hui]
  · rw [State.port_transmit_self, huk, Port.sending, State.gone_keeps hbody]
    rfl

theorem State.engineDown_of_noGroups (h : ∀ p ∈ tenantPlots, (s.plot p).groups = []) (i block cause : Nat) :
    s.engineDown i block cause = s :=
  foldl_eq_self (fun p hp => by rw [State.servedBy_of_noGroups (h p hp)]; rfl)

/-- A frame that the store cannot give back is dropped (Table ERR-2). -/
theorem State.repeatOrLose_lost (hgroups : ∀ p ∈ tenantPlots, (s.plot p).groups = []) : s.repeatOrLose i r true =
    (s.updPort i (·.losing r)).updEngine (portEngine i) (fun e => { e with err := setFlag e.err 4 }) := by
  rw [State.repeatOrLose, if_pos rfl, State.engineDown_of_noGroups]
  · rfl
  · exact hgroups

theorem State.repeatOrLose_lost_spec (s : State) (i : Nat) (r : Retained) {t : State}
    (ht : t = (s.updPort i (·.losing r)).updEngine (portEngine i) (fun e => { e with err := setFlag e.err 4 })) :
    (t.port i).retention = (s.port i).retention.filter (· != r) ∧ (t.engine (2 + i)).err = setFlag (s.engine (2 + i)).err 4 ∧
    t.sent = s.sent ∧ s.otherPorts t i ∧ s.otherEngines t (2 + i) ∧ s.keepsBut t [.ports, .engines] := by
  subst ht
  refine ⟨?_, ?_, rfl, s.otherPorts_updPort i (·.losing r), fun j hj => State.engine_updEngine_ne _ _ _ _ hj,
    ((s.keepsBut_updPort i _).mono (by simp)).trans ((State.keepsBut_updEngine _ _ _).mono (by simp))⟩
  · exact congrArg Port.retention (s.port_updPort_self i (·.losing r))
  · rw [portEngine, State.engine_updEngine_self]
    rfl

end Repeat

/-! ### RESEND (R217) -/

/-- Every plot keeps the states of its groups. -/
def State.sameStates (s t : State) : Prop := ∀ q, (t.plot q).groups.map (·.state) = (s.plot q).groups.map (·.state)

section Resend

variable {s : State} {l : Link} {p : Nat} {g : Group} {r : Retained}

theorem State.sameStates_updGroup (s : State) (p handle : Nat) {f : Group → Group} (hf : ∀ g, (f g).state = g.state) :
    s.sameStates (s.updGroup p handle f) := by
  intro q
  by_cases hq : q = p
  · subst hq
    rw [State.plot_updGroup_self, List.map_map]
    refine List.map_congr_left (fun g _ => ?_)
    simp only [Function.comp_apply]
    split
    · exact hf g
    · rfl
  · rw [s.otherPlots_updGroup p handle f q hq]

/-- A lease that is renewed in a group that no neighbour's silence suspends. -/
theorem State.renew_unsuspected (h : g.state ≠ groupSuspect) (fabric : Nat) :
    s.sameStates (s.renew p g fabric) ∧ s.keepsBut (s.renew p g fabric) [.plots] := by
  unfold State.renew
  split
  · exact ⟨fun _ => rfl, .refl s _⟩
  · rw [if_neg (fun hc => h hc.1)]
    exact ⟨s.sameStates_updGroup p _ (fun _ => rfl), s.keepsBut_updGroup p _ _⟩

theorem State.renewById_unsuspected (h : ∀ p ∈ tenantPlots, ∀ g ∈ (s.plot p).groups, g.state ≠ groupSuspect) (id src : Nat) :
    s.sameStates (s.renewById id src) ∧ s.keepsBut (s.renewById id src) [.plots] := by
  refine List.foldlRecOn (motive := fun t => s.sameStates t ∧ s.keepsBut t [.plots]) tenantPlots _ ⟨fun _ => rfl, .refl s _⟩
    (fun t ht p hp => ?_)
  obtain ⟨hstates, hkeeps⟩ := ht
  split
  · next g hg =>
    have hmem : g ∈ (t.plot p).groups := List.mem_of_find?_eq_some hg
    have hstate : g.state ∈ (s.plot p).groups.map (·.state) := hstates p ▸ List.mem_map_of_mem hmem
    obtain ⟨g', hg', heq⟩ := List.mem_map.1 hstate
    obtain ⟨hstates', hkeeps'⟩ := State.renew_unsuspected (s := t) (p := p) (g := g) (heq ▸ h p hp g' hg') src
    exact ⟨fun q => (hstates' q).trans (hstates q), hkeeps.trans hkeeps'⟩
  · exact ⟨hstates, hkeeps⟩

/-- The state in which a request to send again is worked. -/
theorem State.heardById_spec (h : ∀ p ∈ tenantPlots, ∀ g ∈ (s.plot p).groups, g.state ≠ groupSuspect) (id : Nat) {u : State}
    (hu : u = (s.heardOn l).renewById id l.src) :
    s.sameStates u ∧ s.keepsBut u [.plots, .ports] ∧ s.otherPorts u l.port ∧ u.port l.port = { s.port l.port with
      rxFrames := (s.port l.port).rxFrames + 1, toAck := (s.port l.port).toAck ++ [(l.src, l.linkSeq)] } := by
  have hgroups (q : Nat) : ((s.heardOn l).plot q).groups = (s.plot q).groups := by rw [s.plot_heardOn l q, Plot.hearEnd]
  obtain ⟨hstates, hkeeps⟩ := State.renewById_unsuspected (s := s.heardOn l) (fun p hp g hg => h p hp g (hgroups p ▸ hg)) id l.src
  rw [← hu] at hstates hkeeps
  have hports (j : Nat) : u.port j = (s.heardOn l).port j := hkeeps.port (by decide) j
  refine ⟨fun q => (hstates q).trans (by rw [hgroups]), (s.keepsBut_heardOn l).trans (hkeeps.mono (by simp)),
    fun j hj => (hports j).trans (s.otherPorts_heardOn l j hj), (hports l.port).trans (s.port_heardOn l)⟩

/-- The frame that a request names is repeated, or lost. -/
theorem exec_resend {seq idx id : Nat} {bad : Bool} {u : State} (h : Arrives s l) (hu : u = (s.heardOn l).renewById id l.src)
    (hfind : (u.port l.port).retention.find? (fun x => x.frame.seq == seq && x.frame.frameIdx == idx && x.frame.groupId == id &&
      x.dest == l.src && (x.frame.kind == 3 || x.frame.kind == 4)) = some r) :
    exec (.resend l seq idx id bad) s = .next (u.repeatOrLose l.port r bad) := by
  change Host.Outcome.next (s.hearControl l false true _) = _
  rw [State.hearControl_arrives h]
  simp only [← hu, hfind]

theorem State.waysOf_congr {s t : State} (h : ∀ k, t.portLeads k r.dest = s.portLeads k r.dest) : t.waysOf r = s.waysOf r := by
  simp only [State.waysOf, h]

theorem State.portLeads_congr {s t : State} {k : Nat} (hmod : t.mod = s.mod) (hup : (t.port k).linkUp = (s.port k).linkUp)
    (hfaulty : (t.port k).faulty = (s.port k).faulty) (hvalid : (t.port k).peerValid = (s.port k).peerValid)
    (hpeer : (t.port k).peerId = (s.port k).peerId) (fabric : Nat) : t.portLeads k fabric = s.portLeads k fabric := by
  simp only [State.portLeads, hmod, hup, hfaulty, hvalid, hpeer]

end Resend

end Sys2Proof.Machine

/-! Frames of retention that are asked for, due or given up (R217, R225, R227): what the command leaves (O41). -/

namespace Sys2Proof.Machine

section Asked

variable {s : State} {l : Link} {seq idx id : Nat} {r : Retained}

/-- The frame that a request names. -/
abbrev Asked (s : State) (l : Link) (seq idx id : Nat) (r : Retained) : Prop :=
  (s.port l.port).retention.find? (fun x => x.frame.seq == seq && x.frame.frameIdx == idx && x.frame.groupId == id &&
    x.dest == l.src && (x.frame.kind == 3 || x.frame.kind == 4)) = some r

theorem resend_repeats (h : Arrives s l) (hstates : ∀ p ∈ tenantPlots, ∀ g ∈ (s.plot p).groups, g.state ≠ groupSuspect)
    (hfind : Asked s l seq idx id r) (hbody : ∀ m, r.body = some m → onlyAcks m = false) (hway : l.port ∈ s.waysOf r) :
    ∃ (t : State) (x : Retained), exec (.resend l seq idx id false) s = .next t ∧
      (t.port l.port).retention = (s.port l.port).retention.filter (· != r) ++ [x] ∧
      x.frame.resent = true ∧ x.frame.payload = r.frame.payload ∧ x.frame.linkSeq = (s.port l.port).txSeq ∧
      x.attempts = (if r.attempts < 8 then r.attempts + 1 else 1) ∧ x.sentTick = s.now ∧
      (t.port l.port).retransmits = (s.port l.port).retransmits + 1 ∧ (t.port l.port).txSeq = (s.port l.port).txSeq + 1 ∧
      (∃ v : State, t.sent = s.sent ++ [v.wireOf r.dest l.port x.frame r.body]) ∧ s.otherPorts t l.port ∧
      s.keepsBut t [.plots, .ports, .sent] := by
  obtain ⟨u, hu⟩ : ∃ u, u = (s.heardOn l).renewById id l.src := ⟨_, rfl⟩
  obtain ⟨-, hkeeps, hother, hport⟩ := State.heardById_spec hstates id hu
  have hmod : u.mod = s.mod := hkeeps .mod (by decide)
  have hnow : u.now = s.now := by rw [State.now, hmod, State.now]
  have hsent : u.sent = s.sent := hkeeps .sent (by decide)
  have hleads (k : Nat) : u.portLeads k r.dest = s.portLeads k r.dest := by
    by_cases hk : k = l.port
    · subst hk
      exact State.portLeads_congr hmod (by rw [hport]) (by rw [hport]) (by rw [hport]) (by rw [hport]) _
    · exact State.portLeads_congr hmod (by rw [hother k hk]) (by rw [hother k hk]) (by rw [hother k hk]) (by rw [hother k hk]) _
  obtain ⟨t, x, ht, hret, hresent, hpayload, hseq, hattempts, htick, hcount, htx, hout, hports, hkeeps'⟩ :=
    State.repeatFrame_own (s := u) (i := l.port) (r := r) ((State.waysOf_congr hleads).symm ▸ hway) hbody
  have hexec := exec_resend (bad := false) h hu (r := r) (by rw [hport]; exact hfind)
  rw [State.repeatOrLose, if_neg Bool.false_ne_true, ht] at hexec
  rw [hport] at hret hseq hcount htx
  exact ⟨t, x, hexec, hret, hresent, hpayload, hseq, hattempts, htick.trans hnow, hcount, htx, hsent ▸ hout, hother.trans hports,
    (hkeeps.mono (by simp)).trans hkeeps'⟩

theorem resend_loses (h : Arrives s l) (hgroups : ∀ p ∈ tenantPlots, (s.plot p).groups = []) (hfind : Asked s l seq idx id r) :
    ∃ t, exec (.resend l seq idx id true) s = .next t ∧
      (t.port l.port).retention = (s.port l.port).retention.filter (· != r) ∧
      (t.engine (2 + l.port)).err = setFlag (s.engine (2 + l.port)).err 4 ∧
      t.sent = s.sent ∧ s.otherPorts t l.port ∧ s.otherEngines t (2 + l.port) ∧ s.keepsBut t [.plots, .ports, .engines] := by
  obtain ⟨u, hu⟩ : ∃ u, u = (s.heardOn l).renewById id l.src := ⟨_, rfl⟩
  obtain ⟨hstates, hkeeps, hother, hport⟩ := State.heardById_spec (l := l) (fun p hp g hg => by simp [hgroups p hp] at hg) id hu
  have hempty (p : Nat) (hp : p ∈ tenantPlots) : (u.plot p).groups = [] :=
    List.map_eq_nil_iff.1 ((hstates p).trans (by rw [hgroups p hp, List.map_nil]))
  have hengine (j : Nat) : u.engine j = s.engine j := congrArg (fun m => NMap.get Engine.init m j) (hkeeps .engines (by decide))
  obtain ⟨hret, herr, hsent, hports, hengines, hkeeps'⟩ := u.repeatOrLose_lost_spec l.port r rfl
  have hexec := exec_resend (bad := true) h hu (r := r) (by rw [hport]; exact hfind)
  rw [State.repeatOrLose_lost hempty] at hexec
  rw [hport] at hret
  rw [hengine] at herr
  exact ⟨_, hexec, hret, herr, hsent.trans (hkeeps .sent (by decide)), hother.trans hports,
    fun j hj => (hengines j hj).trans (hengine j), (hkeeps.mono (by simp)).trans (hkeeps'.mono (by simp))⟩

end Asked

/-! ### FRAME_RETRANSMIT (R227) -/

section Due

variable {s : State} {i : Nat} {r : Retained}

theorem State.attempts_of_dueFrame (h : s.dueFrame i = some r) : r.attempts ≤ 8 := by
  have hdue := List.find?_some h
  simp only [maxAttempts, Bool.and_eq_true, Bool.or_eq_true, beq_iff_eq, decide_eq_true_eq] at hdue
  rcases hdue.2 with heq | ⟨hlt, -⟩
  · exact heq.le
  · exact (of_decide_eq_true hlt).le

theorem exec_frameRetransmit_none (h : s.dueFrame i = none) (bad : Bool) : exec (.frameRetransmit i bad) s = .next s := by
  change execFrameRetransmit i bad s = _
  rw [execFrameRetransmit, h]

theorem exec_frameRetransmit_again (h : s.dueFrame i = some r) (hfew : r.attempts < 8) (bad : Bool) :
    exec (.frameRetransmit i bad) s = .next (s.repeatOrLose i r bad) := by
  change execFrameRetransmit i bad s = _
  simp only [execFrameRetransmit, h]
  exact if_neg (Nat.not_le.2 hfew)

theorem exec_frameRetransmit_giveUp (h : s.dueFrame i = some r) (hmany : 8 ≤ r.attempts) (bad : Bool) :
    exec (.frameRetransmit i bad) s = .next (s.giveUp i r) := by
  change execFrameRetransmit i bad s = _
  simp only [execFrameRetransmit, h]
  exact if_pos hmany

/-- A frame that has been given up on its port. -/
def Retained.spent (r : Retained) : Retained := { r with attempts := 9 }

/-- A port that has given a frame up. -/
def Port.abandoning (v : Port) (r : Retained) : Port :=
  { v with retention := v.retention.map (fun y => if y = r then r.spent else y), faulty := true, err := setFlag v.err 3 }

theorem State.giveUp_of_noGroups (h : ∀ p ∈ tenantPlots, (s.plot p).groups = []) :
    s.giveUp i r = (s.updPort i (·.abandoning r)).repeatFrame i r.spent :=
  congrArg (State.repeatFrame · i r.spent) (State.routesChanged_of_noGroups (s := s.updPort i (·.abandoning r)) h i 3)

/-- A faulty port leads nowhere. -/
theorem State.waysOf_abandoning (s : State) (i : Nat) (r : Retained) :
    (s.updPort i (·.abandoning r)).waysOf r.spent = (s.waysOf r).filter (· != i) := by
  have hleads (k : Nat) : (s.updPort i (·.abandoning r)).portLeads k r.dest = ((k != i) && s.portLeads k r.dest) := by
    by_cases hk : k = i
    · subst hk
      simp [State.portLeads, Port.abandoning]
    · rw [State.portLeads, State.port_updPort_ne _ _ _ _ hk, bne_iff_ne.2 hk, Bool.true_and]
      rfl
  have hways : (s.updPort i (·.abandoning r)).waysOf r.spent =
      (if r.frame.vc = 0 then List.range 12 else r.route).filter (fun k => (s.updPort i (·.abandoning r)).portLeads k r.dest) := rfl
  rw [hways, State.waysOf, List.filter_filter]
  simp only [hleads]

theorem frameRetransmit_noWay (h : s.dueFrame i = some r) (hmany : 8 ≤ r.attempts) (hgroups : ∀ p ∈ tenantPlots, (s.plot p).groups = [])
    (bad : Bool) (hways : (s.waysOf r).filter (· != i) = []) : ∃ (t : State) (l : List Retained),
      exec (.frameRetransmit i bad) s = .next t ∧
      l = (s.port i).retention.map (fun y => if y = r then { r with attempts := 9 } else y) ∧
      t.port i = { s.port i with retention := l, faulty := true, err := setFlag (s.port i).err 3 } ∧ t.sent = s.sent ∧
      s.otherPorts t i ∧ s.keepsBut t [.ports] := by
  have hexec := exec_frameRetransmit_giveUp h hmany bad
  rw [State.giveUp_of_noGroups hgroups, State.repeatFrame_none (by rw [State.waysOf_abandoning, hways])] at hexec
  exact ⟨_, _, hexec, rfl, s.port_updPort_self i _, rfl, s.otherPorts_updPort i _, s.keepsBut_updPort i _⟩

/-- A frame that is given up goes over another of its ports. -/
theorem frameRetransmit_otherWay (h : s.dueFrame i = some r) (hbody : ∀ m, r.body = some m → onlyAcks m = false) (hmany : 8 ≤ r.attempts)
    (hgroups : ∀ p ∈ tenantPlots, (s.plot p).groups = []) (bad : Bool) (k : Nat) (ks : List Nat)
    (hways : (s.waysOf r).filter (· != i) = k :: ks) : ∃ (t : State) (x : Retained), exec (.frameRetransmit i bad) s = .next t ∧
      (t.port i).faulty = true ∧ r ∉ (t.port i).retention ∧ (t.port k).retention = (s.port k).retention ++ [x] ∧
      x.frame.payload = r.frame.payload ∧ x.frame.resent = true ∧ x.dest = r.dest ∧ x.attempts = 1 ∧
      (∃ v : State, t.sent = s.sent ++ [v.wireOf r.dest k x.frame r.body]) ∧ s.keepsBut t [.plots, .ports, .sent] := by
  have hne : k ≠ i := by
    have hk : k ∈ (s.waysOf r).filter (· != i) := hways ▸ List.mem_cons_self ..
    simpa using (List.mem_filter.1 hk).2
  have hspent : r.spent ≠ r := fun heq => by
    have hattempts : (9 : Nat) = r.attempts := congrArg Retained.attempts heq
    have hdue := State.attempts_of_dueFrame h
    omega
  let u := s.updPort i (·.abandoning r)
  have hui : u.port i = (s.port i).abandoning r := s.port_updPort_self i _
  have hways' : u.waysOf r.spent = k :: ks := (s.waysOf_abandoning i r).trans hways
  have hleft : i ∉ u.waysOf r.spent := by
    rw [State.waysOf_abandoning]
    simp
  obtain ⟨t, x, ht, hport, hret, hpayload, hresent, hdest, hattempts, hsent, hkeeps⟩ := State.repeatFrame_other (s := u) hleft hways' hbody
  have hexec := exec_frameRetransmit_giveUp h hmany bad
  rw [State.giveUp_of_noGroups hgroups, ht] at hexec
  rw [s.otherPorts_updPort i _ k hne] at hret
  refine ⟨t, x, hexec, ?_, ?_, hret, hpayload, hresent, hdest, hattempts, hsent, ((s.keepsBut_updPort i _).mono (by simp)).trans hkeeps⟩
  · rw [hport, hui]
    rfl
  · rw [hport, hui]
    intro hmem
    obtain ⟨y, -, hy⟩ := List.mem_map.1 (List.mem_filter.1 hmem).1
    split at hy
    · exact hspent hy
    · next hyr => exact hyr hy

end Due

end Sys2Proof.Machine

/-! The frames of a Bower in the running step: SKIPSET (R191) and RELAY (R229), and the links' obligation (O41). -/

namespace Sys2Proof.Machine

/-! ### A step of a plot -/

section Bower

variable {s r : State} {i p : Nat} {f : Frame} {g : Group} {st : Step} {pl : Plan}

/-- The one running step changes. -/
theorem State.running_updStep (h : (s.plot p).running = [st]) (F : Step → Step) :
    ((s.updStep p st.plan F).plot p).running = [F st] := by
  rw [State.updStep, State.plot_updPlot_self, h, List.map_singleton, if_pos rfl]

theorem Plot.bowering_congr {q q' : Plot} (hrun : q'.running = q.running) (hplans : q'.plans = q.plans) (g : Group) :
    q'.bowering g = q.bowering g := by simp only [Plot.bowering, hrun, hplans]

theorem State.bowering_acceptFrame (s : State) (i p handle : Nat) (f : Frame) (g : Group) :
    ((s.acceptFrame i p handle f).plot p).bowering g = (s.plot p).bowering g := by
  obtain ⟨c, hc⟩ := s.plot_acceptFrame i p handle f
  exact Plot.bowering_congr (by rw [hc]) (by rw [hc]) g

/-! ### SKIPSET (R191) -/

theorem exec_skipset (hkind : f.kind = 6) (h : s.arrive i f = .taken p g r) (hbower : (r.plot p).bowering g = some (st, pl))
    (hstep : st.step = f.step) : exec (.skipset i f) s = .next ((r.acceptFrame i p g.handle f).takeSkip p g st pl f) := by
  have hexec : exec (.skipset i f) s = .next (s.arriving i f 6 (fun p g s => (s.acceptFrame i p g.handle f).takeBower i p g f)) := rfl
  rw [hexec, State.arriving_taken hkind h]
  simp [State.takeBower, State.bowering_acceptFrame, hbower, hkind, hstep]

/-- The one running step changes once a frame of its group has been accepted. -/
theorem State.updStep_acceptFrame (hrun : (r.plot p).running = [st]) (F : Step → Step) {u : State}
    (hu : u = (r.acceptFrame i p g.handle f).updStep p st.plan F) :
    (u.plot p).running = [F st] ∧ r.otherPlots u p ∧ r.otherPorts u i ∧ r.keepsBut u [.plots, .ports] := by
  subst hu
  exact ⟨State.running_updStep (by rw [State.running_acceptFrame, hrun]) F,
    (r.otherPlots_acceptFrame i p g.handle f).trans (State.otherPlots_updPlot _ p _), r.otherPorts_acceptFrame i p g.handle f,
    (r.keepsBut_acceptFrame i p g.handle f).trans ((State.keepsBut_updPlot _ p _).mono (by simp))⟩

theorem skipset_parent (h : s.arrive i f = .taken p g r) (hrun : (r.plot p).running = [st])
    (hbower : (r.plot p).bowering g = some (st, pl)) (hstep : st.step = f.step) (hkind : f.kind = 6)
    (hparent : g.parent r.fabric = some f.senderRank) (hnone : st.skipSet = none) :
    ∃ u, exec (.skipset i f) s = .next (u.pumpSkip p st.plan) ∧
      (u.plot p).running = [{ st with skipSet := some (pl.skipHandles f.payload) }] ∧ r.otherPlots u p ∧ r.otherPorts u i ∧
      r.keepsBut u [.plots, .ports] := by
  obtain ⟨hstep', hrest⟩ := State.updStep_acceptFrame (i := i) (f := f) (g := g) hrun
    (fun x => { x with skipSet := if x.skipSet.isNone then some (pl.skipHandles f.payload) else x.skipSet }) rfl
  refine ⟨_, ?_, hstep'.trans (by simp [hnone]), hrest⟩
  rw [exec_skipset hkind h hbower hstep, State.takeSkip, State.fabric_acceptFrame, if_pos hparent]

theorem skipset_child (h : s.arrive i f = .taken p g r) (hrun : (r.plot p).running = [st])
    (hbower : (r.plot p).bowering g = some (st, pl)) (hstep : st.step = f.step) (hkind : f.kind = 6)
    (hparent : g.parent r.fabric ≠ some f.senderRank) (hchild : f.senderRank ∈ g.children r.fabric) (hnone : st.childSkips = []) :
    ∃ u, exec (.skipset i f) s = .next (u.pumpSkip p st.plan) ∧
      (u.plot p).running = [{ st with childSkips := [pl.skipHandles f.payload] }] ∧ r.otherPlots u p ∧ r.otherPorts u i ∧
      r.keepsBut u [.plots, .ports] := by
  obtain ⟨hstep', hrest⟩ := State.updStep_acceptFrame (i := i) (f := f) (g := g) hrun
    (fun x => { x with childSkips := if x.childSkips.isEmpty then [pl.skipHandles f.payload] else x.childSkips }) rfl
  refine ⟨_, ?_, hstep'.trans (by simp [hnone]), hrest⟩
  rw [exec_skipset hkind h hbower hstep, State.takeSkip, State.fabric_acceptFrame, if_neg hparent,
    if_pos (List.contains_iff_mem.2 hchild)]

/-! ### RELAY (R229) -/

/-- A change of memory that a plot's account bears. -/
def State.billed (s t : State) (p : Nat) : Prop :=
  s.keepsBut t [.mem, .plots] ∧ s.otherPlots t p ∧ ∃ c, t.plot p = { s.plot p with account := c }

theorem State.billed.trans {s t u : State} {p : Nat} (hst : s.billed t p) (htu : t.billed u p) : s.billed u p := by
  obtain ⟨hkeeps, hother, c, hc⟩ := hst
  obtain ⟨hkeeps', hother', c', hc'⟩ := htu
  exact ⟨hkeeps.trans hkeeps', hother.trans hother', c', by rw [hc', hc]⟩

theorem State.billed_charge (s : State) (p : Nat) (F : Account → Account) : s.billed (s.charge p F) p :=
  ⟨(s.keepsBut_updPlot p _).mono (by simp), s.otherPlots_updPlot p _, _, s.plot_updPlot_self p _⟩

theorem State.billed_updMem (s : State) (p : Nat) (F : Mem → Mem) : s.billed (s.updMem F) p := by
  refine ⟨fun x hx => ?_, fun _ _ => rfl, (s.plot p).account, rfl⟩
  cases x <;> simp_all [State.agree]

theorem State.billed_putRelay (s : State) (p : Nat) (t : Tensor) (ls : List Loc) (bs : Bytes) (bad : Bool) :
    s.billed (s.putRelay p t ls bs bad) p := by
  unfold State.putRelay
  dsimp only
  split
  · exact List.foldlRecOn (motive := fun u => s.billed u p) _ _ ⟨.refl s _, fun _ _ => rfl, (s.plot p).account, rfl⟩ (fun u hu w _ =>
      hu.trans ((u.billed_updMem p _).trans (State.billed_charge _ p _)))
  · exact (s.billed_updMem p _).trans (State.billed_charge _ p _)

/-- What a relay frame writes depends on memory alone. -/
theorem State.putRelay_mem_congr {s u : State} (h : u.mem = s.mem) (p : Nat) (t : Tensor) (ls : List Loc) (bs : Bytes) (bad : Bool) :
    (u.putRelay p t ls bs bad).mem = (s.putRelay p t ls bs bad).mem := by
  have hland (xs : List LineWrite) (s u : State) (h : u.mem = s.mem) :
      (xs.foldl (fun s w => (s.updMem (fun m => m.landLine w)).chargeWrite p (w.line * 64) w.bytes.length) u).mem =
      (xs.foldl (fun s w => (s.updMem (fun m => m.landLine w)).chargeWrite p (w.line * 64) w.bytes.length) s).mem := by
    induction xs generalizing s u with
    | nil => exact h
    | cons w ws ih => exact ih _ _ (by rw [State.chargeWrite_mem, State.chargeWrite_mem, State.updMem, h, State.updMem])
  unfold State.putRelay
  dsimp only
  split
  · exact hland _ s u h
  · simp only [State.charge_mem, State.commitGh, State.updMem, h]

theorem State.viewPlaces_congr {s u : State} {cx : OpCtx} (h0 : (u.plot cx.plot).gh0Units = (s.plot cx.plot).gh0Units)
    (h1 : (u.plot cx.plot).gh1Units = (s.plot cx.plot).gh1Units) (t : Tensor) (v : View) : u.viewPlaces cx t v = s.viewPlaces cx t v := by
  simp only [State.viewPlaces, State.rowPlaces, State.scalePlaces, State.locate, h0, h1]

theorem exec_relay (hkind : f.kind = 5) (h : s.arrive i f = .taken p g r) (hbower : (r.plot p).bowering g = some (st, pl))
    (hstep : st.step = f.step) : exec (.relay i f) s = .next ((r.acceptFrame i p g.handle f).takeRelay i p g st pl f) := by
  have hexec : exec (.relay i f) s = .next (s.arriving i f 5 (fun p g s => (s.acceptFrame i p g.handle f).takeBower i p g f)) := rfl
  rw [hexec, State.arriving_taken hkind h]
  simp [State.takeBower, State.bowering_acceptFrame, hbower, hkind, hstep]

/-- A step that has one more relay frame. -/
def Step.withRelay (st : Step) (f : Frame) : Step := { st with relayed := st.relayed ++ [(f.seq, f.tensor, f.tile)] }

/-- A plot with a signal of a plan. -/
def Plot.signalled (q : Plot) (k : Nat) : Plot := { q with sems := q.sems.modify 0 k (· + 1) }

theorem State.takeRelay_eq {view sem : Nat} {ls : List Loc} (hstep : f.step = st.step) (hrelay : pl.relayFor f.seq f.tensor = some (view, sem))
    (hnew : (f.seq, f.tensor, f.tile) ∉ st.relayed)
    (hls : ls = s.viewPlaces { plot := p, pav := 0, lanes := [] } (pl.viewAt view).2 (pl.viewAt view).1) {u : State}
    (hu : u = (s.putRelay p (pl.viewAt view).2 ((ls.drop (8192 * f.tile)).take 8192) f.payload f.poison).updStep p st.plan
      (fun y => { y with relayed := (st.withRelay f).relayed })) :
    s.takeRelay i p g st pl f = if (List.range (ceilDiv ls.length 8192)).all (fun n => (st.withRelay f).relayed.contains (f.seq, f.tensor, n))
      then u.updPlot p (·.signalled (pl.semKey sem)) else u := by
  have hhad : st.relayed.contains (f.seq, f.tensor, f.tile) = false := by simpa using hnew
  subst hls hu
  simp only [State.takeRelay, hstep, if_true, hrelay, hhad, Bool.not_false, Bool.true_and, Bool.false_eq_true, if_false]
  rfl

theorem relay_taken {view sem : Nat} {ls : List Loc} (h : s.arrive i f = .taken p g r) (hrun : (r.plot p).running = [st])
    (hbower : (r.plot p).bowering g = some (st, pl)) (hstep : st.step = f.step) (hkind : f.kind = 5)
    (hrelay : pl.relayFor f.seq f.tensor = some (view, sem)) (hnew : (f.seq, f.tensor, f.tile) ∉ st.relayed)
    (hls : ls = r.viewPlaces { plot := p, pav := 0, lanes := [] } (pl.viewAt view).2 (pl.viewAt view).1) :
    ∃ t, exec (.relay i f) s = .next t ∧
      t.mem = (r.putRelay p (pl.viewAt view).2 ((ls.drop (8192 * f.tile)).take 8192) f.payload f.poison).mem ∧
      (t.plot p).running = [{ st with relayed := st.relayed ++ [(f.seq, f.tensor, f.tile)] }] ∧
      ((∀ n < ceilDiv ls.length 8192, (f.seq, f.tensor, n) ∈ st.relayed ++ [(f.seq, f.tensor, f.tile)]) →
        (t.plot p).sem (pl.semKey sem) = (r.plot p).sem (pl.semKey sem) + 1) ∧
      ((∃ n < ceilDiv ls.length 8192, (f.seq, f.tensor, n) ∉ st.relayed ++ [(f.seq, f.tensor, f.tile)]) →
        (t.plot p).sems = (r.plot p).sems) ∧
      (t.port i).rxFrames = (r.port i).rxFrames + 1 ∧ r.otherPlots t p ∧ r.otherPorts t i ∧ r.keepsBut t [.mem, .plots, .ports] := by
  let v := r.acceptFrame i p g.handle f
  obtain ⟨c, hc⟩ := r.plot_acceptFrame i p g.handle f
  have hplaces : ls = v.viewPlaces { plot := p, pav := 0, lanes := [] } (pl.viewAt view).2 (pl.viewAt view).1 := by
    rw [hls]
    exact (State.viewPlaces_congr (by rw [hc]) (by rw [hc]) _ _).symm
  let w := v.putRelay p (pl.viewAt view).2 ((ls.drop (8192 * f.tile)).take 8192) f.payload f.poison
  let u := w.updStep p st.plan (fun y => { y with relayed := (st.withRelay f).relayed })
  obtain ⟨hkeeps, hother, c', hc'⟩ := v.billed_putRelay p (pl.viewAt view).2 ((ls.drop (8192 * f.tile)).take 8192) f.payload f.poison
  have hexec := exec_relay hkind h hbower hstep
  rw [State.takeRelay_eq hstep.symm hrelay hnew hplaces rfl] at hexec
  have hmem : u.mem = (r.putRelay p (pl.viewAt view).2 ((ls.drop (8192 * f.tile)).take 8192) f.payload f.poison).mem :=
    State.putRelay_mem_congr (s := r) (u := v) rfl _ _ _ _ _
  have hstep' : (u.plot p).running = [st.withRelay f] :=
    State.running_updStep (s := w) (by rw [hc', hc, hrun]) _
  have hsems : (u.plot p).sems = (r.plot p).sems := by
    have hkept : (u.plot p).sems = (w.plot p).sems := (congrArg Plot.sems (w.plot_updPlot_self p _)).trans rfl
    rw [hkept, hc', hc]
  have hport (j : Nat) : u.port j = v.port j := hkeeps.port (by decide) j
  have hrx : (u.port i).rxFrames = (r.port i).rxFrames + 1 := by
    rw [hport, r.port_acceptFrame i p g.handle f, Port.accepting]
  have hplots : r.otherPlots u p := ((r.otherPlots_acceptFrame i p g.handle f).trans hother).trans (w.otherPlots_updPlot p _)
  have hports : r.otherPorts u i := fun j hj => (hport j).trans (r.otherPorts_acceptFrame i p g.handle f j hj)
  have hrest : r.keepsBut u [.mem, .plots, .ports] := ((r.keepsBut_acceptFrame i p g.handle f).mono (by simp)).trans
    ((hkeeps.mono (by simp)).trans ((w.keepsBut_updPlot p _).mono (by simp)))
  by_cases hall : (List.range (ceilDiv ls.length 8192)).all (fun n => (st.withRelay f).relayed.contains (f.seq, f.tensor, n)) = true
  · have hplot : (u.updPlot p (·.signalled (pl.semKey sem))).plot p = (u.plot p).signalled (pl.semKey sem) := u.plot_updPlot_self p _
    rw [if_pos hall] at hexec
    refine ⟨_, hexec, hmem, by rw [hplot]; exact hstep', fun _ => ?_, fun hmissing => ?_, hrx, hplots.trans (u.otherPlots_updPlot p _), hports,
      hrest.trans ((u.keepsBut_updPlot p _).mono (by simp))⟩
    · rw [hplot, Plot.sem, Plot.signalled, NMap.get_modify_self, hsems, Plot.sem]
    · obtain ⟨n, hn, hmiss⟩ := hmissing
      exact absurd (List.contains_iff_mem.1 (List.all_eq_true.1 hall n (List.mem_range.2 hn))) hmiss
  · rw [if_neg hall] at hexec
    refine ⟨_, hexec, hmem, hstep', fun hfull => ?_, fun _ => hsems, hrx, hplots, hports, hrest⟩
    exact absurd (List.all_eq_true.2 (fun n hn => List.contains_iff_mem.2 (hfull n (List.mem_range.1 hn)))) hall

end Bower

/-- Settles O41, command by command: what a link's command leaves before what waited goes on. -/
theorem linkCommands : Obligations.LinkCommands := by
  refine ⟨?hello, fun s l peer h => exec_hello_fenced h peer, ?down, ?suspect, ?control, ?dropped, ackTimer_spec, ?resend, ?retransmit,
    fun s i bad h => exec_frameRetransmit_none h bad, fun s i ty bs => ⟨exec_foreignFrame_hall, exec_foreignFrame_rack⟩, ?bower⟩
  case hello =>
    rintro s l i rfl hfence
    refine ⟨fun hdown hhall => ?_, fun hdown hhall hanchor htrng => ?_, fun hup => ?_, ?_, fun f => hello_both hfence⟩
    · obtain ⟨hport, hsaid, hother, hkeeps⟩ := State.raiseLink_rack hdown hhall
      refine ⟨_, exec_hello_none hfence, ?_, ?_, ?_, ?_, hsaid, hother, hkeeps⟩ <;> rw [hport.2] <;> rfl
    · obtain ⟨key, salt, hport, hsaid, hother, hkeeps⟩ := State.raiseLink_hall hdown hhall hanchor htrng
      refine ⟨_, key, salt, exec_hello_none hfence, ?_, ?_, ?_, ?_, ?_, ?_, ?_, hsaid, hother, hkeeps⟩ <;> rw [hport.2] <;> rfl
    · rw [exec_hello_none hfence, State.raiseLink_up hup]
    · rintro f _ hf hup hlink rfl
      have hraise := State.raiseLink_up hup
      have hexec := exec_hello_peer hfence hf (by rw [hraise]; exact hup) (by rw [hraise]; exact hlink)
      rw [hraise] at hexec
      exact ⟨_, hexec, s.met_spec l f⟩
  case down =>
    intro s i hup hgroups
    have hquiet := State.routesChanged_of_noGroups (s := s.updPort i Port.lowered) hgroups i 0
    exact ⟨_, (exec_linkDown_up hup).trans (congrArg _ hquiet), s.port_updPort_self i _, s.otherPorts_updPort i _, s.keepsBut_updPort i _⟩
  case suspect =>
    intro s i p f g hup hpeer _ hp hothers hg hneighbours hstate hmask hlast
    exact linkDown_suspects hup hpeer hp hothers hg hneighbours hstate hmask hlast
  case control =>
    rintro s l _ acks _ h rfl rfl
    exact ⟨control_nobody_waits h, fun r => control_one_waits h⟩
  case dropped =>
    intro s l acks flag hup hlink
    exact ⟨_, exec_control_dropped hup hlink, s.port_updPort_self l.port _, s.otherPorts_updPort l.port _, s.keepsBut_updPort l.port _⟩
  case resend =>
    rintro s l _ seq idx id r h rfl hstates hfind hbody
    exact ⟨resend_repeats h hstates hfind hbody, fun hgroups => resend_loses h hgroups hfind⟩
  case retransmit =>
    intro s i r hdue hbody
    refine ⟨fun hfew hway => ?_, fun hfew hgroups => ?_, fun hmany hgroups bad =>
      ⟨frameRetransmit_noWay hdue hmany hgroups bad, frameRetransmit_otherWay hdue hbody hmany hgroups bad⟩⟩
    · obtain ⟨t, x, ht, hret, hresent, hpayload, hseq, hattempts, htick, -, -, hout, hrest⟩ := State.repeatFrame_own hway hbody
      have hexec := exec_frameRetransmit_again hdue hfew false
      rw [State.repeatOrLose, if_neg Bool.false_ne_true, ht] at hexec
      exact ⟨t, x, hexec, hret, hresent, hpayload, hseq, hattempts.trans (if_pos hfew), htick, hout, hrest⟩
    · obtain ⟨hret, herr, hsent, hports, -, hkeeps⟩ := s.repeatOrLose_lost_spec i r rfl
      have hexec := exec_frameRetransmit_again hdue hfew true
      rw [State.repeatOrLose_lost hgroups] at hexec
      exact ⟨_, hexec, hret, herr, hsent, hports, hkeeps⟩
  case bower =>
    intro s i p f g r st pl h _ hrun hbower hstep
    exact ⟨skipset_parent h hrun hbower hstep, skipset_child h hrun hbower hstep,
      fun hkind view sem ls => relay_taken h hrun hbower hstep hkind⟩

end Sys2Proof.Machine

/-! Groups that form, settle, fail and go (R202 to R207, R218): the rules that the group messages share (O16). -/

namespace Sys2Proof.Machine

/-! ### Records of a plot -/

/-- A plot is told of something: its mailbox gains records, and holds the requests that it held. -/
def State.tellsPlot (s t : State) (p : Nat) : Prop :=
  s.otherPlots t p ∧ s.keepsBut t [.plots, .bothy] ∧
  ∃ m, t.plot p = { s.plot p with mail := m } ∧ m.held = (s.plot p).mail.held

theorem State.tellsPlot_unsolicited (s : State) (p source : Nat) (body : Bytes) : s.tellsPlot (s.unsolicited p source body) p := by
  obtain ⟨hother, hkeeps, m, hm⟩ := s.mailsOnly_unsolicited p source body
  have hpost (r : Rec) : ((s.post p r).plot p).mail.held = (s.plot p).mail.held := by
    unfold State.post
    split
    · rw [State.plot_updMail_self]
    · rfl
  have hheld : ((s.unsolicited p source body).plot p).mail.held = (s.plot p).mail.held := by
    unfold State.unsolicited
    split_ifs
    · exact hpost _
    · simp [State.plot, State.updMail, State.updPlot]
    · rfl
  exact ⟨hother, hkeeps, m, hm, by rw [← hheld, hm]⟩

theorem State.tellsPlot_survivalEvent (s : State) (p kind : Nat) (g : Group) (fabric dropped : Nat) :
    s.tellsPlot (s.survivalEvent p kind g fabric dropped) p := s.tellsPlot_unsolicited p _ _

theorem State.heldIn_congr {s t : State} {p : Nat} (h : (t.plot p).mail.held = (s.plot p).mail.held) (slot : Nat) :
    t.heldIn p slot = s.heldIn p slot := by rw [State.heldIn, h, State.heldIn]

theorem State.isOpen_congr {s t : State} {p : Nat} (h : (t.plot p).state = (s.plot p).state) : t.isOpen p = s.isOpen p := by
  rw [State.isOpen, h, State.isOpen]

/-- A completion stands in its plot's backlog. -/
theorem Plot.hasAnswer_answered (q : Plot) (r : Req) (status : Nat) (body : Bytes) : (q.answered r status 0 0 body).hasAnswer r status body :=
  List.mem_append_right _ (List.mem_singleton_self _)

/-- A later completion keeps it. -/
theorem Plot.hasAnswer_after {q : Plot} {r j : Req} {status : Nat} {body : Bytes} (h : q.hasAnswer j status body) (st dcode detail : Nat)
    (b : Bytes) : (q.answered r st dcode detail b).hasAnswer j status body := List.mem_append_left _ h

/-! ### One group of a plot -/

section Groups

variable {s : State} {p handle : Nat} {g : Group} {F : Group → Group}

/-- The groups of a plot once one of them has changed. -/
def changed (handle : Nat) (F : Group → Group) (gs : List Group) : List Group := gs.map (fun x => if x.handle = handle then F x else x)

theorem Plot.handle_of_groupOf {q : Plot} (h : q.groupOf handle = some g) : g.handle = handle := by
  simpa using List.find?_some h

theorem Plot.mem_of_groupOf {q : Plot} (h : q.groupOf handle = some g) : g ∈ q.groups := List.mem_of_find?_eq_some h

theorem find?_changed (hF : ∀ x, (F x).handle = x.handle) {gs : List Group} (h : gs.find? (fun x => x.handle == handle) = some g) :
    (changed handle F gs).find? (fun x => x.handle == handle) = some (F g) := by
  have hg : g.handle = handle := by simpa using List.find?_some h
  rw [changed, find?_map_of_key, h, Option.map_some, if_pos hg]
  intro x
  split
  · rw [hF]
  · rfl

theorem filter_changed (hF : ∀ x, (F x).handle = x.handle) (gs : List Group) :
    (changed handle F gs).filter (fun x => x.handle != handle) = gs.filter (fun x => x.handle != handle) := by
  induction gs with
  | nil => rfl
  | cons x xs ih =>
    by_cases hx : x.handle = handle
    · simpa [changed, hx, hF] using ih
    · simpa [changed, hx] using ih

theorem mem_changed {gs : List Group} {x : Group} (hx : x ∈ gs) (hne : x.handle ≠ handle) : x ∈ changed handle F gs :=
  List.mem_map.2 ⟨x, hx, if_neg hne⟩

theorem changed_changed (hF : ∀ x, (F x).handle = x.handle) (G : Group → Group) (gs : List Group) :
    changed handle G (changed handle F gs) = changed handle (G ∘ F) gs := by
  rw [changed, changed, List.map_map, changed]
  refine List.map_congr_left (fun x _ => ?_)
  by_cases hx : x.handle = handle
  · simp [hx, hF]
  · simp [hx]

theorem State.plot_updGroup (s : State) (p handle : Nat) (F : Group → Group) :
    (s.updGroup p handle F).plot p = { s.plot p with groups := changed handle F (s.plot p).groups } := s.plot_updGroup_self p handle F

theorem State.groupOf_updGroup (hF : ∀ x, (F x).handle = x.handle) (h : (s.plot p).groupOf handle = some g) :
    ((s.updGroup p handle F).plot p).groupOf handle = some (F g) := by
  rw [State.plot_updGroup]
  exact find?_changed hF h

/-- A group of a plot changes, and the plot may be told of it. -/
def State.regroups (s t : State) (p handle : Nat) (F : Group → Group) : Prop :=
  s.otherPlots t p ∧ s.keepsBut t [.plots, .bothy] ∧
  ∃ m, t.plot p = { s.plot p with groups := changed handle F (s.plot p).groups, mail := m } ∧ m.held = (s.plot p).mail.held

theorem State.regroups_updGroup (s : State) (p handle : Nat) (F : Group → Group) : s.regroups (s.updGroup p handle F) p handle F :=
  ⟨s.otherPlots_updGroup p handle F, (s.keepsBut_updGroup p handle F).mono (by simp), _, s.plot_updGroup p handle F, rfl⟩

theorem State.regroups.told {t u : State} (h : s.regroups t p handle F) (htu : t.tellsPlot u p) : s.regroups u p handle F := by
  obtain ⟨hother, hkeeps, m, hm, hheld⟩ := h
  obtain ⟨hother', hkeeps', m', hm', hheld'⟩ := htu
  exact ⟨hother.trans hother', hkeeps.trans hkeeps', m', by rw [hm', hm], hheld'.trans (by rw [hm, hheld])⟩

theorem State.regroups.trans {t u : State} {G : Group → Group} (h : s.regroups t p handle F) (hF : ∀ x, (F x).handle = x.handle)
    (htu : t.regroups u p handle G) : s.regroups u p handle (G ∘ F) := by
  obtain ⟨hother, hkeeps, m, hm, hheld⟩ := h
  obtain ⟨hother', hkeeps', m', hm', hheld'⟩ := htu
  refine ⟨hother.trans hother', hkeeps.trans hkeeps', m', ?_, hheld'.trans (by rw [hm, hheld])⟩
  rw [hm', hm]
  simp only [changed_changed hF G]

theorem State.regroups_setGroupState {st : Nat} (h : (s.plot p).groupOf handle = some g) (hst : g.state ≠ st) (fabric : Nat) :
    s.regroups (s.setGroupState p handle st fabric) p handle (fun x => { x with state := st }) := by
  rw [State.setGroupState_eq h hst]
  exact (s.regroups_updGroup p handle _).told (State.tellsPlot_survivalEvent _ p 1 _ fabric 0)

end Groups

/-! ### A group that settles (R205) -/

section Settle

variable {s : State} {p handle slot st : Nat} {g : Group} {r : Req}

/-- A group that has formed. -/
def Group.formed (g : Group) : Group := { g with state := groupActive, joinSlot := none }

theorem State.settleGroup_unmet (h : (s.plot p).groupOf handle = some g) (hmet : s.allMet g = false) : s.settleGroup p handle = s := by
  simp [State.settleGroup, h, hmet]

/-- A group that forms is ACTIVE once all its neighbours have answered, and its request is answered. -/
theorem State.settleGroup_forming (h : (s.plot p).groupOf handle = some g) (hmet : s.allMet g = true) (hstate : g.state = groupForming)
    (hslot : g.joinSlot = some slot) (hreq : s.heldIn p slot = some r) (hopen : s.isOpen p = true) :
    ((s.settleGroup p handle).plot p).groups = changed handle Group.formed (s.plot p).groups ∧
    ((s.settleGroup p handle).plot p).hasAnswer r 0 ({ g with state := groupActive }.joinResult s.fabric) ∧
    s.otherPlots (s.settleGroup p handle) p ∧ s.keepsBut (s.settleGroup p handle) [.plots, .bothy] := by
  let u := (s.setGroupState p handle groupActive 0).updGroup p handle (fun x => { x with joinSlot := none })
  have hactive : s.regroups (s.setGroupState p handle groupActive 0) p handle (fun x => { x with state := groupActive }) :=
    State.regroups_setGroupState h (by rw [hstate]; decide) 0
  obtain ⟨hother, hkeeps, m, hm, hheld⟩ := hactive.trans (fun _ => rfl) (State.regroups_updGroup _ p handle (fun x => { x with joinSlot := none }))
  have hreq' : u.heldIn p slot = some r := (State.heldIn_congr (by rw [hm, hheld]) slot).trans hreq
  have hopen' : u.isOpen p = true := (State.isOpen_congr (by rw [hm])).trans hopen
  have hmod : u.mod = s.mod := hkeeps .mod (by decide)
  have hfabric : u.fabric = s.fabric := by rw [State.fabric, hmod, State.fabric]
  have heq : s.settleGroup p handle = u.ok p r ({ g with state := groupActive }.joinResult s.fabric) := by
    have hbind : g.joinSlot.bind (State.heldIn ((s.setGroupState p handle groupActive 0).updGroup p handle
        (fun x => { x with joinSlot := none })) p) = some r := by rw [hslot, Option.bind_some, hreq']
    rw [← hfabric]
    simp only [State.settleGroup, h, hmet, Bool.true_eq_false, if_false, hstate, true_or, if_true]
    rw [if_neg (by decide)]
    simp only [hbind]
    rfl
  obtain ⟨hplot, hother', hkeeps'⟩ := State.okAtOnce_spec (s := u) r ({ g with state := groupActive }.joinResult s.fabric) hopen'
  rw [heq, hplot]
  refine ⟨by rw [hm]; rfl, Plot.hasAnswer_answered _ r 0 _, hother.trans hother', hkeeps.trans (hkeeps'.mono (by simp))⟩

/-- A join that fails (R205). -/
theorem State.failJoin_spec (h : (s.plot p).groupOf handle = some g) (hslot : g.joinSlot = some slot) (hreq : s.heldIn p slot = some r)
    (hopen : s.isOpen p = true) (status : Nat) : (s.failJoin p handle status).plot p =
      ({ s.plot p with groups := (s.plot p).groups.filter (fun x => x.handle != handle) }).answered r status 0 0 [] ∧
    s.otherPlots (s.failJoin p handle status) p ∧ s.keepsBut (s.failJoin p handle status) [.plots] := by
  let u := s.updPlot p (fun q => { q with groups := q.groups.filter (fun x => x.handle != handle) })
  have hu : u.plot p = { s.plot p with groups := (s.plot p).groups.filter (fun x => x.handle != handle) } := s.plot_updPlot_self p _
  have hbind : g.joinSlot.bind (u.heldIn p) = some r := by
    rw [hslot, Option.bind_some, ← hreq]
    exact State.heldIn_congr (by rw [hu]) slot
  have heq : s.failJoin p handle status = u.refuse p r status := by simp only [State.failJoin, h, hbind, u]
  obtain ⟨hplot, hother, hkeeps⟩ := State.refuse_spec (s := u) r status ((State.isOpen_congr (by rw [hu])).trans hopen)
  rw [heq, hplot, hu]
  exact ⟨rfl, (s.otherPlots_updPlot p _).trans hother, (s.keepsBut_updPlot p _).trans hkeeps⟩

end Settle

/-! ### What a group says to its neighbours (R205, R218) -/

section Says

variable {s : State} {p handle : Nat} {g : Group} {f : Nat}

/-- What speaks for a group: the parts that keys, OFFERs and frames change. -/
abbrev spoken : List Piece := [.ports, .gatehouse, .free, .sent]

theorem State.keepsBut_draw (s : State) (w : Nat) : s.keepsBut (s.draw w).2 [.free] := by
  intro x hx
  cases x <;> simp_all [State.agree, State.draw]

theorem State.keepsBut_drawBytes (s : State) (n : Nat) : s.keepsBut (s.drawBytes n).2 [.free] := by
  intro x hx
  cases x <;> simp_all [State.agree, State.drawBytes]

theorem State.keepsBut_updPeer (s : State) (x : Peer) : s.keepsBut (s.updPeer x) [.gatehouse] := by
  intro y hy
  cases y <;> simp_all [State.agree, State.updPeer]

theorem State.speaks_sendOffer (s : State) (f : Nat) : s.speaks (s.sendOffer f) spoken := by
  unfold State.sendOffer
  dsimp only
  split_ifs
  · exact .refl s _
  · split
    · exact .refl s _
    · have hdrawn : s.keepsBut ((s.draw 512).2.drawBytes 32).2 [.free] := (s.keepsBut_draw 512).trans (State.keepsBut_drawBytes _ 32)
      have hoffered (x : Peer) : s.speaks (((s.draw 512).2.drawBytes 32).2.updPeer x) [.gatehouse, .free] :=
        State.speaks_of_keepsBut ((hdrawn.mono (by simp)).trans ((State.keepsBut_updPeer _ x).mono (by simp))) (by decide) (by decide)
      exact ((hoffered _).mono (by simp)).trans ((State.speaks_sendOn _ _ f _ _).mono (by simp))

theorem State.speaks_pairUp (s : State) (f : Nat) : s.speaks (s.pairUp f) spoken := by
  unfold State.pairUp
  split
  · exact .refl s _
  · exact s.speaks_sendOffer f

theorem State.speaks_shake (s : State) (p : Nat) (g : Group) (f : Nat) : s.speaks (s.shake p g f) [.ports, .sent] := s.speaks_sendControl f _ _

theorem State.speaks_greet (s : State) (p : Nat) (g : Group) (f : Nat) : s.speaks ((s.pairUp f).shake p g f) spoken :=
  (s.speaks_pairUp f).trans (((s.pairUp f).speaks_shake p g f).mono (by simp))

theorem State.shakeOf_congr {t : State} (hmod : t.mod = s.mod) (hreleased : (t.plot p).released g = (s.plot p).released g) :
    t.shakeOf p g = s.shakeOf p g := by
  simp only [State.shakeOf, State.fabric, hmod, hreleased]

/-- Every neighbour with a route is greeted. -/
theorem State.shakeAll_spec (h : (s.plot p).groupOf handle = some g) : s.speaks (s.shakeAll p handle) spoken ∧
    ∀ f ∈ g.neighbours s.fabric, s.portTo f ≠ none → (s.shakeAll p handle).said f (.handshake (s.shakeOf p g)) := by
  have heq : s.shakeAll p handle = (g.neighbours s.fabric).foldl (fun t f => (t.pairUp f).shake p g f) s := by
    simp only [State.shakeAll, h]
  rw [heq]
  refine ⟨State.speaks_foldl (fun t f => t.speaks_greet p g f) _ s, fun f hf hroute => ?_⟩
  refine State.said_foldl (fun t f => t.speaks_greet p g f) hf s (fun t ht => ?_)
  have hpair : s.speaks (t.pairUp f) spoken := ht.trans (t.speaks_pairUp f)
  rw [← State.shakeOf_congr (hpair.1 .mod (by decide)) (congrArg (Plot.released · g) (hpair.1.plot (by decide) p))]
  exact State.said_sendControl (by rwa [hpair.portTo (by decide)]) _ _

/-- Every neighbour with a route is told that the module leaves. -/
theorem State.sendLeave_spec (s : State) (p : Nat) (g : Group) : s.speaks (s.sendLeave p g) [.ports, .sent] ∧
    ∀ f ∈ g.neighbours s.fabric, s.portTo f ≠ none →
      (s.sendLeave p g).said f (.leave g.groupId g.generation (g.rankOf s.fabric)) := by
  have hspeaks (t : State) (f : Nat) : t.speaks (t.sendControl f (t.groupHeader p g) (.leave g.groupId g.generation (g.rankOf t.fabric)))
    [.ports, .sent] := t.speaks_sendControl f _ _
  refine ⟨State.speaks_foldl hspeaks _ s, fun f hf hroute => State.said_foldl hspeaks hf s (fun t ht => ?_)⟩
  rw [← ht.fabric (by decide)]
  exact State.said_sendControl (by rwa [ht.portTo (by decide)]) _ _

/-- A route of a plot is a way to the module. -/
theorem State.portTo_of_route (h : s.route p f ≠ []) : s.portTo f ≠ none := by
  obtain ⟨i, hi⟩ := List.exists_mem_of_ne_nil _ h
  obtain ⟨hrange, hleads⟩ := List.mem_filter.1 hi
  rw [Bool.and_eq_true] at hleads
  intro hnone
  exact absurd hleads.1 (by simpa using List.find?_eq_none.1 hnone i hrange)

/-- A port without the frames of a plot's group. -/
def Port.withoutFrames (p : Nat) (g : Group) (v : Port) : Port :=
  { v with retention := v.retention.filter (fun r => !(r.plot == p && r.frame.groupId == g.groupId)) }

theorem State.port_abandonFrames (s : State) (p : Nat) (g : Group) (i : Nat) :
    (s.abandonFrames p g).port i = (s.port i).withoutFrames p g :=
  NMap.get_mapVals s.ports (Port.withoutFrames p g) Port.init Port.init rfl i

theorem State.speaks_abandonFrames (s : State) (p : Nat) (g : Group) : s.speaks (s.abandonFrames p g) [.ports] := by
  refine ⟨fun x hx => ?_, List.Subset.refl _, fun i => ?_⟩
  · cases x <;> simp_all [State.agree, State.abandonFrames]
  · rw [State.port_abandonFrames]
    exact ⟨List.Subset.refl _, rfl⟩

end Says

end Sys2Proof.Machine

/-! GROUP_JOIN, GROUP_HANDSHAKE, GROUP_JOIN_TIMEOUT, GROUP_LEAVE and ROUTE_SET (R200 to R207, R218, R221, R224), and what they
leave (O16). -/

namespace Sys2Proof.Machine

/-! ### GROUP_JOIN (R202, R205) -/

section Join

variable {s : State} {p h : Nat} {r : Req} {g : Group}

theorem State.keepsBut_renewPeers (s : State) : s.keepsBut s.renewPeers [.gatehouse] := by
  intro x hx
  cases x <;> simp_all [State.agree, State.renewPeers]

/-- A request that has started. -/
def Req.started (r : Req) : Req := { r with phase := .started }

theorem State.plot_setPhase_self (s : State) (p slot : Nat) (ph : Phase) : (s.setPhase p slot ph).plot p = { s.plot p with
    mail := { (s.plot p).mail with held := (s.plot p).mail.held.map (fun r => if r.slot = slot then { r with phase := ph } else r) } } :=
  s.plot_updMail_self p _

theorem State.otherPlots_setPhase (s : State) (p slot : Nat) (ph : Phase) : s.otherPlots (s.setPhase p slot ph) p :=
  fun q hq => s.plot_updMail_ne p q _ hq

/-- The request that has started is the one that the slot holds. -/
theorem find?_started {rs : List Req} (h : rs.find? (fun x => x.slot == r.slot) = some r) :
    (rs.map (fun x => if x.slot = r.slot then { x with phase := .started } else x)).find?
      (fun x => x.slot == r.slot && x.phase != .completed) = some r.started := by
  have hkey : (fun x : Req => x.slot == r.slot && x.phase != .completed) ∘
      (fun x => if x.slot = r.slot then { x with phase := .started } else x) = fun x => x.slot == r.slot := by
    funext x
    by_cases hx : x.slot = r.slot
    · simp [hx]
    · simp [hx]
  rw [List.find?_map, hkey, h, Option.map_some, if_pos rfl, Req.started]

/-- A plot with one more group. -/
def Plot.withGroup (q : Plot) (g : Group) : Plot := { q with groups := q.groups ++ [g] }

/-- A group as its GROUP_JOIN describes it (Table CSC-2). -/
abbrev JoinedAs (s : State) (r : Req) (h : Nat) (x : Group) : Prop :=
  x.handle = h ∧ x.groupId = fieldAt r.payload 0 4 ∧ x.kind = fieldAt r.payload 4 1 ∧ x.generation = 1 ∧
  x.window = fieldAt r.payload 6 2 ∧ x.jobTag = fieldAt r.payload 0x10 8 ∧
  x.live = s.rosterAt (fieldAt r.payload 0x18 8) (fieldAt r.payload 8 4)

/-- The state in which an accepted group greets its neighbours. -/
def State.joining (s : State) (p slot : Nat) (g : Group) : State :=
  ((s.setPhase p slot .started).hold (·.updPlot p (·.withGroup g))).survivalEvent p 1 g s.fabric 0

theorem State.joining_spec (hreq : (s.plot p).mail.held.find? (fun x => x.slot == r.slot) = some r) (g : Group) :
    (∃ m, (s.joining p r.slot g).plot p = { s.plot p with groups := (s.plot p).groups ++ [g], mail := m }) ∧
    (s.joining p r.slot g).heldIn p r.slot = some r.started ∧
    s.otherPlots (s.joining p r.slot g) p ∧ s.keepsBut (s.joining p r.slot g) [.plots, .bothy, .gatehouse] := by
  let a := s.setPhase p r.slot .started
  let u := a.hold (·.updPlot p (·.withGroup g))
  have hu : u.plot p = (a.plot p).withGroup g := a.renewPeers.plot_updPlot_self p (·.withGroup g)
  obtain ⟨hother, hkeeps, m, hm, hheld⟩ := u.tellsPlot_survivalEvent p 1 g s.fabric 0
  have hjoin : s.joining p r.slot g = u.survivalEvent p 1 g s.fabric 0 := rfl
  have hua : s.otherPlots u p := fun q hq => (a.renewPeers.plot_updPlot_ne p q (·.withGroup g) hq).trans
    (s.otherPlots_setPhase p r.slot .started q hq)
  have huk : s.keepsBut u [.plots, .gatehouse] := by
    have hupd := a.renewPeers.keepsBut_updPlot p (·.withGroup g)
    exact ((((s.keepsBut_updPlot p _).mono (by simp)).trans (a.keepsBut_renewPeers.mono (by simp))).trans (hupd.mono (by simp))).trans
      ((State.keepsBut_renewPeers _).mono (by simp))
  rw [hjoin]
  refine ⟨⟨m, ?_⟩, ?_, hua.trans hother, (huk.mono (by simp)).trans (hkeeps.mono (by simp))⟩
  · rw [hm, hu, State.plot_setPhase_self, Plot.withGroup]
  · rw [State.heldIn, hm, hheld, hu, State.plot_setPhase_self, Plot.withGroup]
    exact find?_started hreq

theorem exec_groupJoin {g : Group} (hturn : Turn s p opGroupJoin r) (hstatus : s.joinStatus p r = none) (hfree : s.freeGroup = some h)
    (hg : g = { s.newGroup r with handle := h }) :
    exec (.groupJoin p) s = .next (((s.joining p r.slot g).shakeAll p h).settleGroup p h) := by
  subst hg
  change execGroupJoin p s = _
  rw [execGroupJoin, State.serve_turn hturn, if_pos rfl]
  simp only [hstatus, hfree]
  rfl

/-- A handle that the module has free is in no plot. -/
theorem State.handle_ne_of_free (hfree : s.freeGroup = some h) (hp : p ∈ tenantPlots) {g : Group} (hg : g ∈ (s.plot p).groups) :
    g.handle ≠ h := by
  have hnone : (s.plot p).groupOf h = none := by
    have hall : tenantPlots.all (fun p => ((s.plot p).groupOf h).isNone) = true :=
      List.find?_some (p := fun h => tenantPlots.all (fun p => ((s.plot p).groupOf h).isNone)) hfree
    simpa using List.all_eq_true.1 hall p hp
  simpa using List.find?_eq_none.1 hnone g hg

/-- An accepted GROUP_JOIN has a way to every neighbour (Table CSC-4). -/
theorem State.portTo_of_joinStatus (hstatus : s.joinStatus p r = none) {f : Nat} (hf : f ∈ (s.newGroup r).neighbours s.fabric) :
    s.portTo f ≠ none := by
  have hroutes : (((s.newGroup r).neighbours s.fabric).map (s.route p)).any List.isEmpty = false := by
    unfold State.joinStatus at hstatus
    dsimp only at hstatus
    split_ifs at hstatus with _ _ _ hroute
    simpa using hroute
  refine State.portTo_of_route (p := p) (fun hnil => ?_)
  have hempty := List.any_eq_false.1 hroutes (s.route p f) (List.mem_map_of_mem hf)
  simp [hnil] at hempty

theorem groupJoin_accepted (hturn : Turn s p opGroupJoin r) (hstatus : s.joinStatus p r = none) (hfree : s.freeGroup = some h)
    (hp : p ∈ tenantPlots) (hreq : (s.plot p).mail.held.find? (fun x => x.slot == r.slot) = some r) :
    ∃ t, exec (.groupJoin p) s = .next t ∧
      (∃ x ∈ (t.plot p).groups, x.handle = h ∧ x.groupId = fieldAt r.payload 0 4 ∧ x.kind = fieldAt r.payload 4 1 ∧
        x.generation = 1 ∧ x.window = fieldAt r.payload 6 2 ∧ x.jobTag = fieldAt r.payload 0x10 8 ∧
        x.live = s.rosterAt (fieldAt r.payload 0x18 8) (fieldAt r.payload 8 4) ∧
        (x.neighbours s.fabric ≠ [] → x.state = groupForming ∧ x.joinSlot = some r.slot ∧
          t.heldIn p r.slot = some { r with phase := .started }) ∧
        (x.neighbours s.fabric = [] → x.state = groupActive ∧ (∃ body, (t.plot p).hasAnswer r 0 body)) ∧
        (∀ f ∈ x.neighbours s.fabric, t.said f (.handshake (s.shakeOf p x)))) ∧
      (∀ g ∈ (s.plot p).groups, g ∈ (t.plot p).groups) ∧ s.otherPlots t p ∧
      s.keepsBut t [.plots, .bothy, .ports, .gatehouse, .free, .sent] := by
  obtain ⟨g, hg⟩ : ∃ g, g = { s.newGroup r with handle := h } := ⟨_, rfl⟩
  have hfields : JoinedAs s r h g ∧ g.state = groupForming ∧ g.joinSlot = some r.slot ∧ g.answered = [] := by
    subst hg
    exact ⟨⟨rfl, rfl, rfl, rfl, rfl, rfl, rfl⟩, rfl, rfl, rfl⟩
  obtain ⟨⟨hhandle, hid, hkind, hgeneration, hwindow, hjob, hlive⟩, hstate, hslot, hanswered⟩ := hfields
  have hexec := exec_groupJoin hturn hstatus hfree hg
  obtain ⟨⟨m, hm⟩, hheld, hother, hkeeps⟩ := State.joining_spec hreq g
  have hof : ((s.joining p r.slot g).plot p).groupOf h = some g := by
    rw [hm, Plot.groupOf, List.find?_append, List.find?_eq_none.2 (fun x hx => by simpa using State.handle_ne_of_free hfree hp hx),
      Option.none_or]
    simp [hhandle]
  obtain ⟨hspeaks, hsaid⟩ := State.shakeAll_spec hof
  obtain ⟨u, hu⟩ : ∃ u, u = (s.joining p r.slot g).shakeAll p h := ⟨_, rfl⟩
  rw [← hu] at hspeaks hsaid hexec
  have hplot (q : Nat) : u.plot q = (s.joining p r.slot g).plot q := hspeaks.1.plot (by decide) q
  have hof' : (u.plot p).groupOf h = some g := by rw [hplot, hof]
  have hmod : u.mod = s.mod := (hspeaks.1 .mod (by decide)).trans (hkeeps .mod (by decide))
  have hfabric : u.fabric = s.fabric := by rw [State.fabric, hmod, State.fabric]
  have hother' : s.otherPlots u p := fun q hq => (hplot q).trans (hother q hq)
  have hkeeps' : s.keepsBut u [.plots, .bothy, .ports, .gatehouse, .free, .sent] := (hkeeps.mono (by simp)).trans (hspeaks.1.mono (by simp))
  have hreq' : u.heldIn p r.slot = some r.started := (State.heldIn_congr (by rw [hplot]) r.slot).trans hheld
  have hgroups : (u.plot p).groups = (s.plot p).groups ++ [g] := by rw [hplot, hm]
  have hold : ∀ x ∈ (s.plot p).groups, x ∈ (u.plot p).groups := fun x hx => by rw [hgroups]; exact List.mem_append_left _ hx
  by_cases hneighbours : g.neighbours s.fabric = []
  · have hmet : u.allMet g = true := by rw [State.allMet, hfabric, hneighbours, List.all_nil]
    obtain ⟨hgroups', hanswer, hother'', hkeeps''⟩ := State.settleGroup_forming hof' hmet hstate hslot hreq'
      ((State.isOpen_congr (by rw [hplot, hm])).trans hturn.1)
    refine ⟨_, hexec, ⟨g.formed, ?_, hhandle, hid, hkind, hgeneration, hwindow, hjob, hlive, fun hsome => absurd hneighbours hsome,
      fun _ => ⟨rfl, _, hanswer⟩, fun f hf => ?_⟩, fun x hx => ?_, hother'.trans hother'', hkeeps'.trans (hkeeps''.mono (by simp))⟩
    · rw [hgroups', hgroups, changed, List.map_append, List.map_singleton, if_pos hhandle]
      exact List.mem_append_right _ (List.mem_singleton_self _)
    · exact absurd hf (by rw [show g.formed.neighbours s.fabric = [] from hneighbours]; exact List.not_mem_nil)
    · rw [hgroups']
      exact mem_changed (hold x hx) (State.handle_ne_of_free hfree hp hx)
  · have hmet : u.allMet g = false := by
      obtain ⟨f, hf⟩ := List.exists_mem_of_ne_nil _ hneighbours
      refine List.all_eq_false.2 ⟨f, by rwa [hfabric], by simp [hanswered]⟩
    rw [State.settleGroup_unmet hof' hmet] at hexec
    refine ⟨u, hexec, ⟨g, ?_, hhandle, hid, hkind, hgeneration, hwindow, hjob, hlive, fun _ => ⟨hstate, hslot, hreq'⟩,
      fun hnone => absurd hnone hneighbours, fun f hf => ?_⟩, hold, hother', hkeeps'⟩
    · rw [hgroups]
      exact List.mem_append_right _ (List.mem_singleton_self _)
    · have hjoin : s.speaks (s.joining p r.slot g) [.plots, .bothy, .gatehouse] := State.speaks_of_keepsBut hkeeps (by decide) (by decide)
      have hroute : (s.joining p r.slot g).portTo f ≠ none := by
        rw [hjoin.portTo (by decide)]
        exact State.portTo_of_joinStatus hstatus (by rw [hg] at hf; exact hf)
      rw [← State.shakeOf_congr (t := s.joining p r.slot g) (hkeeps .mod (by decide)) (by rw [hm]; rfl)]
      exact hsaid f (by rwa [hjoin.fabric (by decide)]) hroute

end Join

end Sys2Proof.Machine

/-! GROUP_HANDSHAKE, GROUP_JOIN_TIMEOUT, GROUP_LEAVE and ROUTE_SET (R205, R218, R221, R224), and the group messages' obligation
(O16). -/

namespace Sys2Proof.Machine

/-! ### GROUP_HANDSHAKE while a group forms (R205) -/

/-- A group that has heard a neighbour, whose pause is over. -/
def Group.renewed (g : Group) (f now : Nat) : Group := { g with heard := g.heard.set f now, pauseTicks := g.pauseTicks.erase f }

/-- A group that has met a neighbour. -/
def Group.meeting (first : Bool) (h : Handshake) (now : Nat) (g : Group) : Group :=
  { g with
    answered := if first then g.answered ++ [h.src] else g.answered, heard := g.heard.set h.src now
    peerReleased := g.peerReleased || h.released }

/-- Whoever had answered, or answers now, is among those who have. -/
theorem Group.mem_answered_meeting {g : Group} {h : Handshake} {f : Nat} (hf : f = h.src ∨ f ∈ g.answered) (now : Nat) :
    f ∈ (g.meeting (!g.answered.contains h.src) h now).answered := by
  unfold Group.meeting
  dsimp only
  split
  · rcases hf with rfl | hf
    · exact List.mem_append_right _ (List.mem_singleton_self _)
    · exact List.mem_append_left _ hf
  · next hheard =>
    rcases hf with rfl | hf
    · simpa using hheard
    · exact hf

section Handshakes

variable {s : State} {l : Link} {p slot : Nat} {g : Group} {h : Handshake} {r : Req}

theorem State.renew_forming {f : Nat} (hf : f ∈ g.neighbours s.fabric) (hstate : g.state = groupForming) (hflows : g.suspended = false) :
    s.renew p g f = s.updGroup p g.handle (·.renewed f s.now) := by
  have hlive : ¬((g.neighbours s.fabric).contains f = false ∨ g.state = groupDissolved ∨ g.suspended = true) := by
    simp [hf, hstate, hflows, groupForming, groupDissolved]
  rw [State.renew, if_neg hlive]
  exact if_neg (fun hc => absurd (hstate.symm.trans hc.1) (by decide))

/-- The state in which the handshake of a group that forms is worked. -/
def State.renewedFor (s : State) (l : Link) (p : Nat) (g : Group) (src : Nat) : State :=
  (s.heardOn l).updGroup p g.handle (·.renewed src s.now)

theorem State.groups_heardOn (s : State) (l : Link) (p : Nat) : ((s.heardOn l).plot p).groups = (s.plot p).groups := by
  rw [State.plot_heardOn, Plot.hearEnd]

/-- A handshake reaches the one plot that forms the group. -/
theorem exec_groupHandshake {t : State} (harrives : Arrives s l) (hp : p ∈ tenantPlots) (honly : s.groupsOnlyOf p)
    (hholds : s.holdsGroup p g) (hid : g.groupId = h.groupId) (hstate : g.state = groupForming) (hflows : g.suspended = false)
    (hsrc : h.src ∈ g.neighbours s.fabric) (hgeneration : h.generation ≤ g.generation)
    (ht : (s.renewedFor l p g h.src).takeForming p (g.renewed h.src s.now) h = t) (hother : (s.heardOn l).otherPlots t p) :
    exec (.groupHandshake l h) s = .next t := by
  obtain ⟨hof, hby⟩ := hholds
  have hgroups := s.groups_heardOn l
  have hof' : ((s.renewedFor l p g h.src).plot p).groupOf g.handle = some (g.renewed h.src s.now) :=
    State.groupOf_updGroup (fun _ => rfl) (by rw [Plot.groupOf, hgroups]; exact hof)
  have hby' : ((s.heardOn l).plot p).groupById h.groupId = some g := by
    rw [Plot.groupById, hgroups, ← hid]
    exact hby
  have hrenew : (s.heardOn l).renew p g h.src = s.renewedFor l p g h.src := State.renew_forming hsrc hstate hflows
  have hlive : ¬(g.state = groupDissolved ∨ g.suspended = true) := by simp [hstate, hflows, groupForming, groupDissolved]
  have hforming : (g.renewed h.src s.now).state = groupForming ∧ h.generation ≤ (g.renewed h.src s.now).generation := ⟨hstate, hgeneration⟩
  have hnone (u : State) (hu : (s.heardOn l).otherPlots u p) (q : Nat) (hq : q ≠ p) : (u.plot q).groupById h.groupId = none := by
    rw [hu q hq, Plot.groupById, hgroups, (honly q hq).1, List.find?_nil]
  change Host.Outcome.next (s.hearControl l false true _) = _
  rw [State.hearControl_arrives harrives]
  refine congrArg _ (foldl_eq_once hp nodup_tenantPlots (fun q _ hq => ?_) ?_ (fun q _ hq => ?_))
  · simp only [hnone _ (fun _ _ => rfl) q hq]
  · simp only [hby', if_neg hlive, hrenew, hof']
    rw [if_pos hforming]
    exact ht
  · simp only [hnone t hother q hq]

/-- What stands when a handshake is worked: the group with its lease renewed, and the request that waits. -/
theorem State.renewedFor_spec (hopen : s.isOpen p = true) (hof : (s.plot p).groupOf g.handle = some g) (hreq : s.heldIn p slot = some r)
    {u : State} (hu : u = s.renewedFor l p g h.src) :
    u.plot p = { (s.heardOn l).plot p with groups := changed g.handle (·.renewed h.src s.now) (s.plot p).groups } ∧
    (u.plot p).groupOf g.handle = some (g.renewed h.src s.now) ∧ u.heldIn p slot = some r ∧ u.isOpen p = true ∧
    (s.heardOn l).otherPlots u p ∧ (s.heardOn l).keepsBut u [.plots] := by
  have hplot : u.plot p = { (s.heardOn l).plot p with groups := changed g.handle (·.renewed h.src s.now) (s.plot p).groups } := by
    rw [hu, State.renewedFor, State.plot_updGroup, s.groups_heardOn l]
  refine ⟨hplot, ?_, (State.heldIn_congr (by rw [hplot, State.plot_heardOn]; rfl) slot).trans hreq,
    (State.isOpen_congr (by rw [hplot, State.plot_heardOn]; rfl)).trans hopen, ?_, ?_⟩
  · rw [hplot]
    exact find?_changed (F := (·.renewed h.src s.now)) (fun _ => rfl) hof
  · exact hu ▸ State.otherPlots_updGroup _ p _ _
  · exact hu ▸ State.keepsBut_updGroup _ p _ _

/-- A handshake with other values ends the join (R205). -/
theorem handshake_mismatch (harrives : Arrives s l) (hp : p ∈ tenantPlots) (hopen : s.isOpen p = true) (honly : s.groupsOnlyOf p)
    (hholds : s.holdsGroup p g) (hid : g.groupId = h.groupId) (hstate : g.state = groupForming) (hflows : g.suspended = false)
    (hslot : g.joinSlot = some slot) (hreq : s.heldIn p slot = some r) (hsrc : h.src ∈ g.neighbours s.fabric)
    (hgeneration : h.generation ≤ g.generation)
    (hvalues : h.kind ≠ g.kind ∨ h.members ≠ g.size ∨ h.jobTag ≠ g.jobTag ∨ h.digest ≠ g.digest) :
    ∃ t, exec (.groupHandshake l h) s = .next t ∧
      t.plot p = ({ (s.heardOn l).plot p with
        groups := (s.plot p).groups.filter (fun x => x.handle != g.handle) }).answered r stGroupMismatch 0 0 [] ∧
      (s.heardOn l).otherPlots t p ∧ (s.heardOn l).keepsBut t [.plots, .ports, .sent] := by
  obtain ⟨u, hu⟩ : ∃ u, u = s.renewedFor l p g h.src := ⟨_, rfl⟩
  obtain ⟨hplot, hof, hheld, hup, hother, hkeeps⟩ := State.renewedFor_spec hopen hholds.1 hreq hu
  have hfabric : u.fabric = s.fabric := by rw [hu]; rfl
  let w := u.shake p (g.renewed h.src s.now) h.src
  have hshake := (u.speaks_shake p (g.renewed h.src s.now) h.src).1
  have hw (q : Nat) : w.plot q = u.plot q := hshake.plot (by decide) q
  have hnear : (g.renewed h.src s.now).neighbours u.fabric = g.neighbours s.fabric := by rw [hfabric]; rfl
  have htake : u.takeForming p (g.renewed h.src s.now) h = w.failJoin p g.handle stGroupMismatch := by
    rw [State.takeForming, if_neg (by rw [hnear]; simpa using hsrc)]
    exact if_pos hvalues
  obtain ⟨hplot', hother', hkeeps'⟩ := State.failJoin_spec (s := w) (p := p) (handle := g.handle) (g := g.renewed h.src s.now) (by rw [hw, hof])
    hslot ((State.heldIn_congr (by rw [hw]) slot).trans hheld) ((State.isOpen_congr (by rw [hw])).trans hup) stGroupMismatch
  have hrest : (s.heardOn l).otherPlots (w.failJoin p g.handle stGroupMismatch) p :=
    fun q hq => ((hother' q hq).trans (hw q)).trans (hother q hq)
  refine ⟨_, exec_groupHandshake harrives hp honly hholds hid hstate hflows hsrc hgeneration (hu ▸ htake) hrest, ?_, hrest,
    (hkeeps.mono (by simp)).trans ((hshake.mono (by simp)).trans (hkeeps'.mono (by simp)))⟩
  rw [hplot', hw, hplot]
  simp only [filter_changed (F := (·.renewed h.src s.now)) (fun _ => rfl)]

/-- The state after a neighbour's answer, before the group settles. -/
def State.metBy (s : State) (p : Nat) (g : Group) (h : Handshake) : State :=
  let u := s.updGroup p g.handle (Group.meeting (!g.answered.contains h.src) h s.now)
  if !g.answered.contains h.src then u.shake p g h.src else u

theorem State.met_forming (hstate : g.state = groupForming) : s.met p g h = (s.metBy p g h).settleGroup p g.handle := by
  have hidle : ¬(h.released && !g.peerReleased && g.state == groupActive) = true := by simp [hstate, groupForming, groupActive]
  exact if_neg hidle

theorem State.metBy_spec (s : State) (p : Nat) (g : Group) (h : Handshake) : ∃ F : Group → Group,
    F = Group.meeting (!g.answered.contains h.src) h s.now ∧
    (∀ q, (s.metBy p g h).plot q = (s.updGroup p g.handle F).plot q) ∧ s.keepsBut (s.metBy p g h) [.plots, .ports, .sent] := by
  have hkeeps := s.keepsBut_updGroup p g.handle (Group.meeting (!g.answered.contains h.src) h s.now)
  refine ⟨_, rfl, ?_⟩
  unfold State.metBy
  dsimp only
  split
  · have hshake := (State.speaks_shake (s.updGroup p g.handle (Group.meeting (!g.answered.contains h.src) h s.now)) p g h.src).1
    exact ⟨fun q => hshake.plot (by decide) q, (hkeeps.mono (by simp)).trans (hshake.mono (by simp))⟩
  · exact ⟨fun _ => rfl, hkeeps.mono (by simp)⟩

/-- The last answer makes the group ACTIVE (R205). -/
theorem handshake_forms (harrives : Arrives s l) (hp : p ∈ tenantPlots) (hopen : s.isOpen p = true) (honly : s.groupsOnlyOf p)
    (hholds : s.holdsGroup p g) (hid : g.groupId = h.groupId) (hstate : g.state = groupForming) (hflows : g.suspended = false)
    (hpaired : ∀ f ∈ g.neighbours s.fabric, s.paired f = true)
    (hslot : g.joinSlot = some slot) (hreq : s.heldIn p slot = some r) (hsrc : h.src ∈ g.neighbours s.fabric)
    (hvalues : ¬(h.kind ≠ g.kind ∨ h.members ≠ g.size ∨ h.jobTag ≠ g.jobTag ∨ h.digest ≠ g.digest)) (hrank : h.rank = g.rankOf h.src)
    (hgeneration : h.generation = g.generation) (hlast : ∀ f ∈ g.neighbours s.fabric, f = h.src ∨ f ∈ g.answered) :
    ∃ t, exec (.groupHandshake l h) s = .next t ∧
      (∃ x, (t.plot p).groupOf g.handle = some x ∧ x.state = groupActive ∧ x.joinSlot = none ∧ x.live = g.live ∧
        x.generation = g.generation ∧ x.heard.get 0 h.src = s.now) ∧
      (t.plot p).hasAnswer r 0 ({ g with state := groupActive }.joinResult s.fabric) ∧
      (s.heardOn l).otherPlots t p ∧ (s.heardOn l).keepsBut t [.plots, .bothy, .ports, .sent] := by
  obtain ⟨u, hu⟩ : ∃ u, u = s.renewedFor l p g h.src := ⟨_, rfl⟩
  obtain ⟨hplot, hof, hheld, hup, hother, hkeeps⟩ := State.renewedFor_spec hopen hholds.1 hreq hu
  have hfabric : u.fabric = s.fabric := by rw [hu]; rfl
  have hnow : u.now = s.now := by rw [hu]; rfl
  let g1 := g.renewed h.src s.now
  obtain ⟨F, hF, hw, hkeepsw⟩ := u.metBy_spec p g1 h
  have hFkeeps : ∀ x, (F x).handle = x.handle := fun x => by rw [hF]; rfl
  have hFg : (F g1).state = groupForming ∧ (F g1).joinSlot = some slot := by
    rw [hF]
    exact ⟨hstate, hslot⟩
  have hFanswered : ∀ f ∈ g.neighbours s.fabric, f ∈ (F g1).answered := fun f hf => by
    rw [hF]
    exact Group.mem_answered_meeting (g := g1) (hlast f hf) u.now
  let w := u.metBy p g1 h
  have hplotw : w.plot p = { u.plot p with groups := changed g.handle F (u.plot p).groups } := (hw p).trans (u.plot_updGroup p g.handle F)
  have hofw : (w.plot p).groupOf g.handle = some (F g1) := by
    rw [hplotw]
    exact find?_changed hFkeeps hof
  have hmodw : w.mod = s.mod := (hkeepsw .mod (by decide)).trans (by rw [hu]; rfl)
  have hgatew : w.gatehouse = s.gatehouse := (hkeepsw .gatehouse (by decide)).trans (by rw [hu]; rfl)
  have hfabricw : w.fabric = s.fabric := by rw [State.fabric, hmodw, State.fabric]
  have hnear : (F g1).neighbours w.fabric = g.neighbours s.fabric := by rw [hfabricw, hF]; rfl
  have hmet : w.allMet (F g1) = true := by
    rw [State.allMet, hnear]
    refine List.all_eq_true.2 (fun f hf => ?_)
    have hpair : w.paired f = true := by rw [← hpaired f hf, State.paired, hmodw, hgatew, State.paired]
    rw [List.contains_iff_mem.2 (hFanswered f hf), hpair, Bool.and_self]
  obtain ⟨hgroups, hanswer, hother', hkeeps'⟩ := State.settleGroup_forming hofw hmet hFg.1 hFg.2
    ((State.heldIn_congr (by rw [hplotw]) slot).trans hheld) ((State.isOpen_congr (by rw [hplotw])).trans hup)
  have htake : u.takeForming p g1 h = w.settleGroup p g.handle := by
    have hnear' : g1.neighbours u.fabric = g.neighbours s.fabric := by rw [hfabric]; rfl
    rw [State.takeForming, if_neg (by rw [hnear']; simpa using hsrc)]
    refine (if_neg hvalues).trans ((if_neg ?_).trans (State.met_forming hstate))
    exact fun hbad => hbad.elim (fun hne => hne hrank) (fun hne => hne hgeneration)
  have hrest : (s.heardOn l).otherPlots (w.settleGroup p g.handle) p := fun q hq =>
    ((hother' q hq).trans ((hw q).trans (u.otherPlots_updGroup p _ F q hq))).trans (hother q hq)
  refine ⟨_, exec_groupHandshake harrives hp honly hholds hid hstate hflows hsrc hgeneration.le (hu ▸ htake) hrest, ⟨(F g1).formed, ?_, rfl, rfl,
    ?_, ?_, ?_⟩, ?_, hrest, (hkeeps.mono (by simp)).trans ((hkeepsw.mono (by simp)).trans (hkeeps'.mono (by simp)))⟩
  · rw [Plot.groupOf, hgroups]
    exact find?_changed (F := Group.formed) (fun _ => rfl) hofw
  · rw [hF]; rfl
  · rw [hF]; rfl
  · rw [hF, ← hnow]
    exact NMap.get_set_self _ _ _ _
  · rw [hfabricw] at hanswer
    rw [hF] at hanswer
    exact hanswer

end Handshakes

/-! ### GROUP_JOIN_TIMEOUT (R205) -/

section Timeout

variable {s : State} {p slot : Nat} {g : Group} {r : Req}

theorem groupJoinTimeout_ends (hopen : s.isOpen p = true) (hof : (s.plot p).groupOf g.handle = some g)
    (hdue : g.joinTick + g.timeoutS * 100000000 ≤ s.now) (hslot : g.joinSlot = some slot) (hreq : s.heldIn p slot = some r) :
    ∃ t, exec (.groupJoinTimeout p g.handle) s = .next t ∧
      t.plot p = ({ s.plot p with groups := (s.plot p).groups.filter (fun x => x.handle != g.handle) }).answered r stTimeout 0 0 [] ∧
      s.otherPlots t p ∧ s.keepsBut t [.plots] := by
  refine ⟨_, ?_, State.failJoin_spec hof hslot hreq hopen stTimeout⟩
  change execGroupJoinTimeout p g.handle s = _
  simp only [execGroupJoinTimeout, hof]
  exact if_pos ⟨by rw [hslot]; rfl, hdue⟩

end Timeout

/-! ### GROUP_LEAVE (R218, R221) -/

section Leave

variable {s : State} {p handle : Nat} {g : Group} {r : Req}

/-- A group is CLOSED and goes. -/
def State.closeGroup (s : State) (p handle : Nat) : State :=
  (s.setGroupState p handle groupClosed 0).updPlot p (fun q => { q with groups := q.groups.filter (fun x => x.handle != handle) })

theorem State.closeGroup_spec (h : (s.plot p).groupOf handle = some g) : s.otherPlots (s.closeGroup p handle) p ∧
    s.keepsBut (s.closeGroup p handle) [.plots, .bothy] ∧ ∃ m, (s.closeGroup p handle).plot p =
      { s.plot p with groups := (s.plot p).groups.filter (fun x => x.handle != handle), mail := m } ∧ m.held = (s.plot p).mail.held := by
  have hdrop (t : State) := t.otherPlots_updPlot p (fun q => { q with groups := q.groups.filter (fun x => x.handle != handle) })
  have hdrop' (t : State) := t.keepsBut_updPlot p (fun q => { q with groups := q.groups.filter (fun x => x.handle != handle) })
  by_cases hstate : g.state = groupClosed
  · have hsame : s.setGroupState p handle groupClosed 0 = s := by simp [State.setGroupState, h, hstate]
    rw [State.closeGroup, hsame]
    exact ⟨hdrop s, (hdrop' s).mono (by simp), _, s.plot_updPlot_self p _, rfl⟩
  · obtain ⟨hother, hkeeps, m, hm, hheld⟩ := State.regroups_setGroupState h hstate 0
    refine ⟨hother.trans (hdrop _), hkeeps.trans ((hdrop' _).mono (by simp)), m, ?_, hheld⟩
    rw [State.closeGroup, State.plot_updPlot_self, hm]
    simp only [filter_changed (F := fun x => { x with state := groupClosed }) (fun _ => rfl)]

/-- The request that waits for a group that is left ends. -/
def State.loseJoin (s : State) (p : Nat) (g : Group) : State :=
  match g.joinSlot.bind (s.heldIn p) with
  | some j => s.refuse p j stGroupLost
  | none => s

theorem State.loseJoin_spec (hopen : s.isOpen p = true) : s.otherPlots (s.loseJoin p g) p ∧ s.keepsBut (s.loseJoin p g) [.plots] ∧
    ((s.loseJoin p g).plot p).groups = (s.plot p).groups ∧ (s.loseJoin p g).isOpen p = true ∧
    ∀ j, g.joinSlot.bind (s.heldIn p) = some j → ((s.loseJoin p g).plot p).hasAnswer j stGroupLost [] := by
  unfold State.loseJoin
  split
  · next j hj =>
    obtain ⟨hplot, hother, hkeeps⟩ := State.refuse_spec (s := s) j stGroupLost hopen
    refine ⟨hother, hkeeps, by rw [hplot]; rfl, (State.isOpen_congr (by rw [hplot]; rfl)).trans hopen, fun k hk => ?_⟩
    obtain rfl : j = k := Option.some.inj (hj.symm.trans hk)
    rw [hplot]
    exact Plot.hasAnswer_answered _ j stGroupLost []
  · next hnone => exact ⟨fun _ _ => rfl, .refl s _, rfl, hopen, fun j hj => absurd (hnone.symm.trans hj) (by simp)⟩

theorem exec_groupLeave (hturn : Turn s p opGroupLeave r) (hof : (s.plot p).groupOf (fieldAt r.payload 0 2) = some g)
    (hstate : g.state ≠ groupDissolved) (hplans : (s.plot p).plansNaming g.groupId = []) : exec (.groupLeave p) s =
      .next (((((s.sendLeave p g).abandonFrames p g).closeGroup p g.handle).loseJoin p g).ok p r []) := by
  change execGroupLeave p s = _
  rw [execGroupLeave, State.serve_turn hturn, if_pos rfl]
  simp only [hof, hstate, hplans, List.isEmpty_nil, Bool.true_eq_false, if_false]
  rfl

/-- GROUP_LEAVE that cannot be (Table CSC-5, R221). -/
theorem groupLeave_refused (hturn : Turn s p opGroupLeave r) (hof : (s.plot p).groupOf (fieldAt r.payload 0 2) = some g)
    (hbad : g.state = groupDissolved ∨ (s.plot p).plansNaming g.groupId ≠ []) : ∃ t, exec (.groupLeave p) s = .next t ∧
      t.plot p = (s.plot p).answered r (if g.state = groupDissolved then stGroupLost else stGroupBusy) 0 0 [] ∧
      s.otherPlots t p ∧ s.keepsBut t [.plots] := by
  refine ⟨s.refuse p r (if g.state = groupDissolved then stGroupLost else stGroupBusy), ?_, State.refuse_spec r _ hturn.1⟩
  change execGroupLeave p s = _
  rw [execGroupLeave, State.serve_turn hturn, if_pos rfl]
  simp only [hof]
  by_cases hstate : g.state = groupDissolved
  · rw [if_pos hstate, if_pos hstate]
  · have hplans : ((s.plot p).plansNaming g.groupId).isEmpty = false := by simpa using hbad.resolve_left hstate
    rw [if_neg hstate, if_neg hstate, if_pos hplans]

theorem groupLeave_leaves (hturn : Turn s p opGroupLeave r) (hof : (s.plot p).groupOf (fieldAt r.payload 0 2) = some g)
    (hstate : g.state ≠ groupDissolved) (hplans : (s.plot p).plansNaming g.groupId = []) : ∃ t, exec (.groupLeave p) s = .next t ∧
      (t.plot p).groups = (s.plot p).groups.filter (fun x => x.handle != g.handle) ∧ (t.plot p).hasAnswer r 0 [] ∧
      (∀ j, g.joinSlot.bind (s.heldIn p) = some j → (t.plot p).hasAnswer j stGroupLost []) ∧
      (∀ f ∈ g.neighbours s.fabric, s.portTo f ≠ none → t.said f (.leave g.groupId g.generation (g.rankOf s.fabric))) ∧
      (∀ i, ∀ x ∈ (t.port i).retention, ¬ (x.plot = p ∧ x.frame.groupId = g.groupId)) ∧
      s.otherPlots t p ∧ s.keepsBut t [.plots, .bothy, .ports, .sent] := by
  obtain ⟨hspeaks, hsaid⟩ := s.sendLeave_spec p g
  obtain ⟨u, hu⟩ : ∃ u, u = (s.sendLeave p g).abandonFrames p g := ⟨_, rfl⟩
  have hexec := exec_groupLeave hturn hof hstate hplans
  have hspeaks' : s.speaks u [.ports, .sent] := hu ▸ hspeaks.trans (((s.sendLeave p g).speaks_abandonFrames p g).mono (by simp))
  have hleft (i : Nat) : u.port i = ((s.sendLeave p g).port i).withoutFrames p g := hu ▸ State.port_abandonFrames _ p g i
  have hsaid' : ∀ f ∈ g.neighbours s.fabric, s.portTo f ≠ none → u.said f (.leave g.groupId g.generation (g.rankOf s.fabric)) :=
    fun f hf hroute => hu ▸ ((s.sendLeave p g).speaks_abandonFrames p g).said (hsaid f hf hroute)
  rw [← hu] at hexec
  have hplot (q : Nat) : u.plot q = s.plot q := hspeaks'.1.plot (by decide) q
  obtain ⟨hother, hkeeps, m, hm, hheld⟩ := State.closeGroup_spec (s := u) (p := p) (handle := g.handle) (g := g)
    (by rw [hplot, Plot.handle_of_groupOf hof]; exact hof)
  let v := u.closeGroup p g.handle
  have hopen : v.isOpen p = true := (State.isOpen_congr (by rw [hm, hplot])).trans hturn.1
  have hheldIn : v.heldIn p = s.heldIn p := funext (State.heldIn_congr (by rw [hm, hheld, hplot]))
  obtain ⟨hother', hkeeps', hgroups, hopen', hlost⟩ := State.loseJoin_spec (g := g) hopen
  let w := v.loseJoin p g
  obtain ⟨hplot'', hother'', hkeeps''⟩ := State.okAtOnce_spec (s := w) r [] hopen'
  have hafter : u.keepsBut (w.ok p r []) [.plots, .bothy] := hkeeps.trans ((hkeeps'.mono (by simp)).trans (hkeeps''.mono (by simp)))
  have hports (i : Nat) : (w.ok p r []).port i = u.port i := hafter.port (by decide) i
  refine ⟨_, hexec, ?_, ?_, fun j hj => ?_, fun f hf hroute => ?_, fun i x hx => ?_, fun q hq => ?_,
    (hspeaks'.1.mono (by simp)).trans (hafter.mono (by simp))⟩
  · rw [hplot'']
    change (w.plot p).groups = _
    rw [hgroups, hm, hplot]
  · rw [hplot'']
    exact Plot.hasAnswer_answered _ r 0 []
  · rw [hplot'']
    exact Plot.hasAnswer_after (hlost j (by rw [hheldIn]; exact hj)) 0 0 0 []
  · exact State.said_congr (hafter .sent (by decide)) (fun i => by rw [hports]) (hsaid' f hf hroute)
  · rw [hports, hleft] at hx
    have hkept := (List.mem_filter.1 hx).2
    rintro ⟨hp, hid⟩
    simp [hp, hid] at hkept
  · exact (hother'' q hq).trans ((hother' q hq).trans ((hother q hq).trans (hplot q)))

end Leave

/-! ### ROUTE_SET (R224) -/

theorem routeSet_accepted {s : State} {p : Nat} {r : Req} (hturn : Turn s p opRouteSet r) (hsome : fieldAt r.payload 0 1 ≠ 0)
    (hcount : fieldAt r.payload 0 1 ≤ 56) (hentries : ∀ i < fieldAt r.payload 0 1, (routeEntry r.payload i).2 < 4096 ∧
      ((routeEntry r.payload i).2 = 0 ∨ ∃ k < 12, s.portLeads k (routeEntry r.payload i).1 = true))
    (hroom : (routesAfter r.payload (s.plot p).routes).length ≤ 256) : ∃ t, exec (.routeSet p) s = .next t ∧
      t.plot p = ({ s.plot p with routes := routesAfter r.payload (s.plot p).routes }).answeredOk r [] ∧
      s.otherPlots t p ∧ s.keepsBut t [.plots] := by
  let u := s.updPlot p (fun q => { q with routes := routesAfter r.payload (s.plot p).routes })
  have hu : u.plot p = { s.plot p with routes := routesAfter r.payload (s.plot p).routes } := s.plot_updPlot_self p _
  have hmasks : ((List.range (fieldAt r.payload 0 1)).map (routeEntry r.payload)).any (fun e => decide (4096 ≤ e.2)) = false := by
    refine List.any_eq_false.2 (fun e he => ?_)
    obtain ⟨i, hi, rfl⟩ := List.mem_map.1 he
    simpa using (hentries i (List.mem_range.1 hi)).1
  have hreach : ((List.range (fieldAt r.payload 0 1)).map (routeEntry r.payload)).any (fun e => e.2 != 0 &&
      !(List.range 12).any (fun i => s.portLeads i e.1)) = false := by
    refine List.any_eq_false.2 (fun e he => ?_)
    obtain ⟨i, hi, rfl⟩ := List.mem_map.1 he
    rcases (hentries i (List.mem_range.1 hi)).2 with hzero | ⟨k, hk, hleads⟩
    · simp [hzero]
    · have hway : (List.range 12).any (fun i' => s.portLeads i' (routeEntry r.payload i).1) = true :=
        List.any_eq_true.2 ⟨k, List.mem_range.2 hk, hleads⟩
      simp [hway]
  have hexec : exec (.routeSet p) s = .next (u.ok p r []) := by
    change execRouteSet p s = _
    rw [execRouteSet, State.serve_turn hturn, if_pos rfl]
    simp only [hmasks, hreach, hsome, Nat.not_lt.2 hcount, Nat.not_lt.2 hroom, Bool.false_eq_true, or_self, if_false]
    rfl
  obtain ⟨hplot, hother, hkeeps⟩ := State.okAtOnce_spec (s := u) r [] ((State.isOpen_congr (by rw [hu])).trans hturn.1)
  exact ⟨_, hexec, by rw [hplot, hu], (s.otherPlots_updPlot p _).trans hother, (s.keepsBut_updPlot p _).trans hkeeps⟩

/-- Settles O16, message by message: what a group's message leaves, with the frames that it sends. -/
theorem groupMembership : Obligations.GroupMembership := by
  refine ⟨?join, ?forms, ?mismatch, ?timeout, ?leave, ?refused, ?route⟩
  case join => exact fun s p h r hturn hstatus hfree hp hreq => groupJoin_accepted hturn hstatus hfree hp hreq
  case forms =>
    intro s l p slot g h r harrives hp hopen honly hholds hid hstate hflows hpaired hslot hreq hsrc hkind hmembers hjob hdigest hrank
      hgeneration hlast
    exact handshake_forms harrives hp hopen honly hholds hid hstate hflows hpaired hslot hreq hsrc
      (by simp [hkind, hmembers, hjob, hdigest]) hrank hgeneration hlast
  case mismatch =>
    intro s l p slot g h r harrives hp hopen honly hholds hid hstate hflows hslot hreq hsrc hgeneration hvalues
    exact handshake_mismatch harrives hp hopen honly hholds hid hstate hflows hslot hreq hsrc hgeneration hvalues
  case timeout =>
    intro s p slot g r hopen hof _ hdue hslot hreq
    exact groupJoinTimeout_ends hopen hof hdue hslot hreq
  case leave => exact fun s p r g hturn _ hof hstate hplans => groupLeave_leaves hturn hof hstate hplans
  case refused => exact fun s p r g hturn hof hbad => groupLeave_refused hturn hof hbad
  case route => exact fun s p r hturn hsome hcount hentries hroom => routeSet_accepted hturn hsome hcount hentries hroom

end Sys2Proof.Machine

/-! The statements of adapters' messages (O10) and of bindings and prefetches (O11) each fail in one clause. A revocation while no
step runs still waits for a list that is being built ahead of its step (R241, R247, R264), and a prefetch moves the whole pool
units of a record (R235, R245), not its bytes in units of the tier mover. -/

namespace Sys2Proof.Machine

/-! ### A revocation waits for the list being built (R247) -/

/-- FORCE without another flag revokes an ADMITTED adapter that no loaded plan names. -/
theorem exec_adapterEvictForce_revokes {s : State} {p : Nat} {r : Req} {a : Adapter} (hturn : Turn s p opAdapterEvict r)
    (hforce : fieldAt r.payload 4 1 = 1) (hbound : (s.plot p).binding ≠ none)
    (hfind : (s.plot p).adapters.find (fieldAt r.payload 0 4) = some a) (hstate : a.state = .admitted)
    (hplans : (s.plot p).planPinned a.handle = false) : exec (.adapterEvictForce p) s = .next (s.revoke p r a) := by
  have hsel : (bitOf 1 0 && !bitOf 1 1 && !bitOf 1 2) = true := by decide
  have hflags : (bitOf 1 2 && (bitOf 1 0 || bitOf 1 1)) = false := by decide
  change execAdapterEvictForce p s = _
  rw [execAdapterEvictForce, State.serveEvict, State.serve_turn hturn]
  simp only [hforce, hsel, hflags, hfind, hstate, hplans, Option.isNone_iff_eq_none, hbound, if_true, Bool.false_eq_true, if_false]

/-- ADAPTER_EVICT of adapter 3 with FORCE. -/
def forceEvict : Req :=
  { slot := 0, opcode := opAdapterEvict, tag := 0, vector := 0, payload := natLE 4 3 ++ natLE 4 1, since := 0, phase := .taken
    waits := [], tally := 0 }

/-- Adapter 3, admitted and resident. -/
def residentAdapter : Adapter :=
  { newAdapter [] 3 false with state := .admitted, catAddr := 0x11000000000, residency := .resident, resAddr := 0x10000 }

/-- A binding whose resident pool is window 0. -/
def oneWindow : Binding := { fp := 1, manifest := [], firstLayer := 0, lastLayer := 0, res0 := 0, res1 := 0xFFFF, cat := 1 }

/-- Plot 1 runs no step. The first list of plan 1's next step, whose building outlives the step before it (R264), has sequence 0
of adapter 3 as a candidate. -/
def listedAhead : State :=
  { State.reset with
    plots := [(1, { Plot.init with
      state := 1, binding := some oneWindow, adapters := [(3, residentAdapter)]
      seqs := [(0, { newSeq [] 0 0 0 with adapter := 3 })]
      ahead := [(1, { Building.init 0 with cands := [0], complete := true })]
      mail := { Plot.init.mail with held := [forceEvict] } })] }

/-- Sequence 0 is terminated, but the list being built still holds its adapter, which therefore keeps its slots and its copy. -/
theorem listedAhead_staysRevoking :
    (((listedAhead.revoke 1 forceEvict residentAdapter).plot 1).adapters.find 3).map (·.state) = some .revoking := by
  decide +kernel

/-- Refutes O10: in `listedAhead` no step of the plot runs, yet FORCE leaves the adapter REVOKING, where the statement has it
REGISTERED at once. -/
theorem not_adapterMessages : ¬ Obligations.AdapterMessages := by
  rintro ⟨-, -, -, hforce, -⟩
  have hturn : Turn listedAhead 1 opAdapterEvict forceEvict := ⟨rfl, rfl, rfl, rfl⟩
  have hbound : (listedAhead.plot 1).binding ≠ none := Option.some_ne_none _
  obtain ⟨t, hexec, hends, -⟩ :=
    hforce listedAhead 1 forceEvict residentAdapter hturn (by decide) hbound rfl rfl rfl rfl rfl
  obtain rfl : listedAhead.revoke 1 forceEvict residentAdapter = t :=
    Host.Outcome.next.inj ((exec_adapterEvictForce_revokes hturn (by decide) hbound rfl rfl rfl).symm.trans hexec)
  obtain ⟨⟨y, hfind, hregistered, -⟩, -⟩ := hends rfl
  have hstays := listedAhead_staysRevoking
  rw [show ((listedAhead.revoke 1 forceEvict residentAdapter).plot 1).adapters.find 3 = some y from hfind, Option.map_some,
    hregistered] at hstays
  exact absurd hstays (by decide)

/-! ### A prefetch moves whole pool units (R235, R244, R245) -/

section Prefetch

variable {s : State} {p h dst n : Nat} {a : Adapter} {b : Binding}

/-- A record that fits within quota and pool needs no eviction. -/
theorem State.makeRoom_of_place {terrace : Nat} (hquota : (s.plot p).recordsHeld < (s.plot p).cfg.residentQuota)
    (hplace : (s.plot p).residentPlace b terrace n = some dst) (fuel : Nat) : State.makeRoom fuel s p b terrace n = (some dst, s) := by
  cases fuel <;> simp only [State.makeRoom, hquota, hplace, if_true]

/-- The copy of a prefetch that finds room stands last in the tier mover's queue. -/
theorem State.prefetchNow_mem (hfind : (s.plot p).adapters.find h = some a) (hbound : (s.plot p).binding = some b)
    (hquota : (s.plot p).recordsHeld < (s.plot p).cfg.residentQuota)
    (hplace : (s.plot p).residentPlace b a.terrace a.recordBytes = some dst) :
    (s.prefetchNow p h).mem = { s.mem with moveQueue := s.mem.moveQueue ++ [a.moveTo p dst] } := by
  simp only [State.prefetchNow, hfind, hbound, State.makeRoom_of_place hquota hplace, State.updMem_mem, State.updAdapter_mem,
    State.poolTake_mem]

theorem exec_adapterPrefetch_asked (hfind : (s.plot p).adapters.find h = some a) (hfence : s.unitFenced 29 = false)
    (hstate : a.state = .admitted) (hresidency : a.residency = .nonresident) (hasked : a.prefetch = 1) :
    exec (.adapterPrefetch p h) s = .next (s.prefetchNow p h) := by
  change execAdapterPrefetch p h s = _
  simp only [execAdapterPrefetch, hfind]
  exact if_pos ⟨hfence, hstate, hresidency, hasked⟩

end Prefetch

/-- Adapter 3, admitted and asked for; its record is a header alone. -/
def askedAdapter : Adapter := { newAdapter [] 3 false with state := .admitted, catAddr := 0x11000000000, prefetch := 1 }

/-- Plot 1 may keep one record, and its resident window is free. -/
def roomForOne : State :=
  { State.reset with
    plots := [(1, { Plot.init with
      state := 1, cfg := { PlotConfig.init with residentQuota := 1 }, windows := [(0, { tier := 0, first := 0, count := 1 })]
      binding := some oneWindow, adapters := [(3, askedAdapter)] })] }

/-- Refutes O11: in `roomForOne` the copy of a record of 256 bytes is queued with the 65,536 bytes of its pool unit, where the
statement has 4,096. -/
theorem not_bindingAndPrefetch : ¬ Obligations.BindingAndPrefetch := by
  rintro ⟨-, -, -, -, hprefetch, -⟩
  have hquota : (roomForOne.plot 1).recordsHeld < (roomForOne.plot 1).cfg.residentQuota := by decide
  have hplace : (roomForOne.plot 1).residentPlace oneWindow askedAdapter.terrace askedAdapter.recordBytes = some 0 := by decide
  obtain ⟨t, hexec, -, -, hmem, -⟩ := hprefetch roomForOne 1 3 0 askedAdapter oneWindow rfl rfl rfl rfl rfl rfl hquota hplace
  obtain rfl : roomForOne.prefetchNow 1 3 = t :=
    Host.Outcome.next.inj ((exec_adapterPrefetch_asked rfl rfl rfl rfl rfl).symm.trans hexec)
  rw [State.prefetchNow_mem rfl rfl hquota hplace] at hmem
  have hlengths : [65536] = [4096] := congrArg (fun m : Mem => m.moveQueue.map Move.len) hmem
  exact absurd hlengths (by decide)

end Sys2Proof.Machine

/-! The messages of sequences (O12): SEQ_ADMIT, SEQ_EDIT and SEQ_RETIRE (R257 to R262). -/

namespace Sys2Proof

theorem NMap.find_erase_self {V : Type} (m : NMap V) (i : Nat) : NMap.find (NMap.erase m i) i = none :=
  NMap.find_eq_none fun _ he => (bne_iff_ne.1 (List.mem_filter.1 he).2).symm

theorem NMap.find_erase_ne {V : Type} (m : NMap V) {i j : Nat} (h : j ≠ i) : NMap.find (NMap.erase m i) j = NMap.find m j := by
  induction m with
  | nil => rfl
  | cons e m ih =>
    rw [NMap.erase] at ih ⊢
    by_cases he : e.1 = i
    · rw [List.filter_cons_of_neg (by simp [he]), ih, NMap.find, if_neg (he ▸ h)]
    · rw [List.filter_cons_of_pos (by simp [he]), NMap.find, NMap.find, ih]

end Sys2Proof

namespace Sys2Proof.Machine

/-! ### One sequence of a plot -/

section Sequence

variable {s : State} {p i : Nat} {e : SeqEntry}

theorem State.plot_updSeq (he : (s.plot p).seqs.find i = some e) (f : SeqEntry → SeqEntry) :
    (s.updSeq p i f).plot p = { s.plot p with seqs := (s.plot p).seqs.set i (f e) } := by
  simp [State.updSeq, he]

theorem State.within_updSeq (s : State) (p i : Nat) (f : SeqEntry → SeqEntry) : s.within (s.updSeq p i f) p 0 [.plots] :=
  s.within_updPlot p 0 _

theorem State.within_completeWith (s : State) (p : Nat) (r : Req) (st dcode detail : Nat) (body : Bytes) :
    s.within (s.completeWith p r st dcode detail body) p 0 [.plots] :=
  ⟨s.otherPlots_completeWith p r st dcode detail body, fun i _ => by simp [State.pav],
    s.keepsBut_completeWith p r st dcode detail body⟩

/-- A request that is answered after its work `u`. -/
theorem State.ok_within {u : State} {l : List Piece} (r : Req) (body : Bytes) (hopen : u.isOpen p = true) (hwithin : s.within u p 0 l)
    (hl : .plots ∈ l) : (u.ok p r body).plot p = (u.plot p).answeredOk r body ∧ s.within (u.ok p r body) p 0 l :=
  ⟨u.plot_completeWith_self p r 0 0 0 body hopen, hwithin.trans ((u.within_completeWith p r 0 0 0 body).mono (by simpa using hl))⟩

theorem Plot.hasAnswer_answeredOk (q : Plot) (r : Req) (body : Bytes) : (q.answeredOk r body).hasAnswer r 0 body := by
  simp [Plot.hasAnswer, Plot.answeredOk, Plot.answered, Mailbox.answered]

end Sequence

/-! ### SEQ_ADMIT (R258) -/

section Admit

variable {s u v : State} {p i root ob : Nat} {r : Req}

theorem exec_seqAdmit_train (h : Turn s p opSeqAdmit r) (hcheck : s.admitCheck p r.payload = none)
    (hfree : (s.plot p).freeSeq = some i) (hkind : fieldAt r.payload 0 1 = 0) :
    exec (.seqAdmit p) s = .next (s.placeSeq p i r 0 0) := by
  change execSeqAdmit p s = _
  simp [execSeqAdmit, State.serve_turn h, hcheck, hfree, hkind]

theorem exec_seqAdmit_generate (h : Turn s p opSeqAdmit r) (hcheck : s.admitCheck p r.payload = none)
    (hfree : (s.plot p).freeSeq = some i) (hkind : fieldAt r.payload 0 1 = 1)
    (hroot : s.kvTake p kvHbmWindow tableBytes tableBytes = some (root, u))
    (hopen : u.kvTake p kvHbmWindow ((s.plot p).blockBytes 1) 4096 = some (ob, v)) :
    exec (.seqAdmit p) s = .next ((v.updMem (fun m => (m.zero root tableBytes).zero ob ((s.plot p).blockBytes 1))).placeSeq p i r root ob) := by
  change execSeqAdmit p s = _
  simp [execSeqAdmit, State.serve_turn h, hcheck, hfree, hkind, hroot, hopen]

/-- The identifier of the next sequence at a plot index (R257). -/
def Plot.nextSeqId (q : Plot) (i : Nat) : Nat := i + 2 ^ 20 * ((q.incarnations.get 0 i + 1) % 4096)

/-- A plot with a new sequence, once its request has been answered. -/
def Plot.withNewSeq (q : Plot) (i : Nat) (r : Req) (root ob : Nat) : Plot :=
  ({ q with seqs := q.seqs.set i (newSeq r.payload (q.nextSeqId i) root ob)
            incarnations := q.incarnations.set i ((q.incarnations.get 0 i + 1) % 4096) }).answeredOk r
    (natLE 4 (q.nextSeqId i) ++ natLE 2 1 ++ natLE 2 0)

theorem State.placeSeq_spec (hopen : s.isOpen p = true) (i : Nat) (r : Req) (root ob : Nat) :
    (s.placeSeq p i r root ob).plot p = (s.plot p).withNewSeq i r root ob ∧ s.within (s.placeSeq p i r root ob) p 0 [.plots] := by
  obtain ⟨hplot, hwithin⟩ := State.ok_within (s := s) (u := s.updPlot p (fun q => { q with
      seqs := q.seqs.set i (newSeq r.payload ((s.plot p).nextSeqId i) root ob)
      incarnations := q.incarnations.set i (((s.plot p).incarnations.get 0 i + 1) % 4096) })) r
    (natLE 4 ((s.plot p).nextSeqId i) ++ natLE 2 1 ++ natLE 2 0)
    ((State.isOpen_congr (by simp)).trans hopen) (s.within_updPlot p 0 _) (by simp)
  rw [State.plot_updPlot_self] at hplot
  exact ⟨hplot, hwithin⟩

theorem State.kvTake_spec {w n align a : Nat} (h : s.kvTake p w n align = some (a, u)) :
    u.plot p = { s.plot p with kvAlloc := (s.plot p).kvAlloc ++ [(a, n)] } ∧ s.within u p 0 [.plots] := by
  simp only [State.kvTake, Option.map_eq_some_iff, Prod.mk.injEq] at h
  obtain ⟨_, _, rfl, rfl⟩ := h
  exact ⟨s.plot_updPlot_self p _, s.within_updPlot p 0 _⟩

end Admit

/-! ### Freeing what a sequence holds (R261) -/

/-- Two entries of a sequence differ no more than in how many blocks it has and in whether some are spilled. -/
def SeqEntry.recount (e x : SeqEntry) : Prop :=
  x = { e with hbmBlocks := x.hbmBlocks, cfBlocks := x.cfBlocks, spilled := x.spilled }

theorem SeqEntry.recount.trans {e x y : SeqEntry} (hx : e.recount x) (hy : x.recount y) : e.recount y := by
  rw [SeqEntry.recount, hx] at hy
  exact hy

/-- A change of memory and of a plot that touches no sequence but one, of which it recounts the blocks. -/
def State.recounts (s t : State) (p i : Nat) : Prop :=
  s.within t p 0 [.mem, .plots] ∧ (t.plot p).state = (s.plot p).state ∧
  (∀ j, j ≠ i → (t.plot p).seqs.find j = (s.plot p).seqs.find j) ∧
  ∀ e, (s.plot p).seqs.find i = some e → ∃ x, (t.plot p).seqs.find i = some x ∧ e.recount x

section Recounts

variable {s t u : State} {p i : Nat}

theorem State.recounts.refl (s : State) (p i : Nat) : s.recounts s p i :=
  ⟨.refl s p 0 _, rfl, fun _ _ => rfl, fun e he => ⟨e, he, rfl⟩⟩

theorem State.recounts.trans (hst : s.recounts t p i) (htu : t.recounts u p i) : s.recounts u p i := by
  obtain ⟨hwithin, hstate, hothers, hfind⟩ := hst
  obtain ⟨hwithin', hstate', hothers', hfind'⟩ := htu
  refine ⟨hwithin.trans hwithin', hstate'.trans hstate, fun j hj => (hothers' j hj).trans (hothers j hj), fun e he => ?_⟩
  obtain ⟨x, hx, hrecount⟩ := hfind e he
  obtain ⟨y, hy, hrecount'⟩ := hfind' x hx
  exact ⟨y, hy, hrecount.trans hrecount'⟩

theorem State.recounts_updMem (s : State) (p i : Nat) (f : Mem → Mem) : s.recounts (s.updMem f) p i :=
  ⟨(s.within_updMem p 0 f).mono (by simp), rfl, fun _ _ => rfl, fun e he => ⟨e, he, rfl⟩⟩

theorem State.plot_kvDrop (s : State) (p a : Nat) :
    (s.kvDrop p a).plot p = { s.plot p with kvAlloc := (s.plot p).kvAlloc.filter (fun x => x.1 != a) } := s.plot_updPlot_self p _

theorem State.recounts_kvDrop (s : State) (p i a : Nat) : s.recounts (s.kvDrop p a) p i := by
  simp only [State.recounts, State.plot_kvDrop]
  exact ⟨(s.within_updPlot p 0 _).mono (by simp), trivial, fun _ _ => trivial, fun e he => ⟨e, he, rfl⟩⟩

theorem State.recounts_updSeq {f : SeqEntry → SeqEntry} (hf : ∀ e : SeqEntry, e.recount (f e)) (s : State) : s.recounts (s.updSeq p i f) p i := by
  refine ⟨(s.within_updSeq p i f).mono (by simp), ?_⟩
  cases he : (s.plot p).seqs.find i with
  | none => simp [State.updSeq, he]
  | some e =>
    rw [State.plot_updSeq he]
    refine ⟨rfl, fun j hj => NMap.find_set_ne _ _ _ _ hj, fun e' he' => ⟨f e, NMap.find_set_self _ _ _, ?_⟩⟩
    obtain rfl := Option.some.inj he'
    exact hf e

theorem State.recounts_foldl {α : Type} {f : State → α → State} (hf : ∀ (t : State) x, t.recounts (f t x) p i) (l : List α) (s : State) :
    s.recounts (l.foldl f s) p i :=
  List.foldlRecOn (motive := fun t => s.recounts t p i) l f (.refl s p i) (fun t ht x _ => ht.trans (hf t x))

theorem State.recounts_cancelMoves (s : State) (p i page : Nat) : s.recounts (s.cancelMoves p i page) p i :=
  (State.recounts_foldl (fun t (m : Move) => t.recounts_kvDrop p i m.dst) _ s).trans (State.recounts_updMem _ p i _)

theorem State.recounts_freePage (s : State) (p i page : Nat) : s.recounts (s.freePage p i page) p i := by
  simp only [State.freePage]
  split
  · exact .refl s p i
  · split
    · refine (((s.recounts_cancelMoves p i page).trans (State.recounts_kvDrop _ p i _)).trans (State.recounts_updMem _ p i _)).trans
        (State.recounts_updSeq (fun x => ?_) _)
      split <;> rfl
    · exact .refl s p i

theorem State.recounts_reopen (s : State) (p i : Nat) (b : Binding) (fmt block openBlock n : Nat) :
    s.recounts (s.reopen b fmt block openBlock n) p i := s.recounts_updMem p i _

end Recounts

/-! ### TRUNCATE (Table TRL-5) -/

/-- A sequence cut to a context length: GEN rises, and NEXT_INPUT stays valid only when nothing is cut. -/
def SeqEntry.truncated (e x : SeqEntry) (c : Nat) : Prop :=
  x.ctx = c ∧ x.gen = (e.gen + 1) % 65536 ∧ x.generated = e.generated - (e.ctx - c) ∧ (c < e.ctx → x.nextValid = false) ∧
  x.state = e.state ∧ x.maxLen = e.maxLen

section Truncate

variable {s : State} {p i : Nat} {e : SeqEntry}

/-- What TRUNCATE does before it writes the entry: the open block is made anew, and the sealed pages beyond the cut are freed. -/
theorem State.truncateTo_eq {b : Binding} {c : Nat} (he : (s.plot p).seqs.find i = some e) (hbound : (s.plot p).binding = some b)
    (hc : c ≠ e.ctx) : ∃ u, s.recounts u p i ∧ s.truncateTo p i c = u.updSeq p i (fun e =>
      { e with ctx := c, generated := e.generated - (e.ctx - c), nextValid := false, gen := (e.gen + 1) % 65536 }) := by
  refine ⟨_, ?_, by simp only [State.truncateTo, he, hbound, if_neg hc]; rfl⟩
  refine State.recounts.trans ?_ (State.recounts_foldl (fun t pg => t.recounts_freePage p i pg) _ _)
  split <;> exact s.recounts_reopen p i b _ _ _ _

theorem State.truncateTo_spec (he : (s.plot p).seqs.find i = some e) (hbound : (s.plot p).binding ≠ none) (c : Nat) :
    ∃ x, ((s.truncateTo p i c).plot p).seqs.find i = some x ∧ e.truncated x c ∧
      ((s.truncateTo p i c).plot p).state = (s.plot p).state ∧ s.within (s.truncateTo p i c) p 0 [.mem, .plots] := by
  obtain ⟨b, hbound⟩ := Option.ne_none_iff_exists'.1 hbound
  by_cases hc : c = e.ctx
  · have ht : s.truncateTo p i c = s.updSeq p i (fun e => { e with gen := (e.gen + 1) % 65536 }) := by
      simp only [State.truncateTo, he, hbound, if_pos hc]
    rw [ht, State.plot_updSeq he]
    exact ⟨_, NMap.find_set_self _ _ _, ⟨hc.symm, rfl, by simp [hc], fun h => absurd hc h.ne, rfl, rfl⟩, rfl,
      (s.within_updSeq p i _).mono (by simp)⟩
  · obtain ⟨u, ⟨hwithin, hstate, -, hfind⟩, ht⟩ := State.truncateTo_eq he hbound hc
    obtain ⟨x, hx, hrecount⟩ := hfind e he
    rw [ht, State.plot_updSeq hx, hrecount]
    exact ⟨_, NMap.find_set_self _ _ _, ⟨rfl, rfl, rfl, fun _ => rfl, rfl, rfl⟩, hstate,
      hwithin.trans ((u.within_updSeq p i _).mono (by simp))⟩

end Truncate

/-! ### SEQ_RETIRE (R261) -/

section Retire

variable {s : State} {p i : Nat} {e : SeqEntry}

theorem State.plot_eraseSeq (s : State) (p i : Nat) :
    (s.updPlot p (fun q => { q with seqs := q.seqs.erase i })).plot p = { s.plot p with seqs := (s.plot p).seqs.erase i } :=
  s.plot_updPlot_self p _

/-- A TRAIN sequence holds nothing. -/
theorem State.freeSeq_train (he : (s.plot p).seqs.find i = some e) (hkind : e.kind = 0) :
    s.freeSeq p i = (s.updPlot p (fun q => { q with seqs := q.seqs.erase i }), 0) := by
  simp only [State.freeSeq, he, if_pos hkind]

/-- A GENERATE sequence gives back its sealed blocks, its reservations, its leaf tables, and at last its root table and its open
block. -/
theorem State.freeSeq_generate (he : (s.plot p).seqs.find i = some e) (hkind : e.kind ≠ 0) :
    ∃ (u : State) (n : Nat), s.recounts u p i ∧ s.freeSeq p i =
      (((u.kvDrop p e.ptRoot).kvDrop p e.openBlock).updPlot p (fun q => { q with seqs := q.seqs.erase i }), n + 1) := by
  refine ⟨_, _, ?_, by simp only [State.freeSeq, he, if_neg hkind]; rfl⟩
  exact ((State.recounts_foldl (fun t pg => t.recounts_freePage p i pg) _ s).trans
    (State.recounts_foldl (fun t a => t.recounts_kvDrop p i a) _ _)).trans (State.recounts_foldl (fun t a => t.recounts_kvDrop p i a) _ _)

/-- A retired sequence is out of the table and holds nothing; every other stays. -/
theorem State.freeSeq_spec (he : (s.plot p).seqs.find i = some e) :
    s.within (s.freeSeq p i).1 p 0 [.mem, .plots] ∧ ((s.freeSeq p i).1.plot p).state = (s.plot p).state ∧
    ((s.freeSeq p i).1.plot p).seqs.find i = none ∧
    (∀ j, j ≠ i → ((s.freeSeq p i).1.plot p).seqs.find j = (s.plot p).seqs.find j) ∧
    (e.kind = 0 → (s.freeSeq p i).2 = 0 ∧ (s.freeSeq p i).1.mem = s.mem) ∧
    (e.kind ≠ 0 → (∃ n, (s.freeSeq p i).2 = n + 1) ∧
      ∀ x ∈ ((s.freeSeq p i).1.plot p).kvAlloc, x.1 ≠ e.ptRoot ∧ x.1 ≠ e.openBlock) := by
  by_cases hkind : e.kind = 0
  · rw [State.freeSeq_train he hkind]
    simp only [State.plot_eraseSeq]
    exact ⟨(s.within_updPlot p 0 _).mono (by simp), trivial, NMap.find_erase_self _ i, fun j hj => NMap.find_erase_ne _ hj,
      fun _ => ⟨trivial, rfl⟩, fun h => absurd hkind h⟩
  · obtain ⟨u, n, hu, hfree⟩ := State.freeSeq_generate he hkind
    obtain ⟨hwithin, hstate, hothers, -⟩ := (hu.trans (u.recounts_kvDrop p i e.ptRoot)).trans (State.recounts_kvDrop _ p i e.openBlock)
    rw [hfree]
    simp only [State.plot_eraseSeq]
    refine ⟨hwithin.trans ((State.within_updPlot _ p 0 _).mono (by simp)), hstate, NMap.find_erase_self _ i,
      fun j hj => (NMap.find_erase_ne _ hj).trans (hothers j hj), fun h => absurd h hkind, fun _ => ⟨⟨n, rfl⟩, fun x hx => ?_⟩⟩
    rw [State.plot_kvDrop, State.plot_kvDrop] at hx
    obtain ⟨hmem, hopen⟩ := List.mem_filter.1 hx
    exact ⟨bne_iff_ne.1 (List.mem_filter.1 hmem).2, bne_iff_ne.1 hopen⟩

end Retire

/-! ### SEQ_EDIT and SEQ_RETIRE are taken (R259, R260) -/

section Edits

variable {s u : State} {p op : Nat} {r : Req} {e x : SeqEntry}

/-- A SEQ_EDIT whose first checks pass, other than QUERY, is taken. -/
theorem State.serveEdit_take (h : Turn s p opSeqEdit r) (hop : fieldAt r.payload 4 1 = op) (hbound : (s.plot p).binding ≠ none)
    (hknown : (s.plot p).knowsSeq (fieldAt r.payload 0 4) = true)
    (hfind : (s.plot p).seqs.find (seqIndex (fieldAt r.payload 0 4)) = some e) (hallowed : editAllowed op e.kind = true)
    (hquery : op ≠ editQuery) : s.serveEdit p op = s.takeSeq p r := by
  simp [State.serveEdit, State.serve_turn h, State.editCheck, hop, hbound, hknown, hfind, hallowed, hquery]

theorem State.takeSeq_now (hidle : (s.plot p).running = []) (happender : s.appendingFor p = false) (r : Req) :
    s.takeSeq p r = s.applySeq p r := by
  simp [State.takeSeq, hidle, happender]

/-- An edit that takes effect is answered with what the entry then holds (Table TRL-6). -/
theorem State.applySeq_edit (hopcode : r.opcode = opSeqEdit) (hknown : (s.plot p).knowsSeq (fieldAt r.payload 0 4) = true)
    (hfind : (s.plot p).seqs.find (seqIndex (fieldAt r.payload 0 4)) = some e)
    (hedit : s.editSeq p (seqIndex (fieldAt r.payload 0 4)) e (fieldAt r.payload 4 1) (fieldAt r.payload 8 8) (fieldAt r.payload 0x10 4) =
      (stOk, u))
    (hx : (u.plot p).seqs.find (seqIndex (fieldAt r.payload 0 4)) = some x) : s.applySeq p r = u.ok p r x.editResult := by
  have hretire : ¬ r.opcode = opSeqRetire := by rw [hopcode]; decide
  simp [State.applySeq, hknown, hfind, hretire, hedit, hx]

/-- An edit at its turn, while no step of the plot runs. -/
theorem State.serveEdit_now (h : EditNow s p opSeqEdit r e) (hop : fieldAt r.payload 4 1 = op) (hallowed : editAllowed op e.kind = true)
    (hquery : op ≠ editQuery)
    (hedit : s.editSeq p (seqIndex (fieldAt r.payload 0 4)) e op (fieldAt r.payload 8 8) (fieldAt r.payload 0x10 4) = (stOk, u))
    (hx : (u.plot p).seqs.find (seqIndex (fieldAt r.payload 0 4)) = some x) : s.serveEdit p op = u.ok p r x.editResult := by
  obtain ⟨hturn, hbound, hknown, hfind, hidle, happender⟩ := h
  rw [State.serveEdit_take hturn hop hbound hknown hfind hallowed hquery, State.takeSeq_now hidle happender]
  exact State.applySeq_edit hturn.2.2.1 hknown hfind (hop ▸ hedit) hx

/-- An edit that changes nothing but the entry. -/
theorem State.serveEdit_updSeq {f : SeqEntry → SeqEntry} (h : EditNow s p opSeqEdit r e) (hop : fieldAt r.payload 4 1 = op)
    (hallowed : editAllowed op e.kind = true) (hquery : op ≠ editQuery)
    (hedit : s.editSeq p (seqIndex (fieldAt r.payload 0 4)) e op (fieldAt r.payload 8 8) (fieldAt r.payload 0x10 4) =
      (stOk, s.updSeq p (seqIndex (fieldAt r.payload 0 4)) f)) :
    (s.serveEdit p op).plot p = (s.plot p).editedSeq r (f e) ∧ s.otherPlots (s.serveEdit p op) p ∧
      s.keepsBut (s.serveEdit p op) [.plots] := by
  obtain ⟨hturn, -, -, hfind, -⟩ := id h
  have hplot := State.plot_updSeq hfind f
  rw [State.serveEdit_now h hop hallowed hquery hedit (x := f e) (by rw [hplot]; exact NMap.find_set_self _ _ _)]
  obtain ⟨hans, hothers, -, hkeeps⟩ := State.ok_within (l := [.plots]) r (f e).editResult
    ((State.isOpen_congr (by rw [hplot])).trans hturn.1) (s.within_updSeq p _ f) (by simp)
  rw [hplot] at hans
  exact ⟨hans, hothers, hkeeps⟩

end Edits

/-! ### What each edit does (Table TRL-5) -/

section Operations

variable {s : State} {p i op arg0 arg1 : Nat} {e : SeqEntry}

theorem State.editSeq_append (hkind : e.kind = 1) (hfree : e.state ≠ 0) (hends : e.state ≠ seqTerminated) (hn : arg1 ≠ 0)
    (hmax : e.ctx + e.pendingToks + arg1 ≤ e.maxLen) (hnext : e.pendingToks = 0 ∨ arg0 = e.inAddr + 4 * e.pendingToks)
    (hin : s.inWindows p arg0 (4 * arg1) = true) : s.editSeq p i e 1 arg0 arg1 = (stOk, s.updSeq p i (fun x => { x with
      inAddr := if x.pendingToks = 0 then arg0 else x.inAddr, pendingToks := x.pendingToks + arg1, nextValid := false
      state := if x.state = seqDone then seqActive else x.state, gen := (x.gen + 1) % 65536 })) := by
  have hplace : ¬ (e.pendingToks ≠ 0 ∧ arg0 ≠ e.inAddr + 4 * e.pendingToks) := by tauto
  simp [State.editSeq, editAllowed, editAppend, hkind, hfree, hends, hn, Nat.not_lt.2 hmax, hplace, hin]

theorem State.editSeq_truncate (hkind : e.kind = 1) (hfree : e.state ≠ 0) (hends : e.state ≠ seqTerminated) (hpending : e.pendingToks = 0)
    (hctx : arg0 ≤ e.ctx) : s.editSeq p i e 2 arg0 arg1 = (stOk, s.truncateTo p i arg0) := by
  simp [State.editSeq, editAllowed, editAppend, editTruncate, hkind, hfree, hends, hpending, Nat.not_lt.2 hctx]

theorem State.editSeq_setMax (hkind : e.kind = 1) (hfree : e.state ≠ 0) (hends : e.state ≠ seqTerminated)
    (hmin : e.ctx + e.pendingToks < arg0) (hmax : arg0 ≤ 262144) : s.editSeq p i e 3 arg0 arg1 =
      (stOk, s.updSeq p i (fun x => { x with maxLen := arg0, gen := (x.gen + 1) % 65536 })) := by
  simp [State.editSeq, editAllowed, editAppend, editTruncate, editSetMax, hkind, hfree, hends, Nat.not_le.2 hmin, Nat.not_lt.2 hmax]

theorem State.editSeq_setAdapter (hfree : e.state ≠ 0) (hends : e.state ≠ seqTerminated)
    (hcheck : (s.plot p).adapterCheck e.kind (arg0 % 2 ^ 32) = none) : s.editSeq p i e 4 arg0 arg1 =
      (stOk, s.updSeq p i (fun x => { x with
        adapter := arg0 % 2 ^ 32, adapterGone := if x.state = seqDone then false else x.adapterGone, gen := (x.gen + 1) % 65536 })) := by
  simp only [State.editSeq, editAllowed, editAppend, editTruncate, editSetMax, editSetAdapter, hfree, hends, hcheck]
  simp

theorem State.editSeq_pause (hfree : e.state ≠ 0) (hends : e.state ≠ seqTerminated) :
    s.editSeq p i e 5 arg0 arg1 = (stOk, s.updSeq p i (fun x => { x with paused := true })) := by
  simp [State.editSeq, editAllowed, editAppend, editTruncate, editSetMax, editSetAdapter, editPause, hfree, hends]

theorem State.editSeq_resume (hfree : e.state ≠ 0) (hends : e.state ≠ seqTerminated) :
    s.editSeq p i e 6 arg0 arg1 = (stOk, s.updSeq p i (fun x => { x with paused := false })) := by
  simp [State.editSeq, editAllowed, editAppend, editTruncate, editSetMax, editSetAdapter, editPause, editResume, hfree, hends]

end Operations

/-! ### An edit that waits (R260) -/

section Deferred

variable {s : State} {p op : Nat} {r : Req} {e : SeqEntry}

/-- A plot's mailbox once a request waits for the steps that run. -/
def Plot.deferring (q : Plot) (r : Req) : Mailbox :=
  { q.mail with held := q.mail.held.map (fun h =>
      if h.slot = r.slot then { h with phase := .deferred, waits := q.runningSteps } else h) }

theorem State.takeSeq_defers (hruns : (s.plot p).running ≠ [])
    (hnone : (s.plot p).deferredFor (fieldAt r.payload 0 4) = (0, false)) :
    s.takeSeq p r = (s.updMail p (fun _ => (s.plot p).deferring r)).pendingFlags p (fieldAt r.payload 0 4) := by
  have hm : s.updMail p (fun m => { m with held := m.held.map (fun h =>
      if h.slot = r.slot then { h with phase := .deferred, waits := (s.plot p).runningSteps } else h) }) =
      s.updMail p (fun _ => (s.plot p).deferring r) := rfl
  simp [State.takeSeq, hruns, hnone, hm]

/-- The oldest request of a plot is among those that it holds. -/
theorem State.oldest_mem (h : s.oldest p = some r) : r ∈ (s.plot p).mail.held := List.mem_of_find?_eq_some h

/-- A deferred SEQ_EDIT sets EDIT_PENDING of its sequence, and changes nothing else of it. -/
theorem State.takeSeq_deferred_spec (hturn : Turn s p opSeqEdit r) (hruns : (s.plot p).running ≠ [])
    (hfind : (s.plot p).seqs.find (seqIndex (fieldAt r.payload 0 4)) = some e)
    (hnone : (s.plot p).deferredFor (fieldAt r.payload 0 4) = (0, false)) :
    ((s.takeSeq p r).plot p).mail = (s.plot p).deferring r ∧
    (∃ x, ((s.takeSeq p r).plot p).seqs.find (seqIndex (fieldAt r.payload 0 4)) = some x ∧ x.editPending = true ∧ x.ctx = e.ctx) ∧
    s.otherPlots (s.takeSeq p r) p ∧ s.keepsBut (s.takeSeq p r) [.plots] := by
  obtain ⟨-, holdest, hopcode, -⟩ := hturn
  have hplot : (s.updMail p (fun _ => (s.plot p).deferring r)).plot p = { s.plot p with mail := (s.plot p).deferring r } :=
    s.plot_updMail_self p _
  have hheld : { r with phase := .deferred, waits := (s.plot p).runningSteps } ∈ ((s.plot p).deferring r).held :=
    List.mem_map.2 ⟨r, State.oldest_mem holdest, if_pos rfl⟩
  rw [State.takeSeq_defers hruns hnone, State.pendingFlags, State.plot_updSeq (e := e) (by rw [hplot]; exact hfind), hplot]
  refine ⟨rfl, ⟨_, NMap.find_set_self _ _ _, ?_, rfl⟩, (s.otherPlots_updPlot p _).trans (State.otherPlots_updPlot _ p _),
    (s.keepsBut_updPlot p _).trans (State.keepsBut_updPlot _ p _)⟩
  refine List.any_eq_true.2 ⟨_, List.mem_filter.2 ⟨hheld, ?_⟩, by simp [hopcode]⟩
  simp [Req.deferredSeq, hopcode]

end Deferred

/-! ### O12 -/

theorem exec_seqEditQuery {s : State} {p : Nat} {r : Req} {e : SeqEntry} (h : Turn s p opSeqEdit r) (hbound : (s.plot p).binding ≠ none)
    (hknown : (s.plot p).knowsSeq (fieldAt r.payload 0 4) = true)
    (hfind : (s.plot p).seqs.find (seqIndex (fieldAt r.payload 0 4)) = some e) (hop : fieldAt r.payload 4 1 = 7) :
    exec (.seqEditQuery p) s = .next (s.ok p r e.queryResult) := by
  change execSeqEditQuery p s = _
  simp [execSeqEditQuery, State.serveEdit, State.serve_turn h, State.editCheck, editAllowed, editQuery, hop, hbound, hknown, hfind]

theorem exec_seqRetire {s : State} {p : Nat} {r : Req} {e : SeqEntry} (h : EditNow s p opSeqRetire r e) :
    exec (.seqRetire p) s = .next ((s.freeSeq p (seqIndex (fieldAt r.payload 0 4))).1.ok p r
      (natLE 4 (s.freeSeq p (seqIndex (fieldAt r.payload 0 4))).2 ++ natLE 4 0)) := by
  obtain ⟨hturn, -, hknown, hfind, hidle, happender⟩ := h
  change execSeqRetire p s = _
  simp [execSeqRetire, State.serve_turn hturn, hknown, hfind, State.takeSeq_now hidle happender, State.applySeq, hturn.2.2.1]

/-- The commands of the edits but QUERY, by their operations. -/
theorem exec_edit {s : State} {p op : Nat} {c : Instr}
    (h : (op, c) ∈ [(1, Instr.append p), (2, .truncate p), (3, .setMax p), (4, .setAdapter p), (5, .pause p), (6, .resume p)]) :
    exec c s = .next (s.serveEdit p op) ∧ op ≠ editQuery := by
  simp only [List.mem_cons, Prod.mk.injEq, List.not_mem_nil, or_false] at h
  obtain ⟨rfl, rfl⟩ | ⟨rfl, rfl⟩ | ⟨rfl, rfl⟩ | ⟨rfl, rfl⟩ | ⟨rfl, rfl⟩ | ⟨rfl, rfl⟩ := h <;> exact ⟨rfl, by decide⟩

/-- Settles O12, message by message. -/
theorem sequenceMessages : Obligations.SequenceMessages := by
  refine ⟨?train, ?generate, ?append, ?truncate, ?setMax, ?setAdapter, ?pause, ?query, ?retire, ?deferred⟩
  case train =>
    intro s p i r hturn hcheck hfree hkind
    obtain ⟨hplot, hothers, -, hkeeps⟩ := State.placeSeq_spec hturn.1 i r 0 0
    exact ⟨_, exec_seqAdmit_train hturn hcheck hfree hkind, hplot, hothers, hkeeps⟩
  case generate =>
    intro s u v p i root ob r hturn hcheck hfree hkind hroot hob
    obtain ⟨hu, hwithin⟩ := State.kvTake_spec hroot
    obtain ⟨hv, hwithin'⟩ := State.kvTake_spec hob
    rw [hu] at hv
    have hstate : (v.plot p).state = (s.plot p).state := by rw [hv]
    obtain ⟨hplot, hplaced⟩ := State.placeSeq_spec
      (s := v.updMem (fun m => (m.zero root tableBytes).zero ob ((s.plot p).blockBytes 1))) (p := p)
      ((State.isOpen_congr hstate).trans hturn.1) i r root ob
    rw [State.plot_updMem, hv] at hplot
    obtain ⟨hothers, -, hkeeps⟩ := (((hwithin.trans hwithin').mono (by simp)).trans ((v.within_updMem p 0 _).mono (by simp))).trans
      (hplaced.mono (l' := [.mem, .plots]) (by simp))
    refine ⟨_, exec_seqAdmit_generate hturn hcheck hfree hkind hroot hob, ?_, fun a h₁ h₂ => ?_, ?_, hothers, hkeeps⟩
    · rw [hplot]
      exact NMap.find_set_self _ _ _
    · rw [State.placeSeq_mem]
      exact Mem.read_zero_inside _ _ _ _ h₁ h₂
    · rw [hplot]
      exact Plot.hasAnswer_answeredOk _ r _
  case append =>
    intro s p r e h hop hkind hfree hends hn hmax hnext hin
    exact ⟨_, rfl, State.serveEdit_updSeq h hop (by simp [editAllowed, hkind]) (by decide)
      (State.editSeq_append hkind hfree hends hn hmax hnext hin)⟩
  case truncate =>
    intro s p r e h hop hkind hfree hends hpending hctx
    obtain ⟨x, hx, ⟨hxctx, hgen, hgenerated, hvalid, hstate, hmax⟩, hplotState, hwithin⟩ :=
      State.truncateTo_spec h.2.2.2.1 h.2.1 (fieldAt r.payload 8 8)
    have hserve := State.serveEdit_now h hop (by simp [editAllowed, hkind]) (by decide)
      (State.editSeq_truncate hkind hfree hends hpending hctx) hx
    obtain ⟨hplot, hothers, -, hkeeps⟩ := State.ok_within r x.editResult ((State.isOpen_congr hplotState).trans h.1.1) hwithin (by simp)
    refine ⟨_, congrArg Host.Outcome.next hserve, ⟨x, ?_, hxctx, hgen, hgenerated, hvalid, hstate, hmax, ?_⟩, hothers, hkeeps⟩
    · rw [hplot]
      exact hx
    · rw [hplot, ← hxctx]
      exact Plot.hasAnswer_answeredOk _ r _
  case setMax =>
    intro s p r e h hop hkind hfree hends hmin hmax
    exact ⟨_, rfl, State.serveEdit_updSeq h hop (by simp [editAllowed, hkind]) (by decide)
      (State.editSeq_setMax hkind hfree hends hmin hmax)⟩
  case setAdapter =>
    intro s p r e h hop hfree hends hcheck
    exact ⟨_, rfl, State.serveEdit_updSeq h hop (by simp [editAllowed]) (by decide) (State.editSeq_setAdapter hfree hends hcheck)⟩
  case pause =>
    intro s p r e h hfree hends
    exact ⟨fun hop => ⟨_, rfl, State.serveEdit_updSeq h hop (by simp [editAllowed]) (by decide) (State.editSeq_pause hfree hends)⟩,
      fun hop => ⟨_, rfl, State.serveEdit_updSeq h hop (by simp [editAllowed]) (by decide) (State.editSeq_resume hfree hends)⟩⟩
  case query =>
    intro s p r e hturn hbound hknown hfind hop
    exact ⟨_, exec_seqEditQuery hturn hbound hknown hfind hop, s.plot_completeWith_self p r 0 0 0 _ hturn.1,
      s.otherPlots_completeWith p r 0 0 0 _, s.keepsBut_completeWith p r 0 0 0 _⟩
  case retire =>
    intro s p r e h
    obtain ⟨hwithin, hstate, hnone, hrest, htrain, hgenerate⟩ := State.freeSeq_spec h.2.2.2.1
    obtain ⟨hplot, hothers, -, hkeeps⟩ := State.ok_within r
      (natLE 4 (s.freeSeq p (seqIndex (fieldAt r.payload 0 4))).2 ++ natLE 4 0) ((State.isOpen_congr hstate).trans h.1.1) hwithin (by simp)
    refine ⟨_, exec_seqRetire h, ?_, ?_, fun hkind => ?_, fun hkind => ?_, hothers, hkeeps⟩
    · rw [hplot]
      exact hnone
    · rw [hplot]
      exact hrest
    · obtain ⟨hcount, hmem⟩ := htrain hkind
      rw [hplot, hcount]
      exact ⟨Plot.hasAnswer_answeredOk _ r _, (State.completeWith_mem _ p r 0 0 0 _).trans hmem⟩
    · obtain ⟨⟨n, hcount⟩, halloc⟩ := hgenerate (by omega)
      rw [hplot, hcount]
      exact ⟨⟨n, Plot.hasAnswer_answeredOk _ r _⟩, halloc⟩
  case deferred =>
    intro s p op c r e hmem hturn hop hbound hknown hfind hkind hruns hnone
    obtain ⟨hexec, hquery⟩ := exec_edit (s := s) hmem
    rw [hexec, State.serveEdit_take hturn hop hbound hknown hfind (by simp [editAllowed, hkind]) hquery]
    exact ⟨_, rfl, State.takeSeq_deferred_spec hturn hruns hfind hnone⟩

end Sys2Proof.Machine

/-! The statement of work lists (O15) fails in its clause of seal jobs. It does not ask that the plot's table lists each index
once, and where a table lists the job's index twice, the report of the events that are due once the appender has finished (R263)
puts the second entry over the one that the job has advanced. -/

namespace Sys2Proof.Machine

/-- A LISTED sequence of plot index 0 with two tokens pending and a block reserved for the page that its step fills. -/
def listedSeq : SeqEntry :=
  { newSeq [] 0 0x100000 0 with
    kind := 1, kvFmt := 1, state := seqListed, pendingToks := 2, maxLen := 128, reserved := [0x200000] }

/-- A second entry of the same index, with an event to report. -/
def shadowSeq : SeqEntry := { listedSeq with state := seqDone, ctx := 100, reportPending := true }

/-- A seal job of one row of the sequence of index 0. -/
def oneRowJob : AppendJob :=
  { plot := 1, index := 0, area := 0x400000, nextRow := 0, left := 1, step := 5, sampled := 0, stop := false }

/-- Plot 1 lists index 0 twice, and a seal job of that index is under way. -/
def listedTwice : State :=
  { State.reset with
    plots := [(1, { Plot.init with state := 1, binding := some oneWindow, seqs := [(0, listedSeq), (0, shadowSeq)] })]
    trellis := { State.reset.trellis with appending := [oneRowJob] } }

/-- The job is the last of its plot, so the event of the second entry is reported at once, and the second entry stands first. -/
theorem exec_sealJob_listedTwice :
    ∃ t, exec (.sealJob 1) listedTwice = .next t ∧ ((t.plot 1).seqs.find 0).map (·.ctx) = some 100 :=
  ⟨_, rfl, by decide +kernel⟩

/-- Refutes O15: in `listedTwice` the seal job leaves the sequence of index 0 with a context of 100 tokens, where the statement
has 1. -/
theorem not_workListsAreMade : ¬ Obligations.WorkListsAreMade := by
  rintro ⟨-, -, -, -, -, -, hseal⟩
  have htable : ∀ a, listedTwice.mem.pteSlot listedSeq.ptRoot listedSeq.sealedPages ≠ some a := fun a => by
    rw [show listedTwice.mem.pteSlot listedSeq.ptRoot listedSeq.sealedPages = none by decide +kernel]
    exact (Option.some_ne_none a).symm
  obtain ⟨t, hexec, ⟨x, hfind, -, hctx, -⟩, -⟩ := hseal listedTwice 1 0x200000 [] oneRowJob listedSeq oneWindow rfl rfl rfl rfl rfl rfl
    (by decide) (by decide) rfl (fun r hr => absurd hr List.not_mem_nil) rfl (by decide) (.inr (by decide)) (.inr (by decide))
    (fun a ha => absurd ha (htable a))
  obtain ⟨u, hexec', hctx'⟩ := exec_sealJob_listedTwice
  obtain rfl : u = t := Host.Outcome.next.inj (hexec'.symm.trans hexec)
  rw [show (u.plot 1).seqs.find 0 = some x from hfind, Option.map_some, hctx] at hctx'
  exact absurd hctx' (by decide)

end Sys2Proof.Machine

/-! The statements of snapshot partnerships (O18) and of survival messages (O19) each fail in one clause: where a request asks
another module for a copy. A pair entry lapses with the last holding that uses it (R412), and the model drops the entries that
have lapsed as the copy begins. So where the pair keys with the module asked have lapsed but still stand when the request is
taken, an OFFER goes and not the request for the copy, which the statements have sent at once. -/

namespace Sys2Proof.Machine

/-! ### What an OFFER says (R412) -/

section Offers

variable {s : State} {i dest f : Nat} {hdr : Frame} {m : Control} {k : Keyx} {r : Retained}

/-- A frame of a pair exchange goes in clear. -/
theorem State.wireOf_keyx (s : State) (dest i : Nat) (fr : Frame) (k : Keyx) :
    s.wireOf dest i fr (some (.keyx k)) = .control i fr (.keyx k) := by
  simp [State.wireOf, State.sealKey, inClear]

/-- No other frame of VC0 leaves as a frame of a pair exchange. -/
theorem State.wireOf_ne_keyx (hm : m ≠ .keyx k) (u : State) (j : Nat) (fr fr' : Frame) :
    u.wireOf dest j fr (some m) ≠ .control i fr' (.keyx k) := by
  unfold State.wireOf
  split
  · exact Sent.noConfusion
  · exact fun h => hm (Sent.control.inj h).2.2

theorem State.waiting_transmit (s : State) (i : Nat) (r : Retained) (j : Nat) :
    ((s.transmit i r).port j).waiting = (s.port j).waiting := by
  by_cases hj : j = i
  · rw [hj, s.port_transmit_self]
    rfl
  · rw [s.otherPorts_transmit i r j hj]

/-- A frame of a pair exchange says nothing but itself, sent at once or waiting for a buffer. -/
theorem State.said_of_said_sendOn_keyx (hm : m ≠ .keyx k) (h : (s.sendOn i f hdr (.keyx k)).said dest m) : s.said dest m := by
  obtain ⟨j, hj⟩ := h
  refine ⟨j, ?_⟩
  rcases s.sendOn_cases i f hdr (.keyx k) with heq | heq <;> rw [heq] at hj
  · rw [s.transmit_sent, State.waiting_transmit] at hj
    refine hj.imp_left fun ⟨u, fr, hdst, hmem⟩ => ⟨u, fr, hdst, (List.mem_append.1 hmem).resolve_right fun hlast => ?_⟩
    exact State.wireOf_ne_keyx hm u j fr _ ((List.mem_singleton.1 hlast).trans (s.wireOf_keyx _ _ _ k))
  · refine hj.imp_right fun ⟨r, hmem, hdest, hbody⟩ => ?_
    by_cases hji : j = i
    · subst hji
      rw [State.port_updPort_self] at hmem
      refine ⟨r, (List.mem_append.1 hmem).resolve_right fun hlast => ?_, hdest, hbody⟩
      rw [List.mem_singleton.1 hlast] at hbody
      exact hm (Option.some.inj hbody).symm
    · rw [State.port_updPort_ne _ _ _ _ hji] at hmem
      exact ⟨r, hmem, hdest, hbody⟩

theorem State.said_of_same_ports {t : State} (hsent : t.sent = s.sent) (hports : t.ports = s.ports) (h : t.said dest m) :
    s.said dest m := by
  simpa only [State.said, State.port, hsent, hports] using h

/-- An OFFER alone says nothing else. -/
theorem State.said_of_said_sendOffer (hm : ∀ k, m ≠ .keyx k) (h : (s.sendOffer f).said dest m) : s.said dest m := by
  unfold State.sendOffer at h
  dsimp only at h
  split at h
  · exact h
  · split at h
    · exact h
    · have hsaid := State.said_of_said_sendOn_keyx (hm _) h
      exact State.said_of_same_ports rfl rfl hsaid

end Offers

/-! ### A copy that begins with lapsed pair keys (R412) -/

section Copies

variable {s : State} {p : Nat} {r : Req} {x : FillState} {pl : Plan} {b : Binding}

/-- Nothing is sent as a copy begins. -/
theorem State.said_of_said_beginFill {dest : Nat} {m : Control} (h : (s.beginFill p r x).said dest m) : s.said dest m :=
  State.said_of_same_ports rfl rfl h

/-- The copy of an image that RESTORE asks a module for (Table SRV-8). -/
def imageFill (r : Req) (pl : Plan) (now : Nat) : FillState :=
  { plan := pl.handle, use := 3, stage := pl.header.stage, dst := 0, len := 0, parts := [], frames := none, bad := false
    sources := [fieldAt r.payload 8 8], ports := 12, slot := some r.slot, heard := now, origin := none }

theorem exec_restore_offers (hturn : Turn s p opRestore r) (hsrc : fieldAt r.payload 0 1 = 0)
    (hslot : fieldAt r.payload 2 1 ≤ 1 ∨ fieldAt r.payload 2 1 = 0xFF) (hplan : (s.plot p).plans.find (fieldAt r.payload 4 4) = some pl)
    (hbound : (s.plot p).binding = some b) (hruns : (s.plot p).running = []) (hfill : (s.plot p).fillOf pl.handle 3 = none)
    (hlapsed : (s.beginFill p r (imageFill r pl s.now)).paired (fieldAt r.payload 8 8) = false) :
    exec (.restore p) s = .next ((s.beginFill p r (imageFill r pl s.now)).sendOffer (fieldAt r.payload 8 8)) := by
  have hslot' : ¬(1 < fieldAt r.payload 2 1 ∧ fieldAt r.payload 2 1 ≠ 0xFF) := by omega
  have hask : s.askImage p r pl = (s.beginFill p r (imageFill r pl s.now)).sendOffer (fieldAt r.payload 8 8) :=
    if_neg (Bool.eq_false_iff.1 hlapsed)
  change execRestore p s = _
  rw [execRestore, State.serve_turn hturn, if_pos rfl]
  simp [hplan, hbound, hsrc, hslot', hruns, hfill, hask]

theorem exec_survivePolicyReinstate_offers (hturn : Turn s p opSurvivePolicy r) (hop : fieldAt r.payload 0 1 = 4)
    (hx : x = fillAt r 2 s.now) (hholds : s.fillHolds p x = true) (hplan : (s.plot p).plans.find x.plan = some pl)
    (hkeys : ∀ g ∈ x.sources, s.keysTo p g = true) (hlapsed : (s.beginFill p r x).paired x.dst = false) :
    exec (.survivePolicyReinstate p) s = .next ((s.beginFill p r x).sendOffer x.dst) := by
  subst hx
  change execSurvivePolicyReinstate p s = _
  rw [execSurvivePolicyReinstate, State.serve_turn hturn, if_pos (by rw [hop]; rfl)]
  have hall : (fillAt r 2 s.now).sources.all (s.keysTo p) = true := List.all_eq_true.2 hkeys
  simp [hholds, hplan, hall, hlapsed]

end Copies

/-! ### A module whose pair keys with module 5 have lapsed -/

/-- The pair keys with module 5, made for a holding. -/
def lapsedPeer : Peer := { Peer.fresh 5 with done := true, used := true }

/-- In hall mode port 0 leads to module 5 and has its transmit key. The pair keys with module 5 stand, but nothing holds them
any more. Plot 1 has loaded plan 1, and a request waits. -/
def keysLapsed (r : Req) : State :=
  { State.reset with
    mod := { Mod.init with fabricId := 1, hall := true }
    gatehouse := { State.reset.gatehouse with trngOk := true, peers := [lapsedPeer] }
    ports := [(0, { Port.init with linkUp := true, txKey := some (0, 0, 1) })]
    plots := [(1, { Plot.init with
      state := 1, binding := some oneWindow, plans := [(1, buildPlan [] 1 0)], mail := { Plot.init.mail with held := [r] } })] }

/-- A request of slot 0. -/
def copyRequest (opcode : Nat) (payload : Bytes) : Req :=
  { slot := 0, opcode := opcode, tag := 0, vector := 0, payload := payload, since := 0, phase := .taken, waits := [], tally := 0 }

/-- RESTORE of plan 1 from the newest image that module 5 keeps (Table SRV-8). -/
def restoreFromPeer : Req := copyRequest opRestore ([0, 0, 0xFF, 0] ++ natLE 4 1 ++ natLE 8 5)

/-- SURVIVE_POLICY REINSTATE of plan 1 for stage 0 over one port, with module 5 the absorbing member (Table SRV-4). -/
def reinstateFromPeer : Req := copyRequest opSurvivePolicy (natLE 4 4 ++ natLE 4 1 ++ natLE 8 0 ++ [0, 0, 1] ++ natLE 13 0 ++ natLE 8 5)

/-- Nothing has been sent, and nothing waits to be. -/
theorem keysLapsed_silent (r : Req) (dest : Nat) (m : Control) : ¬(keysLapsed r).said dest m := by
  rintro ⟨i, ⟨u, fr, -, hsent⟩ | ⟨y, hwaits, -⟩⟩
  · exact List.not_mem_nil hsent
  · have hport : ((keysLapsed r).port i).waiting = [] := by
      change (if i = 0 then _ else _ : Port).waiting = []
      split <;> rfl
    rw [hport] at hwaits
    exact List.not_mem_nil hwaits

/-- Refutes O18: in `keysLapsed` RESTORE from module 5 drops the lapsed pair keys as its copy begins and sends an OFFER, where the
statement has the request for the image sent. -/
theorem not_snapshotPartnerships : ¬ Obligations.SnapshotPartnerships := by
  rintro ⟨-, -, -, -, -, -, -, -, -, hask, -⟩
  have hturn : Turn (keysLapsed restoreFromPeer) 1 opRestore restoreFromPeer := ⟨rfl, rfl, rfl, rfl⟩
  have hpeer : fieldAt restoreFromPeer.payload 8 8 = 5 := by decide
  have hslot : fieldAt restoreFromPeer.payload 2 1 ≤ 1 ∨ fieldAt restoreFromPeer.payload 2 1 = 0xFF := by decide
  have hlapsed : ((keysLapsed restoreFromPeer).beginFill 1 restoreFromPeer
      (imageFill restoreFromPeer (buildPlan [] 1 0) (keysLapsed restoreFromPeer).now)).paired 5 = false := by decide +kernel
  obtain ⟨t, hexec, -, -, hsaid, -⟩ := hask (keysLapsed restoreFromPeer) 1 restoreFromPeer (buildPlan [] 1 0) oneWindow hturn
    (by decide) hslot rfl rfl rfl rfl (by decide +kernel)
  obtain rfl := Host.Outcome.next.inj (hexec.symm.trans
    (exec_restore_offers hturn (by decide) hslot rfl rfl rfl rfl (hpeer.symm ▸ hlapsed)))
  obtain ⟨tag, hasks⟩ := hsaid (by decide +kernel)
  exact keysLapsed_silent _ _ _ (State.said_of_said_beginFill (State.said_of_said_sendOffer (fun _ => Control.noConfusion) hasks))

/-- Refutes O19: in `keysLapsed` REINSTATE with module 5 as the absorbing member drops the lapsed pair keys as its copy begins and
sends an OFFER, where the statement has the hand-over request sent. -/
theorem not_survivalMessages : ¬ Obligations.SurvivalMessages := by
  rintro ⟨-, -, -, -, hreinstate, -⟩
  obtain ⟨x, hx⟩ : ∃ x, x = fillAt reinstateFromPeer 2 (keysLapsed reinstateFromPeer).now := ⟨_, rfl⟩
  have hturn : Turn (keysLapsed reinstateFromPeer) 1 opSurvivePolicy reinstateFromPeer := ⟨rfl, rfl, rfl, rfl⟩
  have hholds : (keysLapsed reinstateFromPeer).fillHolds 1 x = true := by rw [hx]; decide +kernel
  have hkeys : ∀ g ∈ x.sources, (keysLapsed reinstateFromPeer).keysTo 1 g = true := by rw [hx]; decide +kernel
  have hplan : ((keysLapsed reinstateFromPeer).plot 1).plans.find x.plan = some (buildPlan [] 1 0) := by rw [hx]; rfl
  have hlapsed : ((keysLapsed reinstateFromPeer).beginFill 1 reinstateFromPeer x).paired x.dst = false := by rw [hx]; decide +kernel
  obtain ⟨t, hexec, -, -, hsaid, -⟩ := hreinstate (keysLapsed reinstateFromPeer) 1 reinstateFromPeer x (buildPlan [] 1 0) hturn
    (by decide) hx hholds hplan hkeys
  obtain rfl := Host.Outcome.next.inj (hexec.symm.trans
    (exec_survivePolicyReinstate_offers hturn (by decide) hx hholds hplan hkeys hlapsed))
  have hasks := hsaid (by rw [hx]; decide +kernel) (by rw [hx]; decide +kernel)
  exact keysLapsed_silent _ _ _ (State.said_of_said_beginFill (State.said_of_said_sendOffer (fun _ => Control.noConfusion) hasks))

end Sys2Proof.Machine

/-! The statement of management's telemetry (O21): the seven classes of TELEMETRY_READ (R338, R426, R427). -/

namespace Sys2Proof.Machine

/-! ### The arms of the seven commands -/

theorem exec_counters_eq (s : State) : exec .counters s = execCounters s := rfl

theorem exec_sensors_eq (s : State) : exec .sensors s = execSensors s := rfl

theorem exec_accounts_eq (s : State) : exec .accounts s = execAccounts s := rfl

theorem exec_errorLog_eq (s : State) : exec .errorLog s = execErrorLog s := rfl

theorem exec_fieldRecord_eq (s : State) : exec .fieldRecord s = execFieldRecord s := rfl

theorem exec_histogram_eq (p : Nat) (s : State) : exec (.histogram p) s = execHistogram p s := rfl

theorem exec_ratios_eq (p : Nat) (s : State) : exec (.ratios p) s = execRatios p s := rfl

/-! ### The answer of a read (R427) -/

/-- The body of a completed TELEMETRY_READ that returns the records `fit` of `n`: their bytes, how many they are, and whether
more remain. -/
def telemetryBody (fit : List Bytes) (n : Nat) : Bytes :=
  natLE 8 fit.flatten.length ++ natLE 4 fit.length ++ natLE 4 (b2n (fit.length != n))

/-- The records that a read of plot 0's area returns: management's buffer holds 16 MiB. -/
def mgmtFit (r : Req) (records : List Bytes) : List Bytes := fitRecords (min (fieldAt r.payload 0x10 8) 0x1000000) records

/-- The records that a read of a tenant returns. -/
def tenantFit (r : Req) (records : List Bytes) : List Bytes := fitRecords (fieldAt r.payload 0x10 8) records

section Reads

variable {s : State} {p cls : Nat} {r : Req}

/-- A read of plot 0's area that has its records: they are sent, and `after` does the rest. -/
theorem State.telemetry_mgmt (hdst : fieldAt r.payload 8 8 = 0) (records : List Bytes) (after : Nat → State → State) :
    s.telemetry 0 r records after = (after (mgmtFit r records).length (s.emit (.mgmtData (mgmtFit r records).flatten))).ok 0 r
      (telemetryBody (mgmtFit r records) records.length) := by
  simp [State.telemetry, hdst, mgmtFit, telemetryBody]

/-- A read of a tenant whose buffer lies in its windows: the records are written there, and `after` does the rest. -/
theorem State.telemetry_tenant (hp : p ≠ 0) (hwin : s.inWindows p (fieldAt r.payload 8 8) (fieldAt r.payload 0x10 8) = true)
    (records : List Bytes) (after : Nat → State → State) :
    s.telemetry p r records after =
      (after (tenantFit r records).length (s.updMem (fun m => m.write (fieldAt r.payload 8 8) (tenantFit r records).flatten))).ok p r
        (telemetryBody (tenantFit r records) records.length) := by
  simp [State.telemetry, hp, hwin, tenantFit, telemetryBody]

/-- The turn of a class that management alone reads. -/
theorem State.serveMgmt_turn (h : Turn s 0 opTelemetryRead r) (hcls : fieldAt r.payload 0 1 = cls) (hplot : fieldAt r.payload 2 1 = 0)
    (work : Req → State → State) : s.serveMgmt cls work = work r s := by
  simp [State.serveMgmt, State.serve_turn h, hcls, hplot]

/-- A request that is answered after its work `u`. -/
theorem State.okAfter_spec {u : State} {l : List Piece} (body : Bytes) (hopen : u.isOpen p = true) (hother : s.otherPlots u p)
    (hkeeps : s.keepsBut u l) (hl : .plots ∈ l) : (u.ok p r body).plot p = (u.plot p).answeredOk r body ∧
      u.keepsBut (u.ok p r body) [.plots] ∧ s.otherPlots (u.ok p r body) p ∧ s.keepsBut (u.ok p r body) l := by
  obtain ⟨hplot, hown, honly⟩ := State.okAtOnce_spec r body hopen
  exact ⟨hplot, honly, hother.trans hown, hkeeps.trans (honly.mono (by simpa using hl))⟩

/-! ### Reads that management sends on -/

/-- What a read that consumes nothing leaves: the data is sent and the request answered. -/
theorem State.sentRead_spec (hopen : s.isOpen 0 = true) (data body : Bytes) :
    ((s.emit (.mgmtData data)).ok 0 r body).sent = s.sent ++ [.mgmtData data] ∧
    ((s.emit (.mgmtData data)).ok 0 r body).plot 0 = (s.plot 0).answeredOk r body ∧
    s.otherPlots ((s.emit (.mgmtData data)).ok 0 r body) 0 ∧ s.keepsBut ((s.emit (.mgmtData data)).ok 0 r body) [.plots, .sent] := by
  obtain ⟨hplot, honly, hrest⟩ := State.okAfter_spec (s := s) (u := s.emit (.mgmtData data)) (l := [.plots, .sent]) (p := 0) (r := r)
    body hopen (fun _ _ => rfl) ((s.keepsBut_emit _).mono (by simp)) (by simp)
  exact ⟨honly .sent (by decide), hplot, hrest⟩

/-- COUNTERS, SENSORS and ACCOUNTS are reads of management that consume nothing. -/
theorem exec_mgmtRead {c : Instr} {recs : List Bytes} (h : Turn s 0 opTelemetryRead r) (hcls : fieldAt r.payload 0 1 = cls)
    (hplot : fieldAt r.payload 2 1 = 0)
    (hc : (c, cls, recs) ∈ [(Instr.counters, 3, s.counterWords.map (natLE 8)),
      (.sensors, 4, ((List.range 7).map (fun i => s.sensorValue (i + 1)) ++ (List.range 128).map s.pavClock ++
        (List.range 12).map s.mem.tempWord).map (natLE 8)),
      (.accounts, 5, ((List.range 17).filter (fun p => bitOf (fieldAt r.payload 4 4) p && s.isOpen p)).map s.plotAccount)]) :
    exec c s = .next (s.telemetry 0 r recs (fun _ t => t)) := by
  simp only [List.mem_cons, Prod.mk.injEq, List.not_mem_nil, or_false] at hc
  obtain ⟨rfl, rfl, rfl⟩ | ⟨rfl, rfl, rfl⟩ | ⟨rfl, rfl, rfl⟩ := hc
  · rw [exec_counters_eq, execCounters, State.serveMgmt_turn h hcls hplot]
  · rw [exec_sensors_eq, execSensors, State.serveMgmt_turn h hcls hplot]
  · rw [exec_accounts_eq, execAccounts, State.serveMgmt_turn h hcls hplot]

theorem mgmtRead_answers {c : Instr} {recs : List Bytes} (h : Turn s 0 opTelemetryRead r) (hdst : fieldAt r.payload 8 8 = 0)
    (hexec : exec c s = .next (s.telemetry 0 r recs (fun _ t => t))) :
    ∃ t, exec c s = .next t ∧ t.sent = s.sent ++ [.mgmtData (mgmtFit r recs).flatten] ∧
      t.plot 0 = (s.plot 0).answeredOk r (telemetryBody (mgmtFit r recs) recs.length) ∧
      s.otherPlots t 0 ∧ s.keepsBut t [.plots, .sent] :=
  ⟨_, hexec.trans (congrArg _ (State.telemetry_mgmt hdst recs _)), State.sentRead_spec h.1 _ _⟩

/-! ### ERROR_LOG -/

/-- The error log without the records that a read with CONSUME has returned. -/
def State.consumedLog (s : State) (r : Req) (n : Nat) : State :=
  if bitOf (fieldAt r.payload 1 1) 0 then
    { s with mgmt := { s.mgmt with errorLog := dropNamed (fieldAt r.payload 4 4) n s.mgmt.errorLog } }
  else s

theorem State.keepsBut_consumedLog (s : State) (r : Req) (n : Nat) : s.keepsBut (s.consumedLog r n) [.mgmt] := by
  unfold State.consumedLog
  split
  · intro x hx
    cases x <;> simp_all [State.agree]
  · exact .refl s _

theorem exec_errorLog_turn (h : Turn s 0 opTelemetryRead r) (hcls : fieldAt r.payload 0 1 = 2) (hplot : fieldAt r.payload 2 1 = 0) :
    exec .errorLog s = .next (s.telemetry 0 r
      ((s.mgmt.errorLog.filter (fun e => maskNames (fieldAt r.payload 4 4) e.2)).map logRecord) (fun n t => t.consumedLog r n)) := by
  rw [exec_errorLog_eq, execErrorLog, State.serveMgmt_turn h hcls hplot]
  rfl

theorem errorLog_answers (h : Turn s 0 opTelemetryRead r) (hcls : fieldAt r.payload 0 1 = 2) (hplot : fieldAt r.payload 2 1 = 0)
    (hdst : fieldAt r.payload 8 8 = 0) {recs : List Bytes}
    (hrecs : recs = (s.mgmt.errorLog.filter (fun e => maskNames (fieldAt r.payload 4 4) e.2)).map logRecord) :
    ∃ t, exec .errorLog s = .next t ∧ t.sent = s.sent ++ [.mgmtData (mgmtFit r recs).flatten] ∧
      t.plot 0 = (s.plot 0).answeredOk r (telemetryBody (mgmtFit r recs) recs.length) ∧
      t.mgmt = (s.consumedLog r (mgmtFit r recs).length).mgmt ∧ s.otherPlots t 0 ∧ s.keepsBut t [.plots, .mgmt, .sent] := by
  subst hrecs
  refine ⟨_, (exec_errorLog_turn h hcls hplot).trans (congrArg _ (State.telemetry_mgmt hdst _ _)), ?_⟩
  generalize mgmtFit r _ = fit
  generalize telemetryBody fit _ = body
  have hlog := (s.emit (.mgmtData fit.flatten)).keepsBut_consumedLog r fit.length
  obtain ⟨hown, honly, hother, hkeeps⟩ := State.okAfter_spec (s := s) (l := [.plots, .mgmt, .sent]) (p := 0) (r := r) body
    ((State.isOpen_congr (congrArg Plot.state (hlog.plot (by decide) 0))).trans h.1) (fun q _ => hlog.plot (by decide) q)
    (((s.keepsBut_emit _).mono (by simp)).trans (hlog.mono (by simp))) (by simp)
  refine ⟨(honly .sent (by decide)).trans (hlog .sent (by decide)),
    hown.trans (congrArg (·.answeredOk r body) (hlog.plot (by decide) 0)),
    (honly .mgmt (by decide)).trans ?_, hother, hkeeps⟩
  unfold State.consumedLog
  split <;> rfl

/-- What CONSUME takes from the log, with the flag and without it. -/
theorem State.mgmt_consumedLog (s : State) (r : Req) (n : Nat) :
    (bitOf (fieldAt r.payload 1 1) 0 = false → (s.consumedLog r n).mgmt = s.mgmt) ∧
    (bitOf (fieldAt r.payload 1 1) 0 = true → (s.consumedLog r n).mgmt =
      { s.mgmt with errorLog := dropNamed (fieldAt r.payload 4 4) n s.mgmt.errorLog }) :=
  ⟨fun hoff => by simp [State.consumedLog, hoff], fun hon => by simp [State.consumedLog, hon]⟩

/-! ### FIELD_RECORD (R338) -/

theorem bytesAt_length (bs : Bytes) (off n : Nat) : (bytesAt bs off n).length = n := by
  simp only [bytesAt, List.length_append, List.length_take, List.length_drop, List.length_replicate]
  omega

/-- The field record ends with its signature of 2,420 bytes, and one free value is drawn for it. -/
theorem State.fieldBytes_eq (s : State) : ∃ sig, sig.length = 2420 ∧
    s.fieldBytes = ((Config.fieldLayout s.fieldSections).take (524288 - 2420) ++ sig, { s with free := s.free + 1 }) :=
  ⟨_, bytesAt_length _ 0 2420, rfl⟩

/-- The field record is at most 512 KiB. -/
theorem fieldRecord_length_le (body : Bytes) {sig : Bytes} (hsig : sig.length = 2420) :
    (body.take (524288 - 2420) ++ sig).length ≤ 524288 := by
  simp only [List.length_append, List.length_take]
  omega

theorem exec_fieldRecord_turn (h : Turn s 0 opTelemetryRead r) (hcls : fieldAt r.payload 0 1 = 1) (hplot : fieldAt r.payload 2 1 = 0) :
    exec .fieldRecord s = .next (s.fieldBytes.2.telemetry 0 r [s.fieldBytes.1] (fun _ t => t)) := by
  rw [exec_fieldRecord_eq, execFieldRecord, State.serveMgmt_turn h hcls hplot]

/-- One record that the buffer holds is returned whole. -/
theorem mgmtFit_single {b : Bytes} (hroom : b.length ≤ fieldAt r.payload 0x10 8) (hbuffer : b.length ≤ 0x1000000) :
    mgmtFit r [b] = [b] := by
  simp [mgmtFit, fitRecords, hroom, hbuffer]

theorem telemetryBody_single (b : Bytes) : telemetryBody [b] 1 = natLE 8 b.length ++ natLE 4 1 ++ natLE 4 0 := by
  rw [telemetryBody, List.flatten_singleton]
  rfl

theorem fieldRecord_answers (h : Turn s 0 opTelemetryRead r) (hcls : fieldAt r.payload 0 1 = 1) (hplot : fieldAt r.payload 2 1 = 0)
    (hdst : fieldAt r.payload 8 8 = 0) (hroom : 524288 ≤ fieldAt r.payload 0x10 8) :
    ∃ t b, exec .fieldRecord s = .next t ∧ t.sent = s.sent ++ [.mgmtData b] ∧ b.length ≤ 524288 ∧
      (∃ sig, b = (Config.fieldLayout s.fieldSections).take (524288 - 2420) ++ sig ∧ sig.length = 2420) ∧
      t.plot 0 = (s.plot 0).answeredOk r (natLE 8 b.length ++ natLE 4 1 ++ natLE 4 0) ∧ t.free = s.free + 1 ∧
      s.otherPlots t 0 ∧ s.keepsBut t [.plots, .free, .sent] := by
  obtain ⟨sig, hsig, hbytes⟩ := s.fieldBytes_eq
  have hlen := fieldRecord_length_le (Config.fieldLayout s.fieldSections) hsig
  have hexec := exec_fieldRecord_turn h hcls hplot
  rw [hbytes] at hexec
  generalize hb : (Config.fieldLayout s.fieldSections).take (524288 - 2420) ++ sig = b at hexec hlen
  rw [State.telemetry_mgmt hdst, mgmtFit_single (hlen.trans hroom) (by omega), List.flatten_singleton] at hexec
  obtain ⟨hown, honly, hother, hkeeps⟩ := State.okAfter_spec (s := s) (u := { s with free := s.free + 1 }.emit (.mgmtData b))
    (l := [.plots, .free, .sent]) (p := 0) (r := r) (telemetryBody [b] 1) h.1 (fun _ _ => rfl)
    (by intro x hx; cases x <;> simp_all [State.agree]) (by simp)
  refine ⟨_, b, hexec, honly .sent (by decide), hlen, ⟨sig, hb.symm, hsig⟩,
    hown.trans (congrArg _ (telemetryBody_single b)), honly .free (by decide), hother, hkeeps⟩

/-! ### HISTOGRAM and RATIOS -/

/-- The histogram records of a plot that a selector names. -/
def Plot.histRecords (q : Plot) (sel : Nat) : List Bytes :=
  (q.hist.filter (fun e => sel == 0xFFFFFFFF || e.1 == sel)).map (fun e => e.2.record e.1 q.lastStep)

/-- The ratio records of a plot that a selector names. -/
def Plot.ratioRecords (q : Plot) (sel : Nat) : List Bytes :=
  (q.ratios.filter (fun e => sel == 0xFFFFFFFF || e.1 == sel)).map ratioRecord

/-- A plot without the first `n` histograms that a selector names. -/
def Plot.dropHist (sel n : Nat) (q : Plot) : Plot :=
  { q with hist := q.hist.filter (fun e =>
      !(((q.hist.filter (fun e => sel == 0xFFFFFFFF || e.1 == sel)).take n).map (·.1)).contains e.1) }

/-- A plot without the first `n` ratios that a selector names. -/
def Plot.dropRatios (sel n : Nat) (q : Plot) : Plot :=
  { q with ratios := q.ratios.filter (fun e =>
      !((q.ratios.filter (fun e => sel == 0xFFFFFFFF || e.1 == sel)).take n).contains e) }

/-- What a read with CONSUME makes of the plot that it names. -/
def State.consumed (s : State) (r : Req) (q : Nat) (f : Plot → Plot) : State :=
  if bitOf (fieldAt r.payload 1 1) 0 then s.updPlot q f else s

theorem execHistogram_eq (p : Nat) (s : State) : execHistogram p s = .next (s.serveStepData p 6
    (fun q sel s => (s.plot q).histRecords sel) (fun q sel n s => s.updPlot q (Plot.dropHist sel n))) := rfl

theorem execRatios_eq (p : Nat) (s : State) : execRatios p s = .next (s.serveStepData p 7
    (fun q sel s => (s.plot q).ratioRecords sel) (fun q sel n s => s.updPlot q (Plot.dropRatios sel n))) := rfl

/-- The turn of a tenant's read of its own step data. -/
theorem State.serveStepData_tenant (h : Turn s p opTelemetryRead r) (hp : p ≠ 0) (hcls : fieldAt r.payload 0 1 = cls)
    (hplot : fieldAt r.payload 2 1 = 0) (records : Nat → Nat → State → List Bytes) (drop : Nat → Nat → Plot → Plot) :
    s.serveStepData p cls records (fun q sel n t => t.updPlot q (drop sel n)) =
      s.telemetry p r (records p (fieldAt r.payload 4 4) s) (fun n t => t.consumed r p (drop (fieldAt r.payload 4 4) n)) := by
  simp [State.serveStepData, State.serve_turn h, hcls, hplot, hp, State.consumed]

/-- The turn of management's read of a tenant's step data. -/
theorem State.serveStepData_mgmt (h : Turn s 0 opTelemetryRead r) (hcls : fieldAt r.payload 0 1 = cls)
    (hfirst : 1 ≤ fieldAt r.payload 2 1) (hlast : fieldAt r.payload 2 1 ≤ 16) (hkeep : bitOf (fieldAt r.payload 1 1) 0 = false)
    (records : Nat → Nat → State → List Bytes) (after : Nat → Nat → Nat → State → State) :
    s.serveStepData 0 cls records after =
      s.telemetry 0 r (records (fieldAt r.payload 2 1) (fieldAt r.payload 4 4) s) (fun _ t => t) := by
  have hnone : fieldAt r.payload 2 1 ≠ 0 := by omega
  simp [State.serveStepData, State.serve_turn h, hcls, hnone, hlast, hkeep]

theorem State.plot_consumed_self (s : State) (r : Req) (p : Nat) (f : Plot → Plot) :
    (s.consumed r p f).plot p = if bitOf (fieldAt r.payload 1 1) 0 then f (s.plot p) else s.plot p := by
  unfold State.consumed
  split
  · exact s.plot_updPlot_self p f
  · rfl

theorem State.otherPlots_consumed (s : State) (r : Req) (p : Nat) (f : Plot → Plot) : s.otherPlots (s.consumed r p f) p := by
  unfold State.consumed
  split
  · exact s.otherPlots_updPlot p f
  · exact fun _ _ => rfl

theorem State.keepsBut_consumed (s : State) (r : Req) (p : Nat) (f : Plot → Plot) : s.keepsBut (s.consumed r p f) [.plots] := by
  unfold State.consumed
  split
  · exact s.keepsBut_updPlot p f
  · exact .refl s _

/-- A change of the records of a plot's step data, which leaves what an answer needs. -/
structure KeepsMail (f : Plot → Plot) : Prop where
  mail : ∀ q, (f q).mail = q.mail
  state : ∀ q, (f q).state = q.state

theorem keepsMail_dropHist (sel n : Nat) : KeepsMail (Plot.dropHist sel n) := ⟨fun _ => rfl, fun _ => rfl⟩

theorem keepsMail_dropRatios (sel n : Nat) : KeepsMail (Plot.dropRatios sel n) := ⟨fun _ => rfl, fun _ => rfl⟩

/-- What a tenant's read leaves: its buffer holds the data, and its plot is the one that CONSUME leaves, answered. -/
theorem State.tenantRead_spec (hwf : s.mem.wf = true) (hopen : s.isOpen p = true) {f : Plot → Plot} (hf : KeepsMail f) (a : Nat)
    (data body : Bytes) : ∃ t q, ((s.updMem (fun m => m.write a data)).consumed r p f).ok p r body = t ∧
      (q = if bitOf (fieldAt r.payload 1 1) 0 then f (s.plot p) else s.plot p) ∧
      t.memHolds a data ∧ s.bytesOutside t a data.length ∧ t.plot p = q.answeredOk r body ∧
      (t.plot p).mail = (s.plot p).mail.answered r 0 0 0 body ∧ s.otherPlots t p ∧ s.keepsBut t [.mem, .plots] := by
  have hplot := (s.updMem (fun m => m.write a data)).plot_consumed_self r p f
  have hrest := (s.updMem (fun m => m.write a data)).keepsBut_consumed r p f
  have hmail : (((s.updMem (fun m => m.write a data)).consumed r p f).plot p).mail = (s.plot p).mail := by
    rw [hplot]
    split
    · exact hf.mail _
    · rfl
  have hstate : (((s.updMem (fun m => m.write a data)).consumed r p f).plot p).state = (s.plot p).state := by
    rw [hplot]
    split
    · exact hf.state _
    · rfl
  obtain ⟨hown, honly, hother, hkeeps⟩ := State.okAfter_spec (s := s) (l := [.mem, .plots]) (r := r) body
    ((State.isOpen_congr hstate).trans hopen) ((s.otherPlots_updMem _ p).trans (State.otherPlots_consumed _ r p f))
    (((s.keepsBut_updMem _).mono (by simp)).trans (hrest.mono (by simp))) (by simp)
  have hmem := (honly .mem (by decide)).trans (hrest .mem (by decide))
  refine ⟨_, _, rfl, rfl, fun i hi => ?_, fun b hb => ?_, hown.trans (congrArg (·.answeredOk r body) hplot), ?_, hother, hkeeps⟩
  · rw [hmem]
    exact s.mem.read_write_inside a i data hwf hi
  · rw [hmem]
    exact s.mem.read_write_outside a b data hb
  · rw [hown, Plot.answeredOk, Plot.answered, hmail]

theorem exec_histogram_tenant (h : Turn s p opTelemetryRead r) (hp : p ≠ 0) (hcls : fieldAt r.payload 0 1 = 6)
    (hplot : fieldAt r.payload 2 1 = 0) (hwin : s.inWindows p (fieldAt r.payload 8 8) (fieldAt r.payload 0x10 8) = true)
    {recs : List Bytes} (hrecs : recs = (s.plot p).histRecords (fieldAt r.payload 4 4)) : exec (.histogram p) s =
      .next (((s.updMem (fun m => m.write (fieldAt r.payload 8 8) (tenantFit r recs).flatten)).consumed r p
        (Plot.dropHist (fieldAt r.payload 4 4) (tenantFit r recs).length)).ok p r (telemetryBody (tenantFit r recs) recs.length)) := by
  rw [exec_histogram_eq, execHistogram_eq, State.serveStepData_tenant h hp hcls hplot, State.telemetry_tenant hp hwin, hrecs]

theorem exec_ratios_tenant (h : Turn s p opTelemetryRead r) (hp : p ≠ 0) (hcls : fieldAt r.payload 0 1 = 7)
    (hplot : fieldAt r.payload 2 1 = 0) (hwin : s.inWindows p (fieldAt r.payload 8 8) (fieldAt r.payload 0x10 8) = true)
    {recs : List Bytes} (hrecs : recs = (s.plot p).ratioRecords (fieldAt r.payload 4 4)) : exec (.ratios p) s =
      .next (((s.updMem (fun m => m.write (fieldAt r.payload 8 8) (tenantFit r recs).flatten)).consumed r p
        (Plot.dropRatios (fieldAt r.payload 4 4) (tenantFit r recs).length)).ok p r (telemetryBody (tenantFit r recs) recs.length)) := by
  rw [exec_ratios_eq, execRatios_eq, State.serveStepData_tenant h hp hcls hplot, State.telemetry_tenant hp hwin, hrecs]

/-- HISTOGRAM and RATIOS of a tenant, read by management without CONSUME. -/
theorem exec_stepData_mgmt {c : Instr} (hc : (cls, c) ∈ [(6, Instr.histogram 0), (7, .ratios 0)]) (h : Turn s 0 opTelemetryRead r)
    (hcls : fieldAt r.payload 0 1 = cls) (hfirst : 1 ≤ fieldAt r.payload 2 1) (hlast : fieldAt r.payload 2 1 ≤ 16)
    (hkeep : bitOf (fieldAt r.payload 1 1) 0 = false) : ∃ recs, exec c s = .next (s.telemetry 0 r recs (fun _ t => t)) := by
  simp only [List.mem_cons, Prod.mk.injEq, List.not_mem_nil, or_false] at hc
  obtain ⟨rfl, rfl⟩ | ⟨rfl, rfl⟩ := hc
  · exact ⟨_, by rw [exec_histogram_eq, execHistogram_eq, State.serveStepData_mgmt h hcls hfirst hlast hkeep]⟩
  · exact ⟨_, by rw [exec_ratios_eq, execRatios_eq, State.serveStepData_mgmt h hcls hfirst hlast hkeep]⟩

end Reads

/-! ### The length that an answer names -/

theorem leNat_natLE (n v : Nat) : leNat (natLE n v) = v % 2 ^ (8 * n) := by
  induction n generalizing v with
  | zero => simp [natLE, leNat, Nat.mod_one]
  | succ n ih =>
    rw [natLE, leNat, ih, BitVec.toNat_ofNat, Nat.mul_succ, Nat.pow_add, Nat.mul_comm (2 ^ (8 * n)), Nat.mod_mul]

theorem fieldAt_natLE_append (n v : Nat) (bs : Bytes) : fieldAt (natLE n v ++ bs) 0 n = v % 2 ^ (8 * n) := by
  rw [fieldAt, List.drop_zero, List.take_append_of_le_length (natLE_length n v).ge, List.take_of_length_le (natLE_length n v).le,
    leNat_natLE]

theorem fieldAt_telemetryBody (fit : List Bytes) (n : Nat) : fieldAt (telemetryBody fit n) 0 8 = fit.flatten.length % 2 ^ 64 := by
  rw [telemetryBody, List.append_assoc, fieldAt_natLE_append]

/-- Settles O21, class by class: the records that fit are sent or written, and CONSUME takes those that are returned. -/
theorem telemetryReads : Obligations.TelemetryReads := by
  unfold Obligations.TelemetryReads
  refine ⟨?_, ?_, ?_, ?_, ?_, ?_⟩
  · rintro s r c cls recs fit hturn hcls hplot hdst hc rfl
    exact mgmtRead_answers hturn hdst (exec_mgmtRead hturn hcls hplot hc)
  · rintro s r recs fit hturn hcls hplot hdst hrecs rfl
    obtain ⟨t, hexec, hsent, hown, hmgmt, hother, hkeeps⟩ := errorLog_answers hturn hcls hplot hdst hrecs
    obtain ⟨hoff, hon⟩ := s.mgmt_consumedLog r (mgmtFit r recs).length
    exact ⟨t, hexec, hsent, hown, fun hbit => hmgmt.trans (hoff hbit), fun hbit => hmgmt.trans (hon hbit), hother, hkeeps⟩
  · exact fun s r hturn hcls hplot hdst hroom => fieldRecord_answers hturn hcls hplot hdst hroom
  · rintro s p sel r recs fit hwf hturn hp hcls hplot rfl hwin hrecs rfl
    obtain ⟨t, q, ht, hq, hholds, houtside, hown, hmail, hother, hkeeps⟩ := State.tenantRead_spec (r := r) hwf hturn.1
      (keepsMail_dropHist (fieldAt r.payload 4 4) (tenantFit r recs).length) (fieldAt r.payload 8 8) (tenantFit r recs).flatten
      (telemetryBody (tenantFit r recs) recs.length)
    refine ⟨t, (exec_histogram_tenant hturn hp hcls hplot hwin hrecs).trans (congrArg _ ht), hholds, houtside, hmail, fun hoff => ?_,
      fun hon => ?_, ?_, hother, hkeeps⟩ <;> rw [hown, hq]
    · rw [hoff]; rfl
    · rw [hon]; rfl
    · split <;> rfl
  · rintro s p sel r recs fit hwf hturn hp hcls hplot rfl hwin hrecs rfl
    obtain ⟨t, q, ht, hq, hholds, houtside, hown, hmail, hother, hkeeps⟩ := State.tenantRead_spec (r := r) hwf hturn.1
      (keepsMail_dropRatios (fieldAt r.payload 4 4) (tenantFit r recs).length) (fieldAt r.payload 8 8) (tenantFit r recs).flatten
      (telemetryBody (tenantFit r recs) recs.length)
    refine ⟨t, (exec_ratios_tenant hturn hp hcls hplot hwin hrecs).trans (congrArg _ ht), hholds, houtside, hmail, fun hoff => ?_,
      ?_, hother, hkeeps⟩ <;> rw [hown, hq]
    · rw [hoff]; rfl
    · split <;> rfl
  · rintro s cls c r hc hturn hcls hfirst hlast hdst hkeep
    obtain ⟨recs, hexec⟩ := exec_stepData_mgmt hc hturn hcls hfirst hlast hkeep
    obtain ⟨t, hexec, hsent, hown, hother, hkeeps⟩ := mgmtRead_answers hturn hdst hexec
    exact ⟨t, _, hexec, hsent, ⟨_, hown, fieldAt_telemetryBody _ _⟩, hother, hkeeps⟩

end Sys2Proof.Machine

/-! The statement of the management port's tasks (O30): Redfish requests that map to messages of plot 0 (R422). -/

namespace Sys2Proof.Machine

/-! ### The arms of the commands -/

/-- The push buffer with an image. -/
def State.pushed (s : State) (image : Bytes) : State := s.updMgmt (fun g => { g with pushBuffer := image })

theorem exec_multipartHttpPushUri_eq (session cls : Nat) (image : Bytes) (s : State) : exec (.multipartHttpPushUri session cls image) s =
    s.redfish session 0 (fun t => (t.pushed image).postTask opFwStage
      (natLE 1 0 ++ natLE 1 cls ++ natLE 6 0 ++ natLE 8 image.length ++ shaBytes image)) := rfl

theorem exec_redfishActivate_eq (session cls : Nat) (ok close : Bool) (s : State) : exec (.redfishActivate session cls ok close) s =
    s.redfish session 0 (fun t => t.postTask opFwActivate
      (natLE 1 0 ++ natLE 1 cls ++ natLE 1 ((if ok then 1 else 0) + (if close then 2 else 0)) ++ natLE 13 0)) := by
  have hflags : b2n ok + 2 * b2n close = (if ok then 1 else 0) + (if close then 2 else 0) := by cases ok <;> cases close <;> rfl
  rw [← hflags]
  rfl

theorem exec_redfishCommit_eq (session cls : Nat) (s : State) : exec (.redfishCommit session cls) s =
    s.redfish session 0 (fun t => t.postTask opFwActivate (natLE 1 1 ++ natLE 1 cls ++ natLE 14 0)) := rfl

theorem exec_collectDiagnosticData_eq (session : Nat) (s : State) : exec (.collectDiagnosticData session) s =
    s.redfish session 1 (fun t => if t.bothy.ready then t.postTask opTelemetryRead (telemetryPayload 1 0)
      else t.fieldBytes.2.http 200 0 t.fieldBytes.1) := rfl

theorem exec_clearLog_eq (session : Nat) (s : State) : exec (.clearLog session) s =
    s.redfish session 1 (fun t => t.postTask opTelemetryRead (telemetryPayload 2 1)) := rfl

theorem exec_spdmGetSignedMeasurements_eq (session : Nat) (nonce : Bytes) (s : State) : exec (.spdmGetSignedMeasurements session nonce) s =
    s.redfish session 2 (fun t => t.postTask opAttestGet (natLE 16 0 ++ bytesAt nonce 0 32)) := rfl

theorem exec_plotOpenAction_eq (session : Nat) (payload : Bytes) (s : State) : exec (.plotOpenAction session payload) s =
    s.redfish session 1 (fun t => t.postTask opPlotOpen (bytesAt payload 0 64)) := rfl

theorem exec_plotCloseAction_eq (session plot : Nat) (s : State) : exec (.plotCloseAction session plot) s =
    s.redfish session 1 (fun t => t.postTask opPlotClose (natLE 1 plot ++ natLE 7 0)) := rfl

theorem exec_redfishTaskDone_eq (task : Nat) (s : State) : exec (.redfishTaskDone task) s = execRedfishTaskDone task s := rfl

section Tasks

variable {s : State} {session role slot : Nat}

/-! ### Who may ask (R421) -/

/-- A session whose role may ask has its work done. -/
theorem State.redfish_loggedIn (h : s.loggedIn session role) (work : State → State) : s.redfish session role work = .next (work s) := by
  obtain ⟨hup, a, haccount, hchange, hrole⟩ := h
  simp [State.redfish, hup, haccount, hchange, hrole]

/-- A session whose account has a lower role is answered 403. -/
theorem State.redfish_forbidden {a : MgmtAccount} (hup : s.serviceUp = true) (haccount : s.mgmt.accountOf session = some a)
    (hrole : role < a.role) (work : State → State) :
    s.redfish session role work = .next { s with sent := s.sent ++ [.redfish 403 0 []] } := by
  simp [State.redfish, hup, haccount, hrole, State.http, State.emit]

/-- A session that is not logged in is answered 401. -/
theorem State.redfish_unknown (hup : s.serviceUp = true) (haccount : s.mgmt.accountOf session = none) (work : State → State) :
    s.redfish session role work = .next { s with sent := s.sent ++ [.redfish 401 0 []] } := by
  simp [State.redfish, hup, haccount, State.http, State.emit]

/-! ### A request that becomes a task (R422) -/

/-- Management with one more task and the tag of its message. -/
def Mgmt.withTask (g : Mgmt) (opcode tag : Nat) : Mgmt :=
  { g with postTag := tag, nextTask := g.nextTask + 1, tasks := g.tasks ++ [{ id := g.nextTask, opcode := opcode, tag := tag }] }

/-- A message posted in a free slot of plot 0, and its task. -/
theorem State.postTask_eq (hfree : s.freeSlot = some slot) (opcode : Nat) (payload : Bytes) : s.postTask opcode payload =
    { s.updPlot 0 (·.posted slot s.nextTag opcode payload) with mgmt := s.mgmt.withTask opcode s.nextTag } := by
  simp only [State.postTask, State.postMessage, hfree]
  rfl

theorem State.tasked_postTask (hfree : s.freeSlot = some slot) (opcode : Nat) (payload : Bytes) :
    s.tasked (s.postTask opcode payload) slot opcode payload := by
  rw [State.postTask_eq hfree]
  refine ⟨s.plot_updPlot_self 0 (·.posted slot s.nextTag opcode payload),
    s.otherPlots_updPlot 0 (·.posted slot s.nextTag opcode payload), rfl, rfl, rfl, rfl, rfl, rfl, ?_⟩
  intro x hx
  cases x <;> simp_all [State.agree]

theorem redfish_tasked {c : Instr} {opcode : Nat} {payload : Bytes} (hfree : s.freeSlot = some slot) (h : s.loggedIn session role)
    (hexec : exec c s = s.redfish session role (fun t => t.postTask opcode payload)) :
    ∃ t, exec c s = .next t ∧ s.tasked t slot opcode payload :=
  ⟨_, hexec.trans (State.redfish_loggedIn h _), State.tasked_postTask hfree opcode payload⟩

/-- A push changes nothing else that a task goes by. -/
theorem State.tasked_of_pushed {t : State} {opcode : Nat} {image payload : Bytes} (h : (s.pushed image).tasked t slot opcode payload) :
    s.tasked t slot opcode payload := by
  obtain ⟨hplot, hother, htasks, hnext, htag, haccounts, hclasses, hpldm, hkeeps⟩ := h
  refine ⟨hplot, hother, htasks, hnext, htag, haccounts, hclasses, hpldm, State.keepsBut.trans (t := s.pushed image) ?_ hkeeps⟩
  intro x hx
  cases x <;> simp_all [State.agree, State.pushed, State.updMgmt]

theorem State.pushBuffer_postTask (hfree : s.freeSlot = some slot) (opcode : Nat) (payload : Bytes) :
    (s.postTask opcode payload).mgmt.pushBuffer = s.mgmt.pushBuffer := by
  rw [State.postTask_eq hfree]
  rfl

/-- MULTIPARTHTTPPUSHURI: the image stands in the push buffer, and FW_STAGE is its task. -/
theorem multipartHttpPushUri_tasked (hfree : s.freeSlot = some slot) (h : s.loggedIn session 0) (cls : Nat) (image : Bytes) :
    ∃ t, exec (.multipartHttpPushUri session cls image) s = .next t ∧ t.mgmt.pushBuffer = image ∧
      s.tasked t slot opFwStage (natLE 1 0 ++ natLE 1 cls ++ natLE 6 0 ++ natLE 8 image.length ++ shaBytes image) := by
  have hfree' : (s.pushed image).freeSlot = some slot := hfree
  exact ⟨_, (exec_multipartHttpPushUri_eq session cls image s).trans (State.redfish_loggedIn h _), State.pushBuffer_postTask hfree' _ _,
    State.tasked_of_pushed (State.tasked_postTask hfree' _ _)⟩

/-! ### COLLECTDIAGNOSTICDATA (R338) -/

/-- Once READY, the field record is a task. -/
theorem collectDiagnosticData_tasked (hfree : s.freeSlot = some slot) (h : s.loggedIn session 1) (hready : s.bothy.ready = true) :
    ∃ t, exec (.collectDiagnosticData session) s = .next t ∧ s.tasked t slot opTelemetryRead (telemetryPayload 1 0) := by
  refine ⟨_, (exec_collectDiagnosticData_eq session s).trans (State.redfish_loggedIn h _), ?_⟩
  rw [if_pos hready]
  exact State.tasked_postTask hfree _ _

/-- Before READY, the field record is answered at once. -/
theorem collectDiagnosticData_answers (h : s.loggedIn session 1) (hready : s.bothy.ready = false) :
    ∃ t record, exec (.collectDiagnosticData session) s = .next t ∧ record.length ≤ 524288 ∧
      t.sent = s.sent ++ [.redfish 200 0 record] ∧ s.keepsBut t [.free, .sent] := by
  obtain ⟨sig, hsig, hbytes⟩ := s.fieldBytes_eq
  refine ⟨_, _, (exec_collectDiagnosticData_eq session s).trans (State.redfish_loggedIn h _),
    fieldRecord_length_le (Config.fieldLayout s.fieldSections) hsig, ?_, ?_⟩ <;> rw [if_neg (by simp [hready]), hbytes]
  · rfl
  · intro x hx
    cases x <;> simp_all [State.agree, State.http]

/-! ### REDFISH_TASK_DONE -/

theorem redfishTaskDone_answers {x : Task} {st : Nat} {b : Bytes} (hx : s.mgmt.tasks.find? (fun t => t.id == x.id) = some x)
    (hrec : s.postedRecord x.tag = some (st, b)) : exec (.redfishTaskDone x.id) s = .next { s with
      mgmt := { s.mgmt with tasks := s.mgmt.tasks.filter (fun y => y.id != x.id) }
      sent := s.sent ++ [.redfish (httpOf st) st (b.drop 16)] } := by
  simp [exec_redfishTaskDone_eq, execRedfishTaskDone, hx, hrec, State.updMgmt, State.http, State.emit]

theorem redfishTaskDone_idle {n : Nat} (h : ∀ x ∈ s.mgmt.tasks, x.id ≠ n) : exec (.redfishTaskDone n) s = .next s := by
  have hnone : s.mgmt.tasks.find? (fun t => t.id == n) = none := by simpa using h
  simp [exec_redfishTaskDone_eq, execRedfishTaskDone, hnone]

/-- The HTTP codes that R422 names. -/
theorem httpOf_named (st : Nat) : (st = stOk → httpOf st = 200) ∧ (st = stNotPermitted ∨ st = stBadLength → httpOf st = 400) ∧
    (st = stNoMemory ∨ st = stShareExceeded → httpOf st = 409) ∧ (st = stTimeout → httpOf st = 503) := by
  refine ⟨?_, ?_, ?_, ?_⟩
  · rintro rfl; decide
  · rintro (rfl | rfl) <;> decide
  · rintro (rfl | rfl) <;> decide
  · rintro rfl; decide

end Tasks

/-- Settles O30, request by request. -/
theorem managementPortTasks : Obligations.ManagementPortTasks := by
  unfold Obligations.ManagementPortTasks
  refine ⟨fun s session slot hfree => ⟨fun h => ⟨?_, ?_, ?_⟩, fun h => ⟨?_, ?_, ?_, ?_, ?_⟩, fun h nonce => ?_⟩, ?_, ?_, ?_, ?_⟩
  · exact multipartHttpPushUri_tasked hfree h
  · exact fun cls ok close => redfish_tasked hfree h (exec_redfishActivate_eq session cls ok close s)
  · exact fun cls => redfish_tasked hfree h (exec_redfishCommit_eq session cls s)
  · exact collectDiagnosticData_tasked hfree h
  · exact collectDiagnosticData_answers h
  · exact redfish_tasked hfree h (exec_clearLog_eq session s)
  · exact fun payload => redfish_tasked hfree h (exec_plotOpenAction_eq session payload s)
  · exact fun plot => redfish_tasked hfree h (exec_plotCloseAction_eq session plot s)
  · exact redfish_tasked hfree h (exec_spdmGetSignedMeasurements_eq session nonce s)
  · rintro s session a hup haccount - hadmin
    refine ⟨fun cls ok close bytes => ⟨?_, ?_, ?_⟩, fun hoperator payload plot => ⟨?_, ?_, ?_, ?_⟩⟩
    · exact (exec_redfishActivate_eq session cls ok close s).trans (State.redfish_forbidden hup haccount hadmin _)
    · exact (exec_multipartHttpPushUri_eq session cls bytes s).trans (State.redfish_forbidden hup haccount hadmin _)
    · exact (exec_redfishCommit_eq session cls s).trans (State.redfish_forbidden hup haccount hadmin _)
    · exact (exec_plotOpenAction_eq session payload s).trans (State.redfish_forbidden hup haccount hoperator _)
    · exact (exec_plotCloseAction_eq session plot s).trans (State.redfish_forbidden hup haccount hoperator _)
    · exact (exec_clearLog_eq session s).trans (State.redfish_forbidden hup haccount hoperator _)
    · exact (exec_collectDiagnosticData_eq session s).trans (State.redfish_forbidden hup haccount hoperator _)
  · rintro s session x hup haccount (rfl | rfl | ⟨n, rfl⟩)
    · exact (exec_clearLog_eq session s).trans (State.redfish_unknown hup haccount _)
    · exact (exec_collectDiagnosticData_eq session s).trans (State.redfish_unknown hup haccount _)
    · exact (exec_spdmGetSignedMeasurements_eq session n s).trans (State.redfish_unknown hup haccount _)
  · rintro s x st b hx hrec
    refine ⟨_, _, redfishTaskDone_answers hx hrec, rfl, rfl, ?_, httpOf_named st⟩
    intro y hy
    cases y <;> simp_all [State.agree]
  · exact fun s n h => redfishTaskDone_idle h

end Sys2Proof.Machine

/-! The statement of the timeout ladder (O42) hangs on a value that the model leaves open. TERRACE_TIMEOUT resets a Pavilion, and
the reset completes a switch that waits (R332); when the self-test that follows fails, the Pavilion is fenced under the plot that
comes, which hears of it (R335), while the statement leaves every plot as it is but the one that goes. Whether a self-test fails is
the opaque `Config.selfTestHolds`. -/

namespace Sys2Proof.Machine

/-! ### What a fencing tells -/

theorem State.logError_plots (s : State) (p : Nat) (e : ErrRec) : (s.logError p e).plots = s.plots := by
  unfold State.logError State.notify
  split <;> rfl

/-- An error of a plot that runs no step is told as a record of its own. -/
theorem State.plot_raise_idle {s : State} {p : Nat} (hidle : (s.plot p).running = []) (hears : Hears s p) (e : ErrRec) :
    (s.raise p e).plot p = (s.plot p).told srcError e.shown.body := by
  have hplot : (s.logError p e).plot p = s.plot p := congrArg (fun m => NMap.get Plot.init m p) (s.logError_plots p e)
  have hears' : Hears (s.logError p e) p := by simpa only [Hears, State.isOpen, hplot] using hears
  rw [State.raise, hplot, hidle]
  exact (State.plot_unsolicited_self _ p srcError _ hears').trans (congrArg (fun q => q.told srcError e.shown.body) hplot)

/-- The module's registers once a Pavilion is fenced. -/
def Mod.withFence (i block cause : Nat) (m : Mod) : Mod :=
  if i < 64 then { m with fences := m.fences.set i (block, cause), fencedPav0 := setFlag m.fencedPav0 i }
  else { m with fences := m.fences.set i (block, cause), fencedPav1 := setFlag m.fencedPav1 (i - 64) }

/-- A Pavilion that is fenced tells the plot that it is of; where that runs no step, that is all. -/
theorem State.fencePavilion_idle {s : State} {i p : Nat} (hof : (s.pav i).context = p) (hp : p ≠ 0)
    (hidle : (s.plot p).running = []) (block cause : Nat) : s.fencePavilion i block cause =
      (s.updMod (Mod.withFence i block cause)).raise p
        ((s.updMod (Mod.withFence i block cause)).errOf 4 block cause i (s.plot p).eventStep) := by
  have hnone : (s.plot p).stepsOn (2 ^ i) = [] := by simp [Plot.stepsOn, hidle]
  subst hof
  simp only [State.fencePavilion, State.plot_updMod, if_neg hp, hnone, State.voidSteps, List.foldl_nil, State.tellFenced, List.foldl_cons]
  rfl

theorem State.plot_fencePavilion_idle {s : State} {i p : Nat} (hof : (s.pav i).context = p) (hp : p ≠ 0)
    (hidle : (s.plot p).running = []) (hears : Hears s p) (block cause : Nat) :
    ∃ body, (s.fencePavilion i block cause).plot p = (s.plot p).told srcError body := by
  rw [State.fencePavilion_idle hof hp hidle]
  exact ⟨_, State.plot_raise_idle (s := s.updMod (Mod.withFence i block cause)) hidle hears _⟩

/-- Told of something, a plot is not as it was. -/
theorem Plot.told_ne (q : Plot) (source : Nat) (body : Bytes) : q.told source body ≠ q := fun h => by
  simpa [Plot.told] using congrArg (fun x : Plot => x.mail.backlog.length) h

/-! ### TERRACE_TIMEOUT while a switch waits -/

/-- A Pavilion of no plot whose switch to plot 1 waits, and whose RILL queue has held a descriptor since the module came up. -/
def wedgedInSwitch : Pavilion :=
  { Pavilion.init with
    switchPending := true, granted := 1
    rill := [{ plot := 0, plan := 0, index := 0, bytes := [], iter := 0, started := true, executed := false, startTick := 0
               waited := 0, failed := false }] }

/-- The module at a tick, with plot 1 OPEN and such a Pavilion. -/
def switchInWedge (pav : Nat) (tick : W64) : State :=
  { State.reset with
    mod := { Mod.init with tick := tick }, plots := [(1, { Plot.init with state := 1 })], pavs := [(pav, wedgedInSwitch)] }

theorem pav_switchInWedge (pav : Nat) (tick : W64) : (switchInWedge pav tick).pav pav = wedgedInSwitch := if_pos rfl

theorem isFenced_switchInWedge (pav : Nat) (tick : W64) : (switchInWedge pav tick).isFenced (.pavilion pav) = false := by
  simp [State.isFenced, switchInWedge, Mod.init, bitOf]

theorem State.pavDown_eq (s : State) (pav : Nat) : s.pavDown pav = ((s.pav pav).tripped || s.isFenced (.pavilion pav)) := rfl

theorem pavDown_switchInWedge (pav : Nat) (tick : W64) : (switchInWedge pav tick).pavDown pav = false := by
  rw [State.pavDown_eq, pav_switchInWedge, isFenced_switchInWedge]
  rfl

/-- The module's registers once rung 2 has expired. -/
def Mod.terraceLate (m : Mod) : Mod := { m with ladderTerrace := satInc m.ladderTerrace }

theorem exec_terraceTimeout_eq (pav : Nat) (s : State) : exec (.terraceTimeout pav) s = execTerraceTimeout pav s := rfl

/-- TERRACE_TIMEOUT of a Pavilion that has been silent for 12 s. -/
theorem exec_terraceTimeout_late {s : State} {pav : Nat} (hup : s.pavDown pav = false)
    (hretire : (s.pav pav).lastRetire + terraceTicks ≤ s.now)
    (hlate : ∃ d ∈ (s.pav pav).array ++ (s.pav pav).rill ++ (s.pav pav).move, d.startTick + terraceTicks ≤ s.now) :
    exec (.terraceTimeout pav) s = .next ((s.updMod Mod.terraceLate).wedge (.pavilion pav) 8 2) := by
  obtain ⟨d, hd, hstart⟩ := hlate
  have hsome : ((s.pav pav).array ++ (s.pav pav).rill ++ (s.pav pav).move).all (fun d => decide (s.now < d.startTick + terraceTicks)) =
      false := List.all_eq_false.2 ⟨d, hd, by simpa using hstart⟩
  rw [exec_terraceTimeout_eq, execTerraceTimeout, hup, hsome, decide_eq_false (Nat.not_lt.2 hretire)]
  rfl

/-! ### A self-test that fails after a switch -/

/-- The reset of a Pavilion of no plot is the reset of its registers. -/
theorem State.resetPavilion_of_free {s : State} {i : Nat} (hfree : (s.pav i).context = 0) (block cause : Nat) :
    s.resetPavilion i block cause = s.updPav i (·.reset s.now) := by
  simp only [State.resetPavilion, hfree, if_true]

/-- The module's registers once the reset of a unit is noted. -/
def Mod.withReset (i now : Nat) (m : Mod) : Mod := { m with unitResets := m.unitResets.set i now }

/-- A self-test that fails fences the Pavilion that has been reset. -/
theorem State.resetAndTest_fails {s : State} {i : Nat} (hfails : Config.selfTestHolds i s.now = false) (block cause : Nat) :
    s.resetAndTest (.pavilion i) block cause =
      ((s.resetPavilion i block cause).updMod (Mod.withReset i s.now)).fencePavilion i block cause := by
  simp only [State.resetAndTest, hfails, Bool.false_eq_true, if_false]
  rfl

/-- Where a switch waits, the self-test that fails is told to the plot that comes. -/
theorem State.plot_resetAndTest_fails {s : State} {i p : Nat} (hfails : Config.selfTestHolds i s.now = false)
    (hfree : (s.pav i).context = 0) (hcomes : ((s.pav i).reset s.now).context = p) (hp : p ≠ 0) (hidle : (s.plot p).running = [])
    (hears : Hears s p) (block cause : Nat) :
    ∃ body, (s.resetAndTest (.pavilion i) block cause).plot p = (s.plot p).told srcError body := by
  rw [State.resetAndTest_fails hfails, State.resetPavilion_of_free hfree]
  have hof : (((s.updPav i (·.reset s.now)).updMod (Mod.withReset i s.now)).pav i).context = p := by
    rw [State.pav_updMod, State.pav_updPav_self]
    exact hcomes
  exact State.plot_fencePavilion_idle hof hp hidle hears block cause

/-- What O42 asks of TERRACE_TIMEOUT fails in every module one of whose Pavilions fails a self-test. -/
theorem not_timeoutLadder_of_selfTest_fails {pav : Nat} {tick : W64} (hpav : pav < 128) (htick : 1200000000 ≤ tick.toNat)
    (hfails : Config.selfTestHolds pav tick.toNat = false) : ¬ Obligations.TimeoutLadder := by
  intro h
  obtain ⟨_, _, _, _, _, hterrace, _⟩ := h
  have hpav' := pav_switchInWedge pav tick
  have hup := pavDown_switchInWedge pav tick
  have hretire : ((switchInWedge pav tick).pav pav).lastRetire + 1200000000 ≤ (switchInWedge pav tick).now := by
    rw [hpav']
    exact htick
  have hlate : ∃ d ∈ ((switchInWedge pav tick).pav pav).array ++ ((switchInWedge pav tick).pav pav).rill ++
      ((switchInWedge pav tick).pav pav).move, d.startTick + 1200000000 ≤ (switchInWedge pav tick).now := by
    rw [hpav']
    exact ⟨_, List.mem_singleton_self _, htick⟩
  obtain ⟨t, hexec, _, _, _, hother, _⟩ := hterrace (switchInWedge pav tick) pav hpav hup rfl hretire hlate
  rw [exec_terraceTimeout_late hup hretire hlate, State.wedge_pavilion_first (s := (switchInWedge pav tick).updMod Mod.terraceLate) rfl
    (isFenced_switchInWedge pav tick) rfl] at hexec
  obtain rfl := Host.Outcome.next.inj hexec
  obtain ⟨body, htold⟩ := State.plot_resetAndTest_fails (s := (switchInWedge pav tick).updMod Mod.terraceLate) (p := 1) hfails
    (congrArg Pavilion.context hpav') (by rw [State.pav_updMod, hpav']; rfl) (by decide) rfl
    ⟨rfl, (by decide : backlogReserve < Plot.backlogFree { Plot.init with state := 1 })⟩ 8 2
  exact Plot.told_ne _ _ _ (htold.symm.trans (hother 1 (by rw [hpav']; decide)))

end Sys2Proof.Machine
